-- ==== Sys2Proof/Word.lean ====
section
/-! DEFINITION. The octet type of the part (R31) and the plainest arithmetic of the constants of time (R9, R11). -/

namespace Sys2Proof

/-- One octet of a frame, a record or a BLOB (R31). -/
abbrev Byte := BitVec 8

/-- Ticks of a 10 ms frame (R9). -/
abbrev frameTicks : Nat := 12288000

/-- Ticks of an epoch: 1,024 frames (R11). -/
abbrev epochTicks : Nat := 12582912000

/-- Ticks of one second (R9). -/
abbrev secTicks : Nat := 1228800000

/-- Ticks of one millisecond (R9). -/
abbrev msTicks : Nat := 1228800

/-- The TB64 word whose every bit is set: no time (R55). -/
abbrev noTime : Nat := 18446744073709551615

end Sys2Proof
end

