-- ==== Sys2Proof/Syntax.lean ====
section
/-! DEFINITION. The commands of the part: one constructor of Instr per row of the table of operations and events, with
the operands a requester, a link, a pin, a timer or a measurement brings. -/

namespace Sys2Proof

/-- Where a request comes from (R40, R45, R46): a master with a fixed ID, a CAN node that binds a slot of its
controller (0 CAN A, 1 CAN B) and names a destination node, or a tunnelled master of an origin part, arriving on a Stairway link. -/
inductive Origin where
  | master (m : Nat)
  | can (bus node dest : Nat)
  | tunnel (link origin om level : Nat)
  deriving DecidableEq, Repr

/-- The first frame of a request (Table 2-5). Its kind is the command's; resv says that the reserved bit of byte 0 or
a reserved kind is used. -/
structure Frame where
  org : Origin
  seq : Nat
  more : Bool
  describe : Bool
  staged : Bool
  resv : Bool
  index : Nat
  sub : Nat
  length : Nat
  payload : List Byte
  deriving DecidableEq, Repr

/-- A SEGMENT frame (R37, R39): bytes 0 and 1 of the header and 1 to 62 payload octets. -/
structure SegFrame where
  org : Origin
  seq : Nat
  resv : Bool
  payload : List Byte
  deriving DecidableEq, Repr

/-- The 64 octets of a slot of the request ring (R358). -/
abbrev Slot := List Byte

/-- A Stairway tunnel header (Table 2-9). -/
structure TunHdr where
  dest : Nat
  origin : Nat
  om : Nat
  level : Nat
  hops : Nat
  resv : Nat
  deriving DecidableEq, Repr

/-- A tunnelled frame: its header, and the octets of the frame it carries (R46). -/
structure TunFrame where
  hdr : TunHdr
  octets : List Byte
  deriving DecidableEq, Repr

/-- A tunnelled LEVEL response: its header, and the kind, seq, index and sub of the request it answers (R46). -/
structure TunLevel where
  hdr : TunHdr
  kind : Nat
  seq : Nat
  index : Nat
  sub : Nat
  deriving DecidableEq, Repr

/-- A figure that an observer of an event gives with it (a difference, a delay, an output's value). The part forms what it needs itself, and no
meaning reads such a figure. DESIGN CHOICE, log entry 133. -/
abbrev Report := Int

/-- What stopped the clocks (R22): no REFCLK edge, the tick PLL, or the converter PLL of a wing. -/
inductive ClkLoss where
  | refclk | tickPll | wingPll (w : Nat)
  deriving DecidableEq, Repr

/-- The fields of a received time cell (Table 3-6), whether its CRC holds and whether its start character is valid. -/
structure TimeCell where
  crcOk : Bool
  good : Bool
  tb : Nat
  depth : Nat
  trace : Bool
  role : Nat
  newel : Nat
  deriving DecidableEq, Repr

/-- The four stamps of a delay exchange, and the d_down that the upstream end of the link reports (R75). -/
structure DelayCell where
  crcOk : Bool
  dDown : Int
  t1 : Int
  t2 : Int
  t3 : Int
  t4 : Int
  deriving DecidableEq, Repr

/-- A transaction message (Table 5-7); bitmap lists the addresses a PARTS segment marks. -/
structure TxMsg where
  arg : Nat
  dest : Nat
  origin : Nat
  om : Nat
  sysId : Nat
  sysSeq : Nat
  launch : Nat
  reason : Nat
  object : Nat
  bitmap : List Nat
  deriving DecidableEq, Repr

/-- What brings a launch action to execution: an entry of the launch table (R85) or a pattern action (R99). -/
inductive LaunchSrc where
  | entry (n : Nat)
  | action (p a : Nat)
  deriving DecidableEq, Repr

/-- What the estimator measured over one window (R209): reference powers of branches 0 to 3 in Q16.16 dB words, the correlation of the residual with
each reference, lag by lag, in 2^-16, the standard error of M, the powers of the input before subtraction and of the residual, and the
residual power at the 16 frequencies. -/
structure EstWindow where
  ref : List Int
  res : List (List (Int × Int))
  err : Int
  pIn : Int
  pRes : Int
  lines : List Int
  deriving DecidableEq, Repr

/-- What the gain engine measured over one update window (Table 9-1), in Q16.16 dBFS words: output power, residual power
over the last 1 ms, and the 10th percentile of output power per symbol, when it is valid. -/
structure GainMeas where
  pOut : Int
  pRes : Int
  nOut : Option Int
  deriving DecidableEq, Repr

/-- What a completed observation visit measured (R159): its power in Q16.16 dBFS words, the PA gain of a forward visit
(R200), and for each emission entry the level and whether the channel radiated on that output throughout (R256). -/
structure ObsMeas where
  power : Int
  gain : Int
  phase : Nat
  levels : List (Nat × Int × Bool)
  still : Bool
  deriving DecidableEq, Repr


/-- What the part reads of an NVMe drive when it is identified (R349 to R351): link byte (generation and width), capacity of namespace 1 in octets, the
octets of both superblock copies, and the octets of the directory entries that are not all zero, by slot. -/
structure NvmeVol where
  link : Nat
  capacity : Nat
  copy0 : List Byte
  copy1 : List Byte
  entries : List (Nat × List Byte)
  deriving DecidableEq, Repr

/-- The instructions of the JTAG TAP (R385); every other code selects BYPASS. -/
inductive Jtag where
  | bypass | idcode | samplePreload | extest | extestPulse | extestTrain | clamp | highz
  deriving DecidableEq, Repr

/-- The commands: one constructor per row of the table of operations and events. -/
inductive Instr where
  /-- READ (R38). A Dzisha READ request returns the value in effect of an object after the checks of R43. -/
  | read (f : Frame)
  /-- READ_STAGED (R37). A READ with the staged bit set returns the value staged in the requester's own open transaction, or NOTX or NOTSTAGED. -/
  | readStaged (f : Frame)
  /-- READ_DESCRIBE (R44). A READ with the describe bit set returns the object's descriptor of Table 2-7. -/
  | readDescribe (f : Frame)
  /-- WRITE (R43). A Dzisha WRITE request to an object with no row of its own is checked under R43 and takes effect as its access right says. -/
  | write (f : Frame)
  /-- STAGE (R113). A STAGE request stores an RWV value against the master's open transaction, opening a local one if none is open. -/
  | stage (f : Frame)
  /-- COMMIT (R114). A COMMIT request makes the open transaction Committing and runs admission for the requested launch tick. -/
  | commit (f : Frame)
  /-- ABORT (R116). An ABORT request discards an Open transaction or races a Committing one under R117 and R118. -/
  | abort (f : Frame)
  /-- SEGMENT (R39). A SEGMENT frame carries the next part of a value longer than 56 bytes. -/
  | segment (g : SegFrame)
  /-- MR_UNFREEZE (R52). A write of 1 to a master's mr.unfreeze by a higher-level master unfreezes it at Observer. -/
  | mrUnfreeze (m : Nat) (f : Frame)
  /-- DZ_CANA_RESET (R48). A write of 1 to dz.cana.reset performs an interface reset of CAN A, aborting and unfreezing its masters. -/
  | dzCanaReset (f : Frame)
  /-- DZ_CANB_RESET (R48). A write of 1 to dz.canb.reset performs an interface reset of CAN B. -/
  | dzCanbReset (f : Frame)
  /-- CAN_BUS_OFF_RECOVERY (R48). Bus-off recovery of a CAN controller is an interface reset of its masters. -/
  | canBusOffRecovery (bus : Nat)
  /-- CAN_SLOT_RELEASE (R45). A CAN master slot idle for dz.can.bind_idle, with no open transaction, at Observer and not frozen, is released. -/
  | canSlotRelease (m : Nat)
  /-- CAN_SETTING_APPLY (R53). A changed CAN bit rate or node number takes effect once the response to the write that made it has been sent. -/
  | canSettingApply
  /-- MASTER_IDLE_RELOCK (R48). A master above Observer with no request for acc.idle_relock returns to Observer. -/
  | masterIdleRelock (m : Nat)
  /-- TOKEN_REFILL (R48). Every 1 ms each master's request bucket refills toward its burst at the allowance rate. -/
  | tokenRefill
  /-- CONSOLE_LINE (R47). A complete console line is parsed and handled as the equivalent Dzisha request or answered err SYNTAX. -/
  | consoleLine (line : List Char)
  /-- CONSOLE_OVERRUN (R47). Console input beyond the buffer discards the line being received and prints err OVERRUN. -/
  | consoleOverrun
  /-- CONSOLE_BREAK (R48). BREAK held for at least 250 ms on the console is an interface reset of master 2. -/
  | consoleBreak (ms : Nat)
  /-- TUNNEL_FORWARD (R46). A part forwards a tunnelled frame toward its destination, decrementing hops and dropping it at 0 with a Notice. -/
  | tunnelForward (link : Nat) (x : TunFrame)
  /-- TUNNEL_LEVEL_RESPONSE (R46). An origin part receiving a tunnelled LEVEL response freezes its origin master. -/
  | tunnelLevelResponse (r : TunLevel)
  /-- REFCLK_LOSS (R22). REFCLK absent for 1.0 µs or a PLL unlocked forces DACs to zero, mutes every channel, invalidates the timebase and records a Severe fault. -/
  | refclkLoss (src : ClkLoss)
  /-- REFCLK_RESUME (R23). After 10 ms of REFCLK and PLL lock the part resumes, ports enter Chrysalis and the timebase reacquires. -/
  | refclkResume (seen : Report)
  /-- SOURCE_QUALIFY (R62). A timebase source meets its qualification condition and may be selected under R61. -/
  | sourceQualify (src : Nat) (seen : Report)
  /-- SOURCE_DISQUALIFY (R62). The selected timebase source disqualifies and the part selects another or enters Holdover. -/
  | sourceDisqualify (src : Nat) (seen : Report)
  /-- SOURCE_REVERT (R61). A higher-priority source that has stayed qualified for tb.source.revert replaces the selected one. -/
  | sourceRevert (src : Nat)
  /-- TRACKING_LOOP_UPDATE (R63). Once per 1 ms the tracking loop forms the phase error, filters it and schedules slews or a step. -/
  | trackingLoopUpdate (seen : Report)
  /-- STEP_INSTANT (R69). At the step instant the timebase takes its new value, walkers repositioned, TDD channels muted and due entries executed. -/
  | stepInstant
  /-- STEP_MUTE_RELEASE (R69). At c.resume a channel's step mute is released and its adaptation unfrozen. -/
  | stepMuteRelease (c : Nat)
  /-- HOLDOVER_EXPIRED (R67). Holdover uncertainty exceeding the budget moves the timebase to Holdover-expired and drops tb.trace. -/
  | holdoverExpired
  /-- TIMEBASE_MUTE_RELEASE (R60). A channel's timebase mute is released at the first own-direction segment start a lead after tb.trace returns to 1. -/
  | timebaseMuteRelease (c : Nat)
  /-- DONOR_DETECTION (R65). A PSS and SSS correlation on the donor channel yields a detection with its timing and metric. -/
  | donorDetection (metric : Int) (start : Nat)
  /-- PPS_EDGE (R66). A PPS_IN edge is timestamped, labelled from tb.tod.next and used as a frame boundary. -/
  | ppsEdge
  /-- TB_ADJUST (R71). A write to tb.adjust schedules or cancels a host step of the given size. -/
  | tbAdjust (f : Frame)
  /-- LINK_SIGNAL_DETECT (R74). Signal detected on an enabled Down link moves it to Align. -/
  | linkSignalDetect (l : Nat)
  /-- LINK_ALIGNED (R74). 1,024 consecutive good cells move a link from Align to Role. -/
  | linkAligned (l : Nat)
  /-- LINK_ALIGN_TIMEOUT (R74). No alignment within 10 ms returns a link to Down. -/
  | linkAlignTimeout (l : Nat)
  /-- LINK_ROLE_EXCHANGE (R74). The far end's role moves the link to Measure, or to Miswired when both roles match. -/
  | linkRoleExchange (l : Nat) (far : Nat)
  /-- LINK_MEASURE_DONE (R74). After 64 delay exchanges the link goes Up, or Down with a Minor fault when the delay is out of range. -/
  | linkMeasureDone (l : Nat) (seen : Report)
  /-- LINK_ERROR_RETRAIN (R74). 16 CRC errors in 1 ms or 4 bad start characters move an Up link back to Align as a retrain. -/
  | linkErrorRetrain (l : Nat)
  /-- STW_RETRAIN (R74). A write of 1 to stw.linkL.retrain retrains the link. -/
  | stwRetrain (l : Nat) (f : Frame)
  /-- TIME_CELL (R75). A received time cell gives the downstream end its Stairway phase error and the sender's depth, trace and role. -/
  | timeCell (l : Nat) (c : TimeCell)
  /-- DELAY_CELL (R75). A received delay cell supplies stamps from which the upstream end computes d_down. -/
  | delayCell (l : Nat) (c : DelayCell)
  /-- CENSUS (R77). Once per second the Newel collects a census through control cells and parts learn their subtrees. -/
  | census (parts : Nat) (subA : List Nat) (subB : List Nat) (dups : List Nat)
  /-- STEP_ANNOUNCEMENT (R78). A step announcement from upstream is scheduled at its S and repeated downstream, or discarded when late. -/
  | stepAnnouncement (at_ : Nat) (delta : Int)
  /-- SNAP_LOCAL (R81). A write to snap.local schedules a snapshot on this part alone. -/
  | snapLocal (f : Frame)
  /-- SNAP_SYSTEM (R81). A write to snap.system on the Newel broadcasts a system snapshot trigger. -/
  | snapSystem (f : Frame)
  /-- SNAPSHOT_TRIGGER (R81). A received snapshot trigger is scheduled, or taken at once with snap.late when its tick has passed. -/
  | snapshotTrigger (at_ : Nat)
  /-- SNAPSHOT_DUE (R80). At its tick a snapshot copies counters, accumulators and latched objects into the bank and raises snap.seq. -/
  | snapshotDue
  /-- PORT_STATE_CHANGE (R88). Launch kind 0x01 sets a port's target state. -/
  | portStateChange (l : LaunchSrc)
  /-- CHANNEL_ENABLE (R88). Launch kind 0x02 releases a channel's launch mute request. -/
  | channelEnable (l : LaunchSrc)
  /-- CHANNEL_MUTE (R88). Launch kind 0x03 raises a channel's launch mute request. -/
  | channelMute (l : LaunchSrc)
  /-- GAIN_HOLD (R88). Launch kind 0x04, or a pattern action of that kind, holds or releases a channel's gain. -/
  | gainHold (l : LaunchSrc)
  /-- RAIL_SET_POINT_SELECT (R280). Launch kind 0x05, or a pattern action of that kind, selects a rail set-point and starts a move. -/
  | railSetPointSelect (l : LaunchSrc)
  /-- FILTER_BANK_SWAP (R184). Launch kind 0x06 makes the named bank active on a slice and starts a cross-fade. -/
  | filterBankSwap (l : LaunchSrc)
  /-- CANCELLER_FREEZE (R88). Launch kind 0x07 sets or clears a canceller's launch freeze. -/
  | cancellerFreeze (l : LaunchSrc)
  /-- DC_BLOCK_FREEZE (R182). Launch kind 0x08 sets or clears a channel's DC-block freeze. -/
  | dcBlockFreeze (l : LaunchSrc)
  /-- SNAPSHOT (R88). Launch kind 0x09 takes a local snapshot at its execution tick. -/
  | snapshot (l : LaunchSrc)
  /-- CALIBRATION_START (R152). Launch kind 0x0A starts a port calibration exactly at its due tick. -/
  | calibrationStart (l : LaunchSrc)
  /-- GALLERY_TRIGGER (R347). Launch kind 0x0B triggers the Gallery with its tag while gal.launch is 1. -/
  | galleryTrigger (l : LaunchSrc)
  /-- FEED_ENABLE (R88). Launch kind 0x0C changes a feed's fd.enable in effect. -/
  | feedEnable (l : LaunchSrc)
  /-- TRANSACTION_COMMIT (R115). The kind 0x0D entry of an accepted transaction executes and all its values take effect in one tick. -/
  | transactionCommit (number : Nat)
  /-- SEGMENT_BOUNDARY (R97). A pattern walker reaches a segment boundary, switches its ports and raises or releases pattern mutes and freezes. -/
  | segmentBoundary (p : Nat)
  /-- PATTERN_TRANSIENT_END (R98). The pattern transient after an own-direction segment start ends and adaptation and DC tracking resume. -/
  | patternTransientEnd (c : Nat)
  /-- ADM_DRY_RUN (R110). A write to adm.dry_run runs admission on the writer's open transaction and reports without changing anything. -/
  | admDryRun (f : Frame)
  /-- TX_OPEN (R112). A write to tx.open opens a local or system transaction. -/
  | txOpen (f : Frame)
  /-- TX_IDLE_ABORT (R113). An open transaction idle for tx.open_idle is aborted with a Notice. -/
  | txIdleAbort (i : Nat)
  /-- JOURNAL_RECORD_DURABLE (R121). A journal record passes its read-back in both banks, or the surviving bank, and becomes durable. -/
  | journalRecordDurable (bad0 : Nat) (bad1 : Nat)
  /-- EXEC_RECORD_WRITE (R122). Within 1 ms of the first mark, the mark buffer is written as an EXEC record. -/
  | execRecordWrite
  /-- CHECKPOINT (R123). After a launch the part writes the launched values to the spare image copy, a CHECKPOINT record, and reclaims ring blocks. -/
  | checkpoint
  /-- JR_REBUILD (R125). A write of 1 to jr.rebuild tests the failed bank and starts copying the journal into it. -/
  | jrRebuild (f : Frame)
  /-- REBUILD_COMPLETE (R125). The rebuild copy ends and jr.degraded returns to 0. -/
  | rebuildComplete
  /-- BRANCH (R127). A BRANCH message opens a branch of a system transaction in a Vestibule slot. -/
  | branch (m : TxMsg)
  /-- COMMIT_REQ (R129). The Newel queues a COMMIT_REQ from a home, refusing a ninth at once. -/
  | commitReq (m : TxMsg)
  /-- PARTS (R128). A PARTS message carries the participant bitmap of a system transaction. -/
  | parts (m : TxMsg)
  /-- PREPARE (R129). A participant receiving PREPARE runs admission on its branch and writes a PREPARE record or votes no. -/
  | prepare (m : TxMsg)
  /-- VOTE (R129). The Newel receives a vote and decides refused on a no or commit when all have voted yes. -/
  | vote (m : TxMsg)
  /-- VOTE_TIMEOUT (R129). A vote missing at PREPARE plus tx.sys.vote_timeout makes the Newel decide refused. -/
  | voteTimeout (id : Nat)
  /-- DECIDE (R129). A participant receiving DECIDE writes OUTCOME and arms its entry, returns its branch to Open, or discards it. -/
  | decide (m : TxMsg)
  /-- ACK (R129). The Newel receives an ACK and writes ACKED once every participant has acknowledged. -/
  | ack (m : TxMsg)
  /-- QUERY (R130). The Newel answers a QUERY with the matching DECIDE from its journal or with unknown. -/
  | query (m : TxMsg)
  /-- ABORT_REQ (R129). The Newel receives ABORT_REQ from a home and aborts the system transaction when the abort wins. -/
  | abortReq (m : TxMsg)
  /-- IN_DOUBT_TIMEOUT (R111). A Prepared branch with no decision within twice the vote timeout becomes In doubt. -/
  | inDoubtTimeout (slot : Nat)
  /-- IN_DOUBT_QUERY_TIMER (R130). Every 10 ms an In doubt branch sends QUERY to the Newel. -/
  | inDoubtQueryTimer (slot : Nat)
  /-- TX_SYS_RESOLVE (R132). A write to tx.sys.resolve closes an In doubt branch as aborted with a Major fault. -/
  | txSysResolve (f : Frame)
  /-- PORT_TRANSITION_DONE (R139). A port transition reaches its end state and the port moves on toward its target. -/
  | portTransitionDone (p : Nat)
  /-- RETURN_FEED_WAIT_TIMEOUT (R397). No valid feed signature within 1 s of a return check decides the feed condition. -/
  | returnFeedWaitTimeout (p : Nat)
  /-- TX_WINDOW_END (R141). A Relay lasting port.tx_window ends and the port starts toward its rest state. -/
  | txWindowEnd (p : Nat)
  /-- SYNTH_RETUNE_DONE (R148). A synthesiser retune ends and the new offset applies. -/
  | synthRetuneDone (tx : Bool) (p : Nat)
  /-- SYNTH_LOCK_LOSS (R149). A synthesiser loses lock: hold raised, Major fault, oscillator calibration pending and relock begun. -/
  | synthLockLoss (tx : Bool) (p : Nat)
  /-- SYNTH_RELOCK_DONE (R149). A synthesiser relock completes and its hold or not-valid tagging ends. -/
  | synthRelockDone (tx : Bool) (p : Nat)
  /-- CAL_START (R152). A write of a kind to cal.start adds it to the port's pending set. -/
  | calStart (p : Nat) (f : Frame)
  /-- CAL_ABORT (R156). A write of 1 to cal.abort aborts the running calibration or empties the pending set. -/
  | calAbort (p : Nat) (f : Frame)
  /-- CAL_PENDING_START (R152). A pending calibration or piece starts when a quiet interval long enough holds. -/
  | calPendingStart (p : Nat)
  /-- CAL_PIECE_DONE (R103). An image-rejection piece ends without changing coefficients. -/
  | calPieceDone (p : Nat)
  /-- CAL_COMPLETE (R151). A calibration ends and passes, setting coefficients, or fails with the counts of R155. -/
  | calComplete (p : Nat) (pass : Bool) (loss : Int) (image : Int) (rxTemp : Int) (txTemp : Int)
  /-- CAL_OVERDUE (R153). A calibration pending longer than port.cal_overdue raises a Minor fault and sets the overdue bit. -/
  | calOverdue (p : Nat)
  /-- PORT_LOOPBACK_TEST (R158). A write of 1 to port.loopback_test runs the loopback self-test of the port. -/
  | portLoopbackTest (p : Nat) (f : Frame)
  /-- OBS_VISIT_END (R159). An observation visit completes and feeds PA tracking, emission and open-cable checks. -/
  | obsVisitEnd (r : Nat) (m : ObsMeas)
  /-- SETTLING_END (R179). A channel output's settling length passes and the settling mute releases once all outputs have settled. -/
  | settlingEnd (c : Nat)
  /-- FADE_END (R184). A slice's cross-fade ends, the old bank stops and sl.fading returns to 0. -/
  | fadeEnd (sl : Nat)
  /-- ESTIMATOR_WINDOW_END (R209). An estimator window ends and yields isolation, depth, margin and margin state. -/
  | estimatorWindowEnd (c : Nat) (w : EstWindow)
  /-- CANCELLER_CONVERGED (R204). Adapting ticks reaching cx.reconv with a Fresh margin make the canceller Converged. -/
  | cancellerConverged (c : Nat)
  /-- MARGIN_EXPIRED (R210). A Held margin beyond cx.hold_limit radiating ticks becomes Expired. -/
  | marginExpired (c : Nat)
  /-- DEMO_WINDOW_END (R211). 60 s Converged without tap reset rewrites the branch measurement records. -/
  | demoWindowEnd (c : Nat)
  /-- CX_RESET (R205). A write of 1 to cx.reset takes a tap reset of the canceller. -/
  | cxReset (c : Nat) (f : Frame)
  /-- BRANCH_DEFERRED_PLACE (R202). An unplaced branch is placed with zero taps when a powered sub-pool has room. -/
  | branchDeferredPlace (c : Nat) (n : Nat)
  /-- GAIN_UPDATE (R229). At an update instant the engine computes loop errors, picks the lowest rate and schedules its application. -/
  | gainUpdate (c : Nat) (m : GainMeas)
  /-- RATE_APPLICATION (R229). A pending rate is applied to the integrator at its tick, or discarded when held. -/
  | rateApplication (c : Nat)
  /-- FE_TRIP (R233). The following-error timer reaching ge.fe_time records a Major fault and takes the class reaction. -/
  | feTrip (c : Nat)
  /-- ENGINE_FALLBACK (R232). Engine load above 90 % moves prompt channels to lockstep and sets ge.fallback. -/
  | engineFallback
  /-- ENGINE_FALLBACK_EXIT (R232). Load below 80 % for 10 ms returns channels to prompt. -/
  | engineFallbackExit
  /-- HAWKMOTH_TRIP (R244). The guard trips on amplitude or receive over-range and mutes the port in the fifth tick. -/
  | hawkmothTrip (p : Nat) (cond : Nat)
  /-- HAWKMOTH_RELEASE (R246). An automatic guard releases after hm.hold clean ticks. -/
  | hawkmothRelease (p : Nat)
  /-- HM_CLEAR (R246). A write of 1 to hm.clear releases a tripped or latched guard. -/
  | hmClear (p : Nat) (f : Frame)
  /-- MUTE_N_ASSERT (R248). MUTE_N sampled low forces obeying ports silent in tick 7 and counts an assertion. -/
  | muteNAssert
  /-- MUTE_N_RELEASE (R248). MUTE_N sampled high releases the ports 7 ticks later as in R246. -/
  | muteNRelease
  /-- OSCILLATION_TRIP (R250). 5 µs after a firing detector the channel takes the oscillation mute and awaits restart, or is sealed. -/
  | oscillationTrip (c : Nat)
  /-- OSC_RESTART (R251). At the restart due time the channel counts a restart, takes a tap reset and releases the oscillation cause. -/
  | oscRestart (c : Nat)
  /-- OSC_RESTART_NOW (R251). A write of 1 to osc.restart_now restarts a channel awaiting restart at once. -/
  | oscRestartNow (c : Nat) (f : Frame)
  /-- OSC_RESTARTS_DECAY (R252). osc.decay radiating seconds without trip return osc.restarts to 0. -/
  | oscRestartsDecay (c : Nat)
  /-- NOISE_EVALUATION (R254). At each frame boundary uplink output noise is evaluated and the noise mute raised after nl.frames breaches. -/
  | noiseEvaluation (c : Nat) (n : Int) (count : Nat)
  /-- NOISE_MUTE_RELEASE (R254). After nl.hold the noise cause is released. -/
  | noiseMuteRelease (c : Nat)
  /-- EMISSION_MUTE_RELEASE (R256). After em.hold the emission cause is released. -/
  | emissionMuteRelease (c : Nat)
  /-- TM_OUTPUT (R269). A conversion output leaving stage 6 is added to its accumulator and tracker. -/
  | tmOutput (m : Nat) (seen : Report) (seen2 : Report)
  /-- TM_CONVERSION_END (R267). A conversion ends and the modulator starts the next entry, resumes the sequence or finishes a calibration step. -/
  | tmConversionEnd (m : Nat)
  /-- TM_OVERRANGE (R272). Modulator input beyond 1.1 FS sets the entry's sticky over-range bit and records a Notice. -/
  | tmOverrange (m : Nat)
  /-- TM_INJECT (R274). A write of 1 to tm.inject requests an injected conversion that pre-empts at the next base sample. -/
  | tmInject (m : Nat) (f : Frame)
  /-- TM_CAL_ZERO (R273). tm.cal step 1 requests a calibration conversion storing the mean zero result. -/
  | tmCalZero (m : Nat) (f : Frame)
  /-- TM_CAL_GAIN (R273). tm.cal step 2 measures full-scale and stores offset and gain when K is in range. -/
  | tmCalGain (m : Nat) (f : Frame)
  /-- TM_CAL_RESTORE (R273). tm.cal step 3 restores the entry's default offset and gain at once. -/
  | tmCalRestore (m : Nat) (f : Frame)
  /-- TM_OVR_CLEAR (R272). A mask written to tm.ovr_clear clears those over-range bits. -/
  | tmOvrClear (m : Nat) (f : Frame)
  /-- ACC_CLEAR (R270). A write of 1 to acc.clear empties the accumulator. -/
  | accClear (a : Nat) (f : Frame)
  /-- TR_CLEAR (R270). A write of 1 to tr.clear empties the min-max tracker. -/
  | trClear (a : Nat) (f : Frame)
  /-- VSEL_ACCEPT (R279). Eight equal VSEL samples accept a new set-point for pin-selected rails. -/
  | vselAccept (v : Nat)
  /-- VSEL_DEFERRED_APPLY (R279). An accepted VSEL change on a PA rail takes effect once every fed port is out of Relay. -/
  | vselDeferredApply (r : Nat)
  /-- RAIL_MOVE_END (R280). A rail move ends rl.settle after the reference arrives. -/
  | railMoveEnd (r : Nat)
  /-- RAIL_AUTO_SHED (R282). Every 1 ms a quiet rail with low mean current sheds one phase. -/
  | railAutoShed (r : Nat) (mean : Int)
  /-- PHASE_SHED_DONE (R282). A shed phase's share reaches 0 after 16 periods and the phase stops. -/
  | phaseShedDone (r : Nat) (k : Nat)
  /-- KEEPOUT_READD (R282). In the first tick of a keep-out every automatically shed phase is re-added. -/
  | keepoutReadd (r : Nat)
  /-- LOAD_STEP_READD (R283). A peak current at rl.readd_level re-adds every shed phase with a Notice. -/
  | loadStepReadd (r : Nat)
  /-- PHASE_BALANCE (R284). Every 100 ms a PA rail rebalances phase shares from phase temperatures. -/
  | phaseBalance (r : Nat)
  /-- RAIL_ON_DELAY_END (R285). rl.on_delay elapses and the rail starts Ramping. -/
  | railOnDelayEnd (r : Nat) (sensed : Nat)
  /-- RAIL_START (R285). An enabled rail whose gating rail is Good enters On-delay. -/
  | railStart (r : Nat)
  /-- RAIL_RAMP_DONE (R286). The reference reaches the set-point and the rail enters Qualifying. -/
  | railRampDone (r : Nat)
  /-- RAIL_QUALIFIED (R285). rl.pg_qual without fault makes the rail Good and asserts PG. -/
  | railQualified (r : Nat)
  /-- RAIL_FAULT_CONDITION (R287). A UV, OV, OC or PG_AUX condition starts its timer, deasserts PG and enters Fault-timing. -/
  | railFaultCondition (r : Nat) (cause : Nat)
  /-- RAIL_FAULT_CLEAR (R285). All fault conditions clear before expiry and the rail returns to Qualifying. -/
  | railFaultClear (r : Nat) (cause : Nat)
  /-- RAIL_FAULT_TIMER_EXPIRED (R287). A fault timer expires, switching stops, a Major fault is recorded and the rail enters Fault-off. -/
  | railFaultTimerExpired (r : Nat) (cause : Nat)
  /-- RAIL_RETRY (R285). rl.retry elapses in Fault-off and the rail ramps again or Latches. -/
  | railRetry (r : Nat) (sensed : Nat)
  /-- RAIL_OFF_RAMP_DONE (R286). The off-ramp reference reaches 0 and the rail enters Off. -/
  | railOffRampDone (r : Nat)
  /-- REMOTE_SENSE_FAIL (R289). Remote and local sense differing for 4 periods move the loop to local sense with a Major fault. -/
  | remoteSenseFail (r : Nat)
  /-- PHASE_FAIL (R290). A phase failing for 16 periods is dropped, the rail limit and headroom recomputed. -/
  | phaseFail (r : Nat) (k : Nat) (ipk : Nat)
  /-- RAIL_TELEMETRY_UPDATE (R291). Every 10 ms rail voltage, current and power are recomputed. -/
  | railTelemetryUpdate (r : Nat) (ipk : Nat) (peak : Nat)
  /-- RL_PEAK_CLEAR (R291). A write of 1 to rl.peak_clear clears the rail's peak readings. -/
  | rlPeakClear (r : Nat) (f : Frame)
  /-- FEED_SIGNATURE_READING (R296). Every 1 ms the feed's signature voltage is read and judged valid or not. -/
  | feedSignatureReading (f : Nat) (mv : Nat)
  /-- FEED_DETECTED (R295). A valid signature for fd.debounce with supply in range moves the feed to Classifying. -/
  | feedDetected (f : Nat) (vin : Nat)
  /-- FEED_CLASSIFIED (R297). After 4 ms of classification the class starts Inrush or gives Fault-off CLASS. -/
  | feedClassified (f : Nat) (ma : Nat)
  /-- FEED_ON (R295). Output near supply for 1 ms with no fault completes Inrush and enters On. -/
  | feedOn (f : Nat)
  /-- FEED_INRUSH_TIMEOUT (R298). Inrush lasting fd.inrush_max enters Fault-off with cause INRUSH. -/
  | feedInrushTimeout (f : Nat)
  /-- FEED_FAULT (R299). A SHORT, SOA or VIN condition turns the gate off and enters Fault-off. -/
  | feedFault (f : Nat) (cause : Nat)
  /-- FEED_OC_TIMEOUT (R299). Current limited for fd.oc_time in On enters Fault-off with cause OC. -/
  | feedOcTimeout (f : Nat)
  /-- FEED_LOAD_REMOVED (R299). Current below fd.hold_ma for fd.hold_time turns the feed off to Detecting with a Notice. -/
  | feedLoadRemoved (f : Nat)
  /-- FEED_SOA_UPDATE (R300). Every 10 µs the pass transistor junction estimate is updated. -/
  | feedSoaUpdate (f : Nat) (vin : Int) (vout : Int) (amps : Int)
  /-- FEED_RETRY (R301). Retry timer ended with valid signature and retries left moves the feed to Classifying. -/
  | feedRetry (f : Nat)
  /-- FEED_RETRIES_RESTORE (R301). 600 s in On without fault restores fd.retries_left. -/
  | feedRetriesRestore (f : Nat)
  /-- FEED_LEAK_SEAL (R302). A shorted pass transistor found for 10 ms seals the feed and asserts FEED_KILL_N. -/
  | feedLeakSeal (f : Nat)
  /-- OPEN_CABLE_RELEASE (R303). After fd.rl_hold the open_cable mute is released. -/
  | openCableRelease (p : Nat)
  /-- FD_ABORT (R306). A write of 1 to fd.abort ends a start and leaves the feed Off. -/
  | fdAbort (f : Nat) (fr : Frame)
  /-- FD_RESTART (R306). A write of 1 to fd.restart restarts detection from Off or Latched. -/
  | fdRestart (f : Nat) (fr : Frame)
  /-- THERMAL_EVALUATION (R316). Every 10 ms sensors are read, substituted, levelled and th.level set, with one enforcement step. -/
  | thermalEvaluation (raws : List Int)
  /-- THERMAL_GRACE_END (R314). The grace timer ends at Throttle and enforcement begins with backoff. -/
  | thermalGraceEnd
  /-- THERMAL_SHED_STEP (R314). Every th.step_time at full backoff the next shed item is powered off. -/
  | thermalShedStep
  /-- THERMAL_RETREAT_STEP (R315). Every th.step_time in retreat the next shed item is re-powered. -/
  | thermalRetreatStep
  /-- THERMAL_SUBST_HOLD_END (R312). th.subst_hold after the governing sensor's failure ends the substitution hold. -/
  | thermalSubstHoldEnd
  /-- TH_LEARN (R310). A write of 1 to th.learn sets neighbour offsets at the next check. -/
  | thLearn (f : Frame)
  /-- FAULT_MAJOR_HOLD_END (R324). flt.major_hold without further fault returns a Major source to Clear and releases its reactions. -/
  | faultMajorHoldEnd (w : Nat)
  /-- FLT_CLEAR (R324). A source word written to flt.clear releases its reactions and sets it Clear. -/
  | fltClear (f : Frame)
  /-- FLT_CLEAR_ALL (R324). A write of 1 to flt.clear_all clears every source not Sealed. -/
  | fltClearAll (f : Frame)
  /-- FLT_STICKY_CLEAR (R328). A mask written to flt.sticky_clear clears sticky bits whose cause is absent. -/
  | fltStickyClear (f : Frame)
  /-- REC_FLUSH_PERIODIC (R337). 10 s after the last flush ended a flush of the event buffer starts. -/
  | recFlushPeriodic
  /-- REC_FLUSH (R337). A write of 1 to rec.flush starts a flush. -/
  | recFlush (f : Frame)
  /-- REC_FLUSH_DONE (R337). The flush header write becomes durable and the flushed records leave the buffer. -/
  | recFlushDone (bad0 : Nat) (bad1 : Nat)
  /-- RECORD_ENTER_AFTER_WAIT (R337). A record waiting for buffer room enters once room is free. -/
  | recordEnterAfterWait
  /-- POWER_FAIL (R338). PFAIL_N or the VIN monitor detects power fail, records POWER_FAIL and starts the final flush. -/
  | powerFail (cause : Nat)
  /-- REC_RECORD (R343). A read of rec.record returns the record at the master's cursor and advances it. -/
  | recRecord (f : Frame)
  /-- REC_PERM_RECORD (R343). A read of rec.perm_record returns the permanent record at the cursor slot and advances it. -/
  | recPermRecord (f : Frame)
  /-- GAL_ARM (R345). A write of 1 to gal.arm starts Filling, or is refused RANGE. -/
  | galArm (f : Frame)
  /-- GAL_TRIGGER (R347). A write of 1 to gal.trigger triggers a capture at the handling tick. -/
  | galTrigger (f : Frame)
  /-- GAL_ABORT (R348). A write of 1 to gal.abort ends filling or races completion under R117. -/
  | galAbort (f : Frame)
  /-- GAL_RELEASE (R348). A write of 1 to gal.release frees a Held capture when no drive is ready. -/
  | galRelease (f : Frame)
  /-- GAL_FORMAT (R353). A write of 0 or 1 to gal.format writes fresh superblocks and zeroes the directory. -/
  | galFormat (f : Frame)
  /-- GALLERY_PRE_FULL (R346). gal.pre ticks captured move the Gallery from Filling to Armed. -/
  | galleryPreFull
  /-- GALLERY_CAPTURE_COMPLETE (R346). The last post-trigger sample is written, CAPTURE_DONE recorded and the Gallery Held or Full. -/
  | galleryCaptureComplete
  /-- GALLERY_DRAIN_START (R352). A ready volume with a slot starts draining a Held capture. -/
  | galleryDrainStart
  /-- GALLERY_DRAIN_DONE (R352). The directory entry is durable, CAPTURE_DRAINED recorded and the Gallery re-arms or idles. -/
  | galleryDrainDone
  /-- NVME_COMMAND_FAIL (R349). A third failure of an NVMe command marks the drive failed and records DRIVE_FAILED. -/
  | nvmeCommandFail (opcode : Nat) (status : Nat) (n : Nat)
  /-- NVME_SMART_POLL (R349). Every 60 s the SMART health log is read. -/
  | nvmeSmartPoll
  /-- PCIE_INTERFACE_RESET (R357). FLR, hot reset, PERST_N, link down or D3hot return stops DMA, empties rings and resets master 1. -/
  | pcieInterfaceReset (down : Bool)
  /-- PCIE_CONFIG_REQUEST (R356). A configuration request before stage 6 is answered with Configuration Request Retry Status. -/
  | pcieConfigRequest (bme : Option Bool)
  /-- MB_REQ_PROD (R359). The doorbell write makes the part take the posted request frames in slot order. -/
  | mbReqProd (v : Nat) (slots : List Slot)
  /-- MB_RSP_CONS (R360). The host advancing MB_RSP_CONS frees response slots and releases held responses. -/
  | mbRspCons (rsp : Nat) (ntf : Nat)
  /-- IRQ_CAUSE (R363). A write of 1 to an IRQ_CAUSE bit clears it unless a cause arises in the same cycle. -/
  | irqCause (i : Nat) (v : Nat)
  /-- MIRROR_REFRESH (R362). Every 1 ms the status mirror is rewritten between odd and even MIRROR_SEQ. -/
  | mirrorRefresh
  /-- DMA_BLOCK_WRITE (R366). A DMA block with all samples taken is written to the host ring, or stops or drops on overflow. -/
  | dmaBlockWrite (e : Nat) (seen : Report) (rptr : Nat) (seen2 : Report) (seen3 : Report)
  /-- DMA_RUN_START (R368). A write of 1 to dma.run starts an engine if the cap and settings allow. -/
  | dmaRunStart (e : Nat) (f : Frame)
  /-- DMA_RUN_STOP (R365). A write of 0 to dma.run stops an engine with a short last block. -/
  | dmaRunStop (e : Nat) (f : Frame)
  /-- PCIE_LINK_RETRAIN (R368). A retrain lowering the cap stops engines in descending number until the load fits. -/
  | pcieLinkRetrain (link : Nat)
  /-- BUS_MASTER_DISABLE (R368). Clearing Bus Master Enable stops every DMA engine with state 4. -/
  | busMasterDisable
  /-- SEC_ROOT_INSTALL (R374). A root record is verified and adds or removes a root key, or enrols the part. -/
  | secRootInstall (f : Frame)
  /-- SEC_CRED_INSTALL (R375). A credential record is verified and its key unwrapped into its level. -/
  | secCredInstall (f : Frame)
  /-- SEC_UNLOCK (R376). A write of a level to sec.unlock draws a fresh challenge for the master. -/
  | secUnlock (f : Frame)
  /-- SEC_RESPONSE (R376). A response write raises the master's level on a match or counts a failure. -/
  | secResponse (f : Frame)
  /-- CHALLENGE_EXPIRE (R376). A challenge unanswered for 10 s expires. -/
  | challengeExpire (m : Nat)
  /-- LOCKOUT_END (R377). The unlock lockout ends after its operating time. -/
  | lockoutEnd
  /-- SEC_PERMIT_INSTALL (R379). A permit is verified and installed in a slot, and channels re-evaluate their permits. -/
  | secPermitInstall (f : Frame)
  /-- SEC_REVOKE (R382). A revocation list revokes permits of its root and channels re-evaluate their permits. -/
  | secRevoke (f : Frame)
  /-- TAMPER (R372). A failed store MAC or detected glitch seals the Cloister, invalidates permits and drops masters. -/
  | tamper (cause : Nat) (offset : Nat)
  /-- SEC_FW_WRITE (R383). A firmware piece is written to the idle slot at sec.fw_offset. -/
  | secFwWrite (f : Frame)
  /-- SEC_FW_COMMIT (R383). The staged image is checked and marked preferred for next boot, or fails. -/
  | secFwCommit (f : Frame)
  /-- SEC_FW_CONFIRM (R383). A write of 1 confirms the running image and raises sec.fw_svn. -/
  | secFwConfirm (f : Frame)
  /-- POWER_ON_RESET_RELEASE (R389). Power-on reset releases 20 ms after supplies are in range, as a power-on or supply dip. -/
  | powerOnResetRelease
  /-- PORST_N_ASSERT (R391). PORST_N held low flushes the event buffer and resets the dies. -/
  | porstNAssert
  /-- WARMRST_N_ASSERT (R391). WARMRST_N held low flushes the buffer and warm-resets the part. -/
  | warmrstNAssert
  /-- RESET_RELEASE (R392). A reset pin released starts boot from stage 1. -/
  | resetRelease (porst : Bool)
  /-- BOOT_STAGE_ADVANCE (R392). A boot stage completes and the part enters the next, reaching Ready or Failed. -/
  | bootStageAdvance (refclk : Bool) (readErr : Nat) (bad : List Nat)
  /-- BOOT_FAIL_REPORT (R393). Every 10 s in stage 7 the console prints the slot failure reasons. -/
  | bootFailReport
  /-- DOMAIN_POWERED (R396). A released domain powers up after its delay. -/
  | domainPowered (d : Nat)
  /-- SLICE_CHECK (R396). A slice memory check ends, failing with a Major fault and Chrysalis on its channels. -/
  | sliceCheck (sl : Nat) (ok : Bool)
  /-- PD_REPAIR (R401). A write of 1 to pd.repair raises pd.repair_gen, writes a ledger entry and return-checks powered ports. -/
  | pdRepair (f : Frame)
  /-- HELP (R403). The help console command lists the command forms. -/
  | help
  /-- VER (R403). The ver console command prints part identity and firmware version. -/
  | ver
  /-- ST (R403). The st console command prints boot stage, timebase, thermal, fault and hold status. -/
  | st
  /-- PORT (R403). The port console command prints a port's state, mutes, synthesisers and power. -/
  | port (p : Nat)
  /-- CH (R403). The ch console command prints a channel's state, mutes, gain, powers and margin. -/
  | ch (c : Nat)
  /-- LOG (R403). The log console command prints the last n event records. -/
  | log (n : Nat)
  /-- WATCH (R403). The watch console command starts periodic printing of an object. -/
  | watch (k : Nat) (ms : Nat)
  /-- WATCH_PRINT (R403). Every watch period the watched object is printed, counting as one request. -/
  | watchPrint
  /-- WATCH_END (R403). Any character arriving ends a running watch. -/
  | watchEnd
  /-- METER (R404). The meter console command sets a meter's source, scale and offset. -/
  | meter (m : Nat) (k : Nat) (scale : Int) (offset : Int)
  /-- TEST (R406). The test console command starts a self-test and prints its verdict. -/
  | test (kind : Nat) (inst : Nat)
  /-- TEST_ABORT (R407). The test abort console command aborts the running self-test. -/
  | testAbort
  /-- UNLOCK (R403). The unlock console command requests and prints a challenge. -/
  | unlock (l : Nat)
  /-- RESP (R403). The resp console command sends the challenge response. -/
  | resp (b : List Byte)
  /-- NOTE (R403). The note console command sets rp.note for the next ledger entry. -/
  | note (b : List Byte)
  /-- REPAIR (R403). The repair console command declares a repair through pd.repair. -/
  | repair
  /-- LEDGER (R403). The ledger console command prints every repair ledger entry. -/
  | ledger
  /-- ST_RUN (R406). A block word written to st.run starts that block's self-test if its requirement holds. -/
  | stRun (f : Frame)
  /-- ST_ABORT (R407). A write of 1 to st.abort aborts the running self-test under R117. -/
  | stAbort (f : Frame)
  /-- SELFTEST_COMPLETE (R407). A self-test passes or stops at its first failing step, records SELFTEST and drives the blink code. -/
  | selftestComplete (step : Nat)
  /-- BLINK_CODE_END (R407). The 12 s blink code ends and the LED follows its own source again. -/
  | blinkCodeEnd
  /-- METER_UPDATE (R404). Every 1 ms each meter drives the scaled value of its source. -/
  | meterUpdate
  /-- LED_UPDATE (R409). Every 1 ms the LEDs are updated from their sources. -/
  | ledUpdate
  /-- KEY_SCAN (R408). Every 1 ms the panel keys are scanned and debounced. -/
  | keyScan (raws : List Int)
  /-- KEY_PRESS (R408). A debounced key press is registered and timed. -/
  | keyPress (k : Nat)
  /-- KEY_RELEASE (R408). A debounced key release runs key functions 2 to 4 after a press of at least 100 ms. -/
  | keyRelease (k : Nat)
  /-- KEY_STUCK (R408). A key pressed more than 60 s is stuck, recorded and ignored until released. -/
  | keyStuck (k : Nat)
  /-- BANISTER_ON (R411). A qualified Banister key press starts or restarts a hold that mutes every port and holds named feeds. -/
  | banisterOn (k : Nat)
  /-- BANISTER_OFF (R411). ban.end passing or a double press ends the hold and releases its mutes together. -/
  | banisterOff
  /-- BUS_PARITY_ERROR (R26). A parity error on a die crossing increments die.bus_error_count, and more than 16 in 1 s set the die's degraded bit and raise a Major fault. -/
  | busParityError (d : Nat)
  /-- NVME_DRIVE_READY (R349). The NVMe root port finishes training and the drive is identified, after which gal.drive_state leaves training for ready, foreign or unformatted. -/
  | nvmeDriveReady (v : NvmeVol)
  /-- POWER_ON_RESET_ASSERT (R389). A supply falling below 85 % of nominal asserts power-on reset and holds the part in boot stage 0. -/
  | powerOnResetAssert (all : Bool)
  /-- JTAG_INSTRUCTION (R385). An instruction loaded through the JTAG TAP selects boundary scan behaviour, with EXTEST, CLAMP and HIGHZ holding the observe-only balls at their reset levels. -/
  | jtagInstruction (i : Jtag)
  deriving DecidableEq, Repr

end Sys2Proof
end

