-- ==== Sys2Proof/Config.lean ====
section
/-! DEFINITION. What one part fixes (R2: fuses, R383: the running image) and the FREE VALUES: constants without a body,
so that no statement can rest on a number the spec leaves open. Each is named in a row of notes/assumptions. -/

namespace Sys2Proof.Config

/-- A fresh open value: the n-th value the spec leaves open in a run (State.free counts them). DESIGN CHOICE, log entry 2. -/
opaque freeVal : Nat → Int

/-- id.serial of the part, from its fuses (R2). DEDUCED, log entry 3. -/
opaque serial : BitVec 64

/-- Octets of the identity public key (R370), x then y. DEDUCED, log entry 3. -/
opaque idPub : Nat → BitVec 8

/-- Octets sec.challenge reads as while a master holds no challenge (R376 gives them none). DESIGN CHOICE, log entry 2. -/
opaque noChallenge : Nat → BitVec 8

/-- Bits 0 to 5 of clk.status, REFCLK and the lock of each PLL, in a tick in which the clocks are lost (R23, R27). DEDUCED, log entry 45. -/
opaque clockBits : Nat → Nat

/-- HMAC-SHA-256 of a message under a key (R376): 32 octets. DEDUCED, log entry 4. -/
opaque hmac : List (BitVec 8) → List (BitVec 8) → List (BitVec 8)

/-- The verdict of ECDSA P-256 over SHA-256 (R373): public key, message, signature. DEDUCED, log entry 4. -/
opaque ecdsaOk : List (BitVec 8) → List (BitVec 8) → List (BitVec 8) → Bool

/-- The ECDSA P-256 signature by the identity key of a message (R351, R371): 64 octets. DEDUCED, log entry 4. -/
opaque ecdsaSign : List (BitVec 8) → List (BitVec 8)

/-- Whether the authentication tag of a credential record holds (R375). DEDUCED, log entry 4. -/
opaque unwrapOk : List (BitVec 8) → Bool

/-- The 32-octet key unwrapped from a credential record (R375). DEDUCED, log entry 4. -/
opaque unwrapKey : List (BitVec 8) → List (BitVec 8)

/-- The octets of the two firmware slots as the part was made (R383), slot 1 from 2^24. DEDUCED, log entry 3. -/
opaque norByte : Nat → BitVec 8

/-- The verdict of the SHA-384 digest of a firmware image, and of its ECDSA P-384 signature (R383), given by its octets. DEDUCED, log entry 4. -/
opaque fwDigestOk : (Nat → BitVec 8) → Bool

opaque fwSignOk : (Nat → BitVec 8) → Bool

/-- 20 log10 (a / b) in Q16.16 dB (R291): a real number the spec gives no rounding for. DEDUCED, log entry 5. -/
opaque db20 : Nat → Nat → Int

/-- Whether the real value between two neighbouring words is rounded up: arguments numerator and denominator
of the fraction (R224 and other rounded quotients). DEDUCED, log entry 5. -/
opaque roundUp : Int → Int → Bool

/-- The cosine of an angle in turns (R226): a real number the spec gives no rounding for. DEDUCED, log entry 6. -/
opaque cosTurn : Rat → Rat

/-- The item number (0 to 254) of an event code whose group spec/ gives and whose item it does not (R333):
arguments group and the model's tag of the event. DESIGN CHOICE, log entry 7. -/
opaque eventItem : Nat → Nat → Nat

/-- The octets of the descriptor of a base type or of an enumeration whose contents spec/ does not list (R32):
arguments index and sub-index. DESIGN CHOICE, log entry 8. -/
opaque descriptor : Nat → Nat → List (BitVec 8)

/-- The delay of a prompt application (R231) for the period in ticks and the load word, before it is brought
into its stated range. DEDUCED, log entry 9. -/
opaque promptDelay : Nat → Int → Nat

/-- The frequency correction of the tracking loop (R63) in 2^-16 ppb, before its clamp, for bandwidth word,
damping word, integrator and phase error. DEDUCED, log entry 10. -/
opaque loopCorrection : Int → Int → Int → Int → Int

/-- The integrator of the tracking loop (R63) after an update, for the same arguments. DEDUCED, log entry 10. -/
opaque loopIntegrator : Int → Int → Int → Int → Int

/-- The step of a first-order approach with a time constant (R300): target, present value, time constant in µs,
elapsed µs. DEDUCED, log entry 11. -/
opaque approach : Int → Int → Nat → Nat → Int

/-! ### Signals (R142 to R145, R173 to R187, R197 to R209): what the antennas give, and the arithmetic of stages that the spec defines by their
response and not by their coefficients or word lengths. DESIGN CHOICE, log entry 41. -/

/-- The converter sample of port p in a tick, with its offset DAC at a setting (R144): I and Q before they are brought into 14 bits. -/
opaque adc : Nat → Nat → Int → Int × Int

/-- The sample of observation receiver r in a tick (R159). -/
opaque obsAdc : Nat → Nat → Int × Int

/-- One step of a first-order tracker (R144, R182): corner in 2^-16 Hz, ticks between samples, the value held and the sample. -/
opaque dcStep : Nat → Nat → Int → Int → Int

/-- The 8-tap complex IQ correction (R144) under stored coefficients, of the last eight samples, newest first. -/
opaque iqCorrect : Int → List (Int × Int) → Int × Int

/-- A sample turned by a phase in 1/1,228,800 of a turn (R175). -/
opaque rotate : Nat → Int × Int → Int × Int

/-- The memory of the decimation chain of a class and D after a sample, and the channel sample it gives (R174, R176). -/
opaque decimMem : Nat → Nat → Int → Int × Int → Int

opaque decimOut : Nat → Nat → Int → Int × Int

/-- The memory of the interpolation chain of a class and D after a tick, with the channel sample that enters in it if any, and the sample it
gives (R174, R176). -/
opaque interpMem : Nat → Nat → Int → Option (Int × Int) → Int

opaque interpOut : Nat → Nat → Int → Int × Int

/-- The amplitude ratio of a gain in 2^-16 dB, and the complex factor of a gain and a phase in 1/65,536 of a turn (R200). -/
opaque ratio : Int → Rat

opaque polarRe : Int → Nat → Rat

opaque polarIm : Int → Nat → Rat

/-- A real value brought to the integer of a channel sample (R173). -/
opaque narrow : Rat → Int

/-- An octet of the Gallery buffer that no capture has written (R345, R364), by its offset. DEDUCED, log entry 130. -/
opaque galByte : Nat → BitVec 8

/-- An octet of the MSI-X table and pending bits, which the host's own writes set (R358, R363), by its offset in BAR0. DEDUCED, log entry 130. -/
opaque msixByte : Nat → BitVec 8

/-- The output of the sinc stage of a modulator in a tick, in codes (R262): modulator, input, gain code, order and tick. -/
opaque sincOut : Nat → Nat → Nat → Nat → Nat → Rat

/-- SHA-256 of a message (R351): 32 octets. DEDUCED, log entry 4. -/
opaque sha256 : List (BitVec 8) → List (BitVec 8)

/-- The current of phase n of rail r in a tick, in A, and the command its voltage loop sets, in mV at the current-sense input (R277). DEDUCED, log entry 129. -/
opaque phaseCurrent : Nat → Nat → Nat → Rat

opaque railCommand : Nat → Nat → Rat

/-- Ten times the common logarithm of a ratio of powers, in Q16.16 dB (R209). -/
opaque dbOf : Rat → Int

/-- Frequency i of 16 equally spaced across a band, in turns per channel sample, for its width in kHz and D (R209). -/
opaque bandTurn : Nat → Nat → Nat → Rat

end Sys2Proof.Config
end

