-- ==== Sys2Proof/Machine/Keys.lean ====
section
/-! DEFINITION. Keys of the dictionary objects (R7, R30): the key of 0xIIII.SS is index * 256 + sub-index.
One name per object of the tables of spec/; x is the instance of the block (port, channel, rail, ...),
n the offset inside a sub-index range. -/

namespace Sys2Proof.Machine.K

abbrev idPart : Nat := 0x1000 * 256 + 0x01
abbrev idSilicon : Nat := 0x1000 * 256 + 0x02
abbrev idGrade : Nat := 0x1000 * 256 + 0x03
abbrev idSerial : Nat := 0x1000 * 256 + 0x04
abbrev idFwVersion : Nat := 0x1000 * 256 + 0x05
abbrev idFwBuild : Nat := 0x1000 * 256 + 0x06
abbrev dieCoreStatus : Nat := 0x1001 * 256 + 0x01
abbrev dieWing0Status : Nat := 0x1001 * 256 + 0x02
abbrev dieWing1Status : Nat := 0x1001 * 256 + 0x03
abbrev dieWing2Status : Nat := 0x1001 * 256 + 0x04
abbrev dieWing3Status : Nat := 0x1001 * 256 + 0x05
abbrev diePandsStatus : Nat := 0x1001 * 256 + 0x06
abbrev clkStatus : Nat := 0x1001 * 256 + 0x07
abbrev clkRefclkLossCount : Nat := 0x1001 * 256 + 0x08
abbrev dieBusErrorCount : Nat := 0x1001 * 256 + 0x09
abbrev dzCanaNode : Nat := 0x1010 * 256 + 0x01
abbrev dzCanbNode : Nat := 0x1010 * 256 + 0x02
abbrev dzCanaDataRate : Nat := 0x1010 * 256 + 0x03
abbrev dzCanbDataRate : Nat := 0x1010 * 256 + 0x04
abbrev dzCanNominalRate : Nat := 0x1010 * 256 + 0x05
abbrev dzCanaReset : Nat := 0x1010 * 256 + 0x06
abbrev dzCanbReset : Nat := 0x1010 * 256 + 0x07
abbrev dzCanBindIdle : Nat := 0x1010 * 256 + 0x08
abbrev conBaud : Nat := 0x1020 * 256 + 0x01
abbrev conEcho : Nat := 0x1020 * 256 + 0x02
abbrev accTunnelCap : Nat := 0x1030 * 256 + 0x01
abbrev accIdleRelock : Nat := 0x1030 * 256 + 0x02
abbrev accFreezeCount : Nat := 0x1030 * 256 + 0x03
abbrev mrIdent (x : Nat) : Nat := (0x1100 + x) * 256 + 0x01
abbrev mrLevel (x : Nat) : Nat := (0x1100 + x) * 256 + 0x02
abbrev mrFrozen (x : Nat) : Nat := (0x1100 + x) * 256 + 0x03
abbrev mrUnfreeze (x : Nat) : Nat := (0x1100 + x) * 256 + 0x04
abbrev mrAllowance (x : Nat) : Nat := (0x1100 + x) * 256 + 0x05
abbrev mrBurst (x : Nat) : Nat := (0x1100 + x) * 256 + 0x06
abbrev mrRequests (x : Nat) : Nat := (0x1100 + x) * 256 + 0x07
abbrev mrViolations (x : Nat) : Nat := (0x1100 + x) * 256 + 0x08
abbrev mrNotifyMask (x : Nat) : Nat := (0x1100 + x) * 256 + 0x09
abbrev mrFrozenLevel (x : Nat) : Nat := (0x1100 + x) * 256 + 0x0A
abbrev tbNow : Nat := 0x2000 * 256 + 0x01
abbrev tbState : Nat := 0x2000 * 256 + 0x02
abbrev tbSourceSelected : Nat := 0x2000 * 256 + 0x03
abbrev tbTrace : Nat := 0x2000 * 256 + 0x04
abbrev tbPhaseError : Nat := 0x2000 * 256 + 0x05
abbrev tbFreqOffset : Nat := 0x2000 * 256 + 0x06
abbrev tbHoldoverElapsed : Nat := 0x2000 * 256 + 0x07
abbrev tbHoldoverUncertainty : Nat := 0x2000 * 256 + 0x08
abbrev tbStepCount : Nat := 0x2000 * 256 + 0x09
abbrev tbLastStep : Nat := 0x2000 * 256 + 0x0A
abbrev tbSlewCount : Nat := 0x2000 * 256 + 0x0B
abbrev tbStepPending : Nat := 0x2000 * 256 + 0x0C
abbrev tbSourcePriority : Nat := 0x2010 * 256 + 0x01
abbrev tbSourceRevert : Nat := 0x2010 * 256 + 0x02
abbrev tbStepThreshold : Nat := 0x2010 * 256 + 0x03
abbrev tbJumpConfirm : Nat := 0x2010 * 256 + 0x04
abbrev tbSlewMax : Nat := 0x2010 * 256 + 0x05
abbrev tbLoopBandwidth : Nat := 0x2010 * 256 + 0x06
abbrev tbLoopDamping : Nat := 0x2010 * 256 + 0x07
abbrev tbHoldoverDriftRate : Nat := 0x2010 * 256 + 0x08
abbrev tbHoldoverBudget : Nat := 0x2010 * 256 + 0x09
abbrev tbAdjust : Nat := 0x2010 * 256 + 0x0A
abbrev tbDonorChannel : Nat := 0x2020 * 256 + 0x01
abbrev tbDonorMode : Nat := 0x2020 * 256 + 0x02
abbrev tbDonorPci : Nat := 0x2020 * 256 + 0x03
abbrev tbDonorSsbPeriod : Nat := 0x2020 * 256 + 0x04
abbrev tbDonorSsbOffset : Nat := 0x2020 * 256 + 0x05
abbrev tbDonorScs : Nat := 0x2020 * 256 + 0x06
abbrev tbDonorDelayComp : Nat := 0x2020 * 256 + 0x07
abbrev tbDonorMinMetric : Nat := 0x2020 * 256 + 0x08
abbrev tbDonorMetric : Nat := 0x2020 * 256 + 0x09
abbrev tbDonorState : Nat := 0x2020 * 256 + 0x0A
abbrev tbPpsEdge : Nat := 0x2030 * 256 + 0x01
abbrev tbPpsDelayComp : Nat := 0x2030 * 256 + 0x02
abbrev tbTodNext : Nat := 0x2030 * 256 + 0x03
abbrev tbPpsMissed : Nat := 0x2030 * 256 + 0x04
abbrev tbPpsState : Nat := 0x2030 * 256 + 0x05
abbrev stwAddr : Nat := 0x2040 * 256 + 0x01
abbrev stwRole : Nat := 0x2040 * 256 + 0x02
abbrev stwDepth : Nat := 0x2040 * 256 + 0x03
abbrev stwNewel : Nat := 0x2040 * 256 + 0x04
abbrev stwCensus : Nat := 0x2040 * 256 + 0x05
abbrev stwConflict : Nat := 0x2040 * 256 + 0x06
abbrev stwPartition : Nat := 0x2040 * 256 + 0x07
abbrev stwLinkLState (x : Nat) : Nat := (0x2048 + x) * 256 + 0x01
abbrev stwLinkLEnable (x : Nat) : Nat := (0x2048 + x) * 256 + 0x02
abbrev stwLinkLDelay (x : Nat) : Nat := (0x2048 + x) * 256 + 0x03
abbrev stwLinkLAsym (x : Nat) : Nat := (0x2048 + x) * 256 + 0x04
abbrev stwLinkLCrcErrors (x : Nat) : Nat := (0x2048 + x) * 256 + 0x05
abbrev stwLinkLRetrains (x : Nat) : Nat := (0x2048 + x) * 256 + 0x06
abbrev stwLinkLRetrain (x : Nat) : Nat := (0x2048 + x) * 256 + 0x07
abbrev snapLocal : Nat := 0x2050 * 256 + 0x01
abbrev snapSystem : Nat := 0x2050 * 256 + 0x02
abbrev snapTick : Nat := 0x2050 * 256 + 0x03
abbrev snapSeq : Nat := 0x2050 * 256 + 0x04
abbrev snapLate : Nat := 0x2050 * 256 + 0x05
abbrev patEnable (x : Nat) : Nat := (0x2180 + x) * 256 + 0x01
abbrev patPeriod (x : Nat) : Nat := (0x2180 + x) * 256 + 0x02
abbrev patScs (x : Nat) : Nat := (0x2180 + x) * 256 + 0x03
abbrev patEcp (x : Nat) : Nat := (0x2180 + x) * 256 + 0x04
abbrev patAnchor (x : Nat) : Nat := (0x2180 + x) * 256 + 0x05
abbrev patPorts (x : Nat) : Nat := (0x2180 + x) * 256 + 0x06
abbrev patNseg (x : Nat) : Nat := (0x2180 + x) * 256 + 0x07
abbrev patChain (x : Nat) : Nat := (0x2180 + x) * 256 + 0x08
abbrev patTransient (x : Nat) : Nat := (0x2180 + x) * 256 + 0x09
abbrev patPosition (x : Nat) : Nat := (0x2180 + x) * 256 + 0x0A
abbrev patSegment (x : Nat) : Nat := (0x2180 + x) * 256 + 0x0B
abbrev patCycles (x : Nat) : Nat := (0x2180 + x) * 256 + 0x0C
abbrev ltArmed : Nat := 0x2100 * 256 + 0x01
abbrev ltNextDue : Nat := 0x2100 * 256 + 0x02
abbrev ltExecuted : Nat := 0x2100 * 256 + 0x03
abbrev ltLate : Nat := 0x2100 * 256 + 0x04
abbrev ltLostWindows : Nat := 0x2100 * 256 + 0x05
abbrev admMinLead : Nat := 0x2160 * 256 + 0x01
abbrev admLastReason : Nat := 0x2160 * 256 + 0x02
abbrev admLastObject : Nat := 0x2160 * 256 + 0x03
abbrev admLastEarliest : Nat := 0x2160 * 256 + 0x04
abbrev admRefusals : Nat := 0x2160 * 256 + 0x05
abbrev admAccepts : Nat := 0x2160 * 256 + 0x06
abbrev admDryRun : Nat := 0x2160 * 256 + 0x07
abbrev txOpen : Nat := 0x2200 * 256 + 0x01
abbrev txOpenIdle : Nat := 0x2200 * 256 + 0x02
abbrev txOpenCount : Nat := 0x2200 * 256 + 0x03
abbrev txStagedCount : Nat := 0x2200 * 256 + 0x04
abbrev txNextNumber : Nat := 0x2200 * 256 + 0x05
abbrev txNextSeq : Nat := 0x2200 * 256 + 0x06
abbrev txPending : Nat := 0x2200 * 256 + 0x07
abbrev txAborts : Nat := 0x2200 * 256 + 0x08
abbrev txAbortsLate : Nat := 0x2200 * 256 + 0x09
abbrev txSlotOwner (n : Nat) : Nat := 0x2210 * 256 + 0x01 + n
abbrev txSlotNumber (n : Nat) : Nat := 0x2211 * 256 + 0x01 + n
abbrev txSlotState (n : Nat) : Nat := 0x2212 * 256 + 0x01 + n
abbrev txSlotStaged (n : Nat) : Nat := 0x2213 * 256 + 0x01 + n
abbrev txSlotLaunch (n : Nat) : Nat := 0x2214 * 256 + 0x01 + n
abbrev txSlotSysId (n : Nat) : Nat := 0x2215 * 256 + 0x01 + n
abbrev txHistNumber (n : Nat) : Nat := 0x2218 * 256 + 0x01 + n
abbrev txHistSeq (n : Nat) : Nat := 0x2219 * 256 + 0x01 + n
abbrev txHistState (n : Nat) : Nat := 0x221A * 256 + 0x01 + n
abbrev jrBank0State : Nat := 0x2220 * 256 + 0x01
abbrev jrBank1State : Nat := 0x2220 * 256 + 0x02
abbrev jrDegraded : Nat := 0x2220 * 256 + 0x03
abbrev jrRingUsed : Nat := 0x2220 * 256 + 0x04
abbrev jrCheckpointSeq : Nat := 0x2220 * 256 + 0x05
abbrev jrReplayed : Nat := 0x2220 * 256 + 0x06
abbrev jrVoided : Nat := 0x2220 * 256 + 0x07
abbrev jrRebuild : Nat := 0x2220 * 256 + 0x08
abbrev jrRetries : Nat := 0x2220 * 256 + 0x09
abbrev txSysVoteTimeout : Nat := 0x2240 * 256 + 0x01
abbrev txSysNextSeq : Nat := 0x2240 * 256 + 0x02
abbrev txSysInDoubt : Nat := 0x2240 * 256 + 0x03
abbrev txSysLastNoAddr : Nat := 0x2240 * 256 + 0x04
abbrev txSysLastNoReason : Nat := 0x2240 * 256 + 0x05
abbrev txSysResolve : Nat := 0x2240 * 256 + 0x06
abbrev txSysQueue : Nat := 0x2240 * 256 + 0x07
abbrev txSysLate : Nat := 0x2240 * 256 + 0x08
abbrev portRole (x : Nat) : Nat := (0x3000 + x * 0x20) * 256 + 0x01
abbrev portRest (x : Nat) : Nat := (0x3000 + x * 0x20) * 256 + 0x02
abbrev portTxWindow (x : Nat) : Nat := (0x3000 + x * 0x20) * 256 + 0x03
abbrev portRxAtten (x : Nat) : Nat := (0x3000 + x * 0x20) * 256 + 0x04
abbrev portTxAtten (x : Nat) : Nat := (0x3000 + x * 0x20) * 256 + 0x05
abbrev portTarget (x : Nat) : Nat := (0x3000 + x * 0x20) * 256 + 0x06
abbrev portLoopbackTest (x : Nat) : Nat := (0x3000 + x * 0x20) * 256 + 0x07
abbrev portCalTempDelta (x : Nat) : Nat := (0x3000 + x * 0x20) * 256 + 0x08
abbrev portCalOverdue (x : Nat) : Nat := (0x3000 + x * 0x20) * 256 + 0x09
abbrev portRxDcTrack (x : Nat) : Nat := (0x3000 + x * 0x20) * 256 + 0x0A
abbrev portState (x : Nat) : Nat := (0x3001 + x * 0x20) * 256 + 0x01
abbrev portChangingTo (x : Nat) : Nat := (0x3001 + x * 0x20) * 256 + 0x02
abbrev portStateSince (x : Nat) : Nat := (0x3001 + x * 0x20) * 256 + 0x03
abbrev portWindowsLost (x : Nat) : Nat := (0x3001 + x * 0x20) * 256 + 0x04
abbrev portPaen (x : Nat) : Nat := (0x3001 + x * 0x20) * 256 + 0x05
abbrev portTransitions (x : Nat) : Nat := (0x3001 + x * 0x20) * 256 + 0x06
abbrev portMutes (x : Nat) : Nat := (0x3001 + x * 0x20) * 256 + 0x07
abbrev portTemp (x : Nat) : Nat := (0x3001 + x * 0x20) * 256 + 0x08
abbrev synFreq (tx : Bool) (p : Nat) : Nat := (0x3002 + (if tx then 1 else 0) + p * 0x20) * 256 + 0x01
abbrev synState (tx : Bool) (p : Nat) : Nat := (0x3002 + (if tx then 1 else 0) + p * 0x20) * 256 + 0x02
abbrev synFreqNow (tx : Bool) (p : Nat) : Nat := (0x3002 + (if tx then 1 else 0) + p * 0x20) * 256 + 0x03
abbrev synLockLosses (tx : Bool) (p : Nat) : Nat := (0x3002 + (if tx then 1 else 0) + p * 0x20) * 256 + 0x04
abbrev synCalTemp (tx : Bool) (p : Nat) : Nat := (0x3002 + (if tx then 1 else 0) + p * 0x20) * 256 + 0x05
abbrev synRetunes (tx : Bool) (p : Nat) : Nat := (0x3002 + (if tx then 1 else 0) + p * 0x20) * 256 + 0x06
abbrev synVtune (tx : Bool) (p : Nat) : Nat := (0x3002 + (if tx then 1 else 0) + p * 0x20) * 256 + 0x07
abbrev calStart (x : Nat) : Nat := (0x3004 + x * 0x20) * 256 + 0x01
abbrev calAbort (x : Nat) : Nat := (0x3004 + x * 0x20) * 256 + 0x02
abbrev calStatus (x : Nat) : Nat := (0x3004 + x * 0x20) * 256 + 0x03
abbrev calKind (x : Nat) : Nat := (0x3004 + x * 0x20) * 256 + 0x04
abbrev calPending (x : Nat) : Nat := (0x3004 + x * 0x20) * 256 + 0x05
abbrev calStale (x : Nat) : Nat := (0x3004 + x * 0x20) * 256 + 0x06
abbrev calIrPieces (x : Nat) : Nat := (0x3004 + x * 0x20) * 256 + 0x07
abbrev calDoneTime0 (x : Nat) : Nat := (0x3004 + x * 0x20) * 256 + 0x08
abbrev calDoneTime1 (x : Nat) : Nat := (0x3004 + x * 0x20) * 256 + 0x09
abbrev calFailCount (x : Nat) : Nat := (0x3004 + x * 0x20) * 256 + 0x0A
abbrev calDoneTime2 (x : Nat) : Nat := (0x3004 + x * 0x20) * 256 + 0x0B
abbrev calGeneration (x : Nat) : Nat := (0x3004 + x * 0x20) * 256 + 0x0C
abbrev calDoneTime3 (x : Nat) : Nat := (0x3004 + x * 0x20) * 256 + 0x0D
abbrev rxDcI (x : Nat) : Nat := (0x3005 + x * 0x20) * 256 + 0x01
abbrev rxDcQ (x : Nat) : Nat := (0x3005 + x * 0x20) * 256 + 0x02
abbrev rxImageRej (x : Nat) : Nat := (0x3005 + x * 0x20) * 256 + 0x03
abbrev rxLoopbackLoss (x : Nat) : Nat := (0x3005 + x * 0x20) * 256 + 0x04
abbrev rxOvrCount (x : Nat) : Nat := (0x3005 + x * 0x20) * 256 + 0x05
abbrev rxPower (x : Nat) : Nat := (0x3005 + x * 0x20) * 256 + 0x06
abbrev obsList (r : Nat) : Nat := (0x301C + (r / 2) * 0x100 + (r % 2) * 0x20) * 256 + 0x01
abbrev obsDwell (r : Nat) : Nat := (0x301C + (r / 2) * 0x100 + (r % 2) * 0x20) * 256 + 0x02
abbrev obsCurrent (r : Nat) : Nat := (0x301C + (r / 2) * 0x100 + (r % 2) * 0x20) * 256 + 0x03
abbrev obsOwner (r : Nat) : Nat := (0x301C + (r / 2) * 0x100 + (r % 2) * 0x20) * 256 + 0x04
abbrev obsVisits (r : Nat) : Nat := (0x301C + (r / 2) * 0x100 + (r % 2) * 0x20) * 256 + 0x05
abbrev obsSkipped (r : Nat) : Nat := (0x301C + (r / 2) * 0x100 + (r % 2) * 0x20) * 256 + 0x06
abbrev chRun (x : Nat) : Nat := (0x4000 + x * 0x10) * 256 + 0x01
abbrev chInPort (x : Nat) : Nat := (0x4000 + x * 0x10) * 256 + 0x02
abbrev chD (x : Nat) : Nat := (0x4000 + x * 0x10) * 256 + 0x03
abbrev chPattern (x : Nat) : Nat := (0x4000 + x * 0x10) * 256 + 0x04
abbrev chDir (x : Nat) : Nat := (0x4000 + x * 0x10) * 256 + 0x05
abbrev chStartMuted (x : Nat) : Nat := (0x4000 + x * 0x10) * 256 + 0x06
abbrev chDcCorner (x : Nat) : Nat := (0x4000 + x * 0x10) * 256 + 0x07
abbrev bkClass (bank c : Nat) : Nat := (0x4001 + bank + c * 0x10) * 256 + 0x01
abbrev bkCentre (bank c : Nat) : Nat := (0x4001 + bank + c * 0x10) * 256 + 0x02
abbrev bkBw (bank c : Nat) : Nat := (0x4001 + bank + c * 0x10) * 256 + 0x03
abbrev bkOutCentre0 (bank c : Nat) : Nat := (0x4001 + bank + c * 0x10) * 256 + 0x04
abbrev bkOutCentre1 (bank c : Nat) : Nat := (0x4001 + bank + c * 0x10) * 256 + 0x05
abbrev bkOutCentre2 (bank c : Nat) : Nat := (0x4001 + bank + c * 0x10) * 256 + 0x06
abbrev bkOutCentre3 (bank c : Nat) : Nat := (0x4001 + bank + c * 0x10) * 256 + 0x07
abbrev foPort0 (x : Nat) : Nat := (0x4003 + x * 0x10) * 256 + 0x01
abbrev foPort1 (x : Nat) : Nat := (0x4003 + x * 0x10) * 256 + 0x02
abbrev foPort2 (x : Nat) : Nat := (0x4003 + x * 0x10) * 256 + 0x03
abbrev foPort3 (x : Nat) : Nat := (0x4003 + x * 0x10) * 256 + 0x04
abbrev foGainTrim0 (x : Nat) : Nat := (0x4003 + x * 0x10) * 256 + 0x05
abbrev foGainTrim1 (x : Nat) : Nat := (0x4003 + x * 0x10) * 256 + 0x06
abbrev foGainTrim2 (x : Nat) : Nat := (0x4003 + x * 0x10) * 256 + 0x07
abbrev foGainTrim3 (x : Nat) : Nat := (0x4003 + x * 0x10) * 256 + 0x08
abbrev foDelayTrim0 (x : Nat) : Nat := (0x4003 + x * 0x10) * 256 + 0x09
abbrev foDelayTrim1 (x : Nat) : Nat := (0x4003 + x * 0x10) * 256 + 0x0A
abbrev foDelayTrim2 (x : Nat) : Nat := (0x4003 + x * 0x10) * 256 + 0x0B
abbrev foDelayTrim3 (x : Nat) : Nat := (0x4003 + x * 0x10) * 256 + 0x0C
abbrev chState (x : Nat) : Nat := (0x4004 + x * 0x10) * 256 + 0x01
abbrev chMutes (x : Nat) : Nat := (0x4004 + x * 0x10) * 256 + 0x02
abbrev chSlots (x : Nat) : Nat := (0x4004 + x * 0x10) * 256 + 0x03
abbrev chSettleLeft (x : Nat) : Nat := (0x4004 + x * 0x10) * 256 + 0x04
abbrev chDelay0 (x : Nat) : Nat := (0x4004 + x * 0x10) * 256 + 0x05
abbrev chDelay1 (x : Nat) : Nat := (0x4004 + x * 0x10) * 256 + 0x06
abbrev chDelay2 (x : Nat) : Nat := (0x4004 + x * 0x10) * 256 + 0x07
abbrev chDelay3 (x : Nat) : Nat := (0x4004 + x * 0x10) * 256 + 0x08
abbrev chDcI (x : Nat) : Nat := (0x4004 + x * 0x10) * 256 + 0x09
abbrev chDcQ (x : Nat) : Nat := (0x4004 + x * 0x10) * 256 + 0x0A
abbrev chPowerIn (x : Nat) : Nat := (0x4004 + x * 0x10) * 256 + 0x0B
abbrev chPowerOut (x : Nat) : Nat := (0x4004 + x * 0x10) * 256 + 0x0C
abbrev chSatCount (x : Nat) : Nat := (0x4004 + x * 0x10) * 256 + 0x0D
abbrev chResets (x : Nat) : Nat := (0x4004 + x * 0x10) * 256 + 0x0E
abbrev chStartedAt (x : Nat) : Nat := (0x4004 + x * 0x10) * 256 + 0x0F
abbrev slBankActive (x : Nat) : Nat := (0x400F + x * 0x80) * 256 + 0x01
abbrev slFading (x : Nat) : Nat := (0x400F + x * 0x80) * 256 + 0x02
abbrev slFadeEnd (x : Nat) : Nat := (0x400F + x * 0x80) * 256 + 0x03
abbrev slSwaps (x : Nat) : Nat := (0x400F + x * 0x80) * 256 + 0x04
abbrev slSlotsUsed (x : Nat) : Nat := (0x400F + x * 0x80) * 256 + 0x05
abbrev slInactiveLoad (x : Nat) : Nat := (0x400F + x * 0x80) * 256 + 0x06
abbrev cxEnable (x : Nat) : Nat := (0x6800 + x * 0x4) * 256 + 0x01
abbrev cxTaps (x : Nat) : Nat := (0x6800 + x * 0x4) * 256 + 0x02
abbrev cxBulkDelay (x : Nat) : Nat := (0x6800 + x * 0x4) * 256 + 0x03
abbrev cxMu (x : Nat) : Nat := (0x6800 + x * 0x4) * 256 + 0x04
abbrev cxSubpool (x : Nat) : Nat := (0x6800 + x * 0x4) * 256 + 0x05
abbrev cxProbeGain (x : Nat) : Nat := (0x6800 + x * 0x4) * 256 + 0x06
abbrev cxMinMargin (x : Nat) : Nat := (0x6800 + x * 0x4) * 256 + 0x07
abbrev cxIsoDeclared (x : Nat) : Nat := (0x6800 + x * 0x4) * 256 + 0x08
abbrev cxEstWindow (x : Nat) : Nat := (0x6800 + x * 0x4) * 256 + 0x09
abbrev cxMaxError (x : Nat) : Nat := (0x6800 + x * 0x4) * 256 + 0x0A
abbrev cxMinRef (x : Nat) : Nat := (0x6800 + x * 0x4) * 256 + 0x0B
abbrev cxHoldLimit (x : Nat) : Nat := (0x6800 + x * 0x4) * 256 + 0x0C
abbrev cxReset (x : Nat) : Nat := (0x6800 + x * 0x4) * 256 + 0x0D
abbrev cxPaTrack (x : Nat) : Nat := (0x6800 + x * 0x4) * 256 + 0x0E
abbrev cxRef0 (x : Nat) : Nat := (0x6801 + x * 0x4) * 256 + 0x01
abbrev cxRefN (x n : Nat) : Nat := (0x6801 + x * 0x4) * 256 + 0x01 + n
abbrev cxBranchSubpoolN (x n : Nat) : Nat := (0x6801 + x * 0x4) * 256 + 0x05 + n
abbrev cxPaGainN (x n : Nat) : Nat := (0x6801 + x * 0x4) * 256 + 0x09 + n
abbrev cxRefPortN (x n : Nat) : Nat := (0x6801 + x * 0x4) * 256 + 0x0D + n
abbrev cxState (x : Nat) : Nat := (0x6802 + x * 0x4) * 256 + 0x01
abbrev cxFreezes (x : Nat) : Nat := (0x6802 + x * 0x4) * 256 + 0x02
abbrev cxMargin (x : Nat) : Nat := (0x6802 + x * 0x4) * 256 + 0x03
abbrev cxMarginState (x : Nat) : Nat := (0x6802 + x * 0x4) * 256 + 0x04
abbrev cxMarginError (x : Nat) : Nat := (0x6802 + x * 0x4) * 256 + 0x05
abbrev cxDepth (x : Nat) : Nat := (0x6802 + x * 0x4) * 256 + 0x06
abbrev cxAdaptTicks (x : Nat) : Nat := (0x6802 + x * 0x4) * 256 + 0x07
abbrev cxReconv (x : Nat) : Nat := (0x6802 + x * 0x4) * 256 + 0x08
abbrev cxResets (x : Nat) : Nat := (0x6802 + x * 0x4) * 256 + 0x09
abbrev cxDivergences (x : Nat) : Nat := (0x6802 + x * 0x4) * 256 + 0x0A
abbrev cxLoad (x : Nat) : Nat := (0x6802 + x * 0x4) * 256 + 0x0B
abbrev cxConvergedAt (x : Nat) : Nat := (0x6802 + x * 0x4) * 256 + 0x0C
abbrev cxIsoN (x n : Nat) : Nat := (0x6803 + x * 0x4) * 256 + 0x01 + n
abbrev cxDemoDepthN (x n : Nat) : Nat := (0x6803 + x * 0x4) * 256 + 0x05 + n
abbrev cxBandLoN (x n : Nat) : Nat := (0x6803 + x * 0x4) * 256 + 0x09 + n
abbrev cxBandHiN (x n : Nat) : Nat := (0x6803 + x * 0x4) * 256 + 0x0D + n
abbrev cxIsoTimeN (x n : Nat) : Nat := (0x6803 + x * 0x4) * 256 + 0x11 + n
abbrev cxRecords (x : Nat) : Nat := (0x6803 + x * 0x4) * 256 + 0x15
abbrev cxPoolLoadS (n : Nat) : Nat := 0x6802 * 256 + 0x40 + n
abbrev cxPoolTotal : Nat := 0x6802 * 256 + 0x50
abbrev cxPoolPowered : Nat := 0x6802 * 256 + 0x51
abbrev cxPoolSheds : Nat := 0x6802 * 256 + 0x52
abbrev geGmin (x : Nat) : Nat := (0x6000 + x * 0x4) * 256 + 0x01
abbrev geGmax (x : Nat) : Nat := (0x6000 + x * 0x4) * 256 + 0x02
abbrev geMode (x : Nat) : Nat := (0x6000 + x * 0x4) * 256 + 0x03
abbrev gePeriod (x : Nat) : Nat := (0x6000 + x * 0x4) * 256 + 0x04
abbrev geLockSymbols (x : Nat) : Nat := (0x6000 + x * 0x4) * 256 + 0x05
abbrev geScs (x : Nat) : Nat := (0x6000 + x * 0x4) * 256 + 0x06
abbrev geLockOffset (x : Nat) : Nat := (0x6000 + x * 0x4) * 256 + 0x07
abbrev geLoops (x : Nat) : Nat := (0x6000 + x * 0x4) * 256 + 0x08
abbrev geAlcTarget (x : Nat) : Nat := (0x6000 + x * 0x4) * 256 + 0x09
abbrev geAlcRamp (x : Nat) : Nat := (0x6000 + x * 0x4) * 256 + 0x0A
abbrev geMarginTarget (x : Nat) : Nat := (0x6000 + x * 0x4) * 256 + 0x0B
abbrev geNoiseTarget (x : Nat) : Nat := (0x6000 + x * 0x4) * 256 + 0x0C
abbrev geSupplyReserve (x : Nat) : Nat := (0x6000 + x * 0x4) * 256 + 0x0D
abbrev geEirpOffset (x : Nat) : Nat := (0x6000 + x * 0x4) * 256 + 0x0E
abbrev geFeLimit (x : Nat) : Nat := (0x6000 + x * 0x4) * 256 + 0x0F
abbrev geFeTime (x : Nat) : Nat := (0x6000 + x * 0x4) * 256 + 0x10
abbrev geNotchMask (x : Nat) : Nat := (0x6000 + x * 0x4) * 256 + 0x11
abbrev geNotchHarm (x : Nat) : Nat := (0x6000 + x * 0x4) * 256 + 0x12
abbrev geNotchRadius (x : Nat) : Nat := (0x6000 + x * 0x4) * 256 + 0x13
abbrev geNotchPattern (x : Nat) : Nat := (0x6000 + x * 0x4) * 256 + 0x14
abbrev geIntegrator (x : Nat) : Nat := (0x6001 + x * 0x4) * 256 + 0x01
abbrev geApplied (x : Nat) : Nat := (0x6001 + x * 0x4) * 256 + 0x02
abbrev geWinner (x : Nat) : Nat := (0x6001 + x * 0x4) * 256 + 0x03
abbrev geRate (x : Nat) : Nat := (0x6001 + x * 0x4) * 256 + 0x04
abbrev geAlcSetpoint (x : Nat) : Nat := (0x6001 + x * 0x4) * 256 + 0x05
abbrev geFe (x : Nat) : Nat := (0x6001 + x * 0x4) * 256 + 0x06
abbrev geFeTimer (x : Nat) : Nat := (0x6001 + x * 0x4) * 256 + 0x07
abbrev geHolds (x : Nat) : Nat := (0x6001 + x * 0x4) * 256 + 0x08
abbrev geModeNow (x : Nat) : Nat := (0x6001 + x * 0x4) * 256 + 0x09
abbrev geWindow (x : Nat) : Nat := (0x6001 + x * 0x4) * 256 + 0x0A
abbrev gePromptDelay (x : Nat) : Nat := (0x6001 + x * 0x4) * 256 + 0x0B
abbrev geUpdates (x : Nat) : Nat := (0x6001 + x * 0x4) * 256 + 0x0C
abbrev geDiscarded (x : Nat) : Nat := (0x6001 + x * 0x4) * 256 + 0x0D
abbrev geReloads (x : Nat) : Nat := (0x6001 + x * 0x4) * 256 + 0x0E
abbrev geFeTrips (x : Nat) : Nat := (0x6001 + x * 0x4) * 256 + 0x0F
abbrev geThermalBackoff (x : Nat) : Nat := (0x6001 + x * 0x4) * 256 + 0x10
abbrev geSupplyHeadroom (x : Nat) : Nat := (0x6001 + x * 0x4) * 256 + 0x11
abbrev geApplyOffset (x : Nat) : Nat := (0x6001 + x * 0x4) * 256 + 0x12
abbrev geNotchActive (x : Nat) : Nat := (0x6001 + x * 0x4) * 256 + 0x13
abbrev gePermitCap (x : Nat) : Nat := (0x6001 + x * 0x4) * 256 + 0x14
abbrev gePermitKind (x : Nat) : Nat := (0x6001 + x * 0x4) * 256 + 0x15
abbrev geCost (x : Nat) : Nat := (0x6001 + x * 0x4) * 256 + 0x16
abbrev geErrorI (x n : Nat) : Nat := (0x6002 + x * 0x4) * 256 + 0x01 + n
abbrev geRequestI (x n : Nat) : Nat := (0x6002 + x * 0x4) * 256 + 0x11 + n
abbrev geLutI (x n : Nat) : Nat := (0x6003 + x * 0x4) * 256 + 0x01 + n
abbrev geCapacity : Nat := 0x6002 * 256 + 0x40
abbrev geLoad : Nat := 0x6002 * 256 + 0x41
abbrev geLoadAdmitted : Nat := 0x6002 * 256 + 0x42
abbrev geFallback : Nat := 0x6002 * 256 + 0x43
abbrev geFallbacks : Nat := 0x6002 * 256 + 0x44
abbrev geLoadPeak : Nat := 0x6002 * 256 + 0x45
abbrev prMutepin : Nat := 0x7000 * 256 + 0x01
abbrev prMutepinCount : Nat := 0x7000 * 256 + 0x02
abbrev oscMarginTrip : Nat := 0x7000 * 256 + 0x03
abbrev oscLineGrowth : Nat := 0x7000 * 256 + 0x04
abbrev oscLineWindows : Nat := 0x7000 * 256 + 0x05
abbrev oscLineExcess : Nat := 0x7000 * 256 + 0x06
abbrev oscRestartDelay : Nat := 0x7000 * 256 + 0x07
abbrev oscRestartLimit : Nat := 0x7000 * 256 + 0x08
abbrev oscDecay : Nat := 0x7000 * 256 + 0x09
abbrev nlFrames : Nat := 0x7000 * 256 + 0x0A
abbrev nlHold : Nat := 0x7000 * 256 + 0x0B
abbrev emHold : Nat := 0x7000 * 256 + 0x0C
abbrev oscTrips : Nat := 0x7000 * 256 + 0x0D
abbrev oscSeals : Nat := 0x7000 * 256 + 0x0E
abbrev hmThreshold (x : Nat) : Nat := (0x7010 + x) * 256 + 0x01
abbrev hmCount (x : Nat) : Nat := (0x7010 + x) * 256 + 0x02
abbrev hmLimit (x : Nat) : Nat := (0x7010 + x) * 256 + 0x03
abbrev hmOvrMask (x : Nat) : Nat := (0x7010 + x) * 256 + 0x04
abbrev hmOvrCount (x : Nat) : Nat := (0x7010 + x) * 256 + 0x05
abbrev hmRelease (x : Nat) : Nat := (0x7010 + x) * 256 + 0x06
abbrev hmHold (x : Nat) : Nat := (0x7010 + x) * 256 + 0x07
abbrev hmTripLimit (x : Nat) : Nat := (0x7010 + x) * 256 + 0x08
abbrev hmMutePin (x : Nat) : Nat := (0x7010 + x) * 256 + 0x09
abbrev hmClear (x : Nat) : Nat := (0x7010 + x) * 256 + 0x0A
abbrev hmState (x : Nat) : Nat := (0x7010 + x) * 256 + 0x0B
abbrev hmTrips (x : Nat) : Nat := (0x7010 + x) * 256 + 0x0C
abbrev hmClipped (x : Nat) : Nat := (0x7010 + x) * 256 + 0x0D
abbrev hmLastTrip (x : Nat) : Nat := (0x7010 + x) * 256 + 0x0E
abbrev hmPeak (x : Nat) : Nat := (0x7010 + x) * 256 + 0x0F
abbrev oscState (c : Nat) : Nat := (0x7040 + c / 256) * 256 + c % 256
abbrev oscRestarts (c : Nat) : Nat := (0x7042 + c / 256) * 256 + c % 256
abbrev nlLimit (c : Nat) : Nat := (0x7044 + c / 256) * 256 + c % 256
abbrev prCause (c : Nat) : Nat := (0x7046 + c / 256) * 256 + c % 256
abbrev oscRestartNow (c : Nat) : Nat := (0x7048 + c / 256) * 256 + c % 256
abbrev oscDue (c : Nat) : Nat := (0x704A + c / 256) * 256 + c % 256
abbrev emPort (x : Nat) : Nat := (0x7060 + x) * 256 + 0x01
abbrev emLo (x : Nat) : Nat := (0x7060 + x) * 256 + 0x02
abbrev emHi (x : Nat) : Nat := (0x7060 + x) * 256 + 0x03
abbrev emChannel (x : Nat) : Nat := (0x7060 + x) * 256 + 0x04
abbrev emLimit (x : Nat) : Nat := (0x7060 + x) * 256 + 0x05
abbrev emCount (x : Nat) : Nat := (0x7060 + x) * 256 + 0x06
abbrev emLevel (x : Nat) : Nat := (0x7060 + x) * 256 + 0x07
abbrev emStatus (x : Nat) : Nat := (0x7060 + x) * 256 + 0x08
abbrev emBreaches (x : Nat) : Nat := (0x7060 + x) * 256 + 0x09
abbrev tmNentries (x : Nat) : Nat := (0x7110 + x) * 256 + 0x01
abbrev tmInterleave (x : Nat) : Nat := (0x7110 + x) * 256 + 0x02
abbrev tmOffsetFreeze (x : Nat) : Nat := (0x7110 + x) * 256 + 0x03
abbrev tmState (x : Nat) : Nat := (0x7110 + x) * 256 + 0x04
abbrev tmEntryNow (x : Nat) : Nat := (0x7110 + x) * 256 + 0x05
abbrev tmInject (x : Nat) : Nat := (0x7110 + x) * 256 + 0x06
abbrev tmCal (x : Nat) : Nat := (0x7110 + x) * 256 + 0x07
abbrev tmCalStatus (x : Nat) : Nat := (0x7110 + x) * 256 + 0x08
abbrev tmOvr (x : Nat) : Nat := (0x7110 + x) * 256 + 0x09
abbrev tmOvrClear (x : Nat) : Nat := (0x7110 + x) * 256 + 0x0A
abbrev tmConversions (x : Nat) : Nat := (0x7110 + x) * 256 + 0x0B
abbrev tmPreempted (x : Nat) : Nat := (0x7110 + x) * 256 + 0x0C
abbrev tmCalPoint (x : Nat) : Nat := (0x7110 + x) * 256 + 0x0D
abbrev tmOffsetG (x n : Nat) : Nat := (0x7110 + x) * 256 + 0x10 + n
abbrev tmEntryK (x n : Nat) : Nat := (0x7130 + x) * 256 + 0x01 + n
abbrev tmInjectEntry (x : Nat) : Nat := (0x7130 + x) * 256 + 0x11
abbrev tmCalOffsetK (x n : Nat) : Nat := (0x7150 + x) * 256 + 0x01 + n
abbrev tmCalGainK (x n : Nat) : Nat := (0x7150 + x) * 256 + 0x21 + n
abbrev accSum (a : Nat) : Nat := (0x71A0 + a / 128) * 256 + a % 128
abbrev accCount (a : Nat) : Nat := (0x71A2 + a / 128) * 256 + a % 128
abbrev accMean (a : Nat) : Nat := (0x71A4 + a / 128) * 256 + a % 128
abbrev accClear (a : Nat) : Nat := (0x71A6 + a / 128) * 256 + a % 128
abbrev accClearOnSnap (a : Nat) : Nat := (0x71A8 + a / 128) * 256 + a % 128
abbrev accFull (a : Nat) : Nat := (0x71AA + a / 128) * 256 + a % 128
abbrev trMin (a : Nat) : Nat := (0x71C0 + a / 128) * 256 + a % 128
abbrev trMax (a : Nat) : Nat := (0x71C2 + a / 128) * 256 + a % 128
abbrev trMinTime (a : Nat) : Nat := (0x71C4 + a / 128) * 256 + a % 128
abbrev trMaxTime (a : Nat) : Nat := (0x71C6 + a / 128) * 256 + a % 128
abbrev trClear (a : Nat) : Nat := (0x71C8 + a / 128) * 256 + a % 128
abbrev trClearOnSnap (a : Nat) : Nat := (0x71CA + a / 128) * 256 + a % 128
abbrev rlEnable (x : Nat) : Nat := (0x7200 + x) * 256 + 0x01
abbrev rlPhases (x : Nat) : Nat := (0x7200 + x) * 256 + 0x02
abbrev rlPwmDiv (x : Nat) : Nat := (0x7200 + x) * 256 + 0x03
abbrev rlSlope (x : Nat) : Nat := (0x7200 + x) * 256 + 0x04
abbrev rlPhaseIlimit (x : Nat) : Nat := (0x7200 + x) * 256 + 0x05
abbrev rlRsense (x : Nat) : Nat := (0x7200 + x) * 256 + 0x06
abbrev rlDivider (x : Nat) : Nat := (0x7200 + x) * 256 + 0x07
abbrev rlSelSource (x : Nat) : Nat := (0x7200 + x) * 256 + 0x08
abbrev rlMoveRamp (x : Nat) : Nat := (0x7200 + x) * 256 + 0x09
abbrev rlMoveDelay (x : Nat) : Nat := (0x7200 + x) * 256 + 0x0A
abbrev rlSettle (x : Nat) : Nat := (0x7200 + x) * 256 + 0x0B
abbrev rlOnDelay (x : Nat) : Nat := (0x7200 + x) * 256 + 0x0C
abbrev rlOnRamp (x : Nat) : Nat := (0x7200 + x) * 256 + 0x0D
abbrev rlOffDelay (x : Nat) : Nat := (0x7200 + x) * 256 + 0x0E
abbrev rlOffRamp (x : Nat) : Nat := (0x7200 + x) * 256 + 0x0F
abbrev rlOnAfter (x : Nat) : Nat := (0x7200 + x) * 256 + 0x10
abbrev rlPgQual (x : Nat) : Nat := (0x7200 + x) * 256 + 0x11
abbrev rlUv (x : Nat) : Nat := (0x7200 + x) * 256 + 0x12
abbrev rlOv (x : Nat) : Nat := (0x7200 + x) * 256 + 0x13
abbrev rlFaultTime (x : Nat) : Nat := (0x7200 + x) * 256 + 0x14
abbrev rlOcTime (x : Nat) : Nat := (0x7200 + x) * 256 + 0x15
abbrev rlOvTime (x : Nat) : Nat := (0x7200 + x) * 256 + 0x16
abbrev rlRetry (x : Nat) : Nat := (0x7200 + x) * 256 + 0x17
abbrev rlRetryMax (x : Nat) : Nat := (0x7200 + x) * 256 + 0x18
abbrev rlAutoShed (x : Nat) : Nat := (0x7200 + x) * 256 + 0x19
abbrev rlShedBelow (x : Nat) : Nat := (0x7200 + x) * 256 + 0x1A
abbrev rlKeepout (x : Nat) : Nat := (0x7200 + x) * 256 + 0x1B
abbrev rlReaddLevel (x : Nat) : Nat := (0x7200 + x) * 256 + 0x1C
abbrev rlBalGain (x : Nat) : Nat := (0x7200 + x) * 256 + 0x1D
abbrev rlVAcc (x : Nat) : Nat := (0x7200 + x) * 256 + 0x1E
abbrev rlIAcc (x : Nat) : Nat := (0x7200 + x) * 256 + 0x1F
abbrev rlTAcc (x : Nat) : Nat := (0x7200 + x) * 256 + 0x20
abbrev rlTempScale (x : Nat) : Nat := (0x7200 + x) * 256 + 0x21
abbrev rlTempOffset (x : Nat) : Nat := (0x7200 + x) * 256 + 0x22
abbrev rlSpNMv (x n : Nat) : Nat := (0x7220 + x) * 256 + 0x01 + n
abbrev rlSpNPhases (x n : Nat) : Nat := (0x7220 + x) * 256 + 0x11 + n
abbrev rlState (x : Nat) : Nat := (0x7240 + x) * 256 + 0x01
abbrev rlPg (x : Nat) : Nat := (0x7240 + x) * 256 + 0x02
abbrev rlSetpoint (x : Nat) : Nat := (0x7240 + x) * 256 + 0x03
abbrev rlVref (x : Nat) : Nat := (0x7240 + x) * 256 + 0x04
abbrev rlActivePhases (x : Nat) : Nat := (0x7240 + x) * 256 + 0x05
abbrev rlFailedPhases (x : Nat) : Nat := (0x7240 + x) * 256 + 0x06
abbrev rlIlimit (x : Nat) : Nat := (0x7240 + x) * 256 + 0x07
abbrev rlSense (x : Nat) : Nat := (0x7240 + x) * 256 + 0x08
abbrev rlVolts (x : Nat) : Nat := (0x7240 + x) * 256 + 0x09
abbrev rlAmps (x : Nat) : Nat := (0x7240 + x) * 256 + 0x0A
abbrev rlWatts (x : Nat) : Nat := (0x7240 + x) * 256 + 0x0B
abbrev rlAmpsPeak (x : Nat) : Nat := (0x7240 + x) * 256 + 0x0C
abbrev rlWattsPeak (x : Nat) : Nat := (0x7240 + x) * 256 + 0x0D
abbrev rlHeadroom (x : Nat) : Nat := (0x7240 + x) * 256 + 0x0E
abbrev rlFaults (x : Nat) : Nat := (0x7240 + x) * 256 + 0x0F
abbrev rlReadds (x : Nat) : Nat := (0x7240 + x) * 256 + 0x10
abbrev rlPeakClear (x : Nat) : Nat := (0x7240 + x) * 256 + 0x11
abbrev rlLastFault (x : Nat) : Nat := (0x7240 + x) * 256 + 0x12
abbrev rlRetriesLeft (x : Nat) : Nat := (0x7240 + x) * 256 + 0x13
abbrev rlPhaseTempK (x n : Nat) : Nat := (0x7240 + x) * 256 + 0x20 + n
abbrev rlPortRail (n : Nat) : Nat := 0x7280 * 256 + 0x01 + n
abbrev rlVselPins : Nat := 0x7280 * 256 + 0x21
abbrev fdEnable (x : Nat) : Nat := (0x7300 + x) * 256 + 0x01
abbrev fdRequired (x : Nat) : Nat := (0x7300 + x) * 256 + 0x02
abbrev fdIlimit (x : Nat) : Nat := (0x7300 + x) * 256 + 0x03
abbrev fdRsense (x : Nat) : Nat := (0x7300 + x) * 256 + 0x04
abbrev fdOcTime (x : Nat) : Nat := (0x7300 + x) * 256 + 0x05
abbrev fdDvdt (x : Nat) : Nat := (0x7300 + x) * 256 + 0x06
abbrev fdInrushMax (x : Nat) : Nat := (0x7300 + x) * 256 + 0x07
abbrev fdDebounce (x : Nat) : Nat := (0x7300 + x) * 256 + 0x08
abbrev fdSigLo (x : Nat) : Nat := (0x7300 + x) * 256 + 0x09
abbrev fdSigHi (x : Nat) : Nat := (0x7300 + x) * 256 + 0x0A
abbrev fdClassAllow (x : Nat) : Nat := (0x7300 + x) * 256 + 0x0B
abbrev fdHoldMa (x : Nat) : Nat := (0x7300 + x) * 256 + 0x0C
abbrev fdHoldTime (x : Nat) : Nat := (0x7300 + x) * 256 + 0x0D
abbrev fdRetry (x : Nat) : Nat := (0x7300 + x) * 256 + 0x0E
abbrev fdRetryMax (x : Nat) : Nat := (0x7300 + x) * 256 + 0x0F
abbrev fdSoaMode (x : Nat) : Nat := (0x7300 + x) * 256 + 0x10
abbrev fdTAcc (x : Nat) : Nat := (0x7300 + x) * 256 + 0x11
abbrev fdTScale (x : Nat) : Nat := (0x7300 + x) * 256 + 0x12
abbrev fdTOffset (x : Nat) : Nat := (0x7300 + x) * 256 + 0x13
abbrev fdRth1 (x : Nat) : Nat := (0x7300 + x) * 256 + 0x14
abbrev fdTau1 (x : Nat) : Nat := (0x7300 + x) * 256 + 0x15
abbrev fdRth2 (x : Nat) : Nat := (0x7300 + x) * 256 + 0x16
abbrev fdTau2 (x : Nat) : Nat := (0x7300 + x) * 256 + 0x17
abbrev fdTjMax (x : Nat) : Nat := (0x7300 + x) * 256 + 0x18
abbrev fdTmSelect (x : Nat) : Nat := (0x7300 + x) * 256 + 0x19
abbrev fdTjMargin (x : Nat) : Nat := (0x7300 + x) * 256 + 0x1A
abbrev fdRlLimit (x : Nat) : Nat := (0x7300 + x) * 256 + 0x1B
abbrev fdRlCount (x : Nat) : Nat := (0x7300 + x) * 256 + 0x1C
abbrev fdRlHold (x : Nat) : Nat := (0x7300 + x) * 256 + 0x1D
abbrev fdAbort (x : Nat) : Nat := (0x7300 + x) * 256 + 0x1E
abbrev fdRestart (x : Nat) : Nat := (0x7300 + x) * 256 + 0x1F
abbrev fdState (x : Nat) : Nat := (0x7320 + x) * 256 + 0x01
abbrev fdClass (x : Nat) : Nat := (0x7320 + x) * 256 + 0x02
abbrev fdSignature (x : Nat) : Nat := (0x7320 + x) * 256 + 0x03
abbrev fdVin (x : Nat) : Nat := (0x7320 + x) * 256 + 0x04
abbrev fdVout (x : Nat) : Nat := (0x7320 + x) * 256 + 0x05
abbrev fdAmps (x : Nat) : Nat := (0x7320 + x) * 256 + 0x06
abbrev fdTj (x : Nat) : Nat := (0x7320 + x) * 256 + 0x07
abbrev fdLastFault (x : Nat) : Nat := (0x7320 + x) * 256 + 0x08
abbrev fdRetriesLeft (x : Nat) : Nat := (0x7320 + x) * 256 + 0x09
abbrev fdRetryDue (x : Nat) : Nat := (0x7320 + x) * 256 + 0x0A
abbrev fdFaults (x : Nat) : Nat := (0x7320 + x) * 256 + 0x0B
abbrev fdRemovals (x : Nat) : Nat := (0x7320 + x) * 256 + 0x0C
abbrev fdStatus (x : Nat) : Nat := (0x7320 + x) * 256 + 0x0D
abbrev fdRl (x : Nat) : Nat := (0x7320 + x) * 256 + 0x0E
abbrev fdDirectLost (x : Nat) : Nat := (0x7320 + x) * 256 + 0x0F
abbrev fdKill : Nat := 0x7340 * 256 + 0x01
abbrev fdSealed : Nat := 0x7340 * 256 + 0x02
abbrev thLevel : Nat := 0x7400 * 256 + 0x01
abbrev thGoverning : Nat := 0x7400 * 256 + 0x02
abbrev thRequest : Nat := 0x7400 * 256 + 0x03
abbrev thGrace : Nat := 0x7400 * 256 + 0x04
abbrev thEnforce : Nat := 0x7400 * 256 + 0x05
abbrev thBackoff : Nat := 0x7400 * 256 + 0x06
abbrev thBackoffRate : Nat := 0x7400 * 256 + 0x07
abbrev thBackoffMax : Nat := 0x7400 * 256 + 0x08
abbrev thStepTime : Nat := 0x7400 * 256 + 0x09
abbrev thShedOrder : Nat := 0x7400 * 256 + 0x0A
abbrev thShedCount : Nat := 0x7400 * 256 + 0x0B
abbrev thSubstHold : Nat := 0x7400 * 256 + 0x0C
abbrev thHeld : Nat := 0x7400 * 256 + 0x0D
abbrev thXcheckTol : Nat := 0x7400 * 256 + 0x0E
abbrev thXcheckCount : Nat := 0x7400 * 256 + 0x0F
abbrev thRecoverCount : Nat := 0x7400 * 256 + 0x10
abbrev thLearn : Nat := 0x7400 * 256 + 0x11
abbrev thThrottles : Nat := 0x7400 * 256 + 0x12
abbrev thShutdowns : Nat := 0x7400 * 256 + 0x13
abbrev thWarn (x : Nat) : Nat := (0x7420 + x) * 256 + 0x01
abbrev thWarnHyst (x : Nat) : Nat := (0x7420 + x) * 256 + 0x02
abbrev thThrottle (x : Nat) : Nat := (0x7420 + x) * 256 + 0x03
abbrev thThrottleHyst (x : Nat) : Nat := (0x7420 + x) * 256 + 0x04
abbrev thShutdown (x : Nat) : Nat := (0x7420 + x) * 256 + 0x05
abbrev thShutdownHyst (x : Nat) : Nat := (0x7420 + x) * 256 + 0x06
abbrev thTemp (n : Nat) : Nat := 0x7410 * 256 + 0x01 + n
abbrev thRaw (n : Nat) : Nat := 0x7411 * 256 + 0x01 + n
abbrev thStatus (n : Nat) : Nat := 0x7412 * 256 + 0x01 + n
abbrev thZone (n : Nat) : Nat := 0x7413 * 256 + 0x01 + n
abbrev thNbrs (n : Nat) : Nat := 0x7414 * 256 + 0x01 + n
abbrev thOffsets (n : Nat) : Nat := 0x7415 * 256 + 0x01 + n
abbrev thSensorLevel (n : Nat) : Nat := 0x7416 * 256 + 0x01 + n
abbrev thFails (n : Nat) : Nat := 0x7417 * 256 + 0x01 + n
abbrev thExtAcc (n : Nat) : Nat := 0x7418 * 256 + 0x31 + n
abbrev thExtScale (n : Nat) : Nat := 0x7419 * 256 + 0x31 + n
abbrev thExtOffset (n : Nat) : Nat := 0x741A * 256 + 0x31 + n
abbrev fltReactK (n : Nat) : Nat := 0x7500 * 256 + 0x01 + n
abbrev fltMajorHold : Nat := 0x7500 * 256 + 0x06
abbrev fltSevereCount : Nat := 0x7500 * 256 + 0x07
abbrev fltClear : Nat := 0x7500 * 256 + 0x08
abbrev fltClearAll : Nat := 0x7500 * 256 + 0x09
abbrev fltStopped : Nat := 0x7500 * 256 + 0x0A
abbrev fltSealedCount : Nat := 0x7500 * 256 + 0x0B
abbrev fltSticky : Nat := 0x7500 * 256 + 0x0C
abbrev fltStickyClear : Nat := 0x7500 * 256 + 0x0D
abbrev fltAlertMask : Nat := 0x7500 * 256 + 0x0E
abbrev fltTotal : Nat := 0x7500 * 256 + 0x0F
abbrev fltEscN (n : Nat) : Nat := 0x7510 * 256 + 0x00 + n
abbrev fltEscWindow (n : Nat) : Nat := 0x7511 * 256 + 0x00 + n
abbrev fcCount (kind i : Nat) : Nat := (0x7540 + 2 * kind + i / 256) * 256 + i % 256
abbrev fcState (kind i : Nat) : Nat := (0x7580 + 2 * kind + i / 256) * 256 + i % 256
abbrev recNext : Nat := 0x7600 * 256 + 0x01
abbrev recOldest : Nat := 0x7600 * 256 + 0x02
abbrev recCursor : Nat := 0x7600 * 256 + 0x03
abbrev recRecord : Nat := 0x7600 * 256 + 0x04
abbrev recPermUsed : Nat := 0x7600 * 256 + 0x05
abbrev recPermCursor : Nat := 0x7600 * 256 + 0x06
abbrev recPermRecord : Nat := 0x7600 * 256 + 0x07
abbrev recBuffered : Nat := 0x7600 * 256 + 0x08
abbrev recFlush : Nat := 0x7600 * 256 + 0x09
abbrev recLoglost : Nat := 0x7600 * 256 + 0x0A
abbrev recDropped : Nat := 0x7600 * 256 + 0x0B
abbrev recPermFull : Nat := 0x7600 * 256 + 0x0C
abbrev recPowerCycles : Nat := 0x7600 * 256 + 0x0D
abbrev recOpTime : Nat := 0x7600 * 256 + 0x0E
abbrev recPfailFlush : Nat := 0x7600 * 256 + 0x0F
abbrev galState : Nat := 0x7700 * 256 + 0x01
abbrev galArm : Nat := 0x7700 * 256 + 0x02
/-- DEDUCED, log entry 17. -/
abbrev galTrigger : Nat := 0x7700 * 256 + 0x03
abbrev galAbort : Nat := 0x7700 * 256 + 0x04
abbrev galRelease : Nat := 0x7700 * 256 + 0x05
abbrev galAutoRearm : Nat := 0x7700 * 256 + 0x06
abbrev galPre : Nat := 0x7700 * 256 + 0x07
abbrev galPost : Nat := 0x7700 * 256 + 0x08
abbrev galFaultClass : Nat := 0x7700 * 256 + 0x09
abbrev galFaultSource : Nat := 0x7700 * 256 + 0x0A
abbrev galHmPorts : Nat := 0x7700 * 256 + 0x0B
abbrev galLaunch : Nat := 0x7700 * 256 + 0x0C
abbrev galMode : Nat := 0x7700 * 256 + 0x0D
abbrev galFormat : Nat := 0x7700 * 256 + 0x0E
abbrev galNumber : Nat := 0x7700 * 256 + 0x0F
abbrev galSettled : Nat := 0x7700 * 256 + 0x10
abbrev galReasons : Nat := 0x7700 * 256 + 0x11
abbrev galTag : Nat := 0x7700 * 256 + 0x12
abbrev galTriggerTb : Nat := 0x7700 * 256 + 0x13
abbrev galPreActual : Nat := 0x7700 * 256 + 0x14
abbrev galStatus : Nat := 0x7700 * 256 + 0x15
abbrev galDriveState : Nat := 0x7700 * 256 + 0x16
abbrev galLink : Nat := 0x7700 * 256 + 0x17
abbrev galSlots : Nat := 0x7700 * 256 + 0x18
abbrev galUsed : Nat := 0x7700 * 256 + 0x19
abbrev galIgnored : Nat := 0x7700 * 256 + 0x1A
abbrev galLost : Nat := 0x7700 * 256 + 0x1B
abbrev galSrcN (n : Nat) : Nat := 0x7700 * 256 + 0x21 + n
abbrev galWrapN (n : Nat) : Nat := 0x7700 * 256 + 0x31 + n
abbrev hostLink : Nat := 0x7800 * 256 + 0x01
abbrev hostRetrains : Nat := 0x7800 * 256 + 0x02
abbrev hostDmaCap : Nat := 0x7800 * 256 + 0x03
abbrev hostDmaLoad : Nat := 0x7800 * 256 + 0x04
abbrev hostNtfDropped : Nat := 0x7800 * 256 + 0x05
abbrev hostIfResets : Nat := 0x7800 * 256 + 0x06
abbrev hostAerCorr : Nat := 0x7800 * 256 + 0x07
abbrev hostAerUncorr : Nat := 0x7800 * 256 + 0x08
abbrev dmaSource (x : Nat) : Nat := (0x7810 + x) * 256 + 0x01
abbrev dmaDecim (x : Nat) : Nat := (0x7810 + x) * 256 + 0x02
abbrev dmaRingBase (x : Nat) : Nat := (0x7810 + x) * 256 + 0x03
abbrev dmaRingBlocks (x : Nat) : Nat := (0x7810 + x) * 256 + 0x04
abbrev dmaOverflow (x : Nat) : Nat := (0x7810 + x) * 256 + 0x05
abbrev dmaIrqBlocks (x : Nat) : Nat := (0x7810 + x) * 256 + 0x06
abbrev dmaRun (x : Nat) : Nat := (0x7810 + x) * 256 + 0x07
abbrev dmaState (x : Nat) : Nat := (0x7810 + x) * 256 + 0x08
abbrev dmaBlocks (x : Nat) : Nat := (0x7810 + x) * 256 + 0x09
abbrev dmaDropped (x : Nat) : Nat := (0x7810 + x) * 256 + 0x0A
abbrev dmaRate (x : Nat) : Nat := (0x7810 + x) * 256 + 0x0B
abbrev secState : Nat := 0x7900 * 256 + 0x01
abbrev secIdPub : Nat := 0x7900 * 256 + 0x02
abbrev secRoots : Nat := 0x7900 * 256 + 0x03
abbrev secRootInstall : Nat := 0x7900 * 256 + 0x04
abbrev secCredInstall : Nat := 0x7900 * 256 + 0x05
abbrev secCredLevels : Nat := 0x7900 * 256 + 0x06
abbrev secUnlock : Nat := 0x7900 * 256 + 0x07
abbrev secChallenge : Nat := 0x7900 * 256 + 0x08
abbrev secResponse : Nat := 0x7900 * 256 + 0x09
abbrev secAuthStatus : Nat := 0x7900 * 256 + 0x0A
abbrev secAuthFails : Nat := 0x7900 * 256 + 0x0B
abbrev secLockoutEnd : Nat := 0x7900 * 256 + 0x0C
abbrev secPermitInstall : Nat := 0x7900 * 256 + 0x0D
abbrev secRevoke : Nat := 0x7900 * 256 + 0x0E
abbrev secFwOffset : Nat := 0x7900 * 256 + 0x10
abbrev secFwWrite : Nat := 0x7900 * 256 + 0x11
abbrev secFwCommit : Nat := 0x7900 * 256 + 0x12
abbrev secFwStatus : Nat := 0x7900 * 256 + 0x13
abbrev secFwConfirm : Nat := 0x7900 * 256 + 0x14
abbrev secFwSvn : Nat := 0x7900 * 256 + 0x15
abbrev secFwSlot : Nat := 0x7900 * 256 + 0x16
abbrev secRootPubN (n : Nat) : Nat := 0x7901 * 256 + 0x01 + n
abbrev secRevSeqN (n : Nat) : Nat := 0x7902 * 256 + 0x01 + n
abbrev secPermit (n : Nat) : Nat := 0x7910 * 256 + 0x01 + n
abbrev secPermitState (n : Nat) : Nat := 0x7911 * 256 + 0x01 + n
abbrev secChPermit (c : Nat) : Nat := (0x7930 + c / 256) * 256 + c % 256
abbrev pdBootStage : Nat := 0x7A00 * 256 + 0x01
abbrev pdLastReset : Nat := 0x7A00 * 256 + 0x02
abbrev pdReadyTime : Nat := 0x7A00 * 256 + 0x03
abbrev pdReplayTime : Nat := 0x7A00 * 256 + 0x04
abbrev pdRepairGen : Nat := 0x7A00 * 256 + 0x05
abbrev pdRepair : Nat := 0x7A00 * 256 + 0x06
abbrev pdSleepStale : Nat := 0x7A00 * 256 + 0x07
abbrev pdWarmResets : Nat := 0x7A00 * 256 + 0x08
abbrev pdHold (n : Nat) : Nat := 0x7A10 * 256 + 0x01 + n
abbrev pdState (n : Nat) : Nat := 0x7A11 * 256 + 0x01 + n
abbrev pdReturn (n : Nat) : Nat := 0x7A20 * 256 + 0x01 + n
abbrev pdFingerprint (n : Nat) : Nat := 0x7A21 * 256 + 0x01 + n
abbrev stRun : Nat := 0x7B00 * 256 + 0x01
abbrev stAbort : Nat := 0x7B00 * 256 + 0x02
abbrev stState : Nat := 0x7B00 * 256 + 0x03
abbrev stBlock : Nat := 0x7B00 * 256 + 0x04
abbrev stStep : Nat := 0x7B00 * 256 + 0x05
abbrev stLed : Nat := 0x7B00 * 256 + 0x06
abbrev stPanelBlock : Nat := 0x7B00 * 256 + 0x07
abbrev stFails : Nat := 0x7B00 * 256 + 0x08
abbrev mtrSource (x : Nat) : Nat := (0x7B01 + x) * 256 + 0x01
abbrev mtrScale (x : Nat) : Nat := (0x7B01 + x) * 256 + 0x02
abbrev mtrOffset (x : Nat) : Nat := (0x7B01 + x) * 256 + 0x03
abbrev mtrVolts (x : Nat) : Nat := (0x7B01 + x) * 256 + 0x04
abbrev mtrStatus (x : Nat) : Nat := (0x7B01 + x) * 256 + 0x05
abbrev keyMode (x : Nat) : Nat := (0x7B10 + x) * 256 + 0x01
abbrev keyFunction (x : Nat) : Nat := (0x7B10 + x) * 256 + 0x02
abbrev keyDebounce (x : Nat) : Nat := (0x7B10 + x) * 256 + 0x03
abbrev keyThreshold (x : Nat) : Nat := (0x7B10 + x) * 256 + 0x04
abbrev keyState (x : Nat) : Nat := (0x7B10 + x) * 256 + 0x05
abbrev keyPresses (x : Nat) : Nat := (0x7B10 + x) * 256 + 0x06
abbrev ledSource (n : Nat) : Nat := 0x7B20 * 256 + 0x01 + n
abbrev ledLevels : Nat := 0x7B20 * 256 + 0x11
abbrev banState : Nat := 0x7B30 * 256 + 0x01
abbrev banEnd : Nat := 0x7B30 * 256 + 0x02
abbrev banTime : Nat := 0x7B30 * 256 + 0x03
abbrev banFeeds : Nat := 0x7B30 * 256 + 0x04
abbrev banPress : Nat := 0x7B30 * 256 + 0x05
abbrev banCount : Nat := 0x7B30 * 256 + 0x06
abbrev rpNote : Nat := 0x7B40 * 256 + 0x01
abbrev rpEntry (n : Nat) : Nat := 0x7B41 * 256 + 0x01 + n
abbrev ltEntry (n : Nat) : Nat := (0x2110 + n / 256) * 256 + n % 256
abbrev ltStatus (n : Nat) : Nat := (0x2120 + n / 256) * 256 + n % 256
abbrev patSeg (p g : Nat) : Nat := (0x2190 + p) * 256 + g
abbrev patAction (p a : Nat) : Nat := (0x21A0 + p) * 256 + a
abbrev patPlaced (p a : Nat) : Nat := (0x21A0 + p) * 256 + a + 0x40

end Sys2Proof.Machine.K
end

