-- ==== Sys2Proof/Machine/Tab.lean ====
section
/-! DEFINITION. Sparse tables: the state of numbered things (dictionary objects, ports, channels, masters, entries)
as a list of (number, value) pairs in one canonical form, like Host.Cell. What an unlisted number reads as is the
table's default function. -/

namespace Sys2Proof.Machine

/-- A sparse table: pairs in strictly rising key order, no entry equal to what its key reads as when unlisted. -/
abbrev Tab (α : Type) := List (Nat × α)

/-- The value listed under k, if any. -/
def Tab.find? {α : Type} : Tab α → Nat → Option α
  | [], _ => none
  | (j, v) :: t, k => if j = k then some v else Tab.find? t k

/-- The value of k: the listed one, or the default of k. -/
def Tab.get {α : Type} (d : Nat → α) (t : Tab α) (k : Nat) : α :=
  match Tab.find? t k with
  | some v => v
  | none => d k

/-- Insert or replace the pair of k, keeping the keys rising. -/
def Tab.insert {α : Type} (k : Nat) (v : α) : Tab α → Tab α
  | [] => [(k, v)]
  | (j, w) :: t => if k < j then (k, v) :: (j, w) :: t else if j = k then (k, v) :: t else (j, w) :: Tab.insert k v t

/-- Remove every pair of k. -/
def Tab.erase {α : Type} (k : Nat) : Tab α → Tab α
  | [] => []
  | (j, w) :: t => if j = k then Tab.erase k t else (j, w) :: Tab.erase k t

/-- Write v under k; writing the default removes the entry, so that equal tables are equal data. -/
def Tab.put {α : Type} [DecidableEq α] (d : Nat → α) (k : Nat) (v : α) (t : Tab α) : Tab α :=
  if v = d k then Tab.erase k t else Tab.insert k v t

/-- Change the value of k by f. -/
def Tab.upd {α : Type} [DecidableEq α] (d : Nat → α) (k : Nat) (f : α → α) (t : Tab α) : Tab α :=
  Tab.put d k (f (Tab.get d t k)) t

/-- Keys strictly rising. -/
def Tab.sorted {α : Type} : Tab α → Bool
  | [] => true
  | [_] => true
  | (j, _) :: (k, w) :: t => decide (j < k) && Tab.sorted ((k, w) :: t)

/-- The canonical form: keys strictly rising and no entry equal to its default. -/
def Tab.wf {α : Type} [DecidableEq α] (d : Nat → α) (t : Tab α) : Bool :=
  Tab.sorted t && t.all (fun e => decide (e.2 ≠ d e.1))

end Sys2Proof.Machine
end

