-- ==== Sys2Proof/Machine/Dict.lean ====
section
/-! DEFINITION. The object dictionary (R30 to R36): one row per object of the tables of spec/, with its eight fixed
attributes, the indices and sub-indices it stands at, and the check its written values must pass. -/

namespace Sys2Proof.Machine

/-- Base types (Table 2-1). -/
inductive Ty where
  | bool | u8 | u16 | u32 | u64 | i8 | i16 | i32 | i64 | q16 | tb64 | ot48 | str | blob
  deriving DecidableEq, Repr

/-- Access rights (Table 2-2). -/
inductive Access where
  | ro | rw | rwv | wo | cmd
  deriving DecidableEq, Repr

/-- Persistence classes (Table 2-3). -/
inductive Persist where
  | v | p | j
  deriving DecidableEq, Repr

/-- The valid values of an object beyond its type (the range column of its row or the rule named there). -/
inductive Chk where
  | any | eq (n : Int) | range (lo hi : Int) | rangeOr (lo hi other : Int) | step (lo hi by_ : Int) | oneOf (vs : List Int)
  | lenRange (lo hi : Nat) | sourcePriority | donorPci | todNext | tbOrNone | tbValid | ref0 | geLoops | lut | interleave
  | tmCal | tmEntry | railPhases | react | galSource | dmaSource | pow2 | mtrSource | ledSource | shedOrder | launchEntry
  | segWord | patAction
  deriving DecidableEq, Repr

/-- One object, or one block of like objects, of the dictionary. Instance i stands at index base + i * stride,
for i below count, at every sub-index from subLo to subHi. -/
structure ObjRow where
  base : Nat
  stride : Nat
  count : Nat
  subLo : Nat
  subHi : Nat
  ty : Ty
  access : Access
  level : Nat
  dflt : Int
  persist : Persist
  unit : String
  nameA : String
  nameVar : Nat
  nameFrom : Nat
  nameB : String
  maxLen : Nat
  chk : Chk
  deriving DecidableEq, Repr

/-- Table 0-2 of spec/, one row per object of the table. -/
def rows0_2 : List ObjRow := [
  ⟨0x1000, 1, 1, 0x01, 0x01, .str, .ro, 0, 0, .v, "", "id.part", 0, 0, "", 7, .any⟩,
  ⟨0x1000, 1, 1, 0x02, 0x02, .str, .ro, 0, 0, .v, "", "id.silicon", 0, 0, "", 2, .any⟩,
  ⟨0x1000, 1, 1, 0x03, 0x03, .str, .ro, 0, 0, .v, "", "id.grade", 0, 0, "", 1, .any⟩,
  ⟨0x1000, 1, 1, 0x04, 0x04, .u64, .ro, 0, 0, .v, "", "id.serial", 0, 0, "", 8, .any⟩,
  ⟨0x1000, 1, 1, 0x05, 0x05, .u32, .ro, 0, 0, .v, "", "id.fw_version", 0, 0, "", 4, .any⟩,
  ⟨0x1000, 1, 1, 0x06, 0x06, .u32, .ro, 0, 0, .v, "", "id.fw_build", 0, 0, "", 4, .any⟩]

/-- Table 1-5 of spec/, one row per object of the table. -/
def rows1_5 : List ObjRow := [
  ⟨0x1001, 1, 1, 0x01, 0x01, .u16, .ro, 0, 0, .v, "", "die.core.status", 0, 0, "", 2, .any⟩,
  ⟨0x1001, 1, 1, 0x02, 0x02, .u16, .ro, 0, 0, .v, "", "die.wing0.status", 0, 0, "", 2, .any⟩,
  ⟨0x1001, 1, 1, 0x03, 0x03, .u16, .ro, 0, 0, .v, "", "die.wing1.status", 0, 0, "", 2, .any⟩,
  ⟨0x1001, 1, 1, 0x04, 0x04, .u16, .ro, 0, 0, .v, "", "die.wing2.status", 0, 0, "", 2, .any⟩,
  ⟨0x1001, 1, 1, 0x05, 0x05, .u16, .ro, 0, 0, .v, "", "die.wing3.status", 0, 0, "", 2, .any⟩,
  ⟨0x1001, 1, 1, 0x06, 0x06, .u16, .ro, 0, 0, .v, "", "die.pands.status", 0, 0, "", 2, .any⟩,
  ⟨0x1001, 1, 1, 0x07, 0x07, .u16, .ro, 0, 0, .v, "", "clk.status", 0, 0, "", 2, .any⟩,
  ⟨0x1001, 1, 1, 0x08, 0x08, .u32, .ro, 0, 0, .p, "events", "clk.refclk_loss_count", 0, 0, "", 4, .any⟩,
  ⟨0x1001, 1, 1, 0x09, 0x09, .u32, .ro, 0, 0, .v, "events", "die.bus_error_count", 0, 0, "", 4, .any⟩]

/-- Table 2-12 of spec/, one row per object of the table. -/
def rows2_12 : List ObjRow := [
  ⟨0x1010, 1, 1, 0x01, 0x01, .u8, .rw, 2, 16, .p, "", "dz.cana.node", 0, 0, "", 1, .range 1 254⟩,
  ⟨0x1010, 1, 1, 0x02, 0x02, .u8, .rw, 2, 16, .p, "", "dz.canb.node", 0, 0, "", 1, .range 1 254⟩,
  ⟨0x1010, 1, 1, 0x03, 0x03, .u32, .rw, 2, 2000000, .p, "bit/s", "dz.cana.data_rate", 0, 0, "", 4, .oneOf [1000000, 2000000, 4000000, 5000000, 8000000]⟩,
  ⟨0x1010, 1, 1, 0x04, 0x04, .u32, .rw, 2, 2000000, .p, "bit/s", "dz.canb.data_rate", 0, 0, "", 4, .oneOf [1000000, 2000000, 4000000, 5000000, 8000000]⟩,
  ⟨0x1010, 1, 1, 0x05, 0x05, .u32, .rw, 2, 500000, .p, "bit/s", "dz.can.nominal_rate", 0, 0, "", 4, .oneOf [125000, 250000, 500000, 1000000]⟩,
  ⟨0x1010, 1, 1, 0x06, 0x06, .u8, .cmd, 1, 0, .v, "", "dz.cana.reset", 0, 0, "", 1, .eq 1⟩,
  ⟨0x1010, 1, 1, 0x07, 0x07, .u8, .cmd, 1, 0, .v, "", "dz.canb.reset", 0, 0, "", 1, .eq 1⟩,
  ⟨0x1010, 1, 1, 0x08, 0x08, .u16, .rw, 2, 60, .p, "s", "dz.can.bind_idle", 0, 0, "", 2, .range 1 3600⟩,
  ⟨0x1020, 1, 1, 0x01, 0x01, .u32, .rw, 2, 115200, .p, "bit/s", "con.baud", 0, 0, "", 4, .range 9600 3000000⟩,
  ⟨0x1020, 1, 1, 0x02, 0x02, .bool, .rw, 0, 1, .p, "", "con.echo", 0, 0, "", 1, .any⟩,
  ⟨0x1030, 1, 1, 0x01, 0x01, .u8, .rw, 3, 2, .p, "level", "acc.tunnel_cap", 0, 0, "", 1, .range 0 3⟩,
  ⟨0x1030, 1, 1, 0x02, 0x02, .u32, .rw, 2, 900, .p, "s", "acc.idle_relock", 0, 0, "", 4, .range 10 86400⟩,
  ⟨0x1030, 1, 1, 0x03, 0x03, .u32, .ro, 0, 0, .p, "events", "acc.freeze_count", 0, 0, "", 4, .any⟩]

/-- Table 2-13 of spec/, one row per object of the table. -/
def rows2_13 : List ObjRow := [
  ⟨0x1100, 1, 72, 0x01, 0x01, .u16, .ro, 0, 0, .v, "", "mr.ident", 0, 0, "", 2, .any⟩,
  ⟨0x1100, 1, 72, 0x02, 0x02, .u8, .ro, 0, 0, .v, "level", "mr.level", 0, 0, "", 1, .any⟩,
  ⟨0x1100, 1, 72, 0x03, 0x03, .u8, .ro, 0, 0, .v, "", "mr.frozen", 0, 0, "", 1, .any⟩,
  ⟨0x1100, 1, 72, 0x04, 0x04, .u8, .cmd, 1, 0, .v, "", "mr.unfreeze", 0, 0, "", 1, .eq 1⟩,
  ⟨0x1100, 1, 72, 0x05, 0x05, .u32, .rw, 3, 0, .p, "requests/s", "mr.allowance", 0, 0, "", 4, .range 1 1000000⟩,
  ⟨0x1100, 1, 72, 0x06, 0x06, .u16, .rw, 3, 0, .p, "requests", "mr.burst", 0, 0, "", 2, .range 1 4096⟩,
  ⟨0x1100, 1, 72, 0x07, 0x07, .u64, .ro, 0, 0, .v, "requests", "mr.requests", 0, 0, "", 8, .any⟩,
  ⟨0x1100, 1, 72, 0x08, 0x08, .u32, .ro, 0, 0, .p, "events", "mr.violations", 0, 0, "", 4, .any⟩,
  ⟨0x1100, 1, 72, 0x09, 0x09, .u8, .rw, 1, 28, .p, "", "mr.notify_mask", 0, 0, "", 1, .any⟩,
  ⟨0x1100, 1, 72, 0x0A, 0x0A, .u8, .ro, 0, 0, .v, "level", "mr.frozen_level", 0, 0, "", 1, .any⟩]

/-- Table 3-8 of spec/, one row per object of the table. -/
def rows3_8 : List ObjRow := [
  ⟨0x2000, 1, 1, 0x01, 0x01, .tb64, .ro, 0, 0, .v, "", "tb.now", 0, 0, "", 8, .any⟩,
  ⟨0x2000, 1, 1, 0x02, 0x02, .u8, .ro, 0, 1, .v, "", "tb.state", 0, 0, "", 1, .any⟩,
  ⟨0x2000, 1, 1, 0x03, 0x03, .u8, .ro, 0, 4, .v, "", "tb.source.selected", 0, 0, "", 1, .any⟩,
  ⟨0x2000, 1, 1, 0x04, 0x04, .bool, .ro, 0, 0, .v, "", "tb.trace", 0, 0, "", 1, .any⟩,
  ⟨0x2000, 1, 1, 0x05, 0x05, .i32, .ro, 0, 0, .v, "ticks", "tb.phase_error", 0, 0, "", 4, .any⟩,
  ⟨0x2000, 1, 1, 0x06, 0x06, .q16, .ro, 0, 0, .v, "ppb", "tb.freq_offset", 0, 0, "", 4, .any⟩,
  ⟨0x2000, 1, 1, 0x07, 0x07, .u32, .ro, 0, 0, .v, "ms", "tb.holdover.elapsed", 0, 0, "", 4, .any⟩,
  ⟨0x2000, 1, 1, 0x08, 0x08, .u32, .ro, 0, 0, .v, "ticks", "tb.holdover.uncertainty", 0, 0, "", 4, .any⟩,
  ⟨0x2000, 1, 1, 0x09, 0x09, .u32, .ro, 0, 0, .v, "events", "tb.step_count", 0, 0, "", 4, .any⟩,
  ⟨0x2000, 1, 1, 0x0A, 0x0A, .i64, .ro, 0, 0, .v, "ticks", "tb.last_step", 0, 0, "", 8, .any⟩,
  ⟨0x2000, 1, 1, 0x0B, 0x0B, .u64, .ro, 0, 0, .v, "events", "tb.slew_count", 0, 0, "", 8, .any⟩,
  ⟨0x2000, 1, 1, 0x0C, 0x0C, .tb64, .ro, 0, 18446744073709551615, .v, "", "tb.step_pending", 0, 0, "", 8, .any⟩,
  ⟨0x2010, 1, 1, 0x01, 0x01, .u16, .rw, 2, 4660, .p, "", "tb.source.priority", 0, 0, "", 2, .sourcePriority⟩,
  ⟨0x2010, 1, 1, 0x02, 0x02, .u16, .rw, 2, 10, .p, "s", "tb.source.revert", 0, 0, "", 2, .any⟩,
  ⟨0x2010, 1, 1, 0x03, 0x03, .u32, .rw, 2, 64, .p, "ticks", "tb.step_threshold", 0, 0, "", 4, .range 2 12288⟩,
  ⟨0x2010, 1, 1, 0x04, 0x04, .u8, .rw, 2, 3, .p, "frames", "tb.jump_confirm", 0, 0, "", 1, .range 1 100⟩,
  ⟨0x2010, 1, 1, 0x05, 0x05, .u32, .rw, 2, 5000, .p, "ppb", "tb.slew_max", 0, 0, "", 4, .range 10 20000⟩,
  ⟨0x2010, 1, 1, 0x06, 0x06, .q16, .rw, 2, 6554, .p, "Hz", "tb.loop.bandwidth", 0, 0, "", 4, .range 655 655360⟩,
  ⟨0x2010, 1, 1, 0x07, 0x07, .q16, .rw, 2, 65536, .p, "", "tb.loop.damping", 0, 0, "", 4, .range 32768 262144⟩,
  ⟨0x2010, 1, 1, 0x08, 0x08, .q16, .rw, 2, 402653, .p, "ticks/s", "tb.holdover.drift_rate", 0, 0, "", 4, .range 655 655360000⟩,
  ⟨0x2010, 1, 1, 0x09, 0x09, .u32, .rw, 2, 1229, .p, "ticks", "tb.holdover.budget", 0, 0, "", 4, .range 1 12288⟩,
  ⟨0x2010, 1, 1, 0x0A, 0x0A, .i64, .cmd, 2, 0, .v, "ticks", "tb.adjust", 0, 0, "", 8, .any⟩]

/-- Table 3-9 of spec/, one row per object of the table. -/
def rows3_9 : List ObjRow := [
  ⟨0x2020, 1, 1, 0x01, 0x01, .u16, .rw, 2, 0, .p, "", "tb.donor.channel", 0, 0, "", 2, .range 0 511⟩,
  ⟨0x2020, 1, 1, 0x02, 0x02, .u8, .rw, 2, 0, .p, "", "tb.donor.mode", 0, 0, "", 1, .range 0 1⟩,
  ⟨0x2020, 1, 1, 0x03, 0x03, .u16, .rw, 2, 0, .p, "", "tb.donor.pci", 0, 0, "", 2, .donorPci⟩,
  ⟨0x2020, 1, 1, 0x04, 0x04, .u8, .rw, 2, 20, .p, "ms", "tb.donor.ssb_period", 0, 0, "", 1, .oneOf [10, 20, 40, 80, 160]⟩,
  ⟨0x2020, 1, 1, 0x05, 0x05, .u32, .rw, 2, 0, .p, "ticks", "tb.donor.ssb_offset", 0, 0, "", 4, .range 0 12287999⟩,
  ⟨0x2020, 1, 1, 0x06, 0x06, .u8, .rw, 2, 30, .p, "kHz", "tb.donor.scs", 0, 0, "", 1, .oneOf [15, 30]⟩,
  ⟨0x2020, 1, 1, 0x07, 0x07, .i32, .rw, 2, 0, .p, "ticks", "tb.donor.delay_comp", 0, 0, "", 4, .any⟩,
  ⟨0x2020, 1, 1, 0x08, 0x08, .q16, .rw, 2, 393216, .p, "dB", "tb.donor.min_metric", 0, 0, "", 4, .any⟩,
  ⟨0x2020, 1, 1, 0x09, 0x09, .q16, .ro, 0, 0, .v, "dB", "tb.donor.metric", 0, 0, "", 4, .any⟩,
  ⟨0x2020, 1, 1, 0x0A, 0x0A, .u8, .ro, 0, 0, .v, "", "tb.donor.state", 0, 0, "", 1, .any⟩,
  ⟨0x2030, 1, 1, 0x01, 0x01, .u8, .rw, 2, 0, .p, "", "tb.pps.edge", 0, 0, "", 1, .range 0 1⟩,
  ⟨0x2030, 1, 1, 0x02, 0x02, .i32, .rw, 2, 0, .p, "ticks", "tb.pps.delay_comp", 0, 0, "", 4, .any⟩,
  ⟨0x2030, 1, 1, 0x03, 0x03, .tb64, .rw, 1, 18446744073709551615, .v, "", "tb.tod.next", 0, 0, "", 8, .todNext⟩,
  ⟨0x2030, 1, 1, 0x04, 0x04, .u32, .ro, 0, 0, .v, "events", "tb.pps.missed", 0, 0, "", 4, .any⟩,
  ⟨0x2030, 1, 1, 0x05, 0x05, .u8, .ro, 0, 0, .v, "", "tb.pps.state", 0, 0, "", 1, .any⟩]

/-- Table 3-10 of spec/, one row per object of the table. -/
def rows3_10 : List ObjRow := [
  ⟨0x2040, 1, 1, 0x01, 0x01, .u16, .rw, 2, 0, .p, "", "stw.addr", 0, 0, "", 2, .range 0 511⟩,
  ⟨0x2040, 1, 1, 0x02, 0x02, .u8, .rw, 2, 0, .p, "", "stw.role", 0, 0, "", 1, .range 0 2⟩,
  ⟨0x2040, 1, 1, 0x03, 0x03, .u8, .ro, 0, 255, .v, "", "stw.depth", 0, 0, "", 1, .any⟩,
  ⟨0x2040, 1, 1, 0x04, 0x04, .u16, .ro, 0, 0, .v, "", "stw.newel", 0, 0, "", 2, .any⟩,
  ⟨0x2040, 1, 1, 0x05, 0x05, .u16, .ro, 0, 0, .v, "", "stw.census", 0, 0, "", 2, .any⟩,
  ⟨0x2040, 1, 1, 0x06, 0x06, .bool, .ro, 0, 0, .v, "", "stw.conflict", 0, 0, "", 1, .any⟩,
  ⟨0x2040, 1, 1, 0x07, 0x07, .bool, .ro, 0, 0, .v, "", "stw.partition", 0, 0, "", 1, .any⟩,
  ⟨0x2048, 1, 3, 0x01, 0x01, .u8, .ro, 0, 0, .v, "", "stw.link", 2, 0, ".state", 1, .any⟩,
  ⟨0x2048, 1, 3, 0x02, 0x02, .bool, .rw, 2, 1, .p, "", "stw.link", 2, 0, ".enable", 1, .any⟩,
  ⟨0x2048, 1, 3, 0x03, 0x03, .u32, .ro, 0, 0, .v, "ticks", "stw.link", 2, 0, ".delay", 4, .any⟩,
  ⟨0x2048, 1, 3, 0x04, 0x04, .i32, .rw, 2, 0, .p, "ticks", "stw.link", 2, 0, ".asym", 4, .any⟩,
  ⟨0x2048, 1, 3, 0x05, 0x05, .u32, .ro, 0, 0, .v, "events", "stw.link", 2, 0, ".crc_errors", 4, .any⟩,
  ⟨0x2048, 1, 3, 0x06, 0x06, .u32, .ro, 0, 0, .p, "events", "stw.link", 2, 0, ".retrains", 4, .any⟩,
  ⟨0x2048, 1, 3, 0x07, 0x07, .u8, .cmd, 1, 0, .v, "", "stw.link", 2, 0, ".retrain", 1, .eq 1⟩,
  ⟨0x2050, 1, 1, 0x01, 0x01, .tb64, .cmd, 1, 0, .v, "", "snap.local", 0, 0, "", 8, .tbOrNone⟩,
  ⟨0x2050, 1, 1, 0x02, 0x02, .tb64, .cmd, 1, 0, .v, "", "snap.system", 0, 0, "", 8, .tbValid⟩,
  ⟨0x2050, 1, 1, 0x03, 0x03, .tb64, .ro, 0, 18446744073709551615, .v, "", "snap.tick", 0, 0, "", 8, .any⟩,
  ⟨0x2050, 1, 1, 0x04, 0x04, .u32, .ro, 0, 0, .v, "", "snap.seq", 0, 0, "", 4, .any⟩,
  ⟨0x2050, 1, 1, 0x05, 0x05, .bool, .ro, 0, 0, .v, "", "snap.late", 0, 0, "", 1, .any⟩]

/-- Table 4-1 of spec/, one row per object of the table. -/
def rows4_1 : List ObjRow := [
  ⟨0x2110, 1, 16, 0x00, 0xFF, .blob, .rwv, 2, 0, .j, "", "", 0, 0, "", 16, .launchEntry⟩,
  ⟨0x2120, 1, 16, 0x00, 0xFF, .u8, .ro, 0, 0, .v, "", "", 0, 0, "", 1, .any⟩,
  ⟨0x2190, 1, 8, 0x01, 0x50, .u32, .rwv, 2, 0x80000046, .j, "", "", 0, 0, "", 4, .segWord⟩,
  ⟨0x21A0, 1, 8, 0x01, 0x10, .blob, .rwv, 2, 0, .j, "", "", 0, 0, "", 16, .patAction⟩,
  ⟨0x21A0, 1, 8, 0x41, 0x50, .tb64, .ro, 0, 18446744073709551615, .v, "", "", 0, 0, "", 8, .any⟩]

/-- Table 4-8 of spec/, one row per object of the table. -/
def rows4_8 : List ObjRow := [
  ⟨0x2180, 1, 8, 0x01, 0x01, .bool, .rwv, 2, 0, .j, "", "pat.enable", 0, 0, "", 1, .any⟩,
  ⟨0x2180, 1, 8, 0x02, 0x02, .u8, .rwv, 2, 5, .j, "", "pat.period", 0, 0, "", 1, .range 0 10⟩,
  ⟨0x2180, 1, 8, 0x03, 0x03, .u8, .rwv, 2, 30, .j, "kHz", "pat.scs", 0, 0, "", 1, .oneOf [15, 30, 60]⟩,
  ⟨0x2180, 1, 8, 0x04, 0x04, .bool, .rwv, 2, 0, .j, "", "pat.ecp", 0, 0, "", 1, .any⟩,
  ⟨0x2180, 1, 8, 0x05, 0x05, .tb64, .rwv, 2, 18446744073709551615, .j, "", "pat.anchor", 0, 0, "", 8, .tbOrNone⟩,
  ⟨0x2180, 1, 8, 0x06, 0x06, .u32, .rwv, 2, 0, .j, "", "pat.ports", 0, 0, "", 4, .any⟩,
  ⟨0x2180, 1, 8, 0x07, 0x07, .u8, .rwv, 2, 1, .j, "", "pat.nseg", 0, 0, "", 1, .range 1 80⟩,
  ⟨0x2180, 1, 8, 0x08, 0x08, .u8, .rwv, 2, 255, .j, "", "pat.chain", 0, 0, "", 1, .rangeOr 0 7 255⟩,
  ⟨0x2180, 1, 8, 0x09, 0x09, .u32, .rwv, 2, 2458, .j, "ticks", "pat.transient", 0, 0, "", 4, .range 0 61440⟩,
  ⟨0x2180, 1, 8, 0x0A, 0x0A, .u32, .ro, 0, 0, .v, "ticks", "pat.position", 0, 0, "", 4, .any⟩,
  ⟨0x2180, 1, 8, 0x0B, 0x0B, .u8, .ro, 0, 0, .v, "", "pat.segment", 0, 0, "", 1, .any⟩,
  ⟨0x2180, 1, 8, 0x0C, 0x0C, .u64, .ro, 0, 0, .v, "events", "pat.cycles", 0, 0, "", 8, .any⟩]

/-- Table 4-12 of spec/, one row per object of the table. -/
def rows4_12 : List ObjRow := [
  ⟨0x2100, 1, 1, 0x01, 0x01, .u16, .ro, 0, 0, .v, "", "lt.armed", 0, 0, "", 2, .any⟩,
  ⟨0x2100, 1, 1, 0x02, 0x02, .tb64, .ro, 0, 18446744073709551615, .v, "", "lt.next_due", 0, 0, "", 8, .any⟩,
  ⟨0x2100, 1, 1, 0x03, 0x03, .u64, .ro, 0, 0, .v, "events", "lt.executed", 0, 0, "", 8, .any⟩,
  ⟨0x2100, 1, 1, 0x04, 0x04, .u32, .ro, 0, 0, .v, "events", "lt.late", 0, 0, "", 4, .any⟩,
  ⟨0x2100, 1, 1, 0x05, 0x05, .u32, .ro, 0, 0, .p, "events", "lt.lost_windows", 0, 0, "", 4, .any⟩,
  ⟨0x2160, 1, 1, 0x01, 0x01, .u32, .rw, 2, 2457600, .p, "ticks", "adm.min_lead", 0, 0, "", 4, .range 2457600 122880000⟩,
  ⟨0x2160, 1, 1, 0x02, 0x02, .u16, .ro, 0, 0, .v, "", "adm.last_reason", 0, 0, "", 2, .any⟩,
  ⟨0x2160, 1, 1, 0x03, 0x03, .u32, .ro, 0, 0, .v, "", "adm.last_object", 0, 0, "", 4, .any⟩,
  ⟨0x2160, 1, 1, 0x04, 0x04, .tb64, .ro, 0, 18446744073709551615, .v, "", "adm.last_earliest", 0, 0, "", 8, .any⟩,
  ⟨0x2160, 1, 1, 0x05, 0x05, .u32, .ro, 0, 0, .p, "events", "adm.refusals", 0, 0, "", 4, .any⟩,
  ⟨0x2160, 1, 1, 0x06, 0x06, .u32, .ro, 0, 0, .p, "events", "adm.accepts", 0, 0, "", 4, .any⟩,
  ⟨0x2160, 1, 1, 0x07, 0x07, .tb64, .cmd, 1, 0, .v, "", "adm.dry_run", 0, 0, "", 8, .tbOrNone⟩]

/-- Table 5-9 of spec/, one row per object of the table. -/
def rows5_9 : List ObjRow := [
  ⟨0x2200, 1, 1, 0x01, 0x01, .u8, .cmd, 1, 0, .v, "", "tx.open", 0, 0, "", 1, .range 0 1⟩,
  ⟨0x2200, 1, 1, 0x02, 0x02, .u32, .rw, 2, 600, .p, "s", "tx.open_idle", 0, 0, "", 4, .range 1 86400⟩,
  ⟨0x2200, 1, 1, 0x03, 0x03, .u8, .ro, 0, 0, .v, "", "tx.open_count", 0, 0, "", 1, .any⟩,
  ⟨0x2200, 1, 1, 0x04, 0x04, .u16, .ro, 0, 0, .v, "", "tx.staged_count", 0, 0, "", 2, .any⟩,
  ⟨0x2200, 1, 1, 0x05, 0x05, .u32, .ro, 0, 1, .p, "", "tx.next_number", 0, 0, "", 4, .any⟩,
  ⟨0x2200, 1, 1, 0x06, 0x06, .u32, .ro, 0, 1, .p, "", "tx.next_seq", 0, 0, "", 4, .any⟩,
  ⟨0x2200, 1, 1, 0x07, 0x07, .u16, .ro, 0, 0, .v, "", "tx.pending", 0, 0, "", 2, .any⟩,
  ⟨0x2200, 1, 1, 0x08, 0x08, .u32, .ro, 0, 0, .p, "events", "tx.aborts", 0, 0, "", 4, .any⟩,
  ⟨0x2200, 1, 1, 0x09, 0x09, .u32, .ro, 0, 0, .p, "events", "tx.aborts_late", 0, 0, "", 4, .any⟩,
  ⟨0x2210, 1, 1, 0x01, 0x40, .u32, .ro, 0, 0, .v, "", "tx.slot.owner", 0, 0, "", 4, .any⟩,
  ⟨0x2211, 1, 1, 0x01, 0x40, .u32, .ro, 0, 0, .v, "", "tx.slot.number", 0, 0, "", 4, .any⟩,
  ⟨0x2212, 1, 1, 0x01, 0x40, .u8, .ro, 0, 0, .v, "", "tx.slot.state", 0, 0, "", 1, .any⟩,
  ⟨0x2213, 1, 1, 0x01, 0x40, .u16, .ro, 0, 0, .v, "", "tx.slot.staged", 0, 0, "", 2, .any⟩,
  ⟨0x2214, 1, 1, 0x01, 0x40, .tb64, .ro, 0, 18446744073709551615, .v, "", "tx.slot.launch", 0, 0, "", 8, .any⟩,
  ⟨0x2215, 1, 1, 0x01, 0x40, .u32, .ro, 0, 0, .v, "", "tx.slot.sys_id", 0, 0, "", 4, .any⟩,
  ⟨0x2218, 1, 1, 0x01, 0x40, .u32, .ro, 0, 0, .p, "", "tx.hist.number", 0, 0, "", 4, .any⟩,
  ⟨0x2219, 1, 1, 0x01, 0x40, .u32, .ro, 0, 0, .p, "", "tx.hist.seq", 0, 0, "", 4, .any⟩,
  ⟨0x221A, 1, 1, 0x01, 0x40, .u8, .ro, 0, 0, .p, "", "tx.hist.state", 0, 0, "", 1, .any⟩,
  ⟨0x2220, 1, 1, 0x01, 0x01, .u8, .ro, 0, 0, .p, "", "jr.bank0.state", 0, 0, "", 1, .any⟩,
  ⟨0x2220, 1, 1, 0x02, 0x02, .u8, .ro, 0, 0, .p, "", "jr.bank1.state", 0, 0, "", 1, .any⟩,
  ⟨0x2220, 1, 1, 0x03, 0x03, .bool, .ro, 0, 0, .v, "", "jr.degraded", 0, 0, "", 1, .any⟩,
  ⟨0x2220, 1, 1, 0x04, 0x04, .u32, .ro, 0, 0, .v, "bytes", "jr.ring_used", 0, 0, "", 4, .any⟩,
  ⟨0x2220, 1, 1, 0x05, 0x05, .u32, .ro, 0, 0, .v, "", "jr.checkpoint_seq", 0, 0, "", 4, .any⟩,
  ⟨0x2220, 1, 1, 0x06, 0x06, .u32, .ro, 0, 0, .v, "events", "jr.replayed", 0, 0, "", 4, .any⟩,
  ⟨0x2220, 1, 1, 0x07, 0x07, .u32, .ro, 0, 0, .p, "events", "jr.voided", 0, 0, "", 4, .any⟩,
  ⟨0x2220, 1, 1, 0x08, 0x08, .u8, .cmd, 3, 0, .v, "", "jr.rebuild", 0, 0, "", 1, .eq 1⟩,
  ⟨0x2220, 1, 1, 0x09, 0x09, .u32, .ro, 0, 0, .p, "events", "jr.retries", 0, 0, "", 4, .any⟩,
  ⟨0x2240, 1, 1, 0x01, 0x01, .u32, .rw, 2, 6144000, .p, "ticks", "tx.sys.vote_timeout", 0, 0, "", 4, .range 1228800 122880000⟩,
  ⟨0x2240, 1, 1, 0x02, 0x02, .u32, .ro, 0, 1, .p, "", "tx.sys.next_seq", 0, 0, "", 4, .any⟩,
  ⟨0x2240, 1, 1, 0x03, 0x03, .u16, .ro, 0, 0, .v, "", "tx.sys.in_doubt", 0, 0, "", 2, .any⟩,
  ⟨0x2240, 1, 1, 0x04, 0x04, .u16, .ro, 0, 65535, .v, "", "tx.sys.last_no_addr", 0, 0, "", 2, .any⟩,
  ⟨0x2240, 1, 1, 0x05, 0x05, .u16, .ro, 0, 0, .v, "", "tx.sys.last_no_reason", 0, 0, "", 2, .any⟩,
  ⟨0x2240, 1, 1, 0x06, 0x06, .u32, .cmd, 3, 0, .v, "", "tx.sys.resolve", 0, 0, "", 4, .any⟩,
  ⟨0x2240, 1, 1, 0x07, 0x07, .u8, .ro, 0, 0, .v, "", "tx.sys.queue", 0, 0, "", 1, .any⟩,
  ⟨0x2240, 1, 1, 0x08, 0x08, .u32, .ro, 0, 0, .p, "events", "tx.sys.late", 0, 0, "", 4, .any⟩]

/-- Table 6-6 of spec/, one row per object of the table. -/
def rows6_6 : List ObjRow := [
  ⟨0x3000, 32, 32, 0x01, 0x01, .u8, .rwv, 2, 1, .j, "", "port.role", 0, 0, "", 1, .range 0 1⟩,
  ⟨0x3000, 32, 32, 0x02, 0x02, .u8, .rwv, 2, 3, .j, "", "port.rest", 0, 0, "", 1, .range 2 3⟩,
  ⟨0x3000, 32, 32, 0x03, 0x03, .u32, .rwv, 2, 0, .j, "ticks", "port.tx_window", 0, 0, "", 4, .range 0 24576000⟩,
  ⟨0x3000, 32, 32, 0x04, 0x04, .u16, .rwv, 2, 0, .j, "0.01 dB", "port.rx_atten", 0, 0, "", 2, .step 0 3000 50⟩,
  ⟨0x3000, 32, 32, 0x05, 0x05, .u16, .rwv, 2, 1000, .j, "0.01 dB", "port.tx_atten", 0, 0, "", 2, .step 0 4000 25⟩,
  ⟨0x3000, 32, 32, 0x06, 0x06, .u8, .rwv, 2, 0, .j, "", "port.target", 0, 0, "", 1, .range 0 4⟩,
  ⟨0x3000, 32, 32, 0x07, 0x07, .u8, .cmd, 3, 0, .v, "", "port.loopback_test", 0, 0, "", 1, .eq 1⟩,
  ⟨0x3000, 32, 32, 0x08, 0x08, .q16, .rw, 2, 655360, .p, "°C", "port.cal_temp_delta", 0, 0, "", 4, .range 65536 3932160⟩,
  ⟨0x3000, 32, 32, 0x09, 0x09, .u32, .rw, 2, 600, .p, "s", "port.cal_overdue", 0, 0, "", 4, .range 10 86400⟩,
  ⟨0x3000, 32, 32, 0x0A, 0x0A, .q16, .rwv, 2, 6553600, .j, "Hz", "port.rx.dc_track", 0, 0, "", 4, .range 65536 655360000⟩]

/-- Table 6-7 of spec/, one row per object of the table. -/
def rows6_7 : List ObjRow := [
  ⟨0x3001, 32, 32, 0x01, 0x01, .u8, .ro, 0, 0, .v, "", "port.state", 0, 0, "", 1, .any⟩,
  ⟨0x3001, 32, 32, 0x02, 0x02, .u8, .ro, 0, 255, .v, "", "port.changing_to", 0, 0, "", 1, .any⟩,
  ⟨0x3001, 32, 32, 0x03, 0x03, .tb64, .ro, 0, 18446744073709551615, .v, "", "port.state_since", 0, 0, "", 8, .any⟩,
  ⟨0x3001, 32, 32, 0x04, 0x04, .u32, .ro, 0, 0, .p, "events", "port.windows_lost", 0, 0, "", 4, .any⟩,
  ⟨0x3001, 32, 32, 0x05, 0x05, .bool, .ro, 0, 0, .v, "", "port.paen", 0, 0, "", 1, .any⟩,
  ⟨0x3001, 32, 32, 0x06, 0x06, .u64, .ro, 0, 0, .v, "events", "port.transitions", 0, 0, "", 8, .any⟩,
  ⟨0x3001, 32, 32, 0x07, 0x07, .u16, .ro, 0, 0, .v, "", "port.mutes", 0, 0, "", 2, .any⟩,
  ⟨0x3001, 32, 32, 0x08, 0x08, .q16, .ro, 0, 0, .v, "°C", "port.temp", 0, 0, "", 4, .any⟩]

/-- Table 6-9 of spec/, one row per object of the table. -/
def rows6_9 : List ObjRow := [
  ⟨0x3002, 32, 32, 0x01, 0x01, .u32, .rwv, 2, 3500000, .j, "kHz", "syn.freq", 0, 0, "", 4, .range 600000 7125000⟩,
  ⟨0x3003, 32, 32, 0x01, 0x01, .u32, .rwv, 2, 3500000, .j, "kHz", "syn.freq", 0, 0, "", 4, .range 600000 7125000⟩,
  ⟨0x3002, 32, 32, 0x02, 0x02, .u8, .ro, 0, 0, .v, "", "syn.state", 0, 0, "", 1, .any⟩,
  ⟨0x3003, 32, 32, 0x02, 0x02, .u8, .ro, 0, 0, .v, "", "syn.state", 0, 0, "", 1, .any⟩,
  ⟨0x3002, 32, 32, 0x03, 0x03, .u32, .ro, 0, 0, .v, "kHz", "syn.freq_now", 0, 0, "", 4, .any⟩,
  ⟨0x3003, 32, 32, 0x03, 0x03, .u32, .ro, 0, 0, .v, "kHz", "syn.freq_now", 0, 0, "", 4, .any⟩,
  ⟨0x3002, 32, 32, 0x04, 0x04, .u32, .ro, 0, 0, .p, "events", "syn.lock_losses", 0, 0, "", 4, .any⟩,
  ⟨0x3003, 32, 32, 0x04, 0x04, .u32, .ro, 0, 0, .p, "events", "syn.lock_losses", 0, 0, "", 4, .any⟩,
  ⟨0x3002, 32, 32, 0x05, 0x05, .q16, .ro, 0, 0, .p, "°C", "syn.cal_temp", 0, 0, "", 4, .any⟩,
  ⟨0x3003, 32, 32, 0x05, 0x05, .q16, .ro, 0, 0, .p, "°C", "syn.cal_temp", 0, 0, "", 4, .any⟩,
  ⟨0x3002, 32, 32, 0x06, 0x06, .u32, .ro, 0, 0, .v, "events", "syn.retunes", 0, 0, "", 4, .any⟩,
  ⟨0x3003, 32, 32, 0x06, 0x06, .u32, .ro, 0, 0, .v, "events", "syn.retunes", 0, 0, "", 4, .any⟩,
  ⟨0x3002, 32, 32, 0x07, 0x07, .u8, .ro, 0, 0, .v, "%", "syn.vtune", 0, 0, "", 1, .any⟩,
  ⟨0x3003, 32, 32, 0x07, 0x07, .u8, .ro, 0, 0, .v, "%", "syn.vtune", 0, 0, "", 1, .any⟩]

/-- Table 6-10 of spec/, one row per object of the table. -/
def rows6_10 : List ObjRow := [
  ⟨0x3004, 32, 32, 0x01, 0x01, .u8, .cmd, 2, 0, .v, "", "cal.start", 0, 0, "", 1, .range 0 3⟩,
  ⟨0x3004, 32, 32, 0x02, 0x02, .u8, .cmd, 2, 0, .v, "", "cal.abort", 0, 0, "", 1, .eq 1⟩,
  ⟨0x3004, 32, 32, 0x03, 0x03, .u8, .ro, 0, 0, .v, "", "cal.status", 0, 0, "", 1, .any⟩,
  ⟨0x3004, 32, 32, 0x04, 0x04, .u8, .ro, 0, 255, .v, "", "cal.kind", 0, 0, "", 1, .any⟩,
  ⟨0x3004, 32, 32, 0x05, 0x05, .u8, .ro, 0, 0, .v, "", "cal.pending", 0, 0, "", 1, .any⟩,
  ⟨0x3004, 32, 32, 0x06, 0x06, .u8, .ro, 0, 0, .v, "", "cal.stale", 0, 0, "", 1, .any⟩,
  ⟨0x3004, 32, 32, 0x07, 0x07, .u8, .ro, 0, 0, .v, "", "cal.ir_pieces", 0, 0, "", 1, .any⟩,
  ⟨0x3004, 32, 32, 0x08, 0x08, .ot48, .ro, 0, 0, .p, "2^-10 s", "cal.done_time0", 0, 0, "", 6, .any⟩,
  ⟨0x3004, 32, 32, 0x09, 0x09, .ot48, .ro, 0, 0, .p, "2^-10 s", "cal.done_time1", 0, 0, "", 6, .any⟩,
  ⟨0x3004, 32, 32, 0x0A, 0x0A, .u32, .ro, 0, 0, .p, "events", "cal.fail_count", 0, 0, "", 4, .any⟩,
  ⟨0x3004, 32, 32, 0x0B, 0x0B, .ot48, .ro, 0, 0, .p, "2^-10 s", "cal.done_time2", 0, 0, "", 6, .any⟩,
  ⟨0x3004, 32, 32, 0x0C, 0x0C, .u32, .ro, 0, 0, .p, "", "cal.generation", 0, 0, "", 4, .any⟩,
  ⟨0x3004, 32, 32, 0x0D, 0x0D, .ot48, .ro, 0, 0, .p, "2^-10 s", "cal.done_time3", 0, 0, "", 6, .any⟩]

/-- Table 6-11 of spec/, one row per object of the table. -/
def rows6_11 : List ObjRow := [
  ⟨0x3005, 32, 32, 0x01, 0x01, .i16, .ro, 0, 0, .v, "codes", "rx.dc_i", 0, 0, "", 2, .any⟩,
  ⟨0x3005, 32, 32, 0x02, 0x02, .i16, .ro, 0, 0, .v, "codes", "rx.dc_q", 0, 0, "", 2, .any⟩,
  ⟨0x3005, 32, 32, 0x03, 0x03, .q16, .ro, 0, 0, .p, "dB", "rx.image_rej", 0, 0, "", 4, .any⟩,
  ⟨0x3005, 32, 32, 0x04, 0x04, .q16, .ro, 0, 0, .p, "dB", "rx.loopback_loss", 0, 0, "", 4, .any⟩,
  ⟨0x3005, 32, 32, 0x05, 0x05, .u32, .ro, 0, 0, .v, "events", "rx.ovr_count", 0, 0, "", 4, .any⟩,
  ⟨0x3005, 32, 32, 0x06, 0x06, .q16, .ro, 0, 0, .v, "dBFS", "rx.power", 0, 0, "", 4, .any⟩]

/-- Table 6-12 of spec/, one row per object of the table. -/
def rows6_12 : List ObjRow := [
  ⟨0x301C, 256, 4, 0x01, 0x01, .u64, .rwv, 2, 0, .j, "", "obs.list", 0, 0, "", 8, .any⟩,
  ⟨0x303C, 256, 4, 0x01, 0x01, .u64, .rwv, 2, 0, .j, "", "obs.list", 0, 0, "", 8, .any⟩,
  ⟨0x301C, 256, 4, 0x02, 0x02, .u32, .rwv, 2, 122880, .j, "ticks", "obs.dwell", 0, 0, "", 4, .range 12288 12288000⟩,
  ⟨0x303C, 256, 4, 0x02, 0x02, .u32, .rwv, 2, 122880, .j, "ticks", "obs.dwell", 0, 0, "", 4, .range 12288 12288000⟩,
  ⟨0x301C, 256, 4, 0x03, 0x03, .u8, .ro, 0, 0, .v, "", "obs.current", 0, 0, "", 1, .any⟩,
  ⟨0x303C, 256, 4, 0x03, 0x03, .u8, .ro, 0, 0, .v, "", "obs.current", 0, 0, "", 1, .any⟩,
  ⟨0x301C, 256, 4, 0x04, 0x04, .u8, .ro, 0, 0, .v, "", "obs.owner", 0, 0, "", 1, .any⟩,
  ⟨0x303C, 256, 4, 0x04, 0x04, .u8, .ro, 0, 0, .v, "", "obs.owner", 0, 0, "", 1, .any⟩,
  ⟨0x301C, 256, 4, 0x05, 0x05, .u64, .ro, 0, 0, .v, "events", "obs.visits", 0, 0, "", 8, .any⟩,
  ⟨0x303C, 256, 4, 0x05, 0x05, .u64, .ro, 0, 0, .v, "events", "obs.visits", 0, 0, "", 8, .any⟩,
  ⟨0x301C, 256, 4, 0x06, 0x06, .u32, .ro, 0, 0, .v, "events", "obs.skipped", 0, 0, "", 4, .any⟩,
  ⟨0x303C, 256, 4, 0x06, 0x06, .u32, .ro, 0, 0, .v, "events", "obs.skipped", 0, 0, "", 4, .any⟩]

/-- Table 7-6 of spec/, one row per object of the table. -/
def rows7_6 : List ObjRow := [
  ⟨0x4000, 16, 512, 0x01, 0x01, .bool, .rwv, 2, 0, .j, "", "ch.run", 0, 0, "", 1, .any⟩,
  ⟨0x4000, 16, 512, 0x02, 0x02, .u8, .rwv, 2, 0, .j, "", "ch.in_port", 0, 0, "", 1, .range 0 31⟩,
  ⟨0x4000, 16, 512, 0x03, 0x03, .u16, .rwv, 2, 10, .j, "", "ch.d", 0, 0, "", 2, .range 1 4096⟩,
  ⟨0x4000, 16, 512, 0x04, 0x04, .u8, .rwv, 2, 255, .j, "", "ch.pattern", 0, 0, "", 1, .rangeOr 0 7 255⟩,
  ⟨0x4000, 16, 512, 0x05, 0x05, .u8, .rwv, 2, 0, .j, "", "ch.dir", 0, 0, "", 1, .range 0 1⟩,
  ⟨0x4000, 16, 512, 0x06, 0x06, .bool, .rwv, 2, 1, .j, "", "ch.start_muted", 0, 0, "", 1, .any⟩,
  ⟨0x4000, 16, 512, 0x07, 0x07, .q16, .rwv, 2, 655360, .j, "Hz", "ch.dc_corner", 0, 0, "", 4, .range 65536 655360000⟩]

/-- Table 7-7 of spec/, one row per object of the table. -/
def rows7_7 : List ObjRow := [
  ⟨0x4001, 16, 512, 0x01, 0x01, .u8, .rwv, 2, 1, .j, "", "bk.class", 0, 0, "", 1, .range 0 2⟩,
  ⟨0x4002, 16, 512, 0x01, 0x01, .u8, .rwv, 2, 1, .j, "", "bk.class", 0, 0, "", 1, .range 0 2⟩,
  ⟨0x4001, 16, 512, 0x02, 0x02, .u32, .rwv, 2, 3500000, .j, "kHz", "bk.centre", 0, 0, "", 4, .range 600000 7125000⟩,
  ⟨0x4002, 16, 512, 0x02, 0x02, .u32, .rwv, 2, 3500000, .j, "kHz", "bk.centre", 0, 0, "", 4, .range 600000 7125000⟩,
  ⟨0x4001, 16, 512, 0x03, 0x03, .u32, .rwv, 2, 20000, .j, "kHz", "bk.bw", 0, 0, "", 4, .range 1 491520⟩,
  ⟨0x4002, 16, 512, 0x03, 0x03, .u32, .rwv, 2, 20000, .j, "kHz", "bk.bw", 0, 0, "", 4, .range 1 491520⟩,
  ⟨0x4001, 16, 512, 0x04, 0x04, .u32, .rwv, 2, 0, .j, "kHz", "bk.out_centre0", 0, 0, "", 4, .rangeOr 600000 7125000 0⟩,
  ⟨0x4002, 16, 512, 0x04, 0x04, .u32, .rwv, 2, 0, .j, "kHz", "bk.out_centre0", 0, 0, "", 4, .rangeOr 600000 7125000 0⟩,
  ⟨0x4001, 16, 512, 0x05, 0x05, .u32, .rwv, 2, 0, .j, "kHz", "bk.out_centre1", 0, 0, "", 4, .rangeOr 600000 7125000 0⟩,
  ⟨0x4002, 16, 512, 0x05, 0x05, .u32, .rwv, 2, 0, .j, "kHz", "bk.out_centre1", 0, 0, "", 4, .rangeOr 600000 7125000 0⟩,
  ⟨0x4001, 16, 512, 0x06, 0x06, .u32, .rwv, 2, 0, .j, "kHz", "bk.out_centre2", 0, 0, "", 4, .rangeOr 600000 7125000 0⟩,
  ⟨0x4002, 16, 512, 0x06, 0x06, .u32, .rwv, 2, 0, .j, "kHz", "bk.out_centre2", 0, 0, "", 4, .rangeOr 600000 7125000 0⟩,
  ⟨0x4001, 16, 512, 0x07, 0x07, .u32, .rwv, 2, 0, .j, "kHz", "bk.out_centre3", 0, 0, "", 4, .rangeOr 600000 7125000 0⟩,
  ⟨0x4002, 16, 512, 0x07, 0x07, .u32, .rwv, 2, 0, .j, "kHz", "bk.out_centre3", 0, 0, "", 4, .rangeOr 600000 7125000 0⟩]

/-- Table 7-9 of spec/, one row per object of the table. -/
def rows7_9 : List ObjRow := [
  ⟨0x4003, 16, 512, 0x01, 0x01, .u8, .rwv, 2, 255, .j, "", "fo.port0", 0, 0, "", 1, .rangeOr 0 31 255⟩,
  ⟨0x4003, 16, 512, 0x02, 0x02, .u8, .rwv, 2, 255, .j, "", "fo.port1", 0, 0, "", 1, .rangeOr 0 31 255⟩,
  ⟨0x4003, 16, 512, 0x03, 0x03, .u8, .rwv, 2, 255, .j, "", "fo.port2", 0, 0, "", 1, .rangeOr 0 31 255⟩,
  ⟨0x4003, 16, 512, 0x04, 0x04, .u8, .rwv, 2, 255, .j, "", "fo.port3", 0, 0, "", 1, .rangeOr 0 31 255⟩,
  ⟨0x4003, 16, 512, 0x05, 0x05, .i16, .rwv, 2, 0, .j, "0.01 dB", "fo.gain_trim0", 0, 0, "", 2, .range (-4000) 0⟩,
  ⟨0x4003, 16, 512, 0x06, 0x06, .i16, .rwv, 2, 0, .j, "0.01 dB", "fo.gain_trim1", 0, 0, "", 2, .range (-4000) 0⟩,
  ⟨0x4003, 16, 512, 0x07, 0x07, .i16, .rwv, 2, 0, .j, "0.01 dB", "fo.gain_trim2", 0, 0, "", 2, .range (-4000) 0⟩,
  ⟨0x4003, 16, 512, 0x08, 0x08, .i16, .rwv, 2, 0, .j, "0.01 dB", "fo.gain_trim3", 0, 0, "", 2, .range (-4000) 0⟩,
  ⟨0x4003, 16, 512, 0x09, 0x09, .u16, .rwv, 2, 0, .j, "ticks", "fo.delay_trim0", 0, 0, "", 2, .range 0 8191⟩,
  ⟨0x4003, 16, 512, 0x0A, 0x0A, .u16, .rwv, 2, 0, .j, "ticks", "fo.delay_trim1", 0, 0, "", 2, .range 0 8191⟩,
  ⟨0x4003, 16, 512, 0x0B, 0x0B, .u16, .rwv, 2, 0, .j, "ticks", "fo.delay_trim2", 0, 0, "", 2, .range 0 8191⟩,
  ⟨0x4003, 16, 512, 0x0C, 0x0C, .u16, .rwv, 2, 0, .j, "ticks", "fo.delay_trim3", 0, 0, "", 2, .range 0 8191⟩]

/-- Table 7-10 of spec/, one row per object of the table. -/
def rows7_10 : List ObjRow := [
  ⟨0x4004, 16, 512, 0x01, 0x01, .u8, .ro, 0, 0, .v, "", "ch.state", 0, 0, "", 1, .any⟩,
  ⟨0x4004, 16, 512, 0x02, 0x02, .u16, .ro, 0, 4097, .v, "", "ch.mutes", 0, 0, "", 2, .any⟩,
  ⟨0x4004, 16, 512, 0x03, 0x03, .u8, .ro, 0, 0, .v, "", "ch.slots", 0, 0, "", 1, .any⟩,
  ⟨0x4004, 16, 512, 0x04, 0x04, .u32, .ro, 0, 0, .v, "ticks", "ch.settle_left", 0, 0, "", 4, .any⟩,
  ⟨0x4004, 16, 512, 0x05, 0x05, .u32, .ro, 0, 0, .v, "ticks", "ch.delay0", 0, 0, "", 4, .any⟩,
  ⟨0x4004, 16, 512, 0x06, 0x06, .u32, .ro, 0, 0, .v, "ticks", "ch.delay1", 0, 0, "", 4, .any⟩,
  ⟨0x4004, 16, 512, 0x07, 0x07, .u32, .ro, 0, 0, .v, "ticks", "ch.delay2", 0, 0, "", 4, .any⟩,
  ⟨0x4004, 16, 512, 0x08, 0x08, .u32, .ro, 0, 0, .v, "ticks", "ch.delay3", 0, 0, "", 4, .any⟩,
  ⟨0x4004, 16, 512, 0x09, 0x09, .i32, .ro, 0, 0, .v, "LSB", "ch.dc_i", 0, 0, "", 4, .any⟩,
  ⟨0x4004, 16, 512, 0x0A, 0x0A, .i32, .ro, 0, 0, .v, "LSB", "ch.dc_q", 0, 0, "", 4, .any⟩,
  ⟨0x4004, 16, 512, 0x0B, 0x0B, .q16, .ro, 0, 0, .v, "dBFS", "ch.power_in", 0, 0, "", 4, .any⟩,
  ⟨0x4004, 16, 512, 0x0C, 0x0C, .q16, .ro, 0, 0, .v, "dBFS", "ch.power_out", 0, 0, "", 4, .any⟩,
  ⟨0x4004, 16, 512, 0x0D, 0x0D, .u32, .ro, 0, 0, .v, "events", "ch.sat_count", 0, 0, "", 4, .any⟩,
  ⟨0x4004, 16, 512, 0x0E, 0x0E, .u32, .ro, 0, 0, .v, "events", "ch.resets", 0, 0, "", 4, .any⟩,
  ⟨0x4004, 16, 512, 0x0F, 0x0F, .tb64, .ro, 0, 18446744073709551615, .v, "", "ch.started_at", 0, 0, "", 8, .any⟩]

/-- Table 7-11 of spec/, one row per object of the table. -/
def rows7_11 : List ObjRow := [
  ⟨0x400F, 128, 64, 0x01, 0x01, .u8, .ro, 0, 0, .v, "", "sl.bank_active", 0, 0, "", 1, .any⟩,
  ⟨0x400F, 128, 64, 0x02, 0x02, .bool, .ro, 0, 0, .v, "", "sl.fading", 0, 0, "", 1, .any⟩,
  ⟨0x400F, 128, 64, 0x03, 0x03, .tb64, .ro, 0, 18446744073709551615, .v, "", "sl.fade_end", 0, 0, "", 8, .any⟩,
  ⟨0x400F, 128, 64, 0x04, 0x04, .u32, .ro, 0, 0, .v, "events", "sl.swaps", 0, 0, "", 4, .any⟩,
  ⟨0x400F, 128, 64, 0x05, 0x05, .u8, .ro, 0, 0, .v, "", "sl.slots_used", 0, 0, "", 1, .any⟩,
  ⟨0x400F, 128, 64, 0x06, 0x06, .tb64, .ro, 0, 18446744073709551615, .v, "", "sl.inactive_load", 0, 0, "", 8, .any⟩]

/-- Table 8-4 of spec/, one row per object of the table. -/
def rows8_4 : List ObjRow := [
  ⟨0x6800, 4, 512, 0x01, 0x01, .bool, .rwv, 2, 1, .j, "", "cx.enable", 0, 0, "", 1, .any⟩,
  ⟨0x6800, 4, 512, 0x02, 0x02, .u16, .rwv, 2, 64, .j, "taps", "cx.taps", 0, 0, "", 2, .step 0 1024 8⟩,
  ⟨0x6800, 4, 512, 0x03, 0x03, .u16, .rwv, 2, 0, .j, "samples", "cx.bulk_delay", 0, 0, "", 2, .range 0 4095⟩,
  ⟨0x6800, 4, 512, 0x04, 0x04, .q16, .rwv, 2, 4096, .j, "", "cx.mu", 0, 0, "", 4, .range 16 32768⟩,
  ⟨0x6800, 4, 512, 0x05, 0x05, .u8, .rwv, 2, 255, .j, "", "cx.subpool", 0, 0, "", 1, .rangeOr 0 15 255⟩,
  ⟨0x6800, 4, 512, 0x06, 0x06, .u16, .rwv, 2, 1000, .j, "0.01 dB", "cx.probe_gain", 0, 0, "", 2, .range 0 3000⟩,
  ⟨0x6800, 4, 512, 0x07, 0x07, .u16, .rwv, 2, 1500, .j, "0.01 dB", "cx.min_margin", 0, 0, "", 2, .range 300 3000⟩,
  ⟨0x6800, 4, 512, 0x08, 0x08, .u16, .rwv, 2, 0, .j, "0.01 dB", "cx.iso_declared", 0, 0, "", 2, .range 0 15000⟩,
  ⟨0x6800, 4, 512, 0x09, 0x09, .u16, .rwv, 2, 4096, .j, "samples", "cx.est_window", 0, 0, "", 2, .range 256 65535⟩,
  ⟨0x6800, 4, 512, 0x0A, 0x0A, .u16, .rwv, 2, 100, .j, "0.01 dB", "cx.max_error", 0, 0, "", 2, .range 10 600⟩,
  ⟨0x6800, 4, 512, 0x0B, 0x0B, .i16, .rwv, 2, (-5000), .j, "0.01 dBFS", "cx.min_ref", 0, 0, "", 2, .range (-9000) 0⟩,
  ⟨0x6800, 4, 512, 0x0C, 0x0C, .u32, .rwv, 2, 1228800000, .j, "ticks", "cx.hold_limit", 0, 0, "", 4, .range 1228800 3686400000⟩,
  ⟨0x6800, 4, 512, 0x0D, 0x0D, .u8, .cmd, 2, 0, .v, "", "cx.reset", 0, 0, "", 1, .eq 1⟩,
  ⟨0x6800, 4, 512, 0x0E, 0x0E, .bool, .rwv, 2, 1, .j, "", "cx.pa_track", 0, 0, "", 1, .any⟩]

/-- Table 8-5 of spec/, one row per object of the table. -/
def rows8_5 : List ObjRow := [
  ⟨0x6801, 4, 512, 0x01, 0x01, .u8, .rwv, 2, 254, .j, "", "cx.ref0", 0, 0, "", 1, .ref0⟩,
  ⟨0x6801, 4, 512, 0x02, 0x04, .u8, .rwv, 2, 255, .j, "", "cx.ref", 1, 1, "", 1, .rangeOr 0 31 255⟩,
  ⟨0x6801, 4, 512, 0x05, 0x08, .u8, .ro, 0, 255, .v, "", "cx.branch_subpool", 1, 0, "", 1, .any⟩,
  ⟨0x6801, 4, 512, 0x09, 0x0C, .q16, .ro, 0, 0, .v, "dB", "cx.pa_gain", 1, 0, "", 4, .any⟩,
  ⟨0x6801, 4, 512, 0x0D, 0x10, .u8, .ro, 0, 255, .v, "", "cx.ref_port", 1, 0, "", 1, .any⟩]

/-- Table 8-6 of spec/, one row per object of the table. -/
def rows8_6 : List ObjRow := [
  ⟨0x6802, 4, 512, 0x01, 0x01, .u8, .ro, 0, 0, .v, "", "cx.state", 0, 0, "", 1, .any⟩,
  ⟨0x6802, 4, 512, 0x02, 0x02, .u16, .ro, 0, 0, .v, "", "cx.freezes", 0, 0, "", 2, .any⟩,
  ⟨0x6802, 4, 512, 0x03, 0x03, .q16, .ro, 0, 0, .v, "dB", "cx.margin", 0, 0, "", 4, .any⟩,
  ⟨0x6802, 4, 512, 0x04, 0x04, .u8, .ro, 0, 0, .v, "", "cx.margin_state", 0, 0, "", 1, .any⟩,
  ⟨0x6802, 4, 512, 0x05, 0x05, .q16, .ro, 0, 0, .v, "dB", "cx.margin_error", 0, 0, "", 4, .any⟩,
  ⟨0x6802, 4, 512, 0x06, 0x06, .q16, .ro, 0, 0, .v, "dB", "cx.depth", 0, 0, "", 4, .any⟩,
  ⟨0x6802, 4, 512, 0x07, 0x07, .u32, .ro, 0, 0, .v, "ticks", "cx.adapt_ticks", 0, 0, "", 4, .any⟩,
  ⟨0x6802, 4, 512, 0x08, 0x08, .u32, .ro, 0, 0, .v, "ticks", "cx.reconv", 0, 0, "", 4, .any⟩,
  ⟨0x6802, 4, 512, 0x09, 0x09, .u32, .ro, 0, 0, .v, "events", "cx.resets", 0, 0, "", 4, .any⟩,
  ⟨0x6802, 4, 512, 0x0A, 0x0A, .u32, .ro, 0, 0, .p, "events", "cx.divergences", 0, 0, "", 4, .any⟩,
  ⟨0x6802, 4, 512, 0x0B, 0x0B, .q16, .ro, 0, 0, .v, "10^6 tap-op/s", "cx.load", 0, 0, "", 4, .any⟩,
  ⟨0x6802, 4, 512, 0x0C, 0x0C, .tb64, .ro, 0, 18446744073709551615, .v, "", "cx.converged_at", 0, 0, "", 8, .any⟩]

/-- Table 8-7 of spec/, one row per object of the table. -/
def rows8_7 : List ObjRow := [
  ⟨0x6803, 4, 512, 0x01, 0x04, .q16, .ro, 0, 0, .p, "dB", "cx.iso", 1, 0, "", 4, .any⟩,
  ⟨0x6803, 4, 512, 0x05, 0x08, .q16, .ro, 0, 0, .p, "dB", "cx.demo_depth", 1, 0, "", 4, .any⟩,
  ⟨0x6803, 4, 512, 0x09, 0x0C, .u32, .ro, 0, 0, .p, "kHz", "cx.band_lo", 1, 0, "", 4, .any⟩,
  ⟨0x6803, 4, 512, 0x0D, 0x10, .u32, .ro, 0, 0, .p, "kHz", "cx.band_hi", 1, 0, "", 4, .any⟩,
  ⟨0x6803, 4, 512, 0x11, 0x14, .ot48, .ro, 0, 0, .p, "2^-10 s", "cx.iso_time", 1, 0, "", 6, .any⟩,
  ⟨0x6803, 4, 512, 0x15, 0x15, .u8, .ro, 0, 0, .p, "", "cx.records", 0, 0, "", 1, .any⟩]

/-- Table 8-8 of spec/, one row per object of the table. -/
def rows8_8 : List ObjRow := [
  ⟨0x6802, 1, 1, 0x40, 0x4F, .q16, .ro, 0, 0, .v, "10^6 tap-op/s", "cx.pool.load", 1, 0, "", 4, .any⟩,
  ⟨0x6802, 1, 1, 0x50, 0x50, .q16, .ro, 0, 0, .v, "10^6 tap-op/s", "cx.pool.total", 0, 0, "", 4, .any⟩,
  ⟨0x6802, 1, 1, 0x51, 0x51, .u16, .ro, 0, 65535, .v, "", "cx.pool.powered", 0, 0, "", 2, .any⟩,
  ⟨0x6802, 1, 1, 0x52, 0x52, .u32, .ro, 0, 0, .v, "events", "cx.pool.sheds", 0, 0, "", 4, .any⟩]

/-- Table 9-5 of spec/, one row per object of the table. -/
def rows9_5 : List ObjRow := [
  ⟨0x6000, 4, 512, 0x01, 0x01, .i16, .rwv, 2, 0, .j, "0.01 dB", "ge.gmin", 0, 0, "", 2, .range (-3000) 12000⟩,
  ⟨0x6000, 4, 512, 0x02, 0x02, .i16, .rwv, 2, 3000, .j, "0.01 dB", "ge.gmax", 0, 0, "", 2, .range (-3000) 12000⟩,
  ⟨0x6000, 4, 512, 0x03, 0x03, .u8, .rwv, 2, 1, .j, "", "ge.mode", 0, 0, "", 1, .range 0 1⟩,
  ⟨0x6000, 4, 512, 0x04, 0x04, .u32, .rwv, 2, 122880, .j, "ticks", "ge.period", 0, 0, "", 4, .range 12288 12288000⟩,
  ⟨0x6000, 4, 512, 0x05, 0x05, .u16, .rwv, 2, 1, .j, "symbols", "ge.lock_symbols", 0, 0, "", 2, .range 1 560⟩,
  ⟨0x6000, 4, 512, 0x06, 0x06, .u8, .rwv, 2, 30, .j, "kHz", "ge.scs", 0, 0, "", 1, .oneOf [15, 30, 60]⟩,
  ⟨0x6000, 4, 512, 0x07, 0x07, .i32, .rwv, 2, 0, .j, "ticks", "ge.lock_offset", 0, 0, "", 4, .range (-61440) 61440⟩,
  ⟨0x6000, 4, 512, 0x08, 0x08, .u8, .rwv, 2, 127, .j, "", "ge.loops", 0, 0, "", 1, .geLoops⟩,
  ⟨0x6000, 4, 512, 0x09, 0x09, .i16, .rwv, 2, (-1200), .j, "0.01 dBFS", "ge.alc_target", 0, 0, "", 2, .range (-9000) 0⟩,
  ⟨0x6000, 4, 512, 0x0A, 0x0A, .u16, .rwv, 2, 2000, .j, "0.01 dB/s", "ge.alc_ramp", 0, 0, "", 2, .range 1 65535⟩,
  ⟨0x6000, 4, 512, 0x0B, 0x0B, .u16, .rwv, 2, 1500, .j, "0.01 dB", "ge.margin_target", 0, 0, "", 2, .range 300 3000⟩,
  ⟨0x6000, 4, 512, 0x0C, 0x0C, .i16, .rwv, 2, (-6000), .j, "0.01 dBFS", "ge.noise_target", 0, 0, "", 2, .range (-9000) 0⟩,
  ⟨0x6000, 4, 512, 0x0D, 0x0D, .u16, .rwv, 2, 100, .j, "0.01 dB", "ge.supply_reserve", 0, 0, "", 2, .range 0 1000⟩,
  ⟨0x6000, 4, 512, 0x0E, 0x0E, .i16, .rwv, 2, 0, .j, "0.01 dB", "ge.eirp_offset", 0, 0, "", 2, .range (-5000) 10000⟩,
  ⟨0x6000, 4, 512, 0x0F, 0x0F, .u16, .rwv, 2, 600, .j, "0.01 dB", "ge.fe_limit", 0, 0, "", 2, .range 100 3000⟩,
  ⟨0x6000, 4, 512, 0x10, 0x10, .u32, .rwv, 2, 122880000, .j, "ticks", "ge.fe_time", 0, 0, "", 4, .range 1228800 1228800000⟩,
  ⟨0x6000, 4, 512, 0x11, 0x11, .u8, .rwv, 2, 0, .j, "", "ge.notch_mask", 0, 0, "", 1, .any⟩,
  ⟨0x6000, 4, 512, 0x12, 0x12, .u8, .rwv, 2, 1, .j, "", "ge.notch_harm", 0, 0, "", 1, .range 1 16⟩,
  ⟨0x6000, 4, 512, 0x13, 0x13, .q16, .rwv, 2, 62259, .j, "", "ge.notch_radius", 0, 0, "", 4, .range 32768 65470⟩,
  ⟨0x6000, 4, 512, 0x14, 0x14, .u8, .rwv, 2, 255, .j, "", "ge.notch_pattern", 0, 0, "", 1, .rangeOr 0 7 255⟩]

/-- Table 9-6 of spec/, one row per object of the table. -/
def rows9_6 : List ObjRow := [
  ⟨0x6001, 4, 512, 0x01, 0x01, .i32, .ro, 0, 0, .v, "2^-16 dB", "ge.integrator", 0, 0, "", 4, .any⟩,
  ⟨0x6001, 4, 512, 0x02, 0x02, .q16, .ro, 0, 0, .v, "dB", "ge.applied", 0, 0, "", 4, .any⟩,
  ⟨0x6001, 4, 512, 0x03, 0x03, .u8, .ro, 0, 255, .v, "", "ge.winner", 0, 0, "", 1, .any⟩,
  ⟨0x6001, 4, 512, 0x04, 0x04, .q16, .ro, 0, 0, .v, "dB per update", "ge.rate", 0, 0, "", 4, .any⟩,
  ⟨0x6001, 4, 512, 0x05, 0x05, .q16, .ro, 0, 0, .v, "dBFS", "ge.alc_setpoint", 0, 0, "", 4, .any⟩,
  ⟨0x6001, 4, 512, 0x06, 0x06, .q16, .ro, 0, 0, .v, "dB", "ge.fe", 0, 0, "", 4, .any⟩,
  ⟨0x6001, 4, 512, 0x07, 0x07, .u32, .ro, 0, 0, .v, "ticks", "ge.fe_timer", 0, 0, "", 4, .any⟩,
  ⟨0x6001, 4, 512, 0x08, 0x08, .u8, .ro, 0, 0, .v, "", "ge.holds", 0, 0, "", 1, .any⟩,
  ⟨0x6001, 4, 512, 0x09, 0x09, .u8, .ro, 0, 1, .v, "", "ge.mode_now", 0, 0, "", 1, .any⟩,
  ⟨0x6001, 4, 512, 0x0A, 0x0A, .u32, .ro, 0, 0, .v, "ticks", "ge.window", 0, 0, "", 4, .any⟩,
  ⟨0x6001, 4, 512, 0x0B, 0x0B, .u32, .ro, 0, 0, .v, "ticks", "ge.prompt_delay", 0, 0, "", 4, .any⟩,
  ⟨0x6001, 4, 512, 0x0C, 0x0C, .u64, .ro, 0, 0, .v, "events", "ge.updates", 0, 0, "", 8, .any⟩,
  ⟨0x6001, 4, 512, 0x0D, 0x0D, .u32, .ro, 0, 0, .v, "events", "ge.discarded", 0, 0, "", 4, .any⟩,
  ⟨0x6001, 4, 512, 0x0E, 0x0E, .u32, .ro, 0, 0, .v, "events", "ge.reloads", 0, 0, "", 4, .any⟩,
  ⟨0x6001, 4, 512, 0x0F, 0x0F, .u32, .ro, 0, 0, .p, "events", "ge.fe_trips", 0, 0, "", 4, .any⟩,
  ⟨0x6001, 4, 512, 0x10, 0x10, .q16, .ro, 0, 0, .v, "dB", "ge.thermal_backoff", 0, 0, "", 4, .any⟩,
  ⟨0x6001, 4, 512, 0x11, 0x11, .q16, .ro, 0, 0, .v, "dB", "ge.supply_headroom", 0, 0, "", 4, .any⟩,
  ⟨0x6001, 4, 512, 0x12, 0x12, .u32, .ro, 0, 0, .v, "ticks", "ge.apply_offset", 0, 0, "", 4, .any⟩,
  ⟨0x6001, 4, 512, 0x13, 0x13, .u8, .ro, 0, 0, .v, "", "ge.notch_active", 0, 0, "", 1, .any⟩,
  ⟨0x6001, 4, 512, 0x14, 0x14, .q16, .ro, 0, 0, .v, "dB or dBm", "ge.permit_cap", 0, 0, "", 4, .any⟩,
  ⟨0x6001, 4, 512, 0x15, 0x15, .u8, .ro, 0, 255, .v, "", "ge.permit_kind", 0, 0, "", 1, .any⟩,
  ⟨0x6001, 4, 512, 0x16, 0x16, .u8, .ro, 0, 1, .v, "units", "ge.cost", 0, 0, "", 1, .any⟩]

/-- Table 9-7 of spec/, one row per object of the table. -/
def rows9_7 : List ObjRow := [
  ⟨0x6002, 4, 512, 0x01, 0x07, .q16, .ro, 0, 0, .v, "dB", "ge.error", 1, 0, "", 4, .any⟩,
  ⟨0x6002, 4, 512, 0x11, 0x17, .q16, .ro, 0, 0, .v, "dB per update", "ge.request", 1, 0, "", 4, .any⟩]

/-- Table 9-8 of spec/, one row per object of the table. -/
def rows9_8 : List ObjRow := [
  ⟨0x6003, 4, 512, 0x01, 0x07, .blob, .rwv, 2, 0, .j, "", "ge.lut", 1, 0, "", 256, .lut⟩]

/-- Table 9-9 of spec/, one row per object of the table. -/
def rows9_9 : List ObjRow := [
  ⟨0x6002, 1, 1, 0x40, 0x40, .u32, .ro, 0, 81920000, .v, "units/s", "ge.capacity", 0, 0, "", 4, .any⟩,
  ⟨0x6002, 1, 1, 0x41, 0x41, .q16, .ro, 0, 0, .v, "%", "ge.load", 0, 0, "", 4, .any⟩,
  ⟨0x6002, 1, 1, 0x42, 0x42, .q16, .ro, 0, 0, .v, "%", "ge.load_admitted", 0, 0, "", 4, .any⟩,
  ⟨0x6002, 1, 1, 0x43, 0x43, .bool, .ro, 0, 0, .v, "", "ge.fallback", 0, 0, "", 1, .any⟩,
  ⟨0x6002, 1, 1, 0x44, 0x44, .u32, .ro, 0, 0, .v, "events", "ge.fallbacks", 0, 0, "", 4, .any⟩,
  ⟨0x6002, 1, 1, 0x45, 0x45, .q16, .ro, 0, 0, .v, "%", "ge.load_peak", 0, 0, "", 4, .any⟩]

/-- Table 10-3 of spec/, one row per object of the table. -/
def rows10_3 : List ObjRow := [
  ⟨0x7000, 1, 1, 0x01, 0x01, .bool, .ro, 0, 0, .v, "", "pr.mutepin", 0, 0, "", 1, .any⟩,
  ⟨0x7000, 1, 1, 0x02, 0x02, .u32, .ro, 0, 0, .v, "events", "pr.mutepin_count", 0, 0, "", 4, .any⟩,
  ⟨0x7000, 1, 1, 0x03, 0x03, .i16, .rwv, 2, 0, .j, "0.01 dB", "osc.margin_trip", 0, 0, "", 2, .range (-1000) 300⟩,
  ⟨0x7000, 1, 1, 0x04, 0x04, .u16, .rwv, 2, 300, .j, "0.01 dB", "osc.line_growth", 0, 0, "", 2, .range 100 2000⟩,
  ⟨0x7000, 1, 1, 0x05, 0x05, .u8, .rwv, 2, 3, .j, "windows", "osc.line_windows", 0, 0, "", 1, .range 2 16⟩,
  ⟨0x7000, 1, 1, 0x06, 0x06, .u16, .rwv, 2, 1000, .j, "0.01 dB", "osc.line_excess", 0, 0, "", 2, .range 300 4000⟩,
  ⟨0x7000, 1, 1, 0x07, 0x07, .u16, .rwv, 2, 60, .j, "s", "osc.restart_delay", 0, 0, "", 2, .range 1 3600⟩,
  ⟨0x7000, 1, 1, 0x08, 0x08, .u8, .rwv, 3, 5, .j, "restarts", "osc.restart_limit", 0, 0, "", 1, .range 0 5⟩,
  ⟨0x7000, 1, 1, 0x09, 0x09, .u32, .rwv, 2, 86400, .j, "s", "osc.decay", 0, 0, "", 4, .range 3600 2592000⟩,
  ⟨0x7000, 1, 1, 0x0A, 0x0A, .u16, .rwv, 2, 10, .j, "frames", "nl.frames", 0, 0, "", 2, .range 1 1000⟩,
  ⟨0x7000, 1, 1, 0x0B, 0x0B, .u16, .rwv, 2, 10, .j, "s", "nl.hold", 0, 0, "", 2, .range 1 3600⟩,
  ⟨0x7000, 1, 1, 0x0C, 0x0C, .u16, .rwv, 2, 60, .j, "s", "em.hold", 0, 0, "", 2, .range 1 3600⟩,
  ⟨0x7000, 1, 1, 0x0D, 0x0D, .u32, .ro, 0, 0, .p, "events", "osc.trips", 0, 0, "", 4, .any⟩,
  ⟨0x7000, 1, 1, 0x0E, 0x0E, .u16, .ro, 0, 0, .p, "events", "osc.seals", 0, 0, "", 2, .any⟩]

/-- Table 10-4 of spec/, one row per object of the table. -/
def rows10_4 : List ObjRow := [
  ⟨0x7010, 1, 32, 0x01, 0x01, .u16, .rwv, 2, 7500, .j, "codes", "hm.threshold", 0, 0, "", 2, .range 1024 8191⟩,
  ⟨0x7010, 1, 32, 0x02, 0x02, .u8, .rwv, 2, 2, .j, "samples", "hm.count", 0, 0, "", 1, .range 1 8⟩,
  ⟨0x7010, 1, 32, 0x03, 0x03, .u16, .rwv, 2, 8191, .j, "codes", "hm.limit", 0, 0, "", 2, .range 1024 8191⟩,
  ⟨0x7010, 1, 32, 0x04, 0x04, .u8, .rwv, 2, 0, .j, "", "hm.ovr_mask", 0, 0, "", 1, .any⟩,
  ⟨0x7010, 1, 32, 0x05, 0x05, .u16, .rwv, 2, 64, .j, "ticks", "hm.ovr_count", 0, 0, "", 2, .range 1 65535⟩,
  ⟨0x7010, 1, 32, 0x06, 0x06, .u8, .rwv, 2, 0, .j, "", "hm.release", 0, 0, "", 1, .range 0 1⟩,
  ⟨0x7010, 1, 32, 0x07, 0x07, .u32, .rwv, 2, 1228800, .j, "ticks", "hm.hold", 0, 0, "", 4, .range 1229 1228800000⟩,
  ⟨0x7010, 1, 32, 0x08, 0x08, .u8, .rwv, 2, 10, .j, "trips", "hm.trip_limit", 0, 0, "", 1, .range 1 255⟩,
  ⟨0x7010, 1, 32, 0x09, 0x09, .bool, .rwv, 2, 1, .j, "", "hm.mute_pin", 0, 0, "", 1, .any⟩,
  ⟨0x7010, 1, 32, 0x0A, 0x0A, .u8, .cmd, 1, 0, .v, "", "hm.clear", 0, 0, "", 1, .eq 1⟩,
  ⟨0x7010, 1, 32, 0x0B, 0x0B, .u8, .ro, 0, 0, .v, "", "hm.state", 0, 0, "", 1, .any⟩,
  ⟨0x7010, 1, 32, 0x0C, 0x0C, .u32, .ro, 0, 0, .p, "events", "hm.trips", 0, 0, "", 4, .any⟩,
  ⟨0x7010, 1, 32, 0x0D, 0x0D, .u32, .ro, 0, 0, .v, "events", "hm.clipped", 0, 0, "", 4, .any⟩,
  ⟨0x7010, 1, 32, 0x0E, 0x0E, .ot48, .ro, 0, 0, .p, "2^-10 s", "hm.last_trip", 0, 0, "", 6, .any⟩,
  ⟨0x7010, 1, 32, 0x0F, 0x0F, .u16, .ro, 0, 0, .v, "codes", "hm.peak", 0, 0, "", 2, .any⟩]

/-- Table 10-5 of spec/, one row per object of the table. -/
def rows10_5 : List ObjRow := [
  ⟨0x7040, 1, 2, 0x00, 0xFF, .u8, .ro, 0, 0, .v, "", "osc.state", 0, 0, "", 1, .any⟩,
  ⟨0x7042, 1, 2, 0x00, 0xFF, .u8, .ro, 0, 0, .v, "restarts", "osc.restarts", 0, 0, "", 1, .any⟩,
  ⟨0x7044, 1, 2, 0x00, 0xFF, .i16, .rwv, 2, (-5400), .j, "0.01 dBFS", "nl.limit", 0, 0, "", 2, .range (-9000) 0⟩,
  ⟨0x7046, 1, 2, 0x00, 0xFF, .u8, .ro, 0, 0, .v, "", "pr.cause", 0, 0, "", 1, .any⟩,
  ⟨0x7048, 1, 2, 0x00, 0xFF, .u8, .cmd, 2, 0, .v, "", "osc.restart_now", 0, 0, "", 1, .eq 1⟩,
  ⟨0x704A, 1, 2, 0x00, 0xFF, .ot48, .ro, 0, 0, .v, "2^-10 s", "osc.due", 0, 0, "", 6, .any⟩]

/-- Table 10-7 of spec/, one row per object of the table. -/
def rows10_7 : List ObjRow := [
  ⟨0x7060, 1, 64, 0x01, 0x01, .u8, .rwv, 2, 255, .j, "", "em.port", 0, 0, "", 1, .rangeOr 0 31 255⟩,
  ⟨0x7060, 1, 64, 0x02, 0x02, .u32, .rwv, 2, 0, .j, "kHz", "em.lo", 0, 0, "", 4, .range 600000 7125000⟩,
  ⟨0x7060, 1, 64, 0x03, 0x03, .u32, .rwv, 2, 0, .j, "kHz", "em.hi", 0, 0, "", 4, .range 600000 7125000⟩,
  ⟨0x7060, 1, 64, 0x04, 0x04, .u16, .rwv, 2, 0, .j, "", "em.channel", 0, 0, "", 2, .range 0 511⟩,
  ⟨0x7060, 1, 64, 0x05, 0x05, .i16, .rwv, 2, (-4500), .j, "0.01 dBc", "em.limit", 0, 0, "", 2, .range (-8000) 0⟩,
  ⟨0x7060, 1, 64, 0x06, 0x06, .u8, .rwv, 2, 3, .j, "visits", "em.count", 0, 0, "", 1, .range 1 16⟩,
  ⟨0x7060, 1, 64, 0x07, 0x07, .q16, .ro, 0, 0, .v, "dBc", "em.level", 0, 0, "", 4, .any⟩,
  ⟨0x7060, 1, 64, 0x08, 0x08, .u8, .ro, 0, 0, .v, "", "em.status", 0, 0, "", 1, .any⟩,
  ⟨0x7060, 1, 64, 0x09, 0x09, .u32, .ro, 0, 0, .p, "events", "em.breaches", 0, 0, "", 4, .any⟩]

/-- Table 11-4 of spec/, one row per object of the table. -/
def rows11_4 : List ObjRow := [
  ⟨0x7110, 1, 24, 0x01, 0x01, .u8, .rwv, 2, 0, .j, "", "tm.nentries", 0, 0, "", 1, .range 0 16⟩,
  ⟨0x7110, 1, 24, 0x02, 0x02, .bool, .rwv, 2, 0, .j, "", "tm.interleave", 0, 0, "", 1, .interleave⟩,
  ⟨0x7110, 1, 24, 0x03, 0x03, .bool, .rw, 1, 0, .v, "", "tm.offset_freeze", 0, 0, "", 1, .any⟩,
  ⟨0x7110, 1, 24, 0x04, 0x04, .u8, .ro, 0, 0, .v, "", "tm.state", 0, 0, "", 1, .any⟩,
  ⟨0x7110, 1, 24, 0x05, 0x05, .u8, .ro, 0, 255, .v, "", "tm.entry_now", 0, 0, "", 1, .any⟩,
  ⟨0x7110, 1, 24, 0x06, 0x06, .u8, .cmd, 1, 0, .v, "", "tm.inject", 0, 0, "", 1, .eq 1⟩,
  ⟨0x7110, 1, 24, 0x07, 0x07, .u16, .cmd, 2, 0, .v, "", "tm.cal", 0, 0, "", 2, .tmCal⟩,
  ⟨0x7110, 1, 24, 0x08, 0x08, .u8, .ro, 0, 0, .v, "", "tm.cal_status", 0, 0, "", 1, .any⟩,
  ⟨0x7110, 1, 24, 0x09, 0x09, .u32, .ro, 0, 0, .v, "", "tm.ovr", 0, 0, "", 4, .any⟩,
  ⟨0x7110, 1, 24, 0x0A, 0x0A, .u32, .cmd, 1, 0, .v, "", "tm.ovr_clear", 0, 0, "", 4, .any⟩,
  ⟨0x7110, 1, 24, 0x0B, 0x0B, .u64, .ro, 0, 0, .v, "events", "tm.conversions", 0, 0, "", 8, .any⟩,
  ⟨0x7110, 1, 24, 0x0C, 0x0C, .u32, .ro, 0, 0, .v, "events", "tm.preempted", 0, 0, "", 4, .any⟩,
  ⟨0x7110, 1, 24, 0x0D, 0x0D, .q16, .rw, 2, 58982, .p, "", "tm.cal_point", 0, 0, "", 4, .range 16384 65536⟩,
  ⟨0x7110, 1, 24, 0x10, 0x17, .i32, .ro, 0, 0, .v, "codes", "tm.offset", 1, 0, "", 4, .any⟩]

/-- Table 11-5 of spec/, one row per object of the table. -/
def rows11_5 : List ObjRow := [
  ⟨0x7130, 1, 24, 0x01, 0x10, .blob, .rwv, 2, 0, .j, "", "tm.entry", 1, 0, "", 16, .tmEntry⟩,
  ⟨0x7130, 1, 24, 0x11, 0x11, .blob, .rwv, 2, 0, .j, "", "tm.inject_entry", 0, 0, "", 16, .tmEntry⟩,
  ⟨0x7150, 1, 24, 0x01, 0x11, .i32, .ro, 0, 0, .p, "codes", "tm.cal_offset", 1, 0, "", 4, .any⟩,
  ⟨0x7150, 1, 24, 0x21, 0x31, .q16, .ro, 0, 65536, .p, "", "tm.cal_gain", 1, 0, "", 4, .any⟩]

/-- Table 11-6 of spec/, one row per object of the table. -/
def rows11_6 : List ObjRow := [
  ⟨0x71A0, 1, 2, 0x00, 0x7F, .i64, .ro, 0, 0, .v, "codes", "acc.sum", 0, 0, "", 8, .any⟩,
  ⟨0x71A2, 1, 2, 0x00, 0x7F, .u32, .ro, 0, 0, .v, "events", "acc.count", 0, 0, "", 4, .any⟩,
  ⟨0x71A4, 1, 2, 0x00, 0x7F, .i32, .ro, 0, 0, .v, "codes", "acc.mean", 0, 0, "", 4, .any⟩,
  ⟨0x71A6, 1, 2, 0x00, 0x7F, .u8, .cmd, 1, 0, .v, "", "acc.clear", 0, 0, "", 1, .eq 1⟩,
  ⟨0x71A8, 1, 2, 0x00, 0x7F, .bool, .rw, 1, 0, .p, "", "acc.clear_on_snap", 0, 0, "", 1, .any⟩,
  ⟨0x71AA, 1, 2, 0x00, 0x7F, .bool, .ro, 0, 0, .v, "", "acc.full", 0, 0, "", 1, .any⟩]

/-- Table 11-7 of spec/, one row per object of the table. -/
def rows11_7 : List ObjRow := [
  ⟨0x71C0, 1, 2, 0x00, 0x7F, .i32, .ro, 0, 8388607, .v, "codes", "tr.min", 0, 0, "", 4, .any⟩,
  ⟨0x71C2, 1, 2, 0x00, 0x7F, .i32, .ro, 0, (-8388608), .v, "codes", "tr.max", 0, 0, "", 4, .any⟩,
  ⟨0x71C4, 1, 2, 0x00, 0x7F, .ot48, .ro, 0, 0, .v, "2^-10 s", "tr.min_time", 0, 0, "", 6, .any⟩,
  ⟨0x71C6, 1, 2, 0x00, 0x7F, .ot48, .ro, 0, 0, .v, "2^-10 s", "tr.max_time", 0, 0, "", 6, .any⟩,
  ⟨0x71C8, 1, 2, 0x00, 0x7F, .u8, .cmd, 1, 0, .v, "", "tr.clear", 0, 0, "", 1, .eq 1⟩,
  ⟨0x71CA, 1, 2, 0x00, 0x7F, .bool, .rw, 1, 0, .p, "", "tr.clear_on_snap", 0, 0, "", 1, .any⟩]

/-- Table 12-4 of spec/, one row per object of the table. -/
def rows12_4 : List ObjRow := [
  ⟨0x7200, 1, 24, 0x01, 0x01, .bool, .rwv, 2, 0, .j, "", "rl.enable", 0, 0, "", 1, .any⟩,
  ⟨0x7200, 1, 24, 0x02, 0x02, .u8, .rwv, 2, 1, .j, "", "rl.phases", 0, 0, "", 1, .railPhases⟩,
  ⟨0x7200, 1, 24, 0x03, 0x03, .u16, .rwv, 2, 480, .j, "", "rl.pwm_div", 0, 0, "", 2, .range 123 983⟩,
  ⟨0x7200, 1, 24, 0x04, 0x04, .u16, .rwv, 2, 50, .j, "mV/µs", "rl.slope", 0, 0, "", 2, .range 1 1000⟩,
  ⟨0x7200, 1, 24, 0x05, 0x05, .u16, .rwv, 2, 1000, .j, "0.01 A", "rl.phase_ilimit", 0, 0, "", 2, .range 10 5000⟩,
  ⟨0x7200, 1, 24, 0x06, 0x06, .u16, .rwv, 2, 2000, .j, "µΩ", "rl.rsense", 0, 0, "", 2, .range 100 50000⟩,
  ⟨0x7200, 1, 24, 0x07, 0x07, .q16, .rwv, 2, 65536, .j, "", "rl.divider", 0, 0, "", 4, .range 65536 6553600⟩,
  ⟨0x7200, 1, 24, 0x08, 0x08, .u8, .rwv, 2, 0, .j, "", "rl.sel_source", 0, 0, "", 1, .range 0 1⟩,
  ⟨0x7200, 1, 24, 0x09, 0x09, .u16, .rwv, 2, 1000, .j, "mV/µs", "rl.move_ramp", 0, 0, "", 2, .range 1 10000⟩,
  ⟨0x7200, 1, 24, 0x0A, 0x0A, .u32, .rwv, 2, 0, .j, "ns", "rl.move_delay", 0, 0, "", 4, .range 0 1000000⟩,
  ⟨0x7200, 1, 24, 0x0B, 0x0B, .u32, .rwv, 2, 2000, .j, "ns", "rl.settle", 0, 0, "", 4, .range 500 1000000⟩,
  ⟨0x7200, 1, 24, 0x0C, 0x0C, .u32, .rwv, 2, 1000, .j, "µs", "rl.on_delay", 0, 0, "", 4, .range 0 10000000⟩,
  ⟨0x7200, 1, 24, 0x0D, 0x0D, .u16, .rwv, 2, 10, .j, "mV/µs", "rl.on_ramp", 0, 0, "", 2, .range 1 10000⟩,
  ⟨0x7200, 1, 24, 0x0E, 0x0E, .u32, .rwv, 2, 0, .j, "µs", "rl.off_delay", 0, 0, "", 4, .range 0 10000000⟩,
  ⟨0x7200, 1, 24, 0x0F, 0x0F, .u16, .rwv, 2, 10, .j, "mV/µs", "rl.off_ramp", 0, 0, "", 2, .range 0 10000⟩,
  ⟨0x7200, 1, 24, 0x10, 0x10, .u8, .rwv, 2, 255, .j, "", "rl.on_after", 0, 0, "", 1, .rangeOr 0 23 255⟩,
  ⟨0x7200, 1, 24, 0x11, 0x11, .u32, .rwv, 2, 1000, .j, "µs", "rl.pg_qual", 0, 0, "", 4, .range 10 1000000⟩,
  ⟨0x7200, 1, 8, 0x12, 0x12, .u16, .rwv, 2, 50, .j, "0.1 %", "rl.uv", 0, 0, "", 2, .range 10 300⟩,
  ⟨0x7200, 1, 8, 0x13, 0x13, .u16, .rwv, 2, 50, .j, "0.1 %", "rl.ov", 0, 0, "", 2, .range 10 300⟩,
  ⟨0x7200, 1, 24, 0x14, 0x14, .u32, .rwv, 2, 100, .j, "µs", "rl.fault_time", 0, 0, "", 4, .range 1 1000000⟩,
  ⟨0x7200, 1, 24, 0x15, 0x15, .u32, .rwv, 2, 20, .j, "µs", "rl.oc_time", 0, 0, "", 4, .range 1 100000⟩,
  ⟨0x7200, 1, 8, 0x16, 0x16, .u32, .rwv, 2, 2, .j, "µs", "rl.ov_time", 0, 0, "", 4, .range 1 1000⟩,
  ⟨0x7200, 1, 24, 0x17, 0x17, .u16, .rwv, 2, 5, .j, "s", "rl.retry", 0, 0, "", 2, .range 0 3600⟩,
  ⟨0x7200, 1, 24, 0x18, 0x18, .u8, .rwv, 2, 3, .j, "", "rl.retry_max", 0, 0, "", 1, .range 1 255⟩,
  ⟨0x7200, 1, 24, 0x19, 0x19, .bool, .rwv, 2, 0, .j, "", "rl.auto_shed", 0, 0, "", 1, .any⟩,
  ⟨0x7200, 1, 24, 0x1A, 0x1A, .u8, .rwv, 2, 30, .j, "%", "rl.shed_below", 0, 0, "", 1, .range 5 90⟩,
  ⟨0x7200, 1, 24, 0x1B, 0x1B, .u32, .rwv, 2, 20000, .j, "ns", "rl.keepout", 0, 0, "", 4, .range 1000 10000000⟩,
  ⟨0x7200, 1, 24, 0x1C, 0x1C, .u8, .rwv, 2, 80, .j, "%", "rl.readd_level", 0, 0, "", 1, .range 30 100⟩,
  ⟨0x7200, 1, 8, 0x1D, 0x1D, .u16, .rwv, 2, 20, .j, "0.1 %/°C", "rl.bal_gain", 0, 0, "", 2, .range 0 200⟩,
  ⟨0x7200, 1, 8, 0x1E, 0x1E, .u8, .rwv, 2, 255, .j, "", "rl.v_acc", 0, 0, "", 1, .any⟩,
  ⟨0x7200, 1, 8, 0x1F, 0x1F, .u8, .rwv, 2, 255, .j, "", "rl.i_acc", 0, 0, "", 1, .any⟩,
  ⟨0x7200, 1, 8, 0x20, 0x20, .u8, .rwv, 2, 255, .j, "", "rl.t_acc", 0, 0, "", 1, .any⟩,
  ⟨0x7200, 1, 8, 0x21, 0x21, .i32, .rwv, 2, 0, .j, "µ°C per code", "rl.temp_scale", 0, 0, "", 4, .any⟩,
  ⟨0x7200, 1, 8, 0x22, 0x22, .i32, .rwv, 2, 0, .j, "m°C", "rl.temp_offset", 0, 0, "", 4, .any⟩]

/-- Table 12-5 of spec/, one row per object of the table. -/
def rows12_5 : List ObjRow := [
  ⟨0x7220, 1, 24, 0x01, 0x08, .u16, .rwv, 2, 0, .j, "mV", "rl.sp", 1, 0, "_mv", 2, .range 0 60000⟩,
  ⟨0x7220, 1, 24, 0x11, 0x18, .u8, .rwv, 2, 0, .j, "", "rl.sp", 1, 0, "_phases", 1, .any⟩]

/-- Table 12-6 of spec/, one row per object of the table. -/
def rows12_6 : List ObjRow := [
  ⟨0x7240, 1, 24, 0x01, 0x01, .u8, .ro, 0, 0, .v, "", "rl.state", 0, 0, "", 1, .any⟩,
  ⟨0x7240, 1, 24, 0x02, 0x02, .bool, .ro, 0, 0, .v, "", "rl.pg", 0, 0, "", 1, .any⟩,
  ⟨0x7240, 1, 24, 0x03, 0x03, .u8, .ro, 0, 0, .v, "", "rl.setpoint", 0, 0, "", 1, .any⟩,
  ⟨0x7240, 1, 24, 0x04, 0x04, .u32, .ro, 0, 0, .v, "mV", "rl.vref", 0, 0, "", 4, .any⟩,
  ⟨0x7240, 1, 24, 0x05, 0x05, .u8, .ro, 0, 0, .v, "", "rl.active_phases", 0, 0, "", 1, .any⟩,
  ⟨0x7240, 1, 24, 0x06, 0x06, .u8, .ro, 0, 0, .v, "", "rl.failed_phases", 0, 0, "", 1, .any⟩,
  ⟨0x7240, 1, 24, 0x07, 0x07, .q16, .ro, 0, 0, .v, "A", "rl.ilimit", 0, 0, "", 4, .any⟩,
  ⟨0x7240, 1, 24, 0x08, 0x08, .u8, .ro, 0, 0, .v, "", "rl.sense", 0, 0, "", 1, .any⟩,
  ⟨0x7240, 1, 8, 0x09, 0x09, .q16, .ro, 0, 0, .v, "V", "rl.volts", 0, 0, "", 4, .any⟩,
  ⟨0x7240, 1, 8, 0x0A, 0x0A, .q16, .ro, 0, 0, .v, "A", "rl.amps", 0, 0, "", 4, .any⟩,
  ⟨0x7240, 1, 8, 0x0B, 0x0B, .q16, .ro, 0, 0, .v, "W", "rl.watts", 0, 0, "", 4, .any⟩,
  ⟨0x7240, 1, 8, 0x0C, 0x0C, .q16, .ro, 0, 0, .v, "A", "rl.amps_peak", 0, 0, "", 4, .any⟩,
  ⟨0x7240, 1, 8, 0x0D, 0x0D, .q16, .ro, 0, 0, .v, "W", "rl.watts_peak", 0, 0, "", 4, .any⟩,
  ⟨0x7240, 1, 8, 0x0E, 0x0E, .q16, .ro, 0, 0, .v, "dB", "rl.headroom", 0, 0, "", 4, .any⟩,
  ⟨0x7240, 1, 24, 0x0F, 0x0F, .u32, .ro, 0, 0, .p, "events", "rl.faults", 0, 0, "", 4, .any⟩,
  ⟨0x7240, 1, 24, 0x10, 0x10, .u32, .ro, 0, 0, .v, "events", "rl.readds", 0, 0, "", 4, .any⟩,
  ⟨0x7240, 1, 24, 0x11, 0x11, .u8, .cmd, 1, 0, .v, "", "rl.peak_clear", 0, 0, "", 1, .eq 1⟩,
  ⟨0x7240, 1, 24, 0x12, 0x12, .u8, .ro, 0, 0, .v, "", "rl.last_fault", 0, 0, "", 1, .any⟩,
  ⟨0x7240, 1, 24, 0x13, 0x13, .u8, .ro, 0, 0, .v, "", "rl.retries_left", 0, 0, "", 1, .any⟩,
  ⟨0x7240, 1, 8, 0x20, 0x27, .q16, .ro, 0, 0, .v, "°C", "rl.phase_temp", 1, 0, "", 4, .any⟩]

/-- Table 12-7 of spec/, one row per object of the table. -/
def rows12_7 : List ObjRow := [
  ⟨0x7280, 1, 1, 0x01, 0x20, .u8, .rwv, 2, 255, .j, "", "rl.port_rail", 0, 0, "", 1, .rangeOr 0 7 255⟩,
  ⟨0x7280, 1, 1, 0x21, 0x21, .u8, .ro, 0, 0, .v, "", "rl.vsel_pins", 0, 0, "", 1, .any⟩]

/-- Table 13-5 of spec/, one row per object of the table. -/
def rows13_5 : List ObjRow := [
  ⟨0x7300, 1, 32, 0x01, 0x01, .bool, .rwv, 2, 0, .j, "", "fd.enable", 0, 0, "", 1, .any⟩,
  ⟨0x7300, 1, 32, 0x02, 0x02, .bool, .rwv, 2, 0, .j, "", "fd.required", 0, 0, "", 1, .any⟩,
  ⟨0x7300, 1, 32, 0x03, 0x03, .u16, .rwv, 2, 100, .j, "0.01 A", "fd.ilimit", 0, 0, "", 2, .range 10 300⟩,
  ⟨0x7300, 1, 32, 0x04, 0x04, .u16, .rwv, 2, 20000, .j, "µΩ", "fd.rsense", 0, 0, "", 2, .range 1000 100000⟩,
  ⟨0x7300, 1, 32, 0x05, 0x05, .u16, .rwv, 2, 10, .j, "ms", "fd.oc_time", 0, 0, "", 2, .range 1 1000⟩,
  ⟨0x7300, 1, 32, 0x06, 0x06, .u16, .rwv, 2, 200, .j, "0.01 V/ms", "fd.dvdt", 0, 0, "", 2, .range 10 10000⟩,
  ⟨0x7300, 1, 32, 0x07, 0x07, .u16, .rwv, 2, 100, .j, "ms", "fd.inrush_max", 0, 0, "", 2, .range 10 2000⟩,
  ⟨0x7300, 1, 32, 0x08, 0x08, .u16, .rwv, 2, 50, .j, "ms", "fd.debounce", 0, 0, "", 2, .range 10 5000⟩,
  ⟨0x7300, 1, 32, 0x09, 0x09, .u16, .rwv, 2, 2000, .j, "Ω", "fd.sig_lo", 0, 0, "", 2, .range 200 9000⟩,
  ⟨0x7300, 1, 32, 0x0A, 0x0A, .u16, .rwv, 2, 8000, .j, "Ω", "fd.sig_hi", 0, 0, "", 2, .range 201 9400⟩,
  ⟨0x7300, 1, 32, 0x0B, 0x0B, .u8, .rwv, 2, 31, .j, "", "fd.class_allow", 0, 0, "", 1, .range 0 31⟩,
  ⟨0x7300, 1, 32, 0x0C, 0x0C, .u16, .rwv, 2, 5, .j, "mA", "fd.hold_ma", 0, 0, "", 2, .range 0 500⟩,
  ⟨0x7300, 1, 32, 0x0D, 0x0D, .u16, .rwv, 2, 300, .j, "ms", "fd.hold_time", 0, 0, "", 2, .range 10 10000⟩,
  ⟨0x7300, 1, 32, 0x0E, 0x0E, .u16, .rwv, 2, 5, .j, "s", "fd.retry", 0, 0, "", 2, .range 0 3600⟩,
  ⟨0x7300, 1, 32, 0x0F, 0x0F, .u8, .rwv, 2, 3, .j, "", "fd.retry_max", 0, 0, "", 1, .range 1 255⟩,
  ⟨0x7300, 1, 32, 0x10, 0x10, .u8, .rwv, 2, 0, .j, "", "fd.soa_mode", 0, 0, "", 1, .range 0 1⟩,
  ⟨0x7300, 1, 32, 0x11, 0x11, .u8, .rwv, 2, 255, .j, "", "fd.t_acc", 0, 0, "", 1, .any⟩,
  ⟨0x7300, 1, 32, 0x12, 0x12, .i32, .rwv, 2, 0, .j, "µ°C per code", "fd.t_scale", 0, 0, "", 4, .any⟩,
  ⟨0x7300, 1, 32, 0x13, 0x13, .i32, .rwv, 2, 85000, .j, "m°C", "fd.t_offset", 0, 0, "", 4, .any⟩,
  ⟨0x7300, 1, 32, 0x14, 0x14, .u16, .rwv, 2, 150, .j, "0.01 °C/W", "fd.rth1", 0, 0, "", 2, .range 1 10000⟩,
  ⟨0x7300, 1, 32, 0x15, 0x15, .u32, .rwv, 2, 1000, .j, "µs", "fd.tau1", 0, 0, "", 4, .range 10 10000000⟩,
  ⟨0x7300, 1, 32, 0x16, 0x16, .u16, .rwv, 2, 200, .j, "0.01 °C/W", "fd.rth2", 0, 0, "", 2, .range 1 10000⟩,
  ⟨0x7300, 1, 32, 0x17, 0x17, .u32, .rwv, 2, 100000, .j, "µs", "fd.tau2", 0, 0, "", 4, .range 10 10000000⟩,
  ⟨0x7300, 1, 32, 0x18, 0x18, .u16, .rwv, 2, 1500, .j, "0.1 °C", "fd.tj_max", 0, 0, "", 2, .range 500 1750⟩,
  ⟨0x7300, 1, 32, 0x19, 0x19, .u8, .rw, 1, 0, .p, "", "fd.tm_select", 0, 0, "", 1, .range 0 2⟩,
  ⟨0x7300, 1, 32, 0x1A, 0x1A, .u16, .rwv, 2, 200, .j, "0.1 °C", "fd.tj_margin", 0, 0, "", 2, .range 0 500⟩,
  ⟨0x7300, 1, 32, 0x1B, 0x1B, .u16, .rwv, 2, 600, .j, "0.01 dB", "fd.rl_limit", 0, 0, "", 2, .range 100 2000⟩,
  ⟨0x7300, 1, 32, 0x1C, 0x1C, .u8, .rwv, 2, 3, .j, "comparisons", "fd.rl_count", 0, 0, "", 1, .range 1 16⟩,
  ⟨0x7300, 1, 32, 0x1D, 0x1D, .u16, .rwv, 2, 60, .j, "s", "fd.rl_hold", 0, 0, "", 2, .range 1 3600⟩,
  ⟨0x7300, 1, 32, 0x1E, 0x1E, .u8, .cmd, 2, 0, .v, "", "fd.abort", 0, 0, "", 1, .eq 1⟩,
  ⟨0x7300, 1, 32, 0x1F, 0x1F, .u8, .cmd, 2, 0, .v, "", "fd.restart", 0, 0, "", 1, .eq 1⟩]

/-- Table 13-6 of spec/, one row per object of the table. -/
def rows13_6 : List ObjRow := [
  ⟨0x7320, 1, 32, 0x01, 0x01, .u8, .ro, 0, 0, .v, "", "fd.state", 0, 0, "", 1, .any⟩,
  ⟨0x7320, 1, 32, 0x02, 0x02, .u8, .ro, 0, 255, .v, "", "fd.class", 0, 0, "", 1, .any⟩,
  ⟨0x7320, 1, 32, 0x03, 0x03, .u16, .ro, 0, 0, .v, "Ω", "fd.signature", 0, 0, "", 2, .any⟩,
  ⟨0x7320, 1, 32, 0x04, 0x04, .q16, .ro, 0, 0, .v, "V", "fd.vin", 0, 0, "", 4, .any⟩,
  ⟨0x7320, 1, 32, 0x05, 0x05, .q16, .ro, 0, 0, .v, "V", "fd.vout", 0, 0, "", 4, .any⟩,
  ⟨0x7320, 1, 32, 0x06, 0x06, .q16, .ro, 0, 0, .v, "A", "fd.amps", 0, 0, "", 4, .any⟩,
  ⟨0x7320, 1, 32, 0x07, 0x07, .q16, .ro, 0, 0, .v, "°C", "fd.tj", 0, 0, "", 4, .any⟩,
  ⟨0x7320, 1, 32, 0x08, 0x08, .u8, .ro, 0, 0, .v, "", "fd.last_fault", 0, 0, "", 1, .any⟩,
  ⟨0x7320, 1, 32, 0x09, 0x09, .u8, .ro, 0, 0, .v, "", "fd.retries_left", 0, 0, "", 1, .any⟩,
  ⟨0x7320, 1, 32, 0x0A, 0x0A, .ot48, .ro, 0, 0, .v, "2^-10 s", "fd.retry_due", 0, 0, "", 6, .any⟩,
  ⟨0x7320, 1, 32, 0x0B, 0x0B, .u32, .ro, 0, 0, .p, "events", "fd.faults", 0, 0, "", 4, .any⟩,
  ⟨0x7320, 1, 32, 0x0C, 0x0C, .u32, .ro, 0, 0, .v, "events", "fd.removals", 0, 0, "", 4, .any⟩,
  ⟨0x7320, 1, 32, 0x0D, 0x0D, .u8, .ro, 0, 0, .v, "", "fd.status", 0, 0, "", 1, .any⟩,
  ⟨0x7320, 1, 32, 0x0E, 0x0E, .q16, .ro, 0, 0, .v, "dB", "fd.rl", 0, 0, "", 4, .any⟩,
  ⟨0x7320, 1, 32, 0x0F, 0x0F, .bool, .ro, 0, 0, .v, "", "fd.direct_lost", 0, 0, "", 1, .any⟩]

/-- Table 13-7 of spec/, one row per object of the table. -/
def rows13_7 : List ObjRow := [
  ⟨0x7340, 1, 1, 0x01, 0x01, .bool, .ro, 0, 0, .v, "", "fd.kill", 0, 0, "", 1, .any⟩,
  ⟨0x7340, 1, 1, 0x02, 0x02, .u32, .ro, 0, 0, .v, "", "fd.sealed", 0, 0, "", 4, .any⟩]

/-- Table 14-3 of spec/, one row per object of the table. -/
def rows14_3 : List ObjRow := [
  ⟨0x7400, 1, 1, 0x01, 0x01, .u8, .ro, 0, 0, .v, "", "th.level", 0, 0, "", 1, .any⟩,
  ⟨0x7400, 1, 1, 0x02, 0x02, .u8, .ro, 0, 0, .v, "", "th.governing", 0, 0, "", 1, .any⟩,
  ⟨0x7400, 1, 1, 0x03, 0x03, .bool, .ro, 0, 0, .v, "", "th.request", 0, 0, "", 1, .any⟩,
  ⟨0x7400, 1, 1, 0x04, 0x04, .u16, .rw, 2, 60, .p, "s", "th.grace", 0, 0, "", 2, .range 1 600⟩,
  ⟨0x7400, 1, 1, 0x05, 0x05, .u8, .ro, 0, 0, .v, "", "th.enforce", 0, 0, "", 1, .any⟩,
  ⟨0x7400, 1, 1, 0x06, 0x06, .q16, .ro, 0, 0, .v, "dB", "th.backoff", 0, 0, "", 4, .any⟩,
  ⟨0x7400, 1, 1, 0x07, 0x07, .u16, .rw, 2, 50, .p, "0.01 dB/s", "th.backoff_rate", 0, 0, "", 2, .range 1 1000⟩,
  ⟨0x7400, 1, 1, 0x08, 0x08, .u16, .rw, 2, 600, .p, "0.01 dB", "th.backoff_max", 0, 0, "", 2, .range 0 3000⟩,
  ⟨0x7400, 1, 1, 0x09, 0x09, .u16, .rw, 2, 10, .p, "s", "th.step_time", 0, 0, "", 2, .range 1 600⟩,
  ⟨0x7400, 1, 1, 0x0A, 0x0A, .blob, .rw, 2, 0, .p, "", "th.shed_order", 0, 0, "", 80, .shedOrder⟩,
  ⟨0x7400, 1, 1, 0x0B, 0x0B, .u8, .ro, 0, 0, .v, "", "th.shed_count", 0, 0, "", 1, .any⟩,
  ⟨0x7400, 1, 1, 0x0C, 0x0C, .u16, .rw, 2, 300, .p, "s", "th.subst_hold", 0, 0, "", 2, .range 10 3600⟩,
  ⟨0x7400, 1, 1, 0x0D, 0x0D, .bool, .ro, 0, 0, .v, "", "th.held", 0, 0, "", 1, .any⟩,
  ⟨0x7400, 1, 1, 0x0E, 0x0E, .u16, .rw, 2, 800, .p, "0.01 °C", "th.xcheck_tol", 0, 0, "", 2, .range 100 5000⟩,
  ⟨0x7400, 1, 1, 0x0F, 0x0F, .u8, .rw, 2, 3, .p, "checks", "th.xcheck_count", 0, 0, "", 1, .range 1 100⟩,
  ⟨0x7400, 1, 1, 0x10, 0x10, .u8, .rw, 2, 50, .p, "checks", "th.recover_count", 0, 0, "", 1, .range 1 255⟩,
  ⟨0x7400, 1, 1, 0x11, 0x11, .u8, .cmd, 2, 0, .v, "", "th.learn", 0, 0, "", 1, .eq 1⟩,
  ⟨0x7400, 1, 1, 0x12, 0x12, .u32, .ro, 0, 0, .p, "events", "th.throttles", 0, 0, "", 4, .any⟩,
  ⟨0x7400, 1, 1, 0x13, 0x13, .u32, .ro, 0, 0, .p, "events", "th.shutdowns", 0, 0, "", 4, .any⟩]

/-- Table 14-4 of spec/, one row per object of the table. -/
def rows14_4 : List ObjRow := [
  ⟨0x7420, 1, 3, 0x01, 0x01, .i16, .rw, 2, 950, .p, "0.1 °C", "th.warn", 0, 0, "", 2, .range (-400) 1500⟩,
  ⟨0x7423, 1, 5, 0x01, 0x01, .i16, .rw, 2, 700, .p, "0.1 °C", "th.warn", 0, 0, "", 2, .range (-400) 1500⟩,
  ⟨0x7420, 1, 3, 0x02, 0x02, .u16, .rw, 2, 20, .p, "0.1 °C", "th.warn_hyst", 0, 0, "", 2, .range 5 200⟩,
  ⟨0x7423, 1, 5, 0x02, 0x02, .u16, .rw, 2, 20, .p, "0.1 °C", "th.warn_hyst", 0, 0, "", 2, .range 5 200⟩,
  ⟨0x7420, 1, 3, 0x03, 0x03, .i16, .rw, 2, 1020, .p, "0.1 °C", "th.throttle", 0, 0, "", 2, .range (-400) 1500⟩,
  ⟨0x7423, 1, 5, 0x03, 0x03, .i16, .rw, 2, 800, .p, "0.1 °C", "th.throttle", 0, 0, "", 2, .range (-400) 1500⟩,
  ⟨0x7420, 1, 3, 0x04, 0x04, .u16, .rw, 2, 30, .p, "0.1 °C", "th.throttle_hyst", 0, 0, "", 2, .range 5 200⟩,
  ⟨0x7423, 1, 5, 0x04, 0x04, .u16, .rw, 2, 30, .p, "0.1 °C", "th.throttle_hyst", 0, 0, "", 2, .range 5 200⟩,
  ⟨0x7420, 1, 3, 0x05, 0x05, .i16, .rw, 2, 1080, .p, "0.1 °C", "th.shutdown", 0, 0, "", 2, .range (-400) 1500⟩,
  ⟨0x7423, 1, 5, 0x05, 0x05, .i16, .rw, 2, 900, .p, "0.1 °C", "th.shutdown", 0, 0, "", 2, .range (-400) 1500⟩,
  ⟨0x7420, 1, 3, 0x06, 0x06, .u16, .rw, 2, 50, .p, "0.1 °C", "th.shutdown_hyst", 0, 0, "", 2, .range 5 200⟩,
  ⟨0x7423, 1, 5, 0x06, 0x06, .u16, .rw, 2, 50, .p, "0.1 °C", "th.shutdown_hyst", 0, 0, "", 2, .range 5 200⟩]

/-- Table 14-5 of spec/, one row per object of the table. -/
def rows14_5 : List ObjRow := [
  ⟨0x7410, 1, 1, 0x01, 0x50, .q16, .ro, 0, 0, .v, "°C", "th.temp", 0, 0, "", 4, .any⟩,
  ⟨0x7411, 1, 1, 0x01, 0x50, .q16, .ro, 0, 0, .v, "°C", "th.raw", 0, 0, "", 4, .any⟩,
  ⟨0x7412, 1, 1, 0x01, 0x50, .u8, .ro, 0, 0, .v, "", "th.status", 0, 0, "", 1, .any⟩,
  ⟨0x7413, 1, 1, 0x01, 0x50, .u8, .rw, 2, 0, .p, "", "th.zone", 0, 0, "", 1, .rangeOr 3 7 255⟩,
  ⟨0x7414, 1, 1, 0x01, 0x50, .u32, .rw, 2, 0, .p, "", "th.nbrs", 0, 0, "", 4, .any⟩,
  ⟨0x7415, 1, 1, 0x01, 0x50, .u64, .rw, 2, 0, .p, "0.01 °C", "th.offsets", 0, 0, "", 8, .any⟩,
  ⟨0x7416, 1, 1, 0x01, 0x50, .u8, .ro, 0, 0, .v, "", "th.sensor_level", 0, 0, "", 1, .any⟩,
  ⟨0x7417, 1, 1, 0x01, 0x50, .u32, .ro, 0, 0, .p, "events", "th.fails", 0, 0, "", 4, .any⟩,
  ⟨0x7418, 1, 1, 0x31, 0x50, .u8, .rw, 2, 255, .p, "", "th.ext_acc", 0, 0, "", 1, .any⟩,
  ⟨0x7419, 1, 1, 0x31, 0x50, .i32, .rw, 2, 0, .p, "µ°C per code", "th.ext_scale", 0, 0, "", 4, .any⟩,
  ⟨0x741A, 1, 1, 0x31, 0x50, .i32, .rw, 2, 0, .p, "m°C", "th.ext_offset", 0, 0, "", 4, .any⟩]

/-- Table 15-5 of spec/, one row per object of the table. -/
def rows15_5 : List ObjRow := [
  ⟨0x7500, 1, 1, 0x01, 0x05, .u8, .rw, 2, 0, .p, "", "flt.react", 1, 0, "", 1, .react⟩,
  ⟨0x7500, 1, 1, 0x06, 0x06, .u16, .rw, 2, 60, .p, "s", "flt.major_hold", 0, 0, "", 2, .range 1 86400⟩,
  ⟨0x7500, 1, 1, 0x07, 0x07, .u16, .ro, 0, 0, .v, "", "flt.severe_count", 0, 0, "", 2, .any⟩,
  ⟨0x7500, 1, 1, 0x08, 0x08, .u16, .cmd, 2, 0, .v, "", "flt.clear", 0, 0, "", 2, .any⟩,
  ⟨0x7500, 1, 1, 0x09, 0x09, .u8, .cmd, 3, 0, .v, "", "flt.clear_all", 0, 0, "", 1, .eq 1⟩,
  ⟨0x7500, 1, 1, 0x0A, 0x0A, .bool, .ro, 0, 0, .v, "", "flt.stopped", 0, 0, "", 1, .any⟩,
  ⟨0x7500, 1, 1, 0x0B, 0x0B, .u16, .ro, 0, 0, .v, "", "flt.sealed_count", 0, 0, "", 2, .any⟩,
  ⟨0x7500, 1, 1, 0x0C, 0x0C, .u32, .ro, 0, 0, .p, "", "flt.sticky", 0, 0, "", 4, .any⟩,
  ⟨0x7500, 1, 1, 0x0D, 0x0D, .u32, .cmd, 1, 0, .v, "", "flt.sticky_clear", 0, 0, "", 4, .any⟩,
  ⟨0x7500, 1, 1, 0x0E, 0x0E, .u32, .rw, 2, 4294967294, .p, "", "flt.alert_mask", 0, 0, "", 4, .any⟩,
  ⟨0x7500, 1, 1, 0x0F, 0x0F, .u64, .ro, 0, 0, .p, "events", "flt.total", 0, 0, "", 8, .any⟩,
  ⟨0x7510, 1, 1, 0x00, 0x19, .u8, .rw, 2, 0, .p, "events", "flt.esc_n", 0, 0, "", 1, .any⟩,
  ⟨0x7511, 1, 1, 0x00, 0x19, .u32, .rw, 2, 0, .p, "s", "flt.esc_window", 0, 0, "", 4, .range 1 2592000⟩,
  ⟨0x7540, 1, 52, 0x00, 0xFF, .u32, .ro, 0, 0, .p, "events", "fc.count", 0, 0, "", 4, .any⟩,
  ⟨0x7580, 1, 52, 0x00, 0xFF, .u8, .ro, 0, 0, .v, "", "fc.state", 0, 0, "", 1, .any⟩]

/-- Table 16-6 of spec/, one row per object of the table. -/
def rows16_6 : List ObjRow := [
  ⟨0x7600, 1, 1, 0x01, 0x01, .u64, .ro, 0, 0, .p, "", "rec.next", 0, 0, "", 8, .any⟩,
  ⟨0x7600, 1, 1, 0x02, 0x02, .u64, .ro, 0, 0, .v, "", "rec.oldest", 0, 0, "", 8, .any⟩,
  ⟨0x7600, 1, 1, 0x03, 0x03, .u64, .rw, 0, 0, .v, "", "rec.cursor", 0, 0, "", 8, .any⟩,
  ⟨0x7600, 1, 1, 0x04, 0x04, .blob, .ro, 0, 0, .v, "", "rec.record", 0, 0, "", 32, .any⟩,
  ⟨0x7600, 1, 1, 0x05, 0x05, .u16, .ro, 0, 0, .p, "", "rec.perm_used", 0, 0, "", 2, .any⟩,
  ⟨0x7600, 1, 1, 0x06, 0x06, .u16, .rw, 0, 0, .v, "", "rec.perm_cursor", 0, 0, "", 2, .range 0 8191⟩,
  ⟨0x7600, 1, 1, 0x07, 0x07, .blob, .ro, 0, 0, .v, "", "rec.perm_record", 0, 0, "", 32, .any⟩,
  ⟨0x7600, 1, 1, 0x08, 0x08, .u16, .ro, 0, 0, .v, "", "rec.buffered", 0, 0, "", 2, .any⟩,
  ⟨0x7600, 1, 1, 0x09, 0x09, .u8, .cmd, 1, 0, .v, "", "rec.flush", 0, 0, "", 1, .eq 1⟩,
  ⟨0x7600, 1, 1, 0x0A, 0x0A, .bool, .ro, 0, 0, .v, "", "rec.loglost", 0, 0, "", 1, .any⟩,
  ⟨0x7600, 1, 1, 0x0B, 0x0B, .u32, .ro, 0, 0, .v, "events", "rec.dropped", 0, 0, "", 4, .any⟩,
  ⟨0x7600, 1, 1, 0x0C, 0x0C, .bool, .ro, 0, 0, .p, "", "rec.perm_full", 0, 0, "", 1, .any⟩,
  ⟨0x7600, 1, 1, 0x0D, 0x0D, .u32, .ro, 0, 0, .p, "", "rec.power_cycles", 0, 0, "", 4, .any⟩,
  ⟨0x7600, 1, 1, 0x0E, 0x0E, .ot48, .ro, 0, 0, .p, "2^-10 s", "rec.op_time", 0, 0, "", 6, .any⟩,
  ⟨0x7600, 1, 1, 0x0F, 0x0F, .u32, .ro, 0, 0, .p, "µs", "rec.pfail_flush", 0, 0, "", 4, .any⟩]

/-- Table 16-12 of spec/, one row per object of the table. -/
def rows16_12 : List ObjRow := [
  ⟨0x7700, 1, 1, 0x01, 0x01, .u8, .ro, 0, 0, .v, "", "gal.state", 0, 0, "", 1, .any⟩,
  ⟨0x7700, 1, 1, 0x02, 0x02, .u8, .cmd, 1, 0, .v, "", "gal.arm", 0, 0, "", 1, .eq 1⟩,
  ⟨0x7700, 1, 1, 0x03, 0x03, .u8, .cmd, 1, 0, .v, "", "gal.trigger", 0, 0, "", 1, .eq 1⟩,
  ⟨0x7700, 1, 1, 0x04, 0x04, .u8, .cmd, 1, 0, .v, "", "gal.abort", 0, 0, "", 1, .eq 1⟩,
  ⟨0x7700, 1, 1, 0x05, 0x05, .u8, .cmd, 1, 0, .v, "", "gal.release", 0, 0, "", 1, .eq 1⟩,
  ⟨0x7700, 1, 1, 0x06, 0x06, .bool, .rw, 2, 1, .p, "", "gal.auto_rearm", 0, 0, "", 1, .any⟩,
  ⟨0x7700, 1, 1, 0x07, 0x07, .u32, .rw, 2, 2457600, .p, "ticks", "gal.pre", 0, 0, "", 4, .range 0 8388608⟩,
  ⟨0x7700, 1, 1, 0x08, 0x08, .u32, .rw, 2, 1228800, .p, "ticks", "gal.post", 0, 0, "", 4, .range 1 8388608⟩,
  ⟨0x7700, 1, 1, 0x09, 0x09, .u8, .rw, 2, 3, .p, "", "gal.fault_class", 0, 0, "", 1, .rangeOr 0 4 255⟩,
  ⟨0x7700, 1, 1, 0x0A, 0x0A, .u16, .rw, 2, 65535, .p, "", "gal.fault_source", 0, 0, "", 2, .any⟩,
  ⟨0x7700, 1, 1, 0x0B, 0x0B, .u32, .rw, 2, 0, .p, "", "gal.hm_ports", 0, 0, "", 4, .any⟩,
  ⟨0x7700, 1, 1, 0x0C, 0x0C, .bool, .rw, 2, 1, .p, "", "gal.launch", 0, 0, "", 1, .any⟩,
  ⟨0x7700, 1, 1, 0x0D, 0x0D, .u8, .ro, 0, 255, .v, "", "gal.mode", 0, 0, "", 1, .any⟩,
  ⟨0x7700, 1, 1, 0x0E, 0x0E, .u8, .cmd, 3, 0, .v, "", "gal.format", 0, 0, "", 1, .range 0 1⟩,
  ⟨0x7700, 1, 1, 0x0F, 0x0F, .u64, .ro, 0, 0, .p, "", "gal.number", 0, 0, "", 8, .any⟩,
  ⟨0x7700, 1, 1, 0x10, 0x10, .u64, .ro, 0, 0, .p, "", "gal.settled", 0, 0, "", 8, .any⟩,
  ⟨0x7700, 1, 1, 0x11, 0x11, .u16, .ro, 0, 0, .v, "", "gal.reasons", 0, 0, "", 2, .any⟩,
  ⟨0x7700, 1, 1, 0x12, 0x12, .u32, .ro, 0, 0, .v, "", "gal.tag", 0, 0, "", 4, .any⟩,
  ⟨0x7700, 1, 1, 0x13, 0x13, .tb64, .ro, 0, 18446744073709551615, .v, "", "gal.trigger_tb", 0, 0, "", 8, .any⟩,
  ⟨0x7700, 1, 1, 0x14, 0x14, .u32, .ro, 0, 0, .v, "ticks", "gal.pre_actual", 0, 0, "", 4, .any⟩,
  ⟨0x7700, 1, 1, 0x15, 0x15, .u8, .ro, 0, 0, .v, "", "gal.status", 0, 0, "", 1, .any⟩,
  ⟨0x7700, 1, 1, 0x16, 0x16, .u8, .ro, 0, 0, .v, "", "gal.drive_state", 0, 0, "", 1, .any⟩,
  ⟨0x7700, 1, 1, 0x17, 0x17, .u8, .ro, 0, 0, .v, "", "gal.link", 0, 0, "", 1, .any⟩,
  ⟨0x7700, 1, 1, 0x18, 0x18, .u32, .ro, 0, 0, .v, "", "gal.slots", 0, 0, "", 4, .any⟩,
  ⟨0x7700, 1, 1, 0x19, 0x19, .u32, .ro, 0, 0, .v, "", "gal.used", 0, 0, "", 4, .any⟩,
  ⟨0x7700, 1, 1, 0x1A, 0x1A, .u32, .ro, 0, 0, .v, "events", "gal.ignored", 0, 0, "", 4, .any⟩,
  ⟨0x7700, 1, 1, 0x1B, 0x1B, .u32, .ro, 0, 0, .p, "events", "gal.lost", 0, 0, "", 4, .any⟩,
  ⟨0x7700, 1, 1, 0x21, 0x24, .u16, .rw, 2, 0, .p, "", "gal.src", 1, 0, "", 2, .galSource⟩,
  ⟨0x7700, 1, 1, 0x31, 0x34, .u32, .ro, 0, 0, .v, "samples", "gal.wrap", 1, 0, "", 4, .any⟩]

/-- Table 17-8 of spec/, one row per object of the table. -/
def rows17_8 : List ObjRow := [
  ⟨0x7800, 1, 1, 0x01, 0x01, .u8, .ro, 0, 0, .v, "", "host.link", 0, 0, "", 1, .any⟩,
  ⟨0x7800, 1, 1, 0x02, 0x02, .u32, .ro, 0, 0, .v, "events", "host.retrains", 0, 0, "", 4, .any⟩,
  ⟨0x7800, 1, 1, 0x03, 0x03, .u32, .ro, 0, 0, .v, "MB/s", "host.dma_cap", 0, 0, "", 4, .any⟩,
  ⟨0x7800, 1, 1, 0x04, 0x04, .u32, .ro, 0, 0, .v, "MB/s", "host.dma_load", 0, 0, "", 4, .any⟩,
  ⟨0x7800, 1, 1, 0x05, 0x05, .u32, .ro, 0, 0, .v, "events", "host.ntf_dropped", 0, 0, "", 4, .any⟩,
  ⟨0x7800, 1, 1, 0x06, 0x06, .u32, .ro, 0, 0, .v, "events", "host.if_resets", 0, 0, "", 4, .any⟩,
  ⟨0x7800, 1, 1, 0x07, 0x07, .u32, .ro, 0, 0, .v, "events", "host.aer_corr", 0, 0, "", 4, .any⟩,
  ⟨0x7800, 1, 1, 0x08, 0x08, .u32, .ro, 0, 0, .p, "events", "host.aer_uncorr", 0, 0, "", 4, .any⟩,
  ⟨0x7810, 1, 32, 0x01, 0x01, .u16, .rw, 1, 0, .v, "", "dma.source", 0, 0, "", 2, .dmaSource⟩,
  ⟨0x7810, 1, 32, 0x02, 0x02, .u16, .rw, 1, 1, .v, "", "dma.decim", 0, 0, "", 2, .range 1 4096⟩,
  ⟨0x7810, 1, 32, 0x03, 0x03, .u64, .rw, 1, 0, .v, "", "dma.ring_base", 0, 0, "", 8, .step 0 18446744073709551615 4096⟩,
  ⟨0x7810, 1, 32, 0x04, 0x04, .u32, .rw, 1, 0, .v, "blocks", "dma.ring_blocks", 0, 0, "", 4, .pow2⟩,
  ⟨0x7810, 1, 32, 0x05, 0x05, .u8, .rw, 1, 0, .v, "", "dma.overflow", 0, 0, "", 1, .range 0 1⟩,
  ⟨0x7810, 1, 32, 0x06, 0x06, .u16, .rw, 1, 64, .v, "blocks", "dma.irq_blocks", 0, 0, "", 2, .range 1 65535⟩,
  ⟨0x7810, 1, 32, 0x07, 0x07, .u8, .cmd, 1, 0, .v, "", "dma.run", 0, 0, "", 1, .range 0 1⟩,
  ⟨0x7810, 1, 32, 0x08, 0x08, .u8, .ro, 0, 0, .v, "", "dma.state", 0, 0, "", 1, .any⟩,
  ⟨0x7810, 1, 32, 0x09, 0x09, .u64, .ro, 0, 0, .v, "blocks", "dma.blocks", 0, 0, "", 8, .any⟩,
  ⟨0x7810, 1, 32, 0x0A, 0x0A, .u32, .ro, 0, 0, .v, "blocks", "dma.dropped", 0, 0, "", 4, .any⟩,
  ⟨0x7810, 1, 32, 0x0B, 0x0B, .u32, .ro, 0, 0, .v, "MB/s", "dma.rate", 0, 0, "", 4, .any⟩]

/-- Table 18-6 of spec/, one row per object of the table. -/
def rows18_6 : List ObjRow := [
  ⟨0x7900, 1, 1, 0x01, 0x01, .u8, .ro, 0, 0, .p, "", "sec.state", 0, 0, "", 1, .any⟩,
  ⟨0x7900, 1, 1, 0x02, 0x02, .blob, .ro, 0, 0, .v, "", "sec.id_pub", 0, 0, "", 64, .any⟩,
  ⟨0x7900, 1, 1, 0x03, 0x03, .u8, .ro, 0, 0, .p, "", "sec.roots", 0, 0, "", 1, .any⟩,
  ⟨0x7900, 1, 1, 0x04, 0x04, .blob, .cmd, 0, 0, .v, "", "sec.root_install", 0, 0, "", 148, .lenRange 148 148⟩,
  ⟨0x7900, 1, 1, 0x05, 0x05, .blob, .cmd, 0, 0, .v, "", "sec.cred_install", 0, 0, "", 200, .lenRange 200 200⟩,
  ⟨0x7900, 1, 1, 0x06, 0x06, .u8, .ro, 0, 0, .p, "", "sec.cred_levels", 0, 0, "", 1, .any⟩,
  ⟨0x7900, 1, 1, 0x07, 0x07, .u8, .cmd, 0, 0, .v, "", "sec.unlock", 0, 0, "", 1, .range 1 3⟩,
  ⟨0x7900, 1, 1, 0x08, 0x08, .blob, .ro, 0, 0, .v, "", "sec.challenge", 0, 0, "", 16, .any⟩,
  ⟨0x7900, 1, 1, 0x09, 0x09, .blob, .wo, 0, 0, .v, "", "sec.response", 0, 0, "", 32, .lenRange 32 32⟩,
  ⟨0x7900, 1, 1, 0x0A, 0x0A, .u8, .ro, 0, 0, .v, "", "sec.auth_status", 0, 0, "", 1, .any⟩,
  ⟨0x7900, 1, 1, 0x0B, 0x0B, .u8, .ro, 0, 0, .p, "", "sec.auth_fails", 0, 0, "", 1, .any⟩,
  ⟨0x7900, 1, 1, 0x0C, 0x0C, .ot48, .ro, 0, 0, .p, "2^-10 s", "sec.lockout_end", 0, 0, "", 6, .any⟩,
  ⟨0x7900, 1, 1, 0x0D, 0x0D, .blob, .cmd, 2, 0, .v, "", "sec.permit_install", 0, 0, "", 128, .lenRange 128 128⟩,
  ⟨0x7900, 1, 1, 0x0E, 0x0E, .blob, .cmd, 1, 0, .v, "", "sec.revoke", 0, 0, "", 1048, .any⟩,
  ⟨0x7900, 1, 1, 0x10, 0x10, .u32, .rw, 3, 0, .v, "bytes", "sec.fw_offset", 0, 0, "", 4, .any⟩,
  ⟨0x7900, 1, 1, 0x11, 0x11, .blob, .cmd, 3, 0, .v, "", "sec.fw_write", 0, 0, "", 4096, .lenRange 1 4096⟩,
  ⟨0x7900, 1, 1, 0x12, 0x12, .u8, .cmd, 3, 0, .v, "", "sec.fw_commit", 0, 0, "", 1, .eq 1⟩,
  ⟨0x7900, 1, 1, 0x13, 0x13, .u8, .ro, 0, 0, .v, "", "sec.fw_status", 0, 0, "", 1, .any⟩,
  ⟨0x7900, 1, 1, 0x14, 0x14, .u8, .cmd, 3, 0, .v, "", "sec.fw_confirm", 0, 0, "", 1, .eq 1⟩,
  ⟨0x7900, 1, 1, 0x15, 0x15, .u16, .ro, 0, 0, .p, "", "sec.fw_svn", 0, 0, "", 2, .any⟩,
  ⟨0x7900, 1, 1, 0x16, 0x16, .u8, .ro, 0, 0, .v, "", "sec.fw_slot", 0, 0, "", 1, .any⟩,
  ⟨0x7901, 1, 1, 0x01, 0x08, .blob, .ro, 0, 0, .p, "", "sec.root_pub", 1, 0, "", 64, .any⟩,
  ⟨0x7902, 1, 1, 0x01, 0x08, .u32, .ro, 0, 0, .p, "", "sec.rev_seq", 1, 0, "", 4, .any⟩,
  ⟨0x7910, 1, 1, 0x01, 0x40, .blob, .ro, 0, 0, .p, "", "sec.permit", 0, 0, "", 128, .any⟩,
  ⟨0x7911, 1, 1, 0x01, 0x40, .u8, .ro, 0, 0, .p, "", "sec.permit_state", 0, 0, "", 1, .any⟩,
  ⟨0x7930, 1, 2, 0x00, 0xFF, .u8, .ro, 0, 255, .v, "", "sec.ch_permit", 0, 0, "", 1, .any⟩]

/-- Table 19-7 of spec/, one row per object of the table. -/
def rows19_7 : List ObjRow := [
  ⟨0x7A00, 1, 1, 0x01, 0x01, .u8, .ro, 0, 0, .v, "", "pd.boot_stage", 0, 0, "", 1, .any⟩,
  ⟨0x7A00, 1, 1, 0x02, 0x02, .u8, .ro, 0, 1, .v, "", "pd.last_reset", 0, 0, "", 1, .any⟩,
  ⟨0x7A00, 1, 1, 0x03, 0x03, .u32, .ro, 0, 0, .v, "µs", "pd.ready_time", 0, 0, "", 4, .any⟩,
  ⟨0x7A00, 1, 1, 0x04, 0x04, .u32, .ro, 0, 0, .v, "µs", "pd.replay_time", 0, 0, "", 4, .any⟩,
  ⟨0x7A00, 1, 1, 0x05, 0x05, .u16, .ro, 0, 0, .p, "", "pd.repair_gen", 0, 0, "", 2, .any⟩,
  ⟨0x7A00, 1, 1, 0x06, 0x06, .u8, .cmd, 3, 0, .v, "", "pd.repair", 0, 0, "", 1, .eq 1⟩,
  ⟨0x7A00, 1, 1, 0x07, 0x07, .u32, .rw, 2, 86400, .p, "s", "pd.sleep_stale", 0, 0, "", 4, .range 60 2592000⟩,
  ⟨0x7A00, 1, 1, 0x08, 0x08, .u32, .ro, 0, 0, .p, "events", "pd.warm_resets", 0, 0, "", 4, .any⟩,
  ⟨0x7A10, 1, 1, 0x01, 0x54, .bool, .rwv, 2, 0, .j, "", "pd.hold", 0, 0, "", 1, .any⟩,
  ⟨0x7A11, 1, 1, 0x01, 0xD4, .u8, .ro, 0, 0, .v, "", "pd.state", 0, 0, "", 1, .any⟩,
  ⟨0x7A20, 1, 1, 0x01, 0x20, .u8, .ro, 0, 0, .v, "", "pd.return", 0, 0, "", 1, .any⟩,
  ⟨0x7A21, 1, 1, 0x01, 0x20, .blob, .ro, 0, 0, .p, "", "pd.fingerprint", 0, 0, "", 16, .any⟩]

/-- Table 20-5 of spec/, one row per object of the table. -/
def rows20_5 : List ObjRow := [
  ⟨0x7B00, 1, 1, 0x01, 0x01, .u16, .cmd, 2, 0, .v, "", "st.run", 0, 0, "", 2, .any⟩,
  ⟨0x7B00, 1, 1, 0x02, 0x02, .u8, .cmd, 2, 0, .v, "", "st.abort", 0, 0, "", 1, .eq 1⟩,
  ⟨0x7B00, 1, 1, 0x03, 0x03, .u8, .ro, 0, 0, .v, "", "st.state", 0, 0, "", 1, .any⟩,
  ⟨0x7B00, 1, 1, 0x04, 0x04, .u16, .ro, 0, 0, .v, "", "st.block", 0, 0, "", 2, .any⟩,
  ⟨0x7B00, 1, 1, 0x05, 0x05, .u8, .ro, 0, 0, .v, "", "st.step", 0, 0, "", 1, .any⟩,
  ⟨0x7B00, 1, 1, 0x06, 0x06, .u8, .rw, 1, 4, .p, "", "st.led", 0, 0, "", 1, .range 0 15⟩,
  ⟨0x7B00, 1, 1, 0x07, 0x07, .u16, .rw, 2, 3072, .p, "", "st.panel_block", 0, 0, "", 2, .any⟩,
  ⟨0x7B00, 1, 1, 0x08, 0x08, .u32, .ro, 0, 0, .p, "events", "st.fails", 0, 0, "", 4, .any⟩,
  ⟨0x7B01, 1, 2, 0x01, 0x01, .u32, .rw, 1, 0, .p, "", "mtr.source", 0, 0, "", 4, .mtrSource⟩,
  ⟨0x7B01, 1, 2, 0x02, 0x02, .q16, .rw, 1, 655360, .p, "mV per unit", "mtr.scale", 0, 0, "", 4, .range (-655360000) 655360000⟩,
  ⟨0x7B01, 1, 2, 0x03, 0x03, .i32, .rw, 1, 0, .p, "mV", "mtr.offset", 0, 0, "", 4, .range (-100000) 100000⟩,
  ⟨0x7B01, 1, 2, 0x04, 0x04, .q16, .ro, 0, 0, .v, "V", "mtr.volts", 0, 0, "", 4, .any⟩,
  ⟨0x7B01, 1, 2, 0x05, 0x05, .u8, .ro, 0, 0, .v, "", "mtr.status", 0, 0, "", 1, .any⟩,
  ⟨0x7B10, 1, 8, 0x01, 0x01, .u8, .rw, 2, 0, .p, "", "key.mode", 0, 0, "", 1, .range 0 2⟩,
  ⟨0x7B10, 1, 8, 0x02, 0x02, .u8, .rw, 2, 0, .p, "", "key.function", 0, 0, "", 1, .range 0 4⟩,
  ⟨0x7B10, 1, 8, 0x03, 0x03, .u16, .rw, 2, 20, .p, "ms", "key.debounce", 0, 0, "", 2, .range 5 500⟩,
  ⟨0x7B10, 1, 8, 0x04, 0x04, .u16, .rw, 2, 50, .p, "0.1 %", "key.threshold", 0, 0, "", 2, .range 10 500⟩,
  ⟨0x7B10, 1, 8, 0x05, 0x05, .u8, .ro, 0, 0, .v, "", "key.state", 0, 0, "", 1, .any⟩,
  ⟨0x7B10, 1, 8, 0x06, 0x06, .u32, .ro, 0, 0, .p, "events", "key.presses", 0, 0, "", 4, .any⟩,
  ⟨0x7B20, 1, 1, 0x01, 0x10, .u16, .rw, 1, 0, .p, "", "led.source", 0, 0, "", 2, .ledSource⟩,
  ⟨0x7B20, 1, 1, 0x11, 0x11, .u16, .ro, 0, 0, .v, "", "led.levels", 0, 0, "", 2, .any⟩,
  ⟨0x7B30, 1, 1, 0x01, 0x01, .u8, .ro, 0, 0, .v, "", "ban.state", 0, 0, "", 1, .any⟩,
  ⟨0x7B30, 1, 1, 0x02, 0x02, .ot48, .ro, 0, 0, .v, "2^-10 s", "ban.end", 0, 0, "", 6, .any⟩,
  ⟨0x7B30, 1, 1, 0x03, 0x03, .u16, .rw, 2, 1800, .p, "s", "ban.time", 0, 0, "", 2, .range 60 14400⟩,
  ⟨0x7B30, 1, 1, 0x04, 0x04, .u32, .rw, 2, 4294967295, .p, "", "ban.feeds", 0, 0, "", 4, .any⟩,
  ⟨0x7B30, 1, 1, 0x05, 0x05, .u16, .rw, 2, 2000, .p, "ms", "ban.press", 0, 0, "", 2, .range 500 10000⟩,
  ⟨0x7B30, 1, 1, 0x06, 0x06, .u32, .ro, 0, 0, .p, "events", "ban.count", 0, 0, "", 4, .any⟩,
  ⟨0x7B40, 1, 1, 0x01, 0x01, .str, .rw, 3, 0, .v, "", "rp.note", 0, 0, "", 48, .any⟩,
  ⟨0x7B41, 1, 1, 0x01, 0x80, .blob, .ro, 0, 0, .p, "", "rp.entry", 0, 0, "", 64, .any⟩]

/-- The rows whose index lies in the ranges of Table 2-4, so that a look-up reads one chapter's tables. -/
def rowsFor (index : Nat) : List ObjRow :=
  if index < 0x1010 then rows0_2 ++ rows1_5
  else if index < 0x1100 then rows2_12
  else if index < 0x2000 then rows2_13
  else if index < 0x2100 then rows3_8 ++ rows3_9 ++ rows3_10
  else if index < 0x2200 then rows4_1 ++ rows4_8 ++ rows4_12
  else if index < 0x3000 then rows5_9
  else if index < 0x4000 then rows6_6 ++ rows6_7 ++ rows6_9 ++ rows6_10 ++ rows6_11 ++ rows6_12
  else if index < 0x6000 then rows7_6 ++ rows7_7 ++ rows7_9 ++ rows7_10 ++ rows7_11
  else if index < 0x6800 then rows9_5 ++ rows9_6 ++ rows9_7 ++ rows9_8 ++ rows9_9
  else if index < 0x7000 then rows8_4 ++ rows8_5 ++ rows8_6 ++ rows8_7 ++ rows8_8
  else if index < 0x7100 then rows10_3 ++ rows10_4 ++ rows10_5 ++ rows10_7
  else if index < 0x7200 then rows11_4 ++ rows11_5 ++ rows11_6 ++ rows11_7
  else if index < 0x7300 then rows12_4 ++ rows12_5 ++ rows12_6 ++ rows12_7
  else if index < 0x7400 then rows13_5 ++ rows13_6 ++ rows13_7
  else if index < 0x7500 then rows14_3 ++ rows14_4 ++ rows14_5
  else if index < 0x7600 then rows15_5
  else if index < 0x7700 then rows16_6
  else if index < 0x7800 then rows16_12
  else if index < 0x7900 then rows17_8
  else if index < 0x7A00 then rows18_6
  else if index < 0x7B00 then rows19_7
  else if index < 0x7C00 then rows20_5
  else []

/-- Number of instances of fault source kind k (Table 15-2). -/
def faultInstances (k : Nat) : Nat :=
  match k with
  | 0x00 => 1 | 0x01 => 6 | 0x02 => 1 | 0x03 => 72 | 0x04 => 1 | 0x05 => 3 | 0x06 => 2 | 0x07 => 32
  | 0x08 => 64 | 0x09 => 32 | 0x0A => 512 | 0x0B => 512 | 0x0C => 512 | 0x0D => 512 | 0x0E => 512 | 0x0F => 32
  | 0x10 => 24 | 0x11 => 24 | 0x12 => 32 | 0x13 => 80 | 0x14 => 1 | 0x15 => 2 | 0x16 => 1 | 0x17 => 512
  | 0x18 => 1 | 0x19 => 1 | _ => 0

/-- Whether the row's block really holds the object at this index and sub-index: R54 (masters 0, 6 and 7),
R330 (instances of a fault kind). -/
def ObjRow.holds (r : ObjRow) (index sub : Nat) : Bool :=
  decide (r.subLo ≤ sub) && decide (sub ≤ r.subHi) && decide (r.base ≤ index) &&
  (if r.stride = 0 then decide (index = r.base)
   else decide ((index - r.base) % r.stride = 0) && decide ((index - r.base) / r.stride < r.count)) &&
  (if 0x1100 ≤ index ∧ index < 0x1148 then
     decide (index ≠ 0x1106) && decide (index ≠ 0x1107) && !(decide (index = 0x1100) && (decide (sub = 5) || decide (sub = 6)))
   else if 0x7540 ≤ index ∧ index < 0x75C0 then
     decide (((index - 0x7540) % 0x40) % 2 * 256 + sub < faultInstances (((index - 0x7540) % 0x40) / 2))
   else true)

/-- The row that defines index.sub, if any (R36). -/
def Dict.row? (index sub : Nat) : Option ObjRow := (rowsFor index).find? (fun r => r.holds index sub)

/-- The row of a key. -/
def Dict.rowOf (k : Nat) : Option ObjRow := Dict.row? (k / 256) (k % 256)

/-- Table 2-11: default allowance and burst of master m. -/
def defaultAllowance (m : Nat) : Nat :=
  if m = 1 then 50000 else if m = 2 then 200 else if m < 6 then 20000 else 2000

def defaultBurst (m : Nat) : Nat :=
  if m = 1 then 256 else if m = 2 then 16 else if m < 6 then 128 else 32

/-- Table 15-2: default escalation count and window of a fault kind. -/
def defaultEscN (k : Nat) : Nat :=
  match k with
  | 0x01 => 3 | 0x05 => 10 | 0x07 => 5 | 0x08 => 5 | 0x09 => 10 | 0x0A => 5 | 0x0B => 5 | 0x0C => 3 | 0x0E => 10
  | 0x0F => 20 | 0x11 => 3 | 0x12 => 10 | _ => 0

def defaultEscWindow (k : Nat) : Nat :=
  match k with
  | 0x09 => 86400 | 0x0A => 600 | 0x0B => 600 | 0x0C => 600 | 0x0F => 600 | _ => 3600

/-- Table 14-1: default neighbours of sensor n, none as 0xFF, one octet each. -/
def defaultNbrs (n : Nat) : List Nat :=
  if n < 24 then
    let row := n / 6
    let col := n % 6
    (if row = 0 then [] else [n - 6]) ++ (if col = 0 then [] else [n - 1]) ++
      (if col = 5 then [] else [n + 1]) ++ (if row = 3 then [] else [n + 6])
  else if n < 44 then
    let w := (n - 24) / 5
    let j := (n - 24) % 5
    let b := 24 + 5 * w
    if j = 4 then [b, b + 1, b + 2, b + 3]
    else (if j = 0 then [] else [b + j - 1]) ++ (if j = 3 then [] else [b + j + 1]) ++ [b + 4]
  else if n < 48 then [44, 45, 46, 47].filter (fun m => decide (m ≠ n))
  else []

/-- The U32 of th.nbrs: octet i is neighbour i, 0xFF none. -/
def packNbrs (l : List Nat) : Nat :=
  l.getD 0 0xFF + l.getD 1 0xFF * 0x100 + l.getD 2 0xFF * 0x10000 + l.getD 3 0xFF * 0x1000000

/-- The default zone of a sensor (Table 14-1). -/
def defaultZone (n : Nat) : Nat := if n < 24 then 0 else if n < 44 then 1 else if n < 48 then 2 else 0xFF

/-- Defaults that a row names by a table or a rule instead of a number. -/
def Dict.special (k : Nat) : Option Int :=
  let index := k / 256
  let sub := k % 256
  if 0x1100 ≤ index ∧ index < 0x1148 ∧ sub = 5 then some (defaultAllowance (index - 0x1100))
  else if 0x1100 ≤ index ∧ index < 0x1148 ∧ sub = 6 then some (defaultBurst (index - 0x1100))
  else if index = 0x1100 ∧ sub = 2 then some 3
  else if 0x1101 ≤ index ∧ index ≤ 0x1105 ∧ sub = 1 then some ([0x0100, 0x0200, 0x0300, 0x0301, 0x0302].getD (index - 0x1101) 0)
  else if k = 0x100101 then some 4
  else if 0x7010 ≤ index ∧ index < 0x7030 ∧ sub = 4 then some (2 ^ ((index - 0x7010) % 8) : Nat)
  else if index = 0x7413 then some (defaultZone (sub - 1))
  else if index = 0x7414 then some (packNbrs (defaultNbrs (sub - 1)))
  else if index = 0x7412 ∧ 0x31 ≤ sub then some 3
  else if index = 0x7500 ∧ 1 ≤ sub ∧ sub ≤ 5 then some ([0x01, 0x03, 0x07, 0x0F, 0x03].getD (sub - 1) 0)
  else if index = 0x7510 then some (defaultEscN sub)
  else if index = 0x7511 then some (defaultEscWindow sub)
  else if index = 0x7B10 ∧ sub = 2 then some 1
  else if index = 0x7B20 ∧ sub ≤ 7 then some ([0x6000, 0x5003, 0x2001, 0x7000, 0x8000, 0x9000, 0xA002].getD (sub - 1) 0)
  else if k = K.idSerial then some (Config.serial.toNat : Int)
  else none

/-- The default of a key: what an object reads as when nothing has set it (R35). DESIGN CHOICE, log entry 24. -/
def Dict.default (k : Nat) : Int :=
  match Dict.special k with
  | some v => v
  | none => match Dict.rowOf k with
    | some r => r.dflt
    | none => 0

/-- The four octets of a word, least significant first (R31). -/
def le4 (v : Int) : List Byte := (List.range 4).map (fun i => BitVec.ofInt 8 (v / 256 ^ i))

/-- Table 9-3: s, up and down of the default table of loop i, in hundredths. -/
def lutParams (i : Nat) : Int × Int × Int :=
  match i with
  | 0 => (10, 50, 300) | 1 => (5, 25, 600) | 2 => (10, 25, 200) | 3 => (10, 100, 100)
  | 4 => (10, 100, 100) | 5 => (20, 100, 100) | _ => (10, 50, 200)

/-- The rate word of a default point: clamp (s e, -down, up) in Q16.16 (R225), nearest word. -/
def lutDefaultRate (i : Nat) (e : Int) : Int :=
  let (s, up, down) := lutParams i
  let x := max (-down) (min up (s * e))
  (x * 65536 * 2 + 100) / 200

/-- The default table of loop i: 32 points at e = -31, -29, ..., 31 dB (R225). -/
def defaultLut (i : Nat) : List Byte :=
  (List.range 32).flatMap (fun n => le4 ((2 * (n : Int) - 31) * 65536) ++ le4 (lutDefaultRate i (2 * (n : Int) - 31)))

/-- The octets a STR or BLOB object reads as when nothing has set it. -/
def Dict.defaultBlob (k : Nat) : List Byte :=
  let index := k / 256
  let sub := k % 256
  if k = K.idPart then [0x50, 0x44, 0x56, 0x38, 0x35, 0x31, 0x32]
  else if k = K.idSilicon then [0x41, 0x30]
  else if k = K.idGrade then [0x45]
  else if k = K.secIdPub then (List.range 64).map Config.idPub
  else if 0x6000 ≤ index ∧ index < 0x6800 ∧ index % 4 = 3 then defaultLut (sub - 1)
  else if 0x2110 ≤ index ∧ index < 0x2120 then List.replicate 16 0
  else if 0x21A0 ≤ index ∧ index < 0x21A8 then List.replicate 16 0
  else if 0x7130 ≤ index ∧ index < 0x7148 then List.replicate 16 0
  else if index = 0x7A21 then List.replicate 16 0
  else if index = 0x7B41 then List.replicate 64 0
  else []

end Sys2Proof.Machine
end

