-- ==== Sys2Proof/Machine/State.lean ====
section
/-! DEFINITION. The state of the part. Every dictionary object (R30) stands in `obj` (numbers) or `blob` (STR and BLOB)
under the key index * 256 + sub-index; what the spec gives the part beside its objects stands in one record per block. -/

namespace Sys2Proof.Machine

/-- Why a command stops without a next state. No rule of spec/ gives one: every command's effect is stated. -/
inductive Fault where
  /-- Raised by nothing: kept so that the type has a name for a store outside every table (safe). -/
  | outsideTables
  deriving DecidableEq, Repr

/-- Why the model gives a command no meaning. -/
inductive Refusal where
  /-- Raised by an arm of exec whose command has no meaning yet (safe: nothing can be proved of it). -/
  | notModelled (mnemonic : String)
  deriving DecidableEq, Repr

/-- A value of an object: a number, or octets (STR, BLOB). -/
inductive Val where
  | num (v : Int)
  | oct (b : List Byte)
  deriving DecidableEq, Repr

/-- A response kept for resending (R40): status and payload. -/
structure Rsp where
  status : Nat
  payload : List Byte
  deriving DecidableEq, Repr

/-- What the part holds of a flow's master beside its dictionary record (R40, R45, R48, R343, R376). -/
structure Master where
  /-- The CAN node bound to this slot (R45). -/
  node : Option Nat
  /-- What the bucket holds, in 1/8,000 of a token; none while it is full (R48). -/
  tokens : Option Nat
  /-- The seq of the last completed request; none: the next request may carry any seq (R40). -/
  lastSeq : Option Nat
  /-- The last request with its kind code, and the response stored for a repeat of it. -/
  lastReq : Option (Nat × Frame)
  lastRsp : Rsp
  /-- A COMMIT of this flow is outstanding (R40, R118). -/
  outstanding : Bool
  /-- A segmented value in progress: kind code, first frame, octets so far, next seq (R39). -/
  seg : Option (Nat × Frame × List Byte × Nat)
  /-- The tick of the last request (R48, R45). -/
  lastActive : Nat
  cursor : Nat
  permCursor : Nat
  /-- The seq of the next NOTIFY to this master (R54). -/
  notifySeq : Nat
  /-- The challenge held (R376): level, octets, tick of expiry. -/
  challenge : Option (Nat × List Byte × Nat)
  /-- sec.auth_status of this master. -/
  auth : Nat
  deriving DecidableEq, Repr

/-- A master nothing has been heard of: its bucket full, any seq allowed. -/
def Master.fresh : Master :=
  ⟨none, none, none, none, ⟨0, []⟩, false, none, 0, 0, 0, 0, none, 0⟩

/-- What the part sent on one of its routes, pins aside. -/
inductive Out where
  /-- The first frame of a response to a flow (R39, R42): the length of the whole payload, whether SEGMENT frames follow, and the octets
  of this frame. -/
  | response (flow kind seq index sub status length : Nat) (more : Bool) (payload : List Byte)
  /-- A SEGMENT frame of a response to a flow (R39), and whether others follow. -/
  | segment (flow seq : Nat) (more : Bool) (payload : List Byte)
  /-- NOSLOT to a CAN node that has no slot (R45): controller, node, and the request's kind, seq, index and sub. -/
  | noSlot (bus node kind seq index sub : Nat)
  /-- A NOTIFY to a master (R38, R54): its seq, the index and sub of its object (0x7600 and 0x00: an event record), and its octets. -/
  | notify (m seq index sub : Nat) (payload : List Byte)
  /-- A console line: its fixed words, numbers and octets (R47, R403). -/
  | line (words : String) (nums : List Int) (octets : List Byte)
  /-- A control or launch cell of a Stairway link: code, link, numbers (R73, R128). -/
  | cell (code link : Nat) (nums : List Int)
  /-- A tunnelled frame handed to a link (R46): its header and the octets of the frame behind it. -/
  | tunnel (link : Nat) (h : TunHdr) (frame : List Byte)
  /-- An MSI-X message of a vector (R363). -/
  | msix (v : Nat)
  /-- A command to the NVMe drive: admin or I/O opcode, its first words, and the octets of a Write; what a Write covers beyond them is zero
  (R349, R352). -/
  | nvme (opcode : Nat) (nums : List Nat) (octets : List Byte)
  /-- Completions and posted writes of the PCIe endpoint: what, and its numbers (R356, R359, R362, R366). -/
  | pcie (what : String) (nums : List Int)
  deriving DecidableEq, Repr

/-- A step decided and not yet taken (R68): its instant S, its size, source, cause (R70) and the state it came from. -/
structure StepPlan where
  at_ : Nat
  delta : Int
  source : Nat
  cause : Nat
  back : Nat
  /-- The step aligns the counter to a source that was selected: the timebase is Locked after it (Table 3-1). -/
  locks : Bool
  deriving DecidableEq, Repr

/-- Time (R9, R56, R58, R334). -/
structure Time where
  /-- Ticks of the tick clock since power-on. -/
  now : Nat
  /-- The timebase counter in ticks since 0:0:0. -/
  tb : Nat
  /-- The counter advances (R58). -/
  running : Bool
  /-- Operating time in 2^-10 s, and the ticks since its last unit (R334). -/
  ot : Nat
  otRem : Nat
  /-- The fractional accumulator of step 3 of R63, in 2^-16 ppb of a tick. -/
  slewAcc : Int
  /-- The loop's integrator, and since when |e| has exceeded the threshold (R63, R64). -/
  integ : Int
  excessSince : Option Nat
  step : Option StepPlan
  /-- Sources qualified, with the tick since when (R61, R62). -/
  qualified : Tab (Option Nat)
  /-- |e| and the tick at entry to Holdover (R67). -/
  holdE : Nat
  holdSince : Nat
  /-- Timestamps of the last PPS edges, the label of the last edge, the tick of the last write of tb.tod.next (R66). -/
  ppsLast : Option Nat
  ppsGood : Nat
  ppsLabel : Option Nat
  /-- The level of PPS_IN. -/
  ppsPin : Bool
  todAt : Option Nat
  /-- Consecutive good and bad donor detections and the last timing (R62, R65). -/
  donorGood : Nat
  donorBad : Nat
  donorLast : Option Int
  /-- Snapshots held against a tick (R80, R81), in the order they were asked for. -/
  snapDue : List Nat
  /-- Ticks of the tick clock at which local snapshots asked for without a tick are taken (R81). -/
  snapNext : List Nat
  /-- The last position of a source that carries labels, less the local one in that tick (R63): the Stairway link, PPS_IN. -/
  srcDelta : Tab (Option Int)
  deriving DecidableEq, Repr

/-- What a Stairway link holds beside its objects (R72 to R78). -/
structure Link where
  /-- The tick of entry into the present state. -/
  since : Nat
  /-- Ticks of CRC errors within the last 1 ms, and consecutive bad start characters (Table 3-7). -/
  crc : List Nat
  badStart : Nat
  /-- The far end's last role, and the delay exchanges of this training with their sum (R75). -/
  farRole : Option Nat
  exchanges : List Int
  /-- Consecutive good time cells and consecutive failed ones (Table 3-3). -/
  goodCells : Nat
  badCells : Nat
  /-- The last depth received would put the part deeper than 9 (R76). -/
  deep : Bool
  /-- Addresses below this link, from the census (R77). -/
  below : List Nat
  /-- The sender trace of the last good time cell (Table 3-6). -/
  upTrace : Bool
  deriving DecidableEq, Repr

def Link.fresh : Link := ⟨0, [], 0, none, [], 0, 0, false, [], false⟩

/-- A transaction in a Vestibule slot (R111). state is the code of Table 5-1; kind 1 local, 2 system home, 3 branch. -/
structure Tx where
  number : Nat
  kind : Nat
  flow : Nat
  state : Nat
  staged : List (Nat × Val)
  launch : Nat
  lastActive : Nat
  sysId : Nat
  sysSeq : Nat
  /-- The sequence number and launch entry held while its record is being written (R114). -/
  seq : Nat
  entry : Nat
  /-- The tick of its PREPARE (R111), and of its last QUERY (R130). -/
  since : Nat
  /-- The origin address and master (slot owner, Table 5-9). -/
  origin : Nat
  om : Nat
  /-- Participant addresses a home has gathered (R127). -/
  parts : List Nat
  /-- The COMMIT request that is outstanding, and an ABORT that waits for the same outcome (R118). -/
  req : Option Frame
  abort : Option Frame
  deriving DecidableEq, Repr

/-- An accepted transaction that waits for its launch tick (R111). -/
structure Accepted where
  number : Nat
  seq : Nat
  launch : Nat
  entry : Nat
  staged : List (Nat × Val)
  sysId : Nat
  sysSeq : Nat
  /-- The flow of its master; 0 once a reset has come between. -/
  flow : Nat
  /-- The tick of its acceptance, which an ABORT of that tick finds (R117); none once a reset has come between. -/
  since : Option Nat
  deriving DecidableEq, Repr

/-- A journal record (R120): its header of Table 5-5 and its body, by kind of Table 5-6. -/
structure JRec where
  kind : Nat := 0
  flags : Nat := 0
  seq : Nat := 0
  number : Nat := 0
  sysSeq : Nat := 0
  sysId : Nat := 0
  count : Nat := 0
  launch : Nat := 0
  staged : List (Nat × Val) := []
  marks : List (Nat × Nat) := []
  outcome : Nat := 0
  parts : List Nat := []
  covered : Nat := 0
  /-- The slot or the launch entry the record belongs to while it is being written. -/
  slot : Nat := 0
  entry : Nat := 0
  /-- The image copy that a CHECKPOINT names. -/
  copy : Nat := 0
  /-- The header's magic, body length and CRC, as the record is written with its write count. -/
  magic : Nat := 0
  length : Nat := 0
  crc : Nat := 0
  deriving DecidableEq, Repr

/-- A copy of the J image (R119): J objects, launch-entry statuses, arm generations and the sequence number covered. -/
structure Image where
  obj : Tab Int
  blob : Tab (List Byte)
  status : Tab Nat
  gen : Tab Nat
  seq : Nat
  deriving DecidableEq, Repr

/-- A system transaction at the Newel (R129): its participants, votes and state (0 queued, 1 voting, 2 deciding,
3 decided and owed acknowledgements). -/
structure SysTx where
  sysId : Nat
  sysSeq : Nat
  home : Nat
  requested : Nat
  launch : Nat
  parts : List Nat
  yes : List Nat
  acks : List Nat
  state : Nat
  outcome : Nat
  since : Nat
  reason : Nat
  object : Nat
  noAddr : Nat
  /-- Downstream links on which the DECIDE that replay sends again has yet to go (R124). -/
  owed : List Nat
  deriving DecidableEq, Repr

/-- The Vestibule and the accepted work (R111, R114). -/
structure Vestibule where
  slots : Tab (Option Tx)
  accepted : List Accepted
  /-- Arm generation of each launch entry (R120). -/
  gen : Tab Nat
  /-- The Newel's queue (R129). -/
  sys : List SysTx
  deriving DecidableEq, Repr

/-- One copy of a bank's journal header (Table 5-4): the bank's state, the start and end of its ring in blocks, its write count, and
whether the latest checkpoint stands in image copy 1. -/
structure JHead where
  failed : Bool
  start : Nat
  fin : Nat
  count : Nat
  latest1 : Bool
  deriving DecidableEq, Repr

/-- An event record (Table 16-1). -/
structure Rec where
  code : Nat
  source : Nat
  pcc : Nat
  ot : Nat
  flags : Nat
  p0 : Nat
  p1 : Nat
  p2 : Nat
  p3 : Nat
  deriving DecidableEq, Repr

/-- One copy of a bank's recorder header (Table 16-5): the next record number, the permanent slots used, the stored operating time, the power-cycle
count, and its flags (bit 0: no permanent slot is left). -/
structure LHead where
  next : Nat
  permUsed : Nat
  ot : Nat
  pcc : Nat
  flags : Nat
  deriving DecidableEq, Repr

/-- The regions of one MRAM bank (R119, R336): the journal's two header copies and two images, and the records of its ring, oldest first; the
recorder's circulating and permanent areas, oldest first, and its two header copies. -/
structure Bank where
  head0 : JHead
  head1 : JHead
  img0 : Image
  img1 : Image
  ring : List JRec
  circ : List (Nat × Rec)
  perm : List Rec
  log0 : LHead
  log1 : LHead
  deriving DecidableEq, Repr

/-- The journal (R119 to R126). -/
structure Journal where
  /-- Records being written, first to become durable first. -/
  writing : List JRec
  bank0 : Bank
  bank1 : Bank
  /-- Marks not yet in an EXEC record, and the tick of the first (R122). -/
  marks : List (Nat × Nat)
  markSince : Option Nat
  /-- The tick by which a running rebuild ends (R125). -/
  rebuildDue : Option Nat
  /-- The tick of the last launch whose checkpoint is owed (R123). -/
  launchAt : Option Nat
  deriving DecidableEq, Repr

/-- The event recorder (R335 to R341) beside what it has written to the banks. -/
structure Recorder where
  /-- The volatile buffer, oldest first, with record numbers. -/
  buffer : List (Nat × Rec)
  /-- Records waiting for room in a full buffer (R337). -/
  waiting : List Rec
  /-- The number of records a flush in progress covers, from the oldest buffered. -/
  flushing : Option Nat
  /-- The execution of rec.flush: 0 none, 1 it waits for the end of a running flush, 2 its flush runs (R49). -/
  flushCmd : Nat
  lastFlushEnd : Nat
  /-- Bit 7 is owed to the next record; records dropped since the last RECORDS_DROPPED (R341). -/
  dropMark : Bool
  droppedSince : Nat
  /-- The tick of detection of power fail (R338). -/
  pfailAt : Option Nat
  deriving DecidableEq, Repr

/-- What holds a fault mute, a powered-off slice or sub-pool, or a rail (R323, R29). -/
inductive Holder where
  | source (w : Nat)
  | feed (f : Nat)
  | stop
  | thermal
  | domain
  deriving DecidableEq, Repr

/-- Fault collection beside its objects (R321 to R326). -/
structure Faults where
  /-- Operating times kept toward escalation, per source word, newest first. -/
  times : Tab (List Nat)
  /-- Operating time at which a Major hold ends, per source word (R324). -/
  holdEnd : Tab (Option Nat)
  /-- Holders of bit 7 of port.mutes, bit 9 of ch.mutes, and of slices powered off by shed reactions. -/
  port : Tab (List Holder)
  chan : Tab (List Holder)
  slice : Tab (List Holder)
  deriving DecidableEq, Repr

/-- A computed rate that waits for its application (R229): the rate, the loop that won, the tick it is due (a timebase tick
in lockstep, a tick of the tick clock in prompt), and the delay of a prompt application. -/
structure Pend where
  rate : Int
  loop : Nat
  due : Nat
  lock : Bool
  delay : Nat
  deriving DecidableEq, Repr

/-- What a channel holds beside its objects: its datapath (R179 to R184), gain engine (R228 to R233), canceller (R204 to
R211) and protection (R250 to R256). -/
structure Chan where
  /-- Ticks by which outputs 0 to 3 have settled (R179), and the tick of the last synchronising reset (its grid, R180). -/
  settle : List Nat
  grid : Nat
  /-- Timebase ticks at which the step mute (R69) and the timebase mute (R60) may be released. -/
  resume : Nat
  resumeTrace : Option Nat
  /-- Tick at which the pattern's transient has passed (R98). -/
  transientDue : Option Nat
  /-- Tick at which the channel's cross-fade ends (R184); none when it does not fade. -/
  fadeDue : Option Nat
  /-- The DC-block launch freeze and pattern freeze (R182). -/
  dcFreeze : Bool
  dcPattern : Bool
  /-- A Chrysalis cause of the channel's own (R189, R396). -/
  chrysalis : Bool
  /-- g in the tick in which the mute began, in 2^-16 dB (R230). -/
  gHeld : Int
  /-- A release from mute deferred to the release of the pattern bit (R230). -/
  deferred : Bool
  /-- A computed rate waiting for its tick (R229). -/
  pendingRate : Option Pend
  /-- The tick the update window runs from (R229). -/
  windowFrom : Nat
  /-- Something in the window made it not clean (R227). -/
  dirty : Bool
  /-- Notch states: two previous inputs and outputs of each running notch (R226). -/
  notch : Tab (Rat × Rat × Rat × Rat)
  /-- The tick of the last tap reset (R205). -/
  tapAt : Option Nat
  /-- Radiating ticks spent Held (R210), and since the last oscillation trip (R252). -/
  heldTicks : Nat
  oscTicks : Nat
  /-- The demonstration window (R211): its first operating time, and the lowest isolation and depth per branch. -/
  demoFrom : Option Nat
  demoIso : Tab (Option Int)
  demoDepth : Tab (Option Int)
  /-- J of each branch in the last valid window (R209). -/
  lastJ : Tab Int
  /-- Residual powers of the last valid window at the 16 frequencies, and the run of growing windows of each (R249). -/
  line : List Int
  lineRun : List Nat
  /-- A fired detector (1 margin, 2 spectral line) and the tick of its trip (R250). -/
  oscFired : Option (Nat × Nat)
  /-- Ticks of the last divergences (R208). -/
  diverged : List Nat
  /-- Consecutive breaching frames (R254), and the operating times at which the noise and emission causes end. -/
  noiseRun : Nat
  noiseEnd : Option Nat
  emissionEnd : Option Nat
  /-- G at the opening of the update window (Table 9-1); the following-error timer has had its fault (R233); the notches
  are bypassed (R226). -/
  gw : Int
  feTripped : Bool
  bypassed : Bool
  /-- The next update instant (R231), none while it is to be counted from the last restart; the timebase tick that
  counting starts from, and that it has restarted there. -/
  nextInst : Option Nat
  lockFrom : Nat
  restarted : Bool
  /-- The PA gain held at the branch's last tap reset (R200): its magnitude in Q16.16 dB, and its phase in 1/65,536 of a turn. -/
  paRef : Tab (Option (Int × Nat))
  /-- Ticks by which a new delay trim of outputs 0 to 3 has filled (R181). -/
  trim : List Nat
  /-- G as the multiplier has it while a lockstep step is on its way to it, and the steps on their way: tick and G (R231). -/
  mulG : Option Int
  mulNext : List (Nat × Int)
  deriving DecidableEq, Repr

def Chan.fresh : Chan :=
  ⟨[], 0, 0, none, none, none, false, false, false, 0, false, none, 0, false, [], none, 0, 0, none, [], [], [], [], [],
   none, [], 0, none, none, 0, false, false, none, 0, false, [], [], none, []⟩

/-- What a port holds beside its objects (R138 to R160). -/
structure Port where
  /-- Tick at which the running transition reaches its end (port.changing_to names the state). -/
  due : Nat
  /-- The state its walker wants of a walker-driven port (R97). -/
  wanted : Int
  /-- Tick of the last entry into Relay; a scheduled window is open; it is lost; the launch entry that opened it
  (R141, R150). -/
  relayAt : Nat
  window : Bool
  lost : Bool
  opener : Option Nat
  /-- Tick at which the running calibration or piece ends (R151), and the tick in which the last calibration completed (R117). -/
  calDue : Nat
  calEnd : Option Nat
  /-- Consecutive failures of kinds 0 to 3 (R155), the tick since which each kind has been pending, and the kinds recorded as overdue
  (R153). -/
  fails : List Nat
  pendAt : List Nat
  overdue : Nat
  /-- Ticks at which a retune or relock of the RX and the TX synthesiser ends (R148, R149). -/
  rxDue : Nat
  txDue : Nat
  /-- Kinds marked stale since the running calibration began (R397), and a late abort of it (R156). -/
  staleNew : Nat
  lateAbort : Bool
  /-- Operating time of the last entry to Sleep, and that the port came from Off (Table 19-5). -/
  sleepOt : Nat
  fromOff : Bool
  /-- The tick until which a return check waits for the feed's signature (R397). -/
  returnWait : Option Nat
  /-- The port has been in Chrysalis and has not left it (R400). -/
  chrysalis : Bool
  /-- The last forward visit: its power, the tick of its end, and that the port radiated through it (R303); consecutive low return losses; the operating time
  at which the open-cable mute ends. -/
  obsFwd : Option (Int × Nat × Bool)
  rlRun : Nat
  rlEnd : Option Nat
  /-- Ticks of trips within the last 1 s (R247), and the tick since which the guard has seen no condition (R246). -/
  trips : List Nat
  cleanFrom : Nat
  /-- The PA gain last measured through the port (R200), as magnitude and phase. -/
  paGain : Option (Int × Nat)
  deriving DecidableEq, Repr

def Port.fresh : Port :=
  ⟨0, 3, 0, false, false, none, 0, none, [0, 0, 0, 0], [0, 0, 0, 0], 0, 0, 0, 0, false, 0, true, none, false, none, 0, none, [], 0, none⟩

/-- A complex number of the canceller: a tap or a correlation (R206, R209). -/
structure Cpx where
  re : Rat
  im : Rat
  deriving DecidableEq, Repr

/-- A sample: I and Q. -/
abbrev IQ := Int × Int

/-- The sample path of a port on its wing and across the sample bus (R142, R144, R145, R187, R198, R207): the receive sample of the
present tick after correction and whether this one and the one before are over range; residual-free samples, newest first, for the
8-tap correction; the tick in which PAEN rose, none while it is low; whether a mute held on the wing stood in each of the last ten
ticks, and the port's TX summation in each of the last 92, newest first; the final stage (R242, R243): its limited samples of the present tick
and the 14 before it, newest first, the run of samples above hm.threshold and of ticks over range, and the tick in which a trip that
has been found acts, with its condition. -/
structure WingPath where
  rx : IQ
  ovr : Bool
  ovrBefore : Bool
  hist : List IQ
  paenFrom : Option Nat
  muted : List Bool
  sums : List (Option IQ)
  stage : List IQ
  hmRun : Nat
  hmOvr : Nat
  hmDue : Option (Nat × Nat)
  deriving DecidableEq, Repr

def WingPath.fresh : WingPath := ⟨(0, 0), false, false, [], none, [], [], [], 0, 0, none⟩

/-- The sample path of a channel (R173 to R187, R197 to R206): the phases of the input NCO in banks A and B, of the NCOs of outputs 0 to 3
and of those of branches 0 to 3, in 1/1,228,800 of a turn; the filter memories (0 and 1 decimators of banks A and B, 2 + o the interpolator of
output o, 8 + 2n + b the decimator of branch n in bank b); the tick up to which the over-range freeze holds; samples emitted since
the fade began; the delay lines and taps of the branches; the delay trims; the contribution of each output in the present tick; the
samples of the present tick after decimation and after the applied gain; samples the estimator has counted in its window; the
tick in which a divergence acts (R208); and the PA tracking factors of the branches, those in use and those measured in this tick
(R200). -/
structure Path where
  inPhase : Tab Nat
  outPhase : Tab Nat
  refPhase : Tab Nat
  mem : Tab Int
  ovrEnd : Nat
  fadeN : Nat
  refs : Tab (List IQ)
  taps : Tab (List Cpx)
  trims : Tab (List (Option IQ))
  outs : Tab (Option IQ)
  dec : Option IQ
  amp : Option IQ
  est : Nat
  divergeAt : Option Nat
  factors : Tab (Int × Nat)
  factorsNew : List (Nat × Int × Nat)
  deriving DecidableEq, Repr

def Path.fresh : Path := ⟨[], [], [], [], 0, 0, [], [], [], [], none, none, 0, none, [], []⟩

/-- A phase of a rail in its peak-current cycle (R277, R278): the tick its present period began, whether its switch is on, and the
tick it turned off. -/
structure Pwm where
  start : Nat
  on : Bool
  offAt : Nat
  deriving DecidableEq, Repr

/-- The Gallery beside its objects (R345 to R352): the settings of the last arm, and its ticks. -/
structure Gallery where
  /-- The tick of entry into Filling, and of the trigger. -/
  fillAt : Nat
  trigAt : Nat
  /-- Settings latched at the arm (R354): window, fault class and source, ports, launch bit, sources. -/
  pre : Nat
  post : Nat
  faultClass : Nat
  faultSource : Nat
  hmPorts : Nat
  launch : Bool
  /-- The source words, and those of them that name a source. -/
  words : List Nat
  srcs : List Nat
  /-- Superblocks and directory of the volume: generation, slots in use with their capture numbers, next and oldest. -/
  generation : Nat
  /-- The superblock copy that is current (R351), and the power-cycle count and operating time at the trigger. -/
  copy : Nat
  trigPcc : Nat
  trigOt : Nat
  dir : Tab Nat
  nextSlot : Nat
  oldestSlot : Nat
  capacity : Nat
  owner : Nat
  formatted : Bool
  /-- The buffer (R344, R345): the sample at an octet offset, as its tick and its word, Q above I; and the samples each source has written since the
  arm. -/
  buf : Tab (Option (Nat × Nat))
  written : Tab Nat
  deriving DecidableEq, Repr

def Gallery.fresh : Gallery := ⟨0, 0, 0, 0, 3, 0xFFFF, 0, true, [], [], 0, 0, 0, 0, [], 0, 0, 0, 0, false, [], []⟩

/-- A block of a DMA engine (R365, R366): its first sample's tick as a TB64 word, whether it saw the timebase Invalid and a timebase step between
two of its samples, and its sample words, newest first. -/
structure DmaBlock where
  first : Nat
  inv : Bool
  step : Bool
  words : List Nat
  deriving DecidableEq, Repr

def DmaBlock.fresh : DmaBlock := ⟨0, false, false, []⟩

/-- The host interface beside its objects (R358 to R368): ring indices, held responses, interrupt causes, the status
mirror, the DMA pointers, and the link. -/
structure HostIf where
  reqProd : Nat
  reqCons : Nat
  rspProd : Nat
  rspCons : Nat
  ntfProd : Nat
  ntfCons : Nat
  ntfDropped : Nat
  /-- Response frames held while the response ring is full, oldest first (R360). -/
  held : List Out
  /-- IRQ_CAUSE0 to 3 as one word (R363). -/
  irq : Nat
  mirrorSeq : Nat
  /-- The objects, timebase and operating time the mirror was last written from (R362). -/
  mirror : Tab Int
  mirrorTb : Nat
  mirrorOt : Nat
  wptr : Tab Nat
  rptr : Tab Nat
  busMaster : Bool
  /-- Of each DMA engine: bit 0 that the next block is the first after a start, bit 1 that blocks were dropped before it; the samples its source has
  given since the start; the block being filled; and full blocks not yet written, oldest first. -/
  dmaMark : Tab Nat
  dmaSeen : Tab Nat
  dmaFill : Tab DmaBlock
  dmaFull : Tab (List DmaBlock)
  /-- The slots of the request, the response and the NOTIFY ring that hold a frame (Table 17-2). -/
  reqRing : Tab (List Byte)
  rspRing : Tab (List Byte)
  ntfRing : Tab (List Byte)
  deriving DecidableEq, Repr

def HostIf.fresh : HostIf := ⟨0, 0, 0, 0, 0, 0, 0, [], 0, 0, [], 0, 0, [], [], false, [], [], [], [], [], [], []⟩

/-- The CAN settings in effect (R53): node numbers, data rates, nominal rate. -/
structure Can where
  nodeA : Nat
  nodeB : Nat
  dataA : Nat
  dataB : Nat
  nominal : Nat
  deriving DecidableEq, Repr

/-- The console (R47, R403): a value continued over several lines (the line's text and the octets so far), and a running
watch (key, period in ms, tick of the last print); and the response to a tunnelled line whose SEGMENT frames are still to come
(status, length, octets so far). -/
structure Console where
  cont : Option (List Char × List Byte)
  watch : Option (Nat × Nat × Nat)
  reply : Option (Nat × Nat × List Byte)
  deriving DecidableEq, Repr

/-- A rail beside its objects (R279 to R291). -/
structure Rail where
  /-- The tick of entry into the present state. -/
  since : Nat
  /-- The running motion of the reference: the tick it starts to move, its rate in mV per µs, its goal in mV; the tick the
  move ends (R280). -/
  refAt : Nat
  rate : Nat
  goal : Nat
  moveDue : Option Nat
  /-- Fault conditions present, with the tick each began (R287). -/
  conds : Tab (Option Nat)
  /-- Phases ramping down with the tick each stops (R282), and the phases shed automatically. -/
  shedding : Tab (Option Nat)
  auto : Nat
  /-- Shares of the phases, Q16.16 (R284). -/
  shares : List Int
  /-- An accepted VSEL change that waits (R279). -/
  vsel : Option Nat
  /-- The phases in their switching cycles (R277); the tick at which the running period of the first active phase began, and the active phases
  they are spaced for since then (R278). -/
  pwm : Tab (Option Pwm)
  base : Option Nat
  spaced : List Nat
  deriving DecidableEq, Repr

def Rail.fresh : Rail := ⟨0, 0, 0, 0, none, [], [], 0, [], none, [], none, []⟩

/-- A feed beside its objects (R295 to R306). -/
structure Feed where
  /-- The ticks of entry into the present state, and since which every signature reading has been valid. -/
  since : Nat
  validFrom : Option Nat
  /-- ΔT of the two stages of the junction model, Q16.16 °C (R300). -/
  dt1 : Int
  dt2 : Int
  /-- The sum and count of the accumulator when last read, and the tick of the last new output. -/
  accSum : Int
  accCount : Int
  tRef : Int
  outAt : Nat
  /-- The tick of the last direct reading (R300). -/
  readAt : Nat
  /-- A retry timer that runs on through a hold (R305). -/
  held : Bool
  /-- The tick in which the gate was last turned off (R302). -/
  gateOff : Nat
  /-- Since when each condition has stood in every sample: the output near the supply with no fault condition (Inrush), the current at its
  limit and below fd.hold_ma (On), the supply outside 9.0 to 62.0 V, and a shorted pass transistor (R295, R299, R302). -/
  nearFrom : Option Nat
  limitFrom : Option Nat
  lowFrom : Option Nat
  vinFrom : Option Nat
  leakFrom : Option Nat
  /-- The ramp of R298: the output it began from, Q16.16 V, and the ticks it has run. -/
  rampFrom : Int
  rampTicks : Nat
  deriving DecidableEq, Repr

def Feed.fresh : Feed := ⟨0, none, 0, 0, 0, 0, 0, 0, 0, false, 0, none, none, none, none, none, 0, 0⟩

/-- The engine as a whole (R232, R234): tick and cost of each update computed lately, newest first. -/
structure Engine where
  recent : List (Nat × Nat)
  deriving DecidableEq, Repr

/-- An observation receiver: the number of the visit it samples and the tick since which (R159), and that its list has changed while the Gallery
or a self-test owned it (Table 6-12). -/
structure Obs where
  idx : Nat
  since : Nat
  changed : Bool
  deriving DecidableEq, Repr

def Obs.fresh : Obs := ⟨0, 0, false⟩

/-- A value in the conversion chain (R262), in codes: what the samples of the modulator itself and of the odd half of a pair bring to it, and
the share of the odd half's samples in it (R266). -/
structure Part where
  own : Rat
  odd : Rat
  share : Rat
  deriving DecidableEq, Repr

def Part.zero : Part := ⟨0, 0, 0⟩

/-- A telemetry modulator beside its objects (R264 to R274). -/
structure Modulator where
  /-- The conversion that runs: 0 none, 1 of the sequence, 2 injected, 3 a calibration step; its entry and octets. -/
  kind : Nat
  entry : Nat
  oct : List Byte
  /-- The tick it ends, and the outputs routed so far, with their sums before stage 5 and before stage 6. -/
  endsAt : Nat
  outs : Nat
  raw : Part
  cal : Part
  /-- The chain: base samples, newest first, for the notch; base samples and outputs still to be discarded; the sum and count of the running
  block; the last outputs for the median, newest first; outputs that have left stage 4 and are not yet routed, oldest first. -/
  base : List Part
  skip : Nat
  drop : Nat
  block : Part
  blockN : Nat
  med : List Part
  ready : List Part
  /-- A calibration step asked for and not finished: entry and step. -/
  step : Option (Nat × Nat)
  /-- Zero results stored since the last reset, per entry, and those of the odd half. -/
  zero : Tab (Option Int)
  zeroB : Tab (Option Int)
  /-- The sequence entry that runs next; the octets of the last conversion when nothing has come between. -/
  next : Nat
  last : Option (List Byte)
  deriving DecidableEq, Repr

def Modulator.fresh : Modulator := ⟨0, 0, [], 0, 0, Part.zero, Part.zero, [], 0, 0, Part.zero, 0, [], [], none, [], [], 0, none⟩

/-- The thermal manager beside its objects (R309 to R315). -/
structure Thermal where
  /-- Evaluations since reset: every tenth completes a cross-check. -/
  evals : Nat
  /-- Sensors valid in the last check, one bit each. -/
  valid : Nat
  /-- Consecutive disagreeing checks of each valid sensor, and consecutive good checks of each failed one. -/
  bad : Tab Nat
  good : Tab Nat
  /-- The level a sensor held when it entered status 2. -/
  lostAt : Tab Nat
  /-- The accumulator count an external sensor last saw, and the tick at which it changed. -/
  seen : Tab Int
  seenAt : Tab Nat
  /-- th.learn waits for the next check. -/
  learn : Bool
  /-- The substitution hold: sensor, level at the failure, tick of its end; and the level the sensors alone give. -/
  hold : Option (Nat × Nat × Nat)
  alone : Nat
  /-- The tick at which the grace timer ends; items shed now, last first; the tick of the last shed or retreat step. -/
  graceEnd : Option Nat
  shed : List Nat
  stepAt : Nat
  /-- B in 0.0001 dB (R314). -/
  backoff : Nat
  /-- B as the gain engine was last given it: held while substituted data is in use (R28, Table 9-1). -/
  given : Int
  deriving DecidableEq, Repr

def Thermal.fresh : Thermal := ⟨0, 2 ^ 48 - 1, [], [], [], [], [], false, none, 0, none, [], 0, 0, 0⟩

/-- The Cloister beside its objects (R370 to R384): credential keys by level, the revocation list of each root (floor and IDs), whether
the part is enrolled, the octets written to the firmware slots (slot 1 from 2^24), the slot preferred at the next boot, its
unconfirmed boots, and whether the running image is confirmed. -/
structure Cloister where
  creds : Tab (List Byte)
  lists : Tab (Nat × List Nat)
  enrolled : Bool
  nor : Tab (Option Byte)
  preferred : Nat
  boots : Nat
  confirmed : Bool
  deriving DecidableEq, Repr

def Cloister.fresh : Cloister := ⟨[], [], false, [], 0, 0, true⟩

/-- The walker of a pattern (R97): running; the timebase tick of its next segment boundary, the number in its cycle of the segment it
is in, and the timebase ticks at which its actions are next due. -/
structure Walker where
  on : Bool
  due : Nat
  seg : Nat
  acts : Tab Nat
  deriving DecidableEq, Repr

def Walker.fresh : Walker := ⟨false, 0, 0, []⟩

/-- Start-up (R389 to R394): power-on reset held, and whether every supply has fallen; the two reset pins held low; the tick of the
last release and of entry into the present stage; the cause POWER_ON will carry and whether it is a power-on; latches found set;
the slots' reasons in stage 7 and the tick of its last report. -/
structure Boot where
  por : Bool
  allDown : Bool
  porst : Bool
  warm : Bool
  released : Nat
  stageAt : Nat
  cause : Nat
  latches : Nat
  fails : List Nat
  reportAt : Nat
  deriving DecidableEq, Repr

def Boot.fresh : Boot := ⟨true, true, false, false, 0, 0, 1, 0, [], 0⟩

/-- A panel key (R408, R411): its reading and since when; the tick of the debounced press; the press has qualified as a Banister press;
the baseline of a capacitive key. -/
structure Key where
  touched : Bool
  since : Nat
  pressedAt : Nat
  qualified : Bool
  baseline : Option Int
  deriving DecidableEq, Repr

def Key.fresh : Key := ⟨false, 0, 0, false, none⟩

/-- A running self-test (R406): block word, master, tick of its end, whether the console command started it, and whether an abort has
come too late (R117). -/
structure SelfTest where
  block : Nat
  master : Nat
  due : Nat
  console : Bool
  late : Bool
  deriving DecidableEq, Repr

/-- A blink code (R407): LED, first tick, block word, failing step. -/
structure Blink where
  led : Nat
  start : Nat
  block : Nat
  step : Nat
  deriving DecidableEq, Repr

/-- The front panel beside its objects: keys, the tick of release of the last qualified Banister press and the tick at which a press
began that may end the hold, the self-test and the blink code. -/
structure Panel where
  keys : Tab Key
  lastRelease : Option Nat
  test : Option SelfTest
  blink : Option Blink
  deriving DecidableEq, Repr


/-- The state of the part. -/
structure State where
  /-- Commands waiting, first in, first out. -/
  pending : List Instr
  /-- Numeric dictionary objects. -/
  obj : Tab Int
  /-- STR and BLOB objects. -/
  blob : Tab (List Byte)
  /-- The numeric objects at the end of the tick before the present one, and as the last snapshot copied them (R80). -/
  before : Tab Int
  snap : Tab Int
  /-- What the channels held at the end of the tick before the present one (R80). -/
  chansBefore : Tab Chan
  /-- MODEL FIELD: how many free values the run has drawn (DESIGN CHOICE, log entry 2). -/
  free : Nat
  /-- What the part has sent, newest first. -/
  out : List Out
  masters : Tab Master
  time : Time
  links : Tab Link
  /-- Addresses this part knows to stand twice, from the census (R77). -/
  dups : List Nat
  tx : Vestibule
  jr : Journal
  log : Recorder
  flt : Faults
  chans : Tab Chan
  ports : Tab Port
  rails : Tab Rail
  feeds : Tab Feed
  eng : Engine
  tms : Tab Modulator
  th : Thermal
  /-- Ticks at which a domain that powers up is powered, or its check ends (R396). -/
  domDue : Tab (Option Nat)
  /-- Consecutive breaching visits of each emission entry, none while it mutes (R256). -/
  emRun : Tab (Option Nat)
  /-- The visit each observation receiver is at (R159). -/
  obs : Tab Obs
  gal : Gallery
  sec : Cloister
  host : HostIf
  can : Can
  con : Console
  walkers : Tab Walker
  boot : Boot
  panel : Panel
  /-- Ticks of the parity errors of each die's crossing within the last 1 s (R26). -/
  parity : Tab (List Nat)
  /-- The tick by which the charged fade of each slice's last swap has ended (R184, R185). -/
  fades : Tab Nat
  /-- The tick of the last load of bank b of slice sl, at 2 sl + b (R185). -/
  loads : Tab (Option Nat)
  /-- The instruction of the JTAG TAP (R385). -/
  jtag : Jtag
  /-- The sample paths of the ports and of the channels. -/
  wing : Tab WingPath
  path : Tab Path
  /-- The calibration store in both MRAM banks (R157): the coefficients of kind k of port p at 4p + k. -/
  calStore : Tab Int
  deriving DecidableEq, Repr

/-- An image that holds nothing. -/
def Image.fresh : Image := ⟨[], [], [], [], 0⟩

/-- A bank nothing has been written to. -/
def Bank.fresh : Bank :=
  ⟨⟨false, 0, 0, 0, false⟩, ⟨false, 0, 0, 0, false⟩, Image.fresh, Image.fresh, [], [], [], ⟨0, 0, 0, 0, 0⟩, ⟨0, 0, 0, 0, 0⟩⟩

/-- A journal nothing has been written to. -/
def Journal.fresh : Journal := ⟨[], Bank.fresh, Bank.fresh, [], none, none, none⟩

/-- A recorder that holds no record. -/
def Recorder.fresh : Recorder := ⟨[], [], none, 0, 0, false, 0, none⟩

/-- Time while the clocks have never run: 0:0:0, held (R58). -/
def Time.fresh : Time := ⟨0, 0, false, 0, 0, 0, 0, none, none, [], 0, 0, none, 0, none, false, none, 0, 0, none, [], [], []⟩

/-- The part as delivered, held in power-on reset with every supply down: every object at its default (R35, R58, R389), nothing staged,
accepted, recorded or sent, and no command waiting. The release of power-on reset starts boot stage 1. DESIGN CHOICE, log entry 23. DESIGN CHOICE, log entry 24. DEDUCED, log entry 103. -/
def State.reset : State where
  pending := []
  obj := []
  blob := []
  before := []
  snap := []
  chansBefore := []
  free := 0
  out := []
  masters := []
  time := Time.fresh
  links := []
  dups := []
  tx := ⟨[], [], [], []⟩
  jr := Journal.fresh
  log := Recorder.fresh
  flt := ⟨[], [], [], [], []⟩
  chans := []
  ports := []
  rails := []
  feeds := []
  eng := ⟨[]⟩
  tms := []
  th := Thermal.fresh
  domDue := []
  emRun := []
  obs := []
  gal := Gallery.fresh
  sec := Cloister.fresh
  host := HostIf.fresh
  can := ⟨16, 16, 2000000, 2000000, 500000⟩
  con := ⟨none, none, none⟩
  walkers := []
  boot := Boot.fresh
  panel := ⟨[], none, none, none⟩
  parity := []
  fades := []
  loads := []
  jtag := .idcode
  wing := []
  path := []
  calStore := []

end Sys2Proof.Machine
end

