-- ==== Sys2Proof/Machine/Ops.lean ====
section
/-! DEFINITION. The named operations over the objects, the masters, the outputs and the clocks of the part. -/

namespace Sys2Proof.Machine

/-! ### Objects -/

/-- The number an object holds. -/
def State.num (s : State) (k : Nat) : Int := Tab.get Dict.default s.obj k

/-- The number an unsigned object holds. -/
def State.nat (s : State) (k : Nat) : Nat := (s.num k).toNat

/-- A BOOL object is not 0. -/
def State.flag (s : State) (k : Nat) : Bool := decide (s.num k ≠ 0)

/-- Bit b of an object. -/
def State.bit (s : State) (k b : Nat) : Bool := (s.nat k).testBit b

/-- Write a number to an object. -/
def State.set (s : State) (k : Nat) (v : Int) : State := { s with obj := Tab.put Dict.default k v s.obj }

/-- Write a BOOL. -/
def State.setFlag (s : State) (k : Nat) (b : Bool) : State := s.set k (if b then 1 else 0)

/-- A word with bit b set, cleared, or put. -/
def bitSet (w b : Nat) : Nat := w ||| 2 ^ b

def bitClr (w b : Nat) : Nat := if w.testBit b then w - 2 ^ b else w

def bitPut (w b : Nat) (v : Bool) : Nat := if v then bitSet w b else bitClr w b

/-- The bits of w that m does not hold. -/
def maskOff (w m : Nat) : Nat := w - (w &&& m)

/-- Set, clear or put bit b of an object. -/
def State.setBit (s : State) (k b : Nat) : State := s.set k (bitSet (s.nat k) b : Nat)

def State.clrBit (s : State) (k b : Nat) : State := s.set k (bitClr (s.nat k) b : Nat)

def State.putBit (s : State) (k b : Nat) (v : Bool) : State := s.set k (bitPut (s.nat k) b v : Nat)

/-- The octets a STR or BLOB object holds. -/
def State.oct (s : State) (k : Nat) : List Byte := Tab.get Dict.defaultBlob s.blob k

/-- Write octets to an object. -/
def State.setOct (s : State) (k : Nat) (b : List Byte) : State :=
  { s with blob := Tab.put Dict.defaultBlob k b s.blob }

/-- Write a value to an object of either sort. -/
def State.setVal (s : State) (k : Nat) : Val → State
  | .num v => s.set k v
  | .oct b => s.setOct k b

/-- The greatest word of a counter of n bits. -/
def maxWord (n : Nat) : Int := 2 ^ n - 1

/-- One more on a saturating counter of n bits. -/
def State.inc (s : State) (k n : Nat) : State := s.set k (min (s.num k + 1) (maxWord n))

/-- d more on a saturating counter of n bits. -/
def State.incBy (s : State) (k n : Nat) (d : Int) : State := s.set k (min (s.num k + d) (maxWord n))

/-! ### Free values -/

/-- The free value a step draws next (DESIGN CHOICE, log entry 2). -/
def State.fresh (s : State) : Int := Config.freeVal s.free

/-- The state after a free value has been drawn. DESIGN CHOICE, log entry 2. -/
def State.drawn (s : State) : State := { s with free := s.free + 1 }

/-! ### Rounded quotients -/

/-- num / den where the spec gives no rounding: exact where it divides, else one of the two neighbouring words
(DEDUCED, log entry 5). -/
def qdiv (num den : Int) : Int :=
  if num % den = 0 then num / den else if Config.roundUp num den then num / den + 1 else num / den

/-- A count of 0.01 dB as a count of 2^-16 dB (R221, R222). -/
def cdb (v : Int) : Int := qdiv (v * 65536) 100

/-- max lo (min hi v). -/
def clampI (v lo hi : Int) : Int := max lo (min v hi)

/-- A 32-bit two's-complement word (R221). -/
def wrap32 (v : Int) : Int := (v + 2147483648) % 4294967296 - 2147483648

/-! ### Masters and outputs -/

/-- The record of a flow's master. -/
def State.master (s : State) (m : Nat) : Master := Tab.get (fun _ => Master.fresh) s.masters m

def State.setMaster (s : State) (m : Nat) (x : Master) : State :=
  { s with masters := Tab.put (fun _ => Master.fresh) m x s.masters }

/-- Add to what the part has sent. -/
def State.emit (s : State) (o : Out) : State := { s with out := o :: s.out }

/-- A console line of fixed words. -/
def State.say (s : State) (w : String) (nums : List Int) : State := s.emit (.line w nums [])

/-- A cause of MSI-X vector v (R363): its bit sets, and a bit that goes from 0 to 1 sends the vector's message. DEDUCED, log entry 16. -/
def irq (v : Nat) (s : State) : State :=
  if s.host.irq.testBit v then s
  else ({ s with host := { s.host with irq := bitSet s.host.irq v } }).emit (.msix v)

/-- Frames of a response or NOTIFY of n payload octets (R39). -/
def framesOf (n : Nat) : Nat := if n ≤ 56 then 1 else 1 + (n - 56 + 61) / 62

/-! ### Sample paths -/

/-- The sample path of port p and of channel c. -/
def State.wingOf (s : State) (p : Nat) : WingPath := Tab.get (fun _ => WingPath.fresh) s.wing p

def State.setWing (s : State) (p : Nat) (x : WingPath) : State :=
  { s with wing := Tab.put (fun _ => WingPath.fresh) p x s.wing }

def State.pathOf (s : State) (c : Nat) : Path := Tab.get (fun _ => Path.fresh) s.path c

def State.setPath (s : State) (c : Nat) (x : Path) : State :=
  { s with path := Tab.put (fun _ => Path.fresh) c x s.path }

/-! ### Octets -/

/-- n octets of a number, least significant first, two's complement (R31). -/
def leBytes : Nat → Int → List Byte
  | 0, _ => []
  | n + 1, v => BitVec.ofInt 8 v :: leBytes n (v / 256)

/-- The octets of a frame that the part sends (Table 2-5): header and payload, or of a SEGMENT frame the first two octets and the payload. -/
def outOctets (o : Out) : List Byte :=
  match o with
  | .response _ kind seq index sub status length more payload =>
    leBytes 1 ((32 * kind + 16 + (if more then 8 else 0) : Nat) : Int) ++ leBytes 1 (seq : Int) ++ leBytes 2 (index : Int) ++ leBytes 1 (sub : Int) ++
      leBytes 1 (status : Int) ++ leBytes 2 (length : Int) ++ payload
  | .segment _ seq more payload => leBytes 1 ((208 + (if more then 8 else 0) : Nat) : Int) ++ leBytes 1 (seq : Int) ++ payload
  | .notify _ seq index sub payload =>
    leBytes 1 176 ++ leBytes 1 (seq : Int) ++ leBytes 2 (index : Int) ++ leBytes 1 (sub : Int) ++ leBytes 1 0 ++ leBytes 2 (payload.length : Int) ++ payload
  | _ => []

/-- A response frame goes into its slot of the response ring, and MB_RSP_PROD advances (R360). -/
def putResponse (o : Out) (s : State) : State :=
  irq 0 ({ s with host := { s.host with rspRing := Tab.put (fun _ => []) (s.host.rspProd % 2048) (outOctets o) s.host.rspRing,
                                        rspProd := s.host.rspProd + 1 } }.emit o)

/-- Write a response frame into the response ring, or hold it while the ring is full or others wait (R360). DEDUCED, log entry 64. -/
def ringFrame (o : Out) (s : State) : State :=
  if s.host.held = [] ∧ s.host.rspProd < s.host.rspCons + 2048 then putResponse o s
  else { s with host := { s.host with held := s.host.held ++ [o] } }

/-- The unsigned number of octets, least significant first. -/
def ofLe : List Byte → Nat
  | [] => 0
  | b :: t => b.toNat + 256 * ofLe t

/-- n octets from offset o, as a number. -/
def leAt (b : List Byte) (o n : Nat) : Nat := ofLe ((b.drop o).take n)

/-- The signed number of an n-octet word. -/
def toSigned (n v : Nat) : Int := if v < 2 ^ (8 * n - 1) then (v : Int) else (v : Int) - 2 ^ (8 * n)

/-! ### Time -/

/-- The TB64 word of a count of ticks since 0:0:0 (R11). -/
def tbWord (t : Nat) : Nat :=
  let fr := t / frameTicks
  (fr / 1024) * 2 ^ 34 + (fr % 1024) * 2 ^ 24 + t % frameTicks

/-- The count of ticks of a TB64 word. -/
def tbTicks (w : Nat) : Nat := ((w / 2 ^ 34) * 1024 + (w / 2 ^ 24) % 1024) * frameTicks + w % 2 ^ 24

/-- A TB64 word is valid when its tick field lies in the frame (R55). -/
def tbValidWord (w : Nat) : Bool := decide (w % 2 ^ 24 < frameTicks) && decide (w < 2 ^ 64)

/-- The first frame boundary at or after t. -/
def frameUp (t : Nat) : Nat := (t + (frameTicks - 1)) / frameTicks * frameTicks

/-- The timebase value of the present tick, as a TB64 word. -/
def State.tbNow (s : State) : Nat := tbWord s.time.tb

/-- The timebase is Invalid (Table 3-1). -/
def State.tbInvalid (s : State) : Bool := decide (s.nat K.tbState = 0)

/-! ### Loops over numbers -/

/-- Fold f over 0 .. n-1, ascending. -/
def forN (n : Nat) (f : Nat → State → State) (s : State) : State := (List.range n).foldl (fun s i => f i s) s

/-- Fold f over a list, in its order. -/
def forL {α : Type} (l : List α) (f : α → State → State) (s : State) : State := l.foldl (fun s a => f a s) s

/-- The numbers of the objects of one index and a range of indices that the table lists, with value v: used to walk the
launch table and the channels without visiting what stands at its default. -/
def listed (t : Tab Int) (p : Nat → Int → Bool) : List Nat :=
  t.filterMap (fun e => if p e.1 e.2 then some e.1 else none)

/-- Channels whose ch.run in effect is 1 (R169), ascending. -/
def State.started (s : State) : List Nat :=
  (listed s.obj (fun k v => decide (k % 256 = 1) && decide (0x400000 ≤ k) && decide (k < 0x600000) &&
    decide ((k / 256) % 16 = 0) && decide (v = 1))).map (fun k => (k / 256 - 0x4000) / 16)

end Sys2Proof.Machine
end

