-- ==== Sys2Proof/Machine/Flags.lean ====
section
/-! DEFINITION. Mutes and sticky bits: raising and releasing the mute requests of ports (Table 6-8) and channels
(Table 7-8), the release from mute of the gain engine (R230), and the sticky word (Table 15-4). -/

namespace Sys2Proof.Machine

/-- Bits of port.mutes (Table 6-8). -/
abbrev pmHawkmoth : Nat := 0
abbrev pmPin : Nat := 1
abbrev pmBanister : Nat := 2
abbrev pmOpenCable : Nat := 3
abbrev pmSynth : Nat := 4
abbrev pmChrysalis : Nat := 5
abbrev pmThermal : Nat := 6
abbrev pmFault : Nat := 7
abbrev pmCal : Nat := 8
abbrev pmClock : Nat := 9

/-- Bits of ch.mutes (Table 7-8). -/
abbrev cmLaunch : Nat := 0
abbrev cmPattern : Nat := 1
abbrev cmTimebase : Nat := 2
abbrev cmStep : Nat := 3
abbrev cmSettling : Nat := 4
abbrev cmFloor : Nat := 5
abbrev cmProtection : Nat := 6
abbrev cmPermit : Nat := 7
abbrev cmThermal : Nat := 8
abbrev cmFault : Nat := 9
abbrev cmChrysalis : Nat := 10
abbrev cmSealed : Nat := 11
abbrev cmStopped : Nat := 12

/-- Bits of flt.sticky (Table 15-4). -/
abbrev skMinor : Nat := 0
abbrev skMajor : Nat := 1
abbrev skSevere : Nat := 2
abbrev skSealed : Nat := 3
abbrev skReset : Nat := 4
abbrev skRefclk : Nat := 5
abbrev skHoldover : Nat := 6
abbrev skStep : Nat := 7
abbrev skJournalDegraded : Nat := 8
abbrev skJournalFailed : Nat := 9
abbrev skLoglost : Nat := 10
abbrev skFrozen : Nat := 11
abbrev skRefused : Nat := 12
abbrev skWindowLost : Nat := 13
abbrev skHawkmoth : Nat := 14
abbrev skMutePin : Nat := 15
abbrev skOscillation : Nat := 16
abbrev skNoise : Nat := 17
abbrev skEmission : Nat := 18
abbrev skOpenCable : Nat := 19
abbrev skCalFail : Nat := 20
abbrev skSynth : Nat := 21
abbrev skRail : Nat := 22
abbrev skRailSense : Nat := 23
abbrev skFeed : Nat := 24
abbrev skThermal : Nat := 25
abbrev skSensor : Nat := 26
abbrev skTmOvr : Nat := 27
abbrev skStairway : Nat := 28
abbrev skInDoubt : Nat := 29
abbrev skFallback : Nat := 30
abbrev skBanister : Nat := 31

/-- Set a sticky bit (R328). -/
def State.sticky (s : State) (b : Nat) : State := s.setBit K.fltSticky b

/-! ### Channels -/

/-- The extra record of a channel. -/
def State.chan (s : State) (c : Nat) : Chan := Tab.get (fun _ => Chan.fresh) s.chans c

def State.setChan (s : State) (c : Nat) (x : Chan) : State :=
  { s with chans := Tab.put (fun _ => Chan.fresh) c x s.chans }

/-- The bits of ch.mutes that hold the gain engine: all but pattern and floor (R228), among the stored ones. -/
def holdingBits (w : Nat) : Nat := bitClr (bitClr w cmPattern) cmFloor

/-- gmin and gmax in 2^-16 dB (R222). -/
def State.gmin (s : State) (c : Nat) : Int := cdb (s.num (K.geGmin c))

def State.gmax (s : State) (c : Nat) : Int := cdb (s.num (K.geGmax c))

/-- clamp(G, gmin, gmax) (R222): gmin where gmax lies below it. -/
def State.clampG (s : State) (c : Nat) (g : Int) : Int := max (s.gmin c) (min g (s.gmax c))

/-- Set G and with it the applied gain and the floor mute (R222). -/
def setGain (c : Nat) (g : Int) (s : State) : State :=
  let s1 := s.putBit (K.chMutes c) cmFloor (decide (g ≤ s.gmin c))
  let s2 := s1.set (K.geApplied c) (s.clampG c g)
  s2.set (K.geIntegrator c) g

/-- The first update instant after a restart in this tick, in prompt mode; in lockstep it is counted from the symbols (R231). -/
def firstInstant (s : State) (c : Nat) : Option Nat := if s.num (K.geModeNow c) = 0 then some (s.time.now + s.nat (K.gePeriod c)) else none

/-- The reloaded gain of R230: the held gain under gmax, the thermal backoff, a gain cap, and, without a margin
estimate, gmin plus the probe gain. -/
def reloadGain (s : State) (c : Nat) : Int :=
  let g0 := min (s.chan c).gHeld (min (s.gmax c) (s.gmax c - s.num (K.geThermalBackoff c)))
  let g1 := if s.num (K.gePermitKind c) = 0 then min g0 (s.num (K.gePermitCap c)) else g0
  if s.num (K.cxMarginState c) = 0 ∨ s.num (K.cxMarginState c) = 3 then
    min g1 (s.gmin c + cdb (s.num (K.cxProbeGain c)))
  else g1

/-- The reload of R230. p_res, the residual power over the last 1 ms, is a measured value: a free value. -/
def reload (c : Nat) (s : State) : State :=
  let pRes := s.fresh
  let x := s.chan c
  let s1 := s.drawn.setChan c { x with deferred := false, pendingRate := none, windowFrom := s.time.now, dirty := false, notch := [],
                                       nextInst := firstInstant s c, lockFrom := s.time.tb, restarted := true, feTripped := false,
                                       mulG := none, mulNext := [] }
  let s2 := (s1.inc (K.geReloads c) 32).set (K.geFeTimer c) 0
  let s3 := s2.set (K.geWinner c) 0xFF
  let s4 := setGain c (reloadGain s c) s3
  let s5 := s4.setChan c { s4.chan c with gw := s4.num (K.geIntegrator c) }
  s5.set (K.geAlcSetpoint c) (pRes + s5.num (K.geApplied c))

/-- The engine of channel c is held (R228): the pattern mute, a launch gain hold, or any other mute but the floor. -/
def engineHeld (s : State) (c : Nat) : Bool :=
  let w := s.nat (K.chMutes c)
  s.flag K.fltStopped || decide (holdingBits w ≠ 0) || w.testBit cmPattern || s.bit (K.geHolds c) 0

/-- A hold begins or ends: while one is present the window is not clean; when the last ends, a new window opens (R227,
R231). -/
def markWindow (c : Nat) (s : State) : State :=
  let x := s.chan c
  if engineHeld s c then s.setChan c { x with dirty := true }
  else s.setChan c { x with dirty := false, windowFrom := s.time.now, nextInst := firstInstant s c, lockFrom := s.time.tb, restarted := true,
                            gw := s.num (K.geIntegrator c) }

/-- Raise mute request b of channel c (R29, R190). The first request that holds the engine keeps the present gain;
a raised request ends a deferred release (R230). -/
def raiseCh (c b : Nat) (s : State) : State :=
  let w := s.nat (K.chMutes c)
  let x := s.chan c
  let s1 := if b = cmFloor then s
    else if b = cmPattern then s.setChan c { x with dirty := true }
    else if holdingBits w = 0 then s.setChan c { x with gHeld := s.num (K.geApplied c), deferred := false, dirty := true }
    else s
  s1.setBit (K.chMutes c) b

/-- Release mute request b of channel c: the last one that holds the engine is a release from mute, at once or with the
next release of the pattern bit (R230); a release of the pattern bit takes a deferred one. -/
def releaseCh (c b : Nat) (s : State) : State :=
  let w := s.nat (K.chMutes c)
  let s1 := s.clrBit (K.chMutes c) b
  if b = cmFloor ∨ !w.testBit b then s1
  else if b = cmPattern then
    if (s.chan c).deferred ∧ holdingBits w = 0 then reload c s1 else markWindow c s1
  else if holdingBits (bitClr w b) = 0 then
    if w.testBit cmPattern then s1.setChan c { s1.chan c with deferred := true } else reload c s1
  else s1

/-- The word of ch.mutes: the stored requests, with bit 12 while the channel is not started and bit 9 while the part is
stopped (R326). -/
def chMutesNow (s : State) (c : Nat) : Nat :=
  let w := s.nat (K.chMutes c)
  let w1 := if s.num (K.chRun c) = 0 then bitSet w cmStopped else w
  if s.flag K.fltStopped then bitSet w1 cmFault else w1

/-! ### Ports -/

/-- Port states (Table 6-1). -/
abbrev psOff : Int := 0
abbrev psSleep : Int := 1
abbrev psStandby : Int := 2
abbrev psListen : Int := 3
abbrev psRelay : Int := 4
abbrev psCal : Int := 5
abbrev psChrysalis : Int := 6

/-- The MSI-X vector of port p (Table 17-6). -/
abbrev portVector (p : Nat) : Nat := 40 + p

/-- Raise and release mute request b of port p (R143); a change is a cause of the port's vector (R363). -/
def raisePort (p b : Nat) (s : State) : State :=
  if s.bit (K.portMutes p) b then s else (irq (portVector p) s).setBit (K.portMutes p) b

def releasePort (p b : Nat) (s : State) : State :=
  if s.bit (K.portMutes p) b then (irq (portVector p) s).clrBit (K.portMutes p) b else s

/-- Set port.state; a change is a cause of the port's vector (R363). -/
def setPortState (p : Nat) (v : Int) (s : State) : State := (irq (portVector p) s).set (K.portState p) v

/-- The word of port.mutes: the stored requests, with bit 5 in Chrysalis, bit 8 in Cal, bit 7 while the part is
stopped, and bit 9 while the clocks are lost or resuming (R22, R23). -/
def portMutesNow (s : State) (p : Nat) : Nat :=
  let w := s.nat (K.portMutes p)
  let w1 := if s.num (K.portState p) = psChrysalis then bitSet w pmChrysalis else w
  let w2 := if s.num (K.portState p) = psCal then bitSet w1 pmCal else w1
  if s.flag K.fltStopped then bitSet w2 pmFault else w2

/-! ### Holders of a shared bit (R323, R29) -/

/-- The list with h in it once. -/
def addHolder (h : Holder) (l : List Holder) : List Holder := if h ∈ l then l else h :: l

/-- The list without h. -/
def dropHolder (h : Holder) (l : List Holder) : List Holder := l.filter (fun x => decide (x ≠ h))

/-- Hold bit 7 of port p, or bit 9 of channel c, for a holder. -/
def holdPort (p : Nat) (h : Holder) (s : State) : State :=
  raisePort p pmFault
    { s with flt := { s.flt with port := Tab.put (fun _ => []) p (addHolder h (Tab.get (fun _ => []) s.flt.port p)) s.flt.port } }

def holdChan (c : Nat) (h : Holder) (s : State) : State :=
  raiseCh c cmFault
    { s with flt := { s.flt with chan := Tab.put (fun _ => []) c (addHolder h (Tab.get (fun _ => []) s.flt.chan c)) s.flt.chan } }

/-- Let a holder go: the bit falls with its last holder. -/
def unholdPort (p : Nat) (h : Holder) (s : State) : State :=
  let l := dropHolder h (Tab.get (fun _ => []) s.flt.port p)
  let s1 := { s with flt := { s.flt with port := Tab.put (fun _ => []) p l s.flt.port } }
  if l = [] then releasePort p pmFault s1 else s1

def unholdChan (c : Nat) (h : Holder) (s : State) : State :=
  let l := dropHolder h (Tab.get (fun _ => []) s.flt.chan c)
  let s1 := { s with flt := { s.flt with chan := Tab.put (fun _ => []) c l s.flt.chan } }
  if l = [] then releaseCh c cmFault s1 else s1

/-! ### Pins -/

/-- The retention latches have been read since the last reset (R329, Table 19-3): boot stage 1 is over. -/
def State.latchesRead (s : State) : Bool := decide (2 ≤ s.num K.pdBootStage)

/-- FAULT_N is asserted (R329). -/
def State.faultPin (s : State) : Bool :=
  s.latchesRead && (decide (0 < s.nat K.fltSevereCount) || decide (0 < s.nat K.fltSealedCount) || s.flag K.fltStopped)

/-- ALERT_N is asserted (R329). -/
def State.alertPin (s : State) : Bool := s.latchesRead && decide (s.nat K.fltSticky &&& s.nat K.fltAlertMask ≠ 0)

end Sys2Proof.Machine
end

