-- ==== Sys2Proof/Machine/Record.lean ====
section
/-! DEFINITION. Recording: event records entering the volatile buffer (R331 to R341), faults with their counters,
reactions and escalation (R318 to R329), NOTIFY of fault records, and the Gallery's fault trigger (R347). -/

namespace Sys2Proof.Machine

/-! ### Banks -/

/-- Bank b is usable. -/
def State.bankOk (s : State) (b : Nat) : Bool :=
  decide (s.num (if b = 0 then K.jrBank0State else K.jrBank1State) = 0)

/-- Both banks are out of service (R126, R340). -/
def State.bothFailed (s : State) : Bool := !s.bankOk 0 && !s.bankOk 1

/-- Exactly one bank is out of service. -/
def State.oneFailed (s : State) : Bool := s.bankOk 0 != s.bankOk 1

/-! ### The Gallery's triggers -/

/-- Gallery states (Table 16-8). -/
abbrev gsIdle : Int := 0
abbrev gsFilling : Int := 1
abbrev gsArmed : Int := 2
abbrev gsTriggered : Int := 3
abbrev gsHeld : Int := 4
abbrev gsDraining : Int := 5
abbrev gsFull : Int := 6

/-- Set gal.state: a cause of vector 5 (R363). -/
def setGal (v : Int) (s : State) : State := (irq 5 s).set K.galState v

/-- A trigger with a reason bit (R347): in Filling or Armed it starts a capture, in Triggered it adds its bit, in any
other state it is counted in gal.ignored. -/
def galTrigger (reason : Nat) (s : State) : State :=
  if s.num K.galState = gsFilling ∨ s.num K.galState = gsArmed then
    let s1 := { s with gal := { s.gal with trigAt := s.time.now, trigPcc := s.nat K.recPowerCycles, trigOt := s.time.ot } }
    let s2 := ((s1.set K.galTriggerTb (s.tbNow : Nat)).set K.galPreActual (min s.gal.pre (s.time.now - s.gal.fillAt) : Nat))
    let s3 := ((s2.set K.galNumber (s.num K.galNumber + 1)).set K.galStatus 1).set K.galTag 0
    setGal gsTriggered (s3.set K.galReasons ((2 ^ reason : Nat) : Int))
  else if s.num K.galState = gsTriggered then s.setBit K.galReasons reason
  else s.inc K.galIgnored 32

/-! ### Records -/

/-- The 32 octets of a record (Table 16-1). -/
def Rec.bytes (r : Rec) : List Byte :=
  leBytes 2 r.code ++ leBytes 2 r.source ++ leBytes 4 r.pcc ++ leBytes 6 r.ot ++ leBytes 2 r.flags ++
    leBytes 4 r.p0 ++ leBytes 4 r.p1 ++ leBytes 4 r.p2 ++ leBytes 4 r.p3

/-- The class field of a record. -/
def Rec.cls (r : Rec) : Nat := r.flags % 8

/-- A permanent code (R336): every Sealed fault, POWER_ON with latches found set, BANK_FAILED, LOG_LOST, and the items
the Cloister marks permanent, whose records carry the mark already. -/
def Rec.permanent (r : Rec) : Bool :=
  decide (r.cls = 4) || (decide (r.code = 0x0001) && decide (r.p2 ≠ 0)) || decide (r.code = 0x0003) ||
    decide (r.code = 0x0004) || r.flags.testBit 4

/-- Permanent slots used or owed to buffered records. -/
def permTaken (s : State) : Nat := s.nat K.recPermUsed + (s.log.buffer.filter (fun e => e.2.flags.testBit 4)).length

/-- Start a flush of what the buffer holds (R337); a flush that runs is not disturbed. -/
def startFlush (s : State) : State :=
  match s.log.flushing with
  | some _ => s
  | none => if s.bothFailed then s else { s with log := { s.log with flushing := some s.log.buffer.length } }

/-- Class order of R341: records that are not faults count as Notice. -/
def evictClass (r : Rec) : Nat := if 4 < r.cls then 0 else r.cls

/-- The oldest record of the lowest class present, Sealed never (R341): its number. -/
def evict (b : List (Nat × Rec)) : Option Nat :=
  let pick (c : Nat) : Option Nat := (b.find? (fun e => decide (evictClass e.2 = c))).map Prod.fst
  (pick 0).orElse (fun _ => (pick 1).orElse (fun _ => (pick 2).orElse (fun _ => pick 3)))

/-- The record as it enters: bit 7 when records were dropped, bit 6 after power fail, bit 4 when it has a permanent
copy. -/
def stamped (s : State) (r : Rec) : Rec :=
  let f0 := bitClr r.flags 4
  let f1 := if r.permanent ∧ permTaken s < 8192 then bitSet f0 4 else f0
  let f2 := if s.log.dropMark then bitSet f1 7 else f1
  let f3 := if s.log.pfailAt.isSome then bitSet f2 6 else f2
  { r with flags := f3 }

/-- Put a stamped record into the buffer under the next number. -/
def bufferRec (r : Rec) (s : State) : State :=
  let n := s.nat K.recNext
  let s1 := { s with log := { s.log with buffer := s.log.buffer ++ [(n, r)], dropMark := false } }
  let s2 := if s.flag K.recLoglost then s1.emit (.line "!rec" [n, r.pcc, r.ot, r.code, r.source, r.flags, r.p0, r.p1, r.p2, r.p3] []) else s1
  let s3 := (s2.set K.recNext (n + 1 : Nat)).set K.recBuffered (s.log.buffer.length + 1 : Nat)
  if (2 ≤ r.cls ∧ r.cls ≤ 4) ∨ 384 ≤ s.log.buffer.length + 1 then startFlush s3 else s3

/-- A record dropped or replaced is counted and marks the next one (R341). -/
def countDrop (s : State) : State :=
  let s1 := s.inc K.recDropped 32
  { s1 with log := { s1.log with dropMark := true, droppedSince := s1.log.droppedSince + 1 } }

/-- A record raised more than 100 µs after the detection of power fail is not kept (R338). -/
def tooLate (s : State) : Bool := match s.log.pfailAt with | some t => decide (t + 122880 < s.time.now) | none => false

/-- Put a record where there is room; while both banks have failed, in the place of another (R341). -/
def placeRec (r : Rec) (s : State) : State :=
  if s.log.buffer.length < 512 then bufferRec (stamped s r) s
  else if s.bothFailed then
    match evict s.log.buffer with
    | some n => bufferRec (stamped s r) (countDrop { s with log := { s.log with buffer := s.log.buffer.filter (fun e => decide (e.1 ≠ n)) } })
    | none => countDrop s
  else { s with log := { s.log with waiting := s.log.waiting ++ [r] } }

/-- One record enters (R335, R337, R341), behind those that wait for room. -/
def enterOne (r : Rec) (s : State) : State :=
  if tooLate s then s
  else if s.log.waiting ≠ [] then { s with log := { s.log with waiting := s.log.waiting ++ [r] } }
  else placeRec r s

/-- A record enters, and PERM_FULL follows one that finds no permanent slot (R336). -/
def enterRec (r : Rec) (s : State) : State :=
  if r.permanent ∧ 8192 ≤ permTaken s then
    let n := s.nat K.recNext
    enterOne ⟨0x0007, 0x15 * 1024, s.nat K.recPowerCycles, s.time.ot, 1, n % 2 ^ 32, 0, 0, 0⟩
      ((enterOne r s).set K.recPermFull 1)
  else enterOne r s

/-- An event that is not a fault (class 7). -/
def event (code p0 p1 p2 p3 : Nat) (s : State) : State :=
  enterRec ⟨code, 0, s.nat K.recPowerCycles, s.time.ot, 7, p0, p1, p2, p3⟩ s

/-- The code of an item of a group whose item number spec/ leaves open (DESIGN CHOICE, log entry 7). -/
def evCode (group tag : Nat) : Nat := group * 256 + Config.eventItem group tag

/-! ### NOTIFY -/

/-- The masters an event record can be sent to: those with a fixed ID and a route, and the bound CAN slots. -/
def reachable (s : State) : List Nat :=
  [1, 2, 3, 4, 5] ++ (s.masters.filterMap (fun e => if e.1 < 72 ∧ e.2.node.isSome then some e.1 else none))

/-- Send a record to one master as NOTIFY, with index 0x7600, sub 0x00 and the master's own seq (R38, R54); to the console as a line beginning
with "!" (R47). No rule gives a request that subscribes a value, so the other form of R38 has nothing to carry. -/
def notifyOne (r : Rec) (m : Nat) (s : State) : State :=
  let x := s.master m
  let s1 := s.setMaster m { x with notifySeq := (x.notifySeq + 1) % 256 }
  let o : Out := .notify m x.notifySeq 0x7600 0x00 r.bytes
  if m = 1 then
    if s.host.ntfProd = s.host.ntfCons + 1024 then
      { s1.inc K.hostNtfDropped 32 with host := { s1.host with ntfDropped := min (s1.host.ntfDropped + 1) 0xFFFFFFFF } }
    else
      let ring := Tab.put (fun _ => []) (s1.host.ntfProd % 1024) (outOctets o) s1.host.ntfRing
      irq 1 ({ s1 with host := { s1.host with ntfProd := s1.host.ntfProd + 1, ntfRing := ring } }.emit o)
  else if m = 2 then s1.emit (.line "!" [(x.notifySeq : Int)] r.bytes)
  else s1.emit o

/-- Send a fault record to every master whose mask holds its class, when the class map holds notify (R329). -/
def notifyAll (r : Rec) (s : State) : State :=
  if s.bit (K.fltReactK r.cls) 1 then
    forL ((reachable s).filter (fun m => s.bit (K.mrNotifyMask m) r.cls)) (notifyOne r) (if 2 ≤ r.cls then irq 2 s else s)
  else s

/-! ### Faults -/

/-- The scope of a source kind (Table 15-2): its channel, its port, or the part. -/
def kindChannel (kind : Nat) : Bool := decide (kind ∈ [0x0A, 0x0B, 0x0C, 0x0D, 0x0E, 0x17])

def portOf (kind inst : Nat) : Option Nat :=
  if kind = 0x07 ∨ kind = 0x09 ∨ kind = 0x0F then some inst else if kind = 0x08 then some (inst / 2) else none

/-- Kinds whose Minor and Major faults take no mute, because the protection itself mutes (R323). -/
def selfMuting (kind : Nat) : Bool := decide (kind = 0x0D ∨ kind = 0x0E ∨ kind = 0x0F)

/-- The source word (R319). -/
abbrev srcWord (kind inst : Nat) : Nat := kind * 1024 + inst

/-- The key of the state of a source word. -/
abbrev stateKey (w : Nat) : Nat := K.fcState (w / 1024) (w % 1024)

/-- Whether a fault of this class takes a mute or shed reaction on its scope (R323). -/
def takesMute (s : State) (kind cls : Nat) : Bool :=
  let allowed := !selfMuting kind || decide (cls = 3)
  (kindChannel kind && allowed && s.bit (K.fltReactK cls) 2) || ((portOf kind 0).isSome && allowed && s.bit (K.fltReactK cls) 3) ||
    (kindChannel kind && s.bit (K.fltReactK cls) 4)

/-- Move a source to a state, keeping the counts of Severe and Sealed sources. -/
def setSource (w : Nat) (v : Int) (s : State) : State :=
  let old := s.num (stateKey w)
  let s1 := if old = 3 ∧ v ≠ 3 then s.set K.fltSevereCount (s.num K.fltSevereCount - 1) else s
  let s2 := if old ≠ 3 ∧ v = 3 then s1.set K.fltSevereCount (s1.num K.fltSevereCount + 1) else s1
  let s3 := if old ≠ 4 ∧ v = 4 then s2.set K.fltSealedCount (s2.num K.fltSealedCount + 1) else s2
  s3.set (stateKey w) v

/-- Started channels of slice sl. -/
def startedIn (s : State) (sl : Nat) : List Nat := s.started.filter (fun c => decide (c / 8 = sl))

/-- Power off slice sl for a holder; its started channels hold their fault mute (R323). -/
def shedSlice (sl w : Nat) (s : State) : State :=
  let s1 := { s with flt := { s.flt with slice := Tab.put (fun _ => []) sl (addHolder (.source w) (Tab.get (fun _ => []) s.flt.slice sl)) s.flt.slice },
                     domDue := Tab.put (fun _ => none) sl none s.domDue }
  let s2 := if s1.num (K.pdState sl) = 4 ∨ s1.num (K.pdState sl) = 5 then s1 else s1.set (K.pdState sl) 0
  forL (startedIn s sl) (fun c => holdChan c (.source w)) s2

/-- Rail states (R285). -/
abbrev rsOff : Int := 0
abbrev rsOnDelay : Int := 1
abbrev rsRamping : Int := 2
abbrev rsQualifying : Int := 3
abbrev rsGood : Int := 4
abbrev rsFaultTiming : Int := 5
abbrev rsOffRamp : Int := 6
abbrev rsFaultOff : Int := 7
abbrev rsLatched : Int := 8

/-- Feed states (R295). -/
abbrev fsOff : Int := 0
abbrev fsDetecting : Int := 1
abbrev fsClassifying : Int := 2
abbrev fsInrush : Int := 3
abbrev fsOn : Int := 4
abbrev fsFaultOff : Int := 5
abbrev fsLatched : Int := 6
abbrev fsSealed : Int := 7
abbrev fsHeld : Int := 8

/-- The records of a rail and of a feed. -/
def State.rail (s : State) (r : Nat) : Rail := Tab.get (fun _ => Rail.fresh) s.rails r

def State.setRail (s : State) (r : Nat) (x : Rail) : State := { s with rails := Tab.put (fun _ => Rail.fresh) r x s.rails }

def State.feed (s : State) (f : Nat) : Feed := Tab.get (fun _ => Feed.fresh) s.feeds f

def State.setFeed (s : State) (f : Nat) (x : Feed) : State := { s with feeds := Tab.put (fun _ => Feed.fresh) f x s.feeds }

/-- Ticks of a time in µs, and in ns, rounded up. -/
def usTicks (us : Nat) : Nat := (us * 12288 + 9) / 10

def nsTicks (ns : Nat) : Nat := (ns * 12288 + 9999999) / 10000000

/-- The reference of rail r in this tick (R280, R286): it moves at its rate toward its goal. -/
def vrefNow (s : State) (r : Nat) : Nat :=
  let x := s.rail r
  let v := s.nat (K.rlVref r)
  let d := x.rate * (s.time.now - x.refAt) * 10 / 12288
  if v ≤ x.goal then min x.goal (v + d) else max x.goal (v - d)

/-- Give the reference of rail r a motion from where it stands. -/
def moveRef (r delay rate goal : Nat) (s : State) : State :=
  let v := vrefNow s r
  (s.setRail r { s.rail r with refAt := s.time.now + delay, rate := rate, goal := goal }).set (K.rlVref r) (v : Int)

/-- Rail r enters Off-ramp (R286): its reference holds for rl.off_delay and falls at rl.off_ramp, 0 at once. -/
def railOffRamp (r : Nat) (s : State) : State :=
  let rate := s.nat (K.rlOffRamp r)
  let s1 := moveRef r (usTicks (s.nat (K.rlOffDelay r))) (if rate = 0 then 100000 else rate) 0 s
  let s2 := s1.setRail r { s1.rail r with since := s.time.now, moveDue := none, conds := [] }
  (s2.set (K.rlPg r) 0).set (K.rlState r) rsOffRamp

/-- The states of a feed whose gate is on: Classifying, Inrush and On (Table 13-2). -/
def gateOn (v : Int) : Bool := decide (2 ≤ v) && decide (v ≤ 4)

/-- Feed f enters a state: its conditions are counted afresh, and a gate that turns off is timed. -/
def enterFeed (f : Nat) (v : Int) (s : State) : State :=
  let x := s.feed f
  (s.setFeed f { x with since := s.time.now, validFrom := none, nearFrom := none, limitFrom := none, lowFrom := none,
                        vinFrom := if gateOn v then x.vinFrom else none, leakFrom := none,
                        gateOff := if gateOn (s.num (K.fdState f)) ∧ !gateOn v then s.time.now else x.gateOff,
                        rampFrom := s.num (K.fdVout f), rampTicks := 0 }).set (K.fdState f) v

/-- The stop reaction (R326): every rail that is on goes to Off-ramp and every feed that is not Sealed to Off
(DEDUCED, log entry 20). The fault mutes of every port and channel follow from flt.stopped. -/
def stopPart (s : State) : State :=
  let s1 := forN 24 (fun r s => if 1 ≤ s.num (K.rlState r) ∧ s.num (K.rlState r) ≤ 5 then railOffRamp r s else s) s
  let s2 := forN 32 (fun f s => if s.num (K.fdState f) = fsSealed then s else enterFeed f fsOff s) s1
  s2.set K.fltStopped 1

/-- The reactions of a class, on the scope of its source (R322, R323). -/
def react (kind inst cls : Nat) (s : State) : State :=
  let w := srcWord kind inst
  let allowed := !selfMuting kind || decide (cls = 3)
  let s1 := if kindChannel kind ∧ allowed ∧ s.bit (K.fltReactK cls) 2 then holdChan inst (.source w) s else s
  let s2 := match portOf kind inst with
    | some p => if allowed ∧ s.bit (K.fltReactK cls) 3 then holdPort p (.source w) s1 else s1
    | none => s1
  let s3 := if kindChannel kind ∧ s.bit (K.fltReactK cls) 4 then shedSlice (inst / 8) w s2 else s2
  if s.bit (K.fltReactK cls) 5 then stopPart s3 else s3

/-- A fault record of the Gallery's class and source triggers it (R347). -/
def galFault (w cls : Nat) (s : State) : State :=
  if s.gal.faultClass ≤ cls ∧ s.gal.faultClass ≠ 0xFF ∧ (s.gal.faultSource = 0xFFFF ∨ s.gal.faultSource = w) then
    galTrigger 0 s else s

/-- Set the sticky bit of a class (Table 15-4): Notice has none. -/
def stickyClass (cls : Nat) (s : State) : State := if cls = 0 then s else s.sticky (cls - 1)

/-- Write one fault record, notify it, and take its class's reaction (R318, R322, R329). DEDUCED, log entry 18. -/
def faultRecord (kind inst cls esc code p0 p1 p2 p3 : Nat) (s : State) : State :=
  let w := srcWord kind inst
  let r : Rec := ⟨code, w, s.nat K.recPowerCycles, s.time.ot, cls + 8 * esc, p0, p1, p2, p3⟩
  let s1 := galFault w cls (notifyAll r (enterRec r (stickyClass cls (s.inc K.fltTotal 64))))
  react kind inst cls s1

/-- Operating times of the kept faults of a source within its window, the present one included (R321). -/
def keptTimes (s : State) (kind w : Nat) : List Nat :=
  (s.time.ot :: Tab.get (fun _ => []) s.flt.times w).filter
    (fun t => decide (s.time.ot < t + 1024 * s.nat (K.fltEscWindow kind) + 1))

/-- Start the Major hold of a source afresh (R324). -/
def startHold (w : Nat) (s : State) : State :=
  let due := some (s.time.ot + 1024 * s.nat K.fltMajorHold)
  { s with flt := { s.flt with holdEnd := Tab.put (fun _ => none) w due s.flt.holdEnd } }

/-- The state a source takes after a fault of a class (R321, R324, R325). -/
def sourceAfter (kind inst cls : Nat) (s : State) : State :=
  let w := srcWord kind inst
  let st := s.num (stateKey w)
  if st = 4 then s
  else if cls = 4 then setSource w 4 s
  else if cls = 3 then setSource w 3 s
  else
    let renew := decide (2 ≤ cls) || decide (s.nat (K.fltReactK cls) &&& 28 ≠ 0)
    if st = 3 then s
    else if takesMute s kind cls then setSource w 2 (startHold w s)
    else if st = 2 ∧ renew then startHold w s
    else s

/-- Escalation (R321): Notice, Minor and Major faults are kept; the one that brings the count in the window to N records
a Severe fault of the same source and puts it into state Severe. DEDUCED, log entry 18. -/
def escalate (kind inst cls code p0 p1 p2 p3 : Nat) (s : State) : State :=
  let w := srcWord kind inst
  let n := s.nat (K.fltEscN kind)
  if n = 0 ∨ 2 < cls ∨ s.num (stateKey w) = 4 then s
  else
    let ts := keptTimes s kind w
    let s1 := { s with flt := { s.flt with times := Tab.put (fun _ => []) w ts s.flt.times } }
    if n ≤ ts.length ∧ s.num (stateKey w) ≠ 3 then
      setSource w 3 (faultRecord kind inst 3 1 code p0 p1 p2 p3 s1)
    else s1

/-- A fault (R318 to R325): its counter rises, its record enters, its reaction is taken, its source changes state, and
an escalation follows it at once. -/
def fault (kind inst cls code p0 p1 p2 p3 : Nat) (s : State) : State :=
  let s1 := s.inc (K.fcCount kind inst) 32
  let s2 := sourceAfter kind inst cls (faultRecord kind inst cls 0 code p0 p1 p2 p3 s1)
  escalate kind inst cls code p0 p1 p2 p3 s2

end Sys2Proof.Machine
end

