-- ==== Sys2Proof/Machine/Plan.lean ====
section
/-! DEFINITION. What a plan is made of: the geometry of TDD patterns (R92 to R99), charged durations (R105, R280), slots
and settling lengths (R172, R177), and the lead of a channel (R106). All functions read the objects of a state, which
may be a projected one. -/

namespace Sys2Proof.Machine

/-- num / den rounded up. -/
def ceilDiv (num den : Nat) : Nat := (num + (den - 1)) / den

/-! ### Patterns -/

/-- Symbols per 614,400 ticks, ticks of a normal symbol, and the extra ticks of a long one (Table 4-5). -/
def symGrid (scs : Nat) (ecp : Bool) : Nat × Nat × Nat :=
  if ecp then (24, 25600, 0)
  else if scs = 15 then (7, 87680, 640)
  else if scs = 60 then (28, 21920, 640)
  else (14, 43840, 640)

/-- The tick, from the anchor, at which symbol i starts (R94). -/
def symTick (scs : Nat) (ecp : Bool) (i : Nat) : Nat :=
  let (n, len, extra) := symGrid scs ecp
  (i / n) * 614400 + (i % n) * len + (if i % n = 0 then 0 else extra)

/-- Ticks of a period code (Table 4-6). -/
def periodTicks (code : Nat) : Nat :=
  match code with
  | 0 => 614400 | 1 => 768000 | 2 => 1228800 | 3 => 1536000 | 4 => 2457600 | 5 => 3072000 | 6 => 3686400 | 7 => 4915200
  | 8 => 6144000 | 9 => 12288000 | 10 => 24576000 | _ => 0

/-- A segment of a cycle: direction (0 DL, 1 UL, 2 guard), whether it is a Landing, first tick and length from the
anchor, and the pattern and number of its word. -/
structure Seg where
  dir : Nat
  landing : Bool
  start : Nat
  len : Nat
  pat : Nat
  num : Nat
  deriving DecidableEq, Repr

/-- Symbols of the first n segment words of pattern p. -/
def symbolsBefore (s : State) (p n : Nat) : Nat :=
  ((List.range n).map (fun i => s.nat (K.patSeg p (i + 1)) % 65536)).sum

/-- The segments of one pattern, the first starting at symbol i0. -/
def ownSegs (s : State) (p i0 : Nat) : List Seg :=
  let scs := s.nat (K.patScs p)
  let ecp := s.flag (K.patEcp p)
  (List.range (s.nat (K.patNseg p))).map (fun g =>
    let w := s.nat (K.patSeg p (g + 1))
    let a := symTick scs ecp (i0 + symbolsBefore s p g)
    let b := symTick scs ecp (i0 + symbolsBefore s p (g + 1))
    ⟨w / 2 ^ 30, w.testBit 29, a, b - a, p, g + 1⟩)

/-- The second pattern of a chained pair (R96). -/
def chainOf (s : State) (p : Nat) : Option Nat := if s.num (K.patChain p) = 0xFF then none else some (s.nat (K.patChain p))

/-- Ticks of the cycle of pattern p: its period, with that of the pattern it chains to (R95). -/
def cycleTicks (s : State) (p : Nat) : Nat :=
  periodTicks (s.nat (K.patPeriod p)) + (match chainOf s p with | some q => periodTicks (s.nat (K.patPeriod q)) | none => 0)

/-- The segments of a cycle (R96). -/
def segsOf (s : State) (p : Nat) : List Seg :=
  ownSegs s p 0 ++ (match chainOf s p with
    | some q => ownSegs s q (symbolsBefore s p (s.nat (K.patNseg p)))
    | none => [])

/-- Enabled patterns, ascending. -/
def enabledPats (s : State) : List Nat := (List.range 8).filter (fun p => s.flag (K.patEnable p))

/-- The walker a pattern number stands on: itself when enabled, else the enabled pattern that chains to it (R96). -/
def walkerOf (s : State) (p : Nat) : Option Nat :=
  if 7 < p then none
  else if s.flag (K.patEnable p) then some p
  else (enabledPats s).find? (fun w => decide (chainOf s w = some p))

/-- The walker that drives a port (R97). -/
def portWalker (s : State) (port : Nat) : Option Nat := (enabledPats s).find? (fun p => s.bit (K.patPorts p) port)

/-- The anchor of a pattern in ticks. -/
def anchorTicks (s : State) (p : Nat) : Nat := tbTicks (s.nat (K.patAnchor p))

/-- The position in the cycle at timebase tick t. -/
def positionAt (s : State) (p t : Nat) : Nat :=
  let c := cycleTicks s p
  if c = 0 then 0 else (((t : Int) - anchorTicks s p) % (c : Int)).toNat

/-- The segment that holds a position. -/
def segAt (s : State) (p pos : Nat) : Option Seg := (segsOf s p).find? (fun g => decide (g.start ≤ pos) && decide (pos < g.start + g.len))

/-- The first tick at or after t whose position is pos. -/
def nextAt (s : State) (p pos t : Nat) : Nat :=
  let c := cycleTicks s p
  if c = 0 then t else t + (((pos : Int) - positionAt s p t) % (c : Int)).toNat

/-- The first start, at or after tick t, of a segment of direction d on walker p. -/
def nextOwnStart (s : State) (p d t : Nat) : Option Nat :=
  (((segsOf s p).filter (fun g => decide (g.dir = d))).map (fun g => nextAt s p g.start t)).min?

/-- The walker of channel c, when it is on a pattern (R96). -/
def chanWalker (s : State) (c : Nat) : Option Nat :=
  if s.num (K.chPattern c) = 0xFF then none else walkerOf s (s.nat (K.chPattern c))

/-- Channel c is on a pattern: a TDD channel (R60, R98). -/
def isTdd (s : State) (c : Nat) : Bool := decide (s.num (K.chPattern c) ≠ 0xFF)

/-- Port p transmits in a segment of direction d (R97): service-facing ports in DL, donor-facing ones in UL. -/
def transmitsIn (s : State) (p d : Nat) : Bool :=
  (decide (d = 0) && s.flag (K.portRole p)) || (decide (d = 1) && !s.flag (K.portRole p))

/-- Port p receives in a segment of direction d. -/
def receivesIn (s : State) (p d : Nat) : Bool :=
  (decide (d = 0) && !s.flag (K.portRole p)) || (decide (d = 1) && s.flag (K.portRole p))

/-- The place in the cycle of action a (1 to 16) of pattern p (R99): its anchor point plus its offset, or where admission placed
it. An action whose segment number lies above pat.nseg stands at position 0 (DESIGN CHOICE, log entry 126). -/
def actionPos (s : State) (p a : Nat) : Nat :=
  let b := s.oct (K.patAction p a)
  let c := cycleTicks s p
  match (segsOf s p).find? (fun g => decide (g.pat = p) && decide (g.num = leAt b 4 1)) with
  | none => 0
  | some g =>
    let point := if leAt b 5 1 = 1 then g.start + g.len else g.start
    let off := toSigned 4 (leAt b 0 4)
    if c = 0 then 0
    else if off = -2147483648 then positionAt s p (tbTicks (s.nat (K.patPlaced p a)))
    else (((point : Int) + off) % (c : Int)).toNat

/-! ### Ports -/

/-- Ticks of one transition of Table 6-2 between neighbouring states. -/
def transTicks (a b : Int) : Nat :=
  if b = psCal ∨ a = psCal then 2458
  else if b = psChrysalis then 1
  else if a = psOff then 2064384
  else if a = psSleep then (if b = psOff then 6144 else 147456)
  else if a = psStandby then (if b = psListen then 4916 else 12288)
  else if a = psListen then (if b = psRelay then 3072 else 1229)
  else if a = psRelay then 1475
  else 1229 + 12288

/-- The neighbouring state on the way from a to a target (Table 6-2). DEDUCED, log entry 22. -/
def nextState (a target : Int) : Int :=
  if a = psOff then (if target = psOff then psOff else psSleep)
  else if a = psSleep then (if target = psOff then psOff else if target = psSleep then psSleep else psStandby)
  else if a = psStandby then (if target ≤ psSleep then psSleep else if target = psStandby then psStandby else psListen)
  else if a = psListen then (if target ≤ psStandby then psStandby else if target = psRelay then psRelay else psListen)
  else if a = psRelay then (if target = psRelay then psRelay else psListen)
  else if a = psChrysalis then (if target ≤ psSleep then psSleep else psChrysalis)
  else a

/-- The charged change to Relay from a state (Table 4-10): a port in Chrysalis as from Listen. -/
def toRelay (a : Int) : Nat :=
  if a = psOff then 2211840 + 4916 + 3072
  else if a = psSleep then 147456 + 4916 + 3072
  else if a = psStandby then 4916 + 3072
  else if a = psRelay then 0
  else if a = psCal then 2458 + 3072
  else 3072

/-- The charged change to Listen from a state. -/
def toListen (a : Int) : Nat :=
  if a = psOff then 2211840 + 4916
  else if a = psSleep then 147456 + 4916
  else if a = psStandby then 4916
  else if a = psRelay then 1475
  else if a = psCal then 2458
  else 0

/-- Entry to Cal from a state, and exit from it (Table 4-10). -/
def toCal (a : Int) : Nat := if a = psRelay then 3933 else 2458

/-- The port's record. -/
def State.port (s : State) (p : Nat) : Port := Tab.get (fun _ => Port.fresh) s.ports p

def State.setPort (s : State) (p : Nat) (x : Port) : State := { s with ports := Tab.put (fun _ => Port.fresh) p x s.ports }

/-- The port is in a transition. -/
def changing (s : State) (p : Nat) : Bool := decide (s.num (K.portChangingTo p) ≠ 0xFF)

/-- The charged change to Relay of a port in a state, the rest of its running transition included (R106). -/
def portToRelay (s : State) (p : Nat) : Nat :=
  if changing s p then ((s.port p).due - s.time.now) + toRelay (s.num (K.portChangingTo p)) else toRelay (s.num (K.portState p))

/-! ### Rails -/

/-- The PA rail that feeds a port, if any (R281). -/
def railOf (s : State) (p : Nat) : Option Nat :=
  if s.num (K.rlPortRail p) = 0xFF then none else some (s.nat (K.rlPortRail p))

/-- Ports a rail feeds. -/
def portsFed (s : State) (r : Nat) : List Nat := (List.range 32).filter (fun p => decide (railOf s p = some r))

/-- The charged move of rail r over a change of dv mV (R280). -/
def moveTicks (s : State) (r dv : Nat) : Nat :=
  let ramp := max 1 (s.nat (K.rlMoveRamp r))
  ceilDiv (((s.nat (K.rlMoveDelay r) + s.nat (K.rlSettle r)) * ramp + 1000 * dv) * 12288) (ramp * 10000)

/-- The voltage of a set-point. -/
def spMv (s : State) (r n : Nat) : Nat := s.nat (K.rlSpNMv r n)

/-- |a - b| of two voltages. -/
def absDiff (a b : Nat) : Nat := (a - b) + (b - a)

/-- The rail selections of a pattern's actions for rail r: place in the cycle and set-point. -/
def railActions (s : State) (p r : Nat) : List (Nat × Nat) :=
  (List.range 16).filterMap (fun i =>
    let b := s.oct (K.patAction p (i + 1))
    if leAt b 6 1 = 0x05 ∧ leAt b 8 2 = r then some (actionPos s p (i + 1), leAt b 12 4) else none)

/-- The last of the pairs at or before a position, in cycle order: what a cycle holds there. -/
def heldAt (l : List (Nat × Nat)) (pos : Nat) : Option Nat :=
  let best (l : List (Nat × Nat)) : Option (Nat × Nat) := l.foldl (fun b e => match b with
    | none => some e
    | some x => if x.1 ≤ e.1 then some e else some x) none
  match best (l.filter (fun e => decide (e.1 ≤ pos))) with
  | some e => some e.2
  | none => (best l).map Prod.snd

/-- The set-point that the cycle of walker p holds for rail r at a position (R100). -/
def cycleSetpoint (s : State) (p r pos : Nat) : Option Nat := heldAt (railActions s p r) pos

/-! ### Channels -/

/-- Slots of a channel (Table 7-1). -/
def slotsOf (d : Nat) : Nat := if d ≤ 1 ∨ 8 ≤ d then 1 else ceilDiv 8 d

/-- The delay coefficient of a class (Table 7-2). -/
def classK (cls : Nat) : Nat := if cls = 0 then 73 else if cls = 1 then 181 else 345

/-- The port-to-port delay with delay trim 0 (R177). -/
def delayTicks (d cls : Nat) : Nat := if d = 1 then 96 else 180 + classK cls * d + 6 * (slotsOf d - 1)

/-- The settling length with delay trim 0 (R177, R179). -/
def settlingTicks (d cls : Nat) : Nat := if d = 1 then 4 else 96 + 2 * classK cls * d + 12 * (slotsOf d - 1)

/-- The active bank of the channel's slice (R183): 0 A, 1 B. -/
def activeBank (s : State) (c : Nat) : Nat := s.nat (K.slBankActive (c / 8))

/-- The class of the channel in its active bank. -/
def classOf (s : State) (c : Nat) : Nat := s.nat (K.bkClass (activeBank s c) c)

/-- The keys of output o of a channel: port, gain trim, delay trim (R186). -/
abbrev outPortKey (c o : Nat) : Nat := K.foPort0 c + o

abbrev outGainKey (c o : Nat) : Nat := K.foGainTrim0 c + o

abbrev outDelayKey (c o : Nat) : Nat := K.foDelayTrim0 c + o

/-- The used outputs of a channel: output number and port (R186). -/
def outputsOf (s : State) (c : Nat) : List (Nat × Nat) :=
  (List.range 4).filterMap (fun o => if s.num (outPortKey c o) = 0xFF then none else some (o, s.nat (outPortKey c o)))

/-- The settling length of output o of a channel (R179). -/
def outSettle (s : State) (c o : Nat) : Nat := settlingTicks (s.nat (K.chD c)) (classOf s c) + s.nat (outDelayKey c o)

/-- The longest settling length over the used outputs. -/
def settleOf (s : State) (c : Nat) : Nat := ((outputsOf s c).map (fun e => outSettle s c e.1)).foldl max (settlingTicks (s.nat (K.chD c)) (classOf s c))

/-! ### The lead of a channel (R106) -/

/-- The charged move of the rail that feeds port p, when its set-point differs from the one the cycle of walker w holds
at position pos. -/
def railLead (s : State) (w p pos : Nat) : Nat :=
  match railOf s p with
  | none => 0
  | some r =>
    match cycleSetpoint s w r pos with
    | some n => if s.nat (K.rlSetpoint r) = n then 0 else moveTicks s r (absDiff (vrefNow s r) (spMv s r n))
    | none => 0

/-- The lead of channel c counted from the present tick toward a segment start at position pos: the larger of its filter
settling, when this tick resets it, and the longest way of an output port to Relay with its rail's move. -/
def leadOf (s : State) (c w pos : Nat) (resets : Bool) : Nat :=
  ((outputsOf s c).map (fun e => portToRelay s e.2 + railLead s w e.2 pos)).foldl max (if resets then settleOf s c else 0)

/-- The first start of a segment of the channel's direction that lies at or after tick t plus its lead (R60, R69). -/
def resumeAt (s : State) (c t : Nat) (resets : Bool) : Option Nat :=
  match chanWalker s c with
  | none => none
  | some w =>
    (((segsOf s w).filter (fun g => decide (g.dir = s.nat (K.chDir c)))).map
      (fun g => nextAt s w g.start (t + max (if resets then 0 else 1) (leadOf s c w g.start resets)))).min?

end Sys2Proof.Machine
end

