-- ==== Sys2Proof/Machine/Permit.lean ====
section
/-! DEFINITION. Bands of channels and ports (R136, R171, R188), and the band permits that apply to a channel (R378 to
R381). -/

namespace Sys2Proof.Machine

/-- A band in kHz. -/
structure Band where
  lo : Int
  hi : Int
  deriving DecidableEq, Repr

/-- a lies inside b. -/
def Band.inside (a b : Band) : Bool := decide (b.lo ≤ a.lo) && decide (a.hi ≤ b.hi)

/-- The bands share a frequency. -/
def Band.overlaps (a b : Band) : Bool := decide (a.lo < b.hi) && decide (b.lo < a.hi)

/-- The usable bandwidth of a synthesiser's frequency (R136). -/
def portBand (s : State) (tx : Bool) (p : Nat) : Band :=
  ⟨max 600000 (s.num (K.synFreq tx p) - 500000), min 7125000 (s.num (K.synFreq tx p) + 500000)⟩

/-- A band of twice its centre and its width, in half kHz so that the edges are exact: bounds doubled. -/
def bandAbout (centre bw : Int) : Band := ⟨2 * centre - bw, 2 * centre + bw⟩

/-- The band of a port in half kHz. -/
def portBand2 (s : State) (tx : Bool) (p : Nat) : Band :=
  let b := portBand s tx p
  ⟨2 * b.lo, 2 * b.hi⟩

/-- The input band of channel c under bank b, in half kHz (R171, R188). -/
def inBand (s : State) (b c : Nat) : Band :=
  if s.num (K.chD c) = 1 then portBand2 s false (s.nat (K.chInPort c))
  else bandAbout (s.num (K.bkCentre b c)) (s.num (K.bkBw b c))

/-- The centre of output o under bank b: 0 stands for bk.centre. -/
def outCentre (s : State) (b c o : Nat) : Int :=
  let v := s.num (K.bkOutCentre0 b c + o)
  if v = 0 then s.num (K.bkCentre b c) else v

/-- The output band of output o under bank b, in half kHz. -/
def outBand (s : State) (b c o : Nat) : Band :=
  if s.num (K.chD c) = 1 then portBand2 s false (s.nat (K.chInPort c))
  else bandAbout (outCentre s b c o) (s.num (K.bkBw b c))

/-! ### Permits -/

/-- The fields of a permit (Table 18-3). -/
def pmRoot (b : List Byte) : Nat := leAt b 5 1
def pmDir (b : List Byte) : Nat := leAt b 6 1
def pmKind (b : List Byte) : Nat := leAt b 7 1
def pmId (b : List Byte) : Nat := leAt b 16 4
def pmBand (b : List Byte) : Band := ⟨2 * (leAt b 20 4 : Nat), 2 * (leAt b 24 4 : Nat)⟩
def pmCap (b : List Byte) : Int := toSigned 2 (leAt b 28 2)

/-- Slots that hold a valid permit, ascending: none while the Cloister is sealed (R372). -/
def validPermits (s : State) : List Nat :=
  if s.num K.secState = 2 then [] else (List.range 64).filter (fun n => decide (s.num (K.secPermitState n) = 1))

/-- A permit applies to channel c: its direction, and every output band of the channel inside its band. -/
def applies (s : State) (c n : Nat) : Bool :=
  let b := s.oct (K.secPermit n)
  (decide (pmDir b = 2) || decide (pmDir b = s.nat (K.chDir c))) &&
    (outputsOf s c).all (fun e => (outBand s (activeBank s c) c e.1).inside (pmBand b))

/-- The applicable permit with the lowest cap, ties to the lowest slot (R380). -/
def permitFor (s : State) (c : Nat) : Option Nat :=
  ((validPermits s).filter (applies s c)).foldl (fun best n => match best with
    | none => some n
    | some m => if pmCap (s.oct (K.secPermit n)) < pmCap (s.oct (K.secPermit m)) then some n else some m) none

/-- Show the permit that applies: slot, kind and cap (R380). -/
def showPermit (c : Nat) (n : Option Nat) (s : State) : State :=
  match n with
  | some n =>
    let b := s.oct (K.secPermit n)
    ((s.set (K.gePermitKind c) (pmKind b : Nat)).set (K.gePermitCap c) (cdb (pmCap b))).set (K.secChPermit c) (n : Nat)
  | none => (s.set (K.gePermitKind c) 0xFF).set (K.secChPermit c) 0xFF

/-- The permit of a channel taken afresh (R381): without one it holds the permit mute, with one it releases it. -/
def takePermit (c : Nat) (s : State) : State :=
  let n := permitFor s c
  let s1 := showPermit c n s
  match n with
  | some _ => releaseCh c cmPermit s1
  | none => raiseCh c cmPermit s1

/-- The permit of a started channel taken afresh when permits change: a channel that loses its permit is named in a
PERMIT_LOST record. -/
def reviewPermit (c : Nat) (s : State) : State :=
  let old := s.nat (K.secChPermit c)
  let s1 := takePermit c s
  if permitFor s c = none ∧ s.bit (K.chMutes c) cmPermit = false then
    fault 0x17 c 1 0x110A c (if old = 0xFF then 0 else pmId (s.oct (K.secPermit old))) 0 0 s1
  else s1

end Sys2Proof.Machine
end

