-- ==== Sys2Proof/Machine/Channels.lean ====
section
/-! DEFINITION. Channels: reference branches and sub-pools (R197 to R203), tap resets (R205), synchronising resets and
settling (R179, R180), start and stop (R169), and cross-fades (R184). -/

namespace Sys2Proof.Machine

/-! ### Reference branches (R199, R201) -/

/-- Ports without repeats, first occurrence kept. -/
def firsts (l : List Nat) : List Nat := l.foldl (fun acc p => if p ∈ acc then acc else acc ++ [p]) []

/-- The ports of branches 0 to 3 as the settings give them; none for an unused branch. -/
def branchPorts (s : State) (c : Nat) : List (Option Nat) :=
  if s.num (K.cxRef0 c) = 0xFE then
    let l := firsts ((outputsOf s c).map Prod.snd)
    (List.range 4).map (fun n => l[n]?)
  else (List.range 4).map (fun n => if 31 < s.num (K.cxRefN c n) then none else some (s.nat (K.cxRefN c n)))

/-- Used branches: number and reference port. -/
def usedBranches (s : State) (c : Nat) : List (Nat × Nat) :=
  (List.range 4).filterMap (fun n => match (branchPorts s c)[n]? with | some (some p) => some (n, p) | _ => none)

/-- Show the ports in effect (cx.ref_portN). -/
def showRefs (c : Nat) (s : State) : State :=
  forN 4 (fun n s' => s'.set (K.cxRefPortN c n) (match (branchPorts s c)[n]? with | some (some p) => (p : Int) | _ => 0xFF)) s

/-- The canceller of channel c has taps (R201). -/
def hasTaps (s : State) (c : Nat) : Bool :=
  decide (s.num (K.chD c) ≠ 1) && s.flag (K.cxEnable c) && decide (s.num (K.cxTaps c) ≠ 0)

/-- The load of one branch in 10^6 tap-operations per second: taps x 1,228.8 / D (R201). -/
def branchLoad (s : State) (c : Nat) : Rat := if hasTaps s c then (s.num (K.cxTaps c) * 12288 : Rat) / (10 * s.num (K.chD c)) else 0

/-- T of R204. -/
def reconvOf (s : State) (c : Nat) : Nat :=
  if hasTaps s c then
    ceilDiv (5 * (s.nat (K.cxTaps c) * (usedBranches s c).length) * 65536) (s.nat (K.cxMu c)) * s.nat (K.chD c)
  else 0

/-- The load of sub-pool sp: of every started channel's branches that lie in it. -/
def poolLoad (s : State) (sp : Nat) : Rat :=
  (s.started.map (fun c => ((List.range 4).filter (fun n => decide (s.num (K.cxBranchSubpoolN c n) = sp))).length * branchLoad s c)).sum

/-- Sub-pool sp is powered. -/
def poolPowered (s : State) (sp : Nat) : Bool := s.bit K.cxPoolPowered sp

/-- The capacity of a sub-pool (R202). -/
abbrev poolCapacity : Rat := 500000

/-- Sub-pool sp is powered and has room for one branch of channel c. -/
def hasRoom (s : State) (c sp : Nat) : Bool := poolPowered s sp && decide (poolLoad s sp + branchLoad s c ≤ poolCapacity)

/-- The sub-pool that a branch of channel c takes: the named one, or the lowest, if powered and with room (R202). -/
def roomFor (s : State) (c : Nat) : Option Nat :=
  if s.num (K.cxSubpool c) = 0xFF then (List.range 16).find? (hasRoom s c)
  else if hasRoom s c (s.nat (K.cxSubpool c)) then some (s.nat (K.cxSubpool c)) else none

/-- Place branch n of channel c. One for which no powered sub-pool has room, as one shed since admission, stays unplaced (R202). -/
def placeBranch (c n : Nat) (s : State) : State :=
  match roomFor s c with
  | some sp => s.set (K.cxBranchSubpoolN c n) (sp : Int)
  | none => s

/-- Take the branches of channel c out of the pool. -/
def unplace (c : Nat) (s : State) : State := forN 4 (fun n s => s.set (K.cxBranchSubpoolN c n) 0xFF) s

/-- Place the branches of channel c afresh; a branch that finds no room stays out, with a Minor fault. -/
def placeChannel (c : Nat) (s : State) : State :=
  if !hasTaps s c then s
  else
    let s1 := forL (usedBranches s c) (fun e s => placeBranch c e.1 s) s
    if (usedBranches s c).any (fun e => decide (s1.num (K.cxBranchSubpoolN c e.1) = 0xFF)) then
      fault 0x0B c 1 (evCode 0x07 0) c 0 0 0 s1
    else s1

/-- Place the cancellers reset in one transaction: named placements first, then automatic ones in channel order. -/
def placeAll (cs : List Nat) (s : State) : State :=
  let named := cs.filter (fun c => decide (s.num (K.cxSubpool c) ≠ 0xFF))
  let auto := cs.filter (fun c => decide (s.num (K.cxSubpool c) = 0xFF))
  forL auto placeChannel (forL named placeChannel (forL cs unplace s))

/-! ### Tap resets (R205) -/

/-- The taps of every branch are zero, and every PA tracking factor is 1 (R203, R205). -/
def clearTaps (c : Nat) (s : State) : State := s.setPath c { s.pathOf c with taps := [], factors := [], factorsNew := [] }

/-- A tap reset: taps zero, tracking reference afresh, adapting ticks 0, margin state None, demonstration window
discarded. Several in one tick count as one. -/
def tapReset (c : Nat) (s : State) : State :=
  let x := s.chan c
  if x.tapAt = some s.time.now then s
  else
    let s1 := (clearTaps c s).setChan c {
      x with tapAt := some s.time.now, heldTicks := 0, demoFrom := none, demoIso := [], demoDepth := [], lastJ := [], line := [],
             lineRun := [], paRef := (usedBranches s c).filterMap (fun e => (s.port e.2).paGain.map (fun g => (e.1, some g))) }
    let s2 := forN 4 (fun n s => s.set (K.cxPaGainN c n) 0) s1
    let s3 := if s2.num (K.cxState c) = 2 then s2.set (K.cxState c) 1 else s2
    ((s3.inc (K.cxResets c) 32).set (K.cxAdaptTicks c) 0).set (K.cxMarginState c) 0

/-- The state a running canceller takes from its settings: Acquiring, or Estimator only (Table 8-1). -/
def cancellerState (s : State) (c : Nat) : Int := if hasTaps s c then 1 else 4

/-- The record of branch n is cleared (R211). -/
def clearRecord (c n : Nat) (s : State) : State := s.clrBit (K.cxRecords c) n

/-- Channels started with input port p; channels started with reference port p. -/
def channelsIn (s : State) (p : Nat) : List Nat := s.started.filter (fun c => decide (s.num (K.chInPort c) = p))

def channelsRef (s : State) (p : Nat) : List Nat := s.started.filter (fun c => decide (p ∈ (usedBranches s c).map Prod.snd))

/-! ### Settling and synchronising resets (R179, R180) -/

/-- Ticks by which each output of channel c settles after a reset in this tick. -/
def settleTicks (s : State) (c : Nat) : List Nat := (List.range 4).map (fun o => s.time.now + outSettle s c o)

/-- The filter memory of channel c is empty and its NCO phases are 0 (R180). -/
def clearFilters (c : Nat) (s : State) : State :=
  s.setPath c { s.pathOf c with inPhase := [], outPhase := [], refPhase := [], mem := [], fadeN := 0 }

/-- A synchronising reset of channel c in this tick. -/
def syncReset (c : Nat) (s : State) : State :=
  let x := s.chan c
  let s1 := (clearFilters c s).setChan c { x with settle := settleTicks s c, grid := s.time.now, fadeDue := none }
  let s2 := ((s1.set (K.chDcI c) 0).set (K.chDcQ c) 0).inc (K.chResets c) 32
  raiseCh c cmSettling s2

/-- Every used output of channel c has settled. -/
def allSettled (s : State) (c : Nat) : Bool :=
  (outputsOf s c).all (fun e => decide (((s.chan c).settle[e.1]?).getD 0 ≤ s.time.now))

/-- Output o of channel c is suppressed: it settles, or its new delay trim fills (R179, R181). DEDUCED, log entry 37. -/
def suppressed (s : State) (c o : Nat) : Bool :=
  decide (s.time.now < ((s.chan c).settle[o]?).getD 0) || decide (s.time.now < ((s.chan c).trim[o]?).getD 0)

/-- SETTLING_END (R179): once every output has settled, the settling mute is released. -/
def execSettlingEnd (c : Nat) (s : State) : Host.Outcome State Fault Refusal :=
  .next (if s.bit (K.chMutes c) cmSettling ∧ allSettled s c then releaseCh c cmSettling s else s)

/-- Port p's receive samples are valid (Table 6-1, R149). -/
def rxValid (s : State) (p : Nat) : Bool :=
  decide (s.num (K.portState p) ∈ [psListen, psRelay, psChrysalis]) && decide (s.num (K.synState false p) ≠ 5)

/-- The first valid sample after not-valid ones resets every started channel of the port (R180). -/
def inputReturns (p : Nat) (s : State) : State := forL (channelsIn s p) syncReset s

/-! ### Chrysalis, power and timebase at a channel (R189, R314, R323, R401) -/

/-- A Chrysalis cause of channel c: its input port, or its slice's failed check. -/
def chrysalisCause (s : State) (c : Nat) : Bool :=
  decide (s.num (K.portState (s.nat (K.chInPort c))) = psChrysalis) || decide (s.num (K.pdState (c / 8)) = 6)

/-- Raise or release the Chrysalis mute of channel c after its cause. -/
def reviewChrysalis (c : Nat) (s : State) : State :=
  if chrysalisCause s c then (if s.bit (K.chMutes c) cmChrysalis then s else raiseCh c cmChrysalis s)
  else releaseCh c cmChrysalis s

/-- The present segment of the channel's walker is of the channel's own direction, with the timebase running. -/
def inOwnSegment (s : State) (c : Nat) : Bool :=
  match chanWalker s c with
  | some w => match segAt s w (positionAt s w s.time.tb) with
    | some g => decide (g.dir = s.nat (K.chDir c))
    | none => false
  | none => true

/-! ### Start and stop (R169) -/

/-- Mute bits a stopped channel keeps: chrysalis, sealed, fault, thermal, permit, protection, launch. DEDUCED, log entry 28. -/
def keptMutes (w : Nat) : Nat := w &&& 0x0FC1

/-- The channel starts in this tick: every mute that applies to it is held, its canceller starts, its filters reset, and
its gain is held at gmin plus the probe gain until its first release (R230). -/
def startChannel (c : Nat) (s : State) : State :=
  let w := keptMutes (s.nat (K.chMutes c))
  let w1 := bitPut w cmLaunch (s.flag (K.chStartMuted c))
  let w2 := bitPut w1 cmTimebase ((isTdd s c && !s.flag K.tbTrace) || !s.time.running)
  let w3 := bitPut w2 cmPattern (!inOwnSegment s c)
  let w4 := bitPut w3 cmThermal (decide (s.num (K.pdState (c / 8)) = 5))
  let w5 := bitPut w4 cmChrysalis (chrysalisCause s c)
  let w6 := bitPut w5 cmPermit (decide (permitFor s c = none))
  let s1 := showPermit c (permitFor s c) (showRefs c (s.set (K.chMutes c) (w6 : Nat)))
  let s2 := tapReset c (s1.set (K.cxState c) (cancellerState s c))
  let s3 := syncReset c (s2.set (K.geModeNow c) (if s2.num (K.geMode c) = 0 ∧ s2.flag K.geFallback then 2 else s2.num (K.geMode c)))
  let s4 := setGain c (s3.num (K.geIntegrator c)) s3
  let s5 := s4.setChan c { s4.chan c with gHeld := s4.gmin c + cdb (s4.num (K.cxProbeGain c)), deferred := false, pendingRate := none,
                                          resume := 0, resumeTrace := none, transientDue := none, dcPattern := !inOwnSegment s c,
                                          dirty := true }
  (s5.set (K.geThermalBackoff c) s.th.given).set (K.chStartedAt c) (s.tbNow : Nat)

/-- The channel stops in this tick: it holds no slots and no taps. -/
def stopChannel (c : Nat) (s : State) : State :=
  let s1 := unplace c (s.set (K.chMutes c) (bitSet (keptMutes (s.nat (K.chMutes c))) cmStopped : Nat))
  let x := s1.chan c
  let y := { x with settle := [], pendingRate := none, fadeDue := none, transientDue := none, dcPattern := false,
                    deferred := false, resumeTrace := none, demoFrom := none, oscFired := none }
  let s2 := (((s1.setPath c Path.fresh).setChan c y).set (K.chDcI c) 0).set (K.chDcQ c) 0
  (s2.set (K.cxFreezes c) ((s2.nat (K.cxFreezes c) % 2 : Nat) : Int)).set (K.cxState c) 0

/-- The state of channel c (Table 7-5). -/
def chStateNow (s : State) (c : Nat) : Int :=
  if s.num (K.chRun c) = 0 then 0
  else if s.bit (K.chMutes c) cmSealed then 4
  else if chrysalisCause s c then 3
  else if !allSettled s c then 1
  else 2

/-! ### Radiating (R29, R190) -/

/-- Port p radiates: in Relay, on no change to Listen, with no mute request, and with PAEN high for 1,229 ticks (R142): before that, and from the
first tick of a change to Listen on, the DAC input is zero. -/
def portRadiates (s : State) (p : Nat) : Bool :=
  decide (s.num (K.portState p) = psRelay) && !changing s p && decide (portMutesNow s p = 0) &&
    (match (s.wingOf p).paenFrom with | some t => decide (t + 1229 ≤ s.time.now) | none => false)

/-- Channel c radiates on at least one output. -/
def chRadiates (s : State) (c : Nat) : Bool :=
  decide (s.num (K.chRun c) = 1) && decide (chMutesNow s c = 0) && (outputsOf s c).any (fun e => portRadiates s e.2)

/-! ### Freezes of adaptation (Table 8-2) -/

/-- Mute requests that are held on the wing (R207): Hawkmoth, MUTE_N, synthesiser hold, clocks. DEDUCED, log entry 128. -/
abbrev wingMutes : Nat := 2 ^ pmHawkmoth + 2 ^ pmPin + 2 ^ pmSynth + 2 ^ pmClock

/-- A mute request of port p as the core sees it: one held on the wing 10 ticks after the wing acts. -/
def muteSeen (s : State) (p : Nat) : Bool :=
  decide (maskOff (portMutesNow s p) wingMutes ≠ 0) || ((s.wingOf p).muted[9]?).getD false

/-- The reference sample that a branch on port p takes in this tick: the port's TX summation 92 ticks earlier (R198); none when it was not
valid. -/
def refSample (s : State) (p : Nat) : Option IQ := ((s.wingOf p).sums[91]?).getD none

/-- A branch on port p is held (R207): its port is muted, or its reference samples are not-valid. -/
def branchHeld (s : State) (p : Nat) : Bool := muteSeen s p || (refSample s p).isNone

/-- An observation receiver owned by the Gallery serves one of the channel's branches (R160, R200). -/
def galleryFreezes (s : State) (c : Nat) : Bool :=
  s.flag (K.cxPaTrack c) && (usedBranches s c).any (fun e => (List.range 2).any (fun i =>
    let r := 2 * (e.2 / 8) + i
    decide (s.num (K.obsOwner r) = 1) && (List.range 8).any (fun v =>
      let b := s.nat (K.obsList r) / 256 ^ v % 256
      b.testBit 7 && !b.testBit 4 && decide (b % 8 = e.2 % 8))))

/-- A tick in which an input sample of channel c is over range, or one of the next D ticks (R182, Table 8-2). -/
def overFrozen (s : State) (c : Nat) : Bool := decide (s.time.now < (s.pathOf c).ovrEnd)

/-- The word of cx.freezes: stored bits 9, 8, 1 and 0, and the bits other state implies. -/
def freezesNow (s : State) (c : Nat) : Nat :=
  let w := bitPut (s.nat (K.cxFreezes c)) 2 (overFrozen s c)
  let w1 := bitPut w 7 (s.flag (K.slFading (c / 8)))
  let w2 := bitPut w1 6 (!rxValid s (s.nat (K.chInPort c)) || !allSettled s c)
  let w3 := bitPut w2 5 (galleryFreezes s c)
  let w4 := bitPut w3 4 (isTdd s c && s.tbInvalid)
  let bs := usedBranches s c
  bitPut w4 3 (decide (bs ≠ []) && bs.all (fun e => branchHeld s e.2))

/-- The DC-blocking estimate of channel c is frozen (R182). -/
def dcFrozen (s : State) (c : Nat) : Bool :=
  (s.chan c).dcFreeze || (s.chan c).dcPattern || overFrozen s c || s.flag (K.slFading (c / 8))

/-! ### Cross-fades (R184, R185) -/

/-- The tick in which the fade of channel c ends: after its F-th sample at or after this tick on its grid. -/
def fadeEnd (s : State) (c f : Nat) : Nat :=
  let d := s.nat (K.chD c)
  let off := (((s.chan c).grid : Int) - s.time.now) % (d : Int)
  s.time.now + off.toNat + (f - 1) * d + 1

/-- End the running fade of slice sl. -/
def endFade (sl : Nat) (s : State) : State :=
  let s1 := forL (startedIn s sl) (fun c s => s.setChan c { s.chan c with fadeDue := none }) s
  (s1.set (K.slFadeEnd sl) (s.tbNow : Nat)).set (K.slFading sl) 0

/-- The charged length of a fade of f samples on slice sl: f times the largest D of its channels (R184). -/
def fadeCharge (s : State) (sl f : Nat) : Nat :=
  f * (((startedIn s sl).filter (fun c => decide (s.num (K.chD c) ≠ 1))).map (fun c => s.nat (K.chD c))).foldl max 0

/-- Begin a fade of slice sl over f samples: its whole-port channels take no part (R188). -/
def beginFade (sl f : Nat) (o : State) : State :=
  let s := { o with fades := Tab.put (fun _ => 0) sl (o.time.now + fadeCharge o sl f) o.fades }
  let s1 := forL ((startedIn s sl).filter (fun c => decide (s.num (K.chD c) ≠ 1)))
    (fun c s => (s.setPath c { s.pathOf c with fadeN := 0 }).setChan c { s.chan c with fadeDue := some (fadeEnd s c f) }) s
  s1.set (K.slFading sl) 1

/-- FADE_END (R184): the fade of every channel of the slice has ended. DESIGN CHOICE, log entry 36. -/
def execFadeEnd (sl : Nat) (s : State) : Host.Outcome State Fault Refusal :=
  .next (if s.flag (K.slFading sl) ∧ (startedIn s sl).all (fun c => match (s.chan c).fadeDue with
      | some t => decide (t ≤ s.time.now)
      | none => true) then endFade sl s else s)

/-- The bank a channel's reported delay follows: the old one until its own fade ends (R184). -/
def reportedClass (s : State) (c : Nat) : Nat :=
  match (s.chan c).fadeDue with
  | some t => if s.time.now < t then s.nat (K.bkClass (1 - activeBank s c) c) else classOf s c
  | none => classOf s c

/-- ch.delayN (R177). -/
def delayNow (s : State) (c o : Nat) : Nat :=
  if s.num (outPortKey c o) = 0xFF ∨ s.num (K.chRun c) = 0 then 0
  else delayTicks (s.nat (K.chD c)) (reportedClass s c) + s.nat (outDelayKey c o)

/-- ch.settle_left. -/
def settleLeft (s : State) (c : Nat) : Nat :=
  ((outputsOf s c).map (fun e => ((s.chan c).settle[e.1]?).getD 0 - s.time.now)).foldl max 0

end Sys2Proof.Machine
end

