-- ==== Sys2Proof/Machine/Operands.lean ====
section
/-! DEFINITION. The forms a value takes: its octets (Table 2-1), the valid values of an object (R31, R34 and the rules its
range column names), and the fields of launch entries, pattern actions and sequence entries. -/

namespace Sys2Proof.Machine

/-! ### Values and octets -/

/-- Octets of a numeric type (Table 2-1); 0 for STR and BLOB. -/
def Ty.size : Ty → Nat
  | .bool => 1 | .u8 => 1 | .i8 => 1 | .u16 => 2 | .i16 => 2 | .u32 => 4 | .i32 => 4 | .q16 => 4 | .u64 => 8 | .i64 => 8
  | .tb64 => 8 | .ot48 => 6 | .str => 0 | .blob => 0

/-- The type is signed. -/
def Ty.signed : Ty → Bool
  | .i8 => true | .i16 => true | .i32 => true | .i64 => true | .q16 => true | _ => false

/-- The type holds octets, not a number. -/
def Ty.octets : Ty → Bool
  | .str => true | .blob => true | _ => false

/-- The code of a type (Table 2-1). -/
def Ty.code : Ty → Nat
  | .bool => 1 | .u8 => 2 | .u16 => 3 | .u32 => 4 | .u64 => 5 | .i8 => 6 | .i16 => 7 | .i32 => 8 | .i64 => 9 | .q16 => 10
  | .tb64 => 11 | .ot48 => 12 | .str => 13 | .blob => 14

/-- The octets of a value. -/
def encodeVal (t : Ty) : Val → List Byte
  | .num v => leBytes t.size v
  | .oct b => b

/-- The number of octets of the type's size. -/
def decodeNum (t : Ty) (b : List Byte) : Int := if t.signed then toSigned t.size (ofLe b) else (ofLe b : Int)

/-- Octets that are valid UTF-8 (R31): need is how many continuation octets are owed, lo and hi bound the next one. -/
def utf8Ok : Nat → Nat → Nat → List Byte → Bool
  | 0, _, _, [] => true
  | _ + 1, _, _, [] => false
  | 0, _, _, b :: t =>
    let v := b.toNat
    if v < 0x80 then utf8Ok 0 0x80 0xBF t
    else if v < 0xC2 then false
    else if v < 0xE0 then utf8Ok 1 0x80 0xBF t
    else if v = 0xE0 then utf8Ok 2 0xA0 0xBF t
    else if v = 0xED then utf8Ok 2 0x80 0x9F t
    else if v < 0xF0 then utf8Ok 2 0x80 0xBF t
    else if v = 0xF0 then utf8Ok 3 0x90 0xBF t
    else if v < 0xF4 then utf8Ok 3 0x80 0xBF t
    else if v = 0xF4 then utf8Ok 3 0x80 0x8F t
    else false
  | n + 1, lo, hi, b :: t => decide (lo ≤ b.toNat) && decide (b.toNat ≤ hi) && utf8Ok n 0x80 0xBF t

/-! ### Launch entries and pattern actions -/

/-- Kind, target and parameter of an action (Table 4-2). -/
structure Action where
  kind : Nat
  target : Nat
  param : Nat
  deriving DecidableEq, Repr

/-- The action of a launch entry (Table 4-1). -/
def entryAction (b : List Byte) : Action := ⟨leAt b 8 1, leAt b 10 2, leAt b 12 4⟩

/-- The due value of a launch entry, in ticks. -/
def entryDue (b : List Byte) : Nat := tbTicks (leAt b 0 8)

/-- The action of a pattern action (Table 4-7). -/
def actAction (b : List Byte) : Action := ⟨leAt b 6 1, leAt b 8 2, leAt b 12 4⟩

def actOffset (b : List Byte) : Int := toSigned 4 (leAt b 0 4)

def actSegment (b : List Byte) : Nat := leAt b 4 1

def actAtEnd (b : List Byte) : Bool := decide (leAt b 5 1 = 1)

/-- The offset that asks for latest placement (R99). -/
abbrev latestPlacement : Int := -2147483648

/-- Target and parameter of a kind lie in the ranges of Table 4-2. -/
def Action.ok (a : Action) : Bool :=
  match a.kind with
  | 0x01 => decide (a.target < 32) && decide (a.param < 5)
  | 0x02 => decide (a.target < 512) && decide (a.param = 0)
  | 0x03 => decide (a.target < 512) && decide (a.param = 0)
  | 0x04 => decide (a.target < 512) && decide (a.param < 2)
  | 0x05 => decide (a.target < 24) && decide (a.param < 8)
  | 0x06 => decide (a.target < 64) && decide (16 ≤ a.param % 65536) && decide (a.param % 65536 ≤ 1024) && decide (a.param < 131072)
  | 0x07 => decide (a.target < 512) && decide (a.param < 2)
  | 0x08 => decide (a.target < 512) && decide (a.param < 2)
  | 0x09 => decide (a.target = 0) && decide (a.param = 0)
  | 0x0A => decide (a.target < 32) && decide (a.param < 4)
  | 0x0B => decide (a.target = 0)
  | 0x0C => decide (a.target < 32) && decide (a.param < 2)
  | _ => false

/-- A staged launch entry (R85, R88): kind 0, with parameter 0, frees the entry, kinds 0x0D and above are refused, the due value is a valid
time and the reserved octet 0. -/
def launchEntryOk (b : List Byte) : Bool :=
  decide (leAt b 9 1 = 0) &&
    (if leAt b 8 1 = 0 then decide (leAt b 12 4 = 0) else (entryAction b).ok && tbValidWord (leAt b 0 8))

/-- A staged pattern action (R99): any kind but the six is refused. DEDUCED, log entry 104. -/
def patActionOk (b : List Byte) : Bool :=
  let a := actAction b
  decide (a.kind ∈ [0x04, 0x05, 0x07, 0x08, 0x09, 0x0B]) && a.ok && decide (1 ≤ actSegment b) && decide (actSegment b ≤ 80) &&
    decide (leAt b 5 1 < 2) && decide (leAt b 7 1 = 0) && decide (leAt b 10 2 = 0)

/-- A segment word (R93). -/
def segDir (w : Nat) : Nat := w / 2 ^ 30

def segLanding (w : Nat) : Bool := w.testBit 29

def segSymbols (w : Nat) : Nat := w % 65536

def segWordOk (w : Nat) : Bool :=
  decide (segDir w < 3) && (!segLanding w || decide (segDir w = 2)) && decide ((w / 65536) % 8192 = 0) &&
    decide (1 ≤ segSymbols w) && decide (segSymbols w ≤ 1120)

/-! ### Sequence entries of the telemetry converters (Table 11-3) -/

def teInput (b : List Byte) : Nat := leAt b 0 1
def teGain (b : List Byte) : Nat := leAt b 1 1 / 32
def teSinc (b : List Byte) : Nat := (leAt b 1 1 / 8) % 4
def teMedian (b : List Byte) : Nat := (leAt b 1 1 / 2) % 4
def teZref (b : List Byte) : Bool := (leAt b 1 1).testBit 0
def teNotch (b : List Byte) : Nat := leAt b 2 2
def teRatio (b : List Byte) : Nat := leAt b 4 2 + 1
def teOutputs (b : List Byte) : Nat := leAt b 6 2
def teAcc (b : List Byte) : Nat := leAt b 8 1
def teValid (b : List Byte) : Bool := (leAt b 9 1).testBit 7
def teTrEn (b : List Byte) : Bool := (leAt b 9 1).testBit 1
def teAccEn (b : List Byte) : Bool := (leAt b 9 1).testBit 0
def teTracker (b : List Byte) : Nat := leAt b 10 1

/-- An entry names an input its modulator reaches, and its fields lie in their ranges (R261, R267). -/
def tmEntryOk (m : Nat) (pair : Bool) (b : List Byte) : Bool :=
  if !teValid b then true
  else
    let lo := if pair then 16 * (m / 2) else 8 * m
    let hi := if pair then lo + 15 else lo + 7
    (decide (192 ≤ teInput b) || (decide (lo ≤ teInput b) && decide (teInput b ≤ hi))) && decide (teSinc b < 3) &&
      decide (teNotch b = 0 ∨ (2 ≤ teNotch b ∧ teNotch b ≤ 4096)) && decide (1 ≤ teOutputs b) &&
      decide ((leAt b 9 1 / 4) % 32 = 0) && decide (leAt b 11 5 = 0)

/-! ### Lookup tables of the gain engine (R224) -/

/-- Point n of a table: error and rate. -/
def lutPoint (b : List Byte) (n : Nat) : Int × Int := (toSigned 4 (leAt b (8 * n) 4), toSigned 4 (leAt b (8 * n + 4) 4))

/-- A point keeps the sign rules and the rate bound of R224. -/
def lutPointOk (p : Int × Int) : Bool :=
  (decide (0 ≤ p.1) || decide (p.2 ≤ 0)) && (decide (p.1 ≤ 0) || decide (0 ≤ p.2)) && (decide (p.1 ≠ 0) || decide (p.2 = 0)) &&
    decide (-16777216 ≤ p.2) && decide (p.2 ≤ 16777216)

def lutOk (b : List Byte) : Bool :=
  (List.range 32).all (fun n => lutPointOk (lutPoint b n)) &&
    (List.range 31).all (fun n => decide ((lutPoint b n).1 < (lutPoint b (n + 1)).1) && decide ((lutPoint b n).2 ≤ (lutPoint b (n + 1)).2))

/-! ### Valid values -/

/-- The source-priority word repeats no code but 0 and uses none above 4 (R61). -/
def priorityOk (w : Nat) : Bool :=
  let l := [w / 4096 % 16, w / 256 % 16, w / 16 % 16, w % 16]
  l.all (fun c => decide (c ≤ 4)) && ((l.filter (fun c => decide (c ≠ 0))).Nodup : Bool)

/-- A Gallery source word (Table 16-7). -/
def galSourceOk (w : Nat) : Bool :=
  let n := w % 1024
  match w / 4096 with
  | 0 => true
  | 1 => decide (n < 32)
  | 2 => decide (n < 32)
  | 3 => true
  | 4 => true
  | 5 => decide (n < 8)
  | _ => false

/-- The source of a meter: none, or an object of a plain numeric type that is not WO (R404). -/
def meterSourceOk (w : Nat) : Bool :=
  decide (w = 0) || (match Dict.rowOf w with
    | some r => decide (r.ty ∈ [Ty.bool, .u8, .u16, .u32, .i8, .i16, .i32, .q16]) && decide (r.access ≠ .wo)
    | none => false)

/-- A number of an object passes its check. k is the object's key. -/
def numOk (s : State) (k : Nat) (c : Chk) (v : Int) : Bool :=
  match c with
  | .any => true
  | .eq n => decide (v = n)
  | .range lo hi => decide (lo ≤ v) && decide (v ≤ hi)
  | .rangeOr lo hi o => (decide (lo ≤ v) && decide (v ≤ hi)) || decide (v = o)
  | .step lo hi d => decide (lo ≤ v) && decide (v ≤ hi) && decide ((v - lo) % d = 0)
  | .oneOf vs => decide (v ∈ vs)
  | .sourcePriority => priorityOk v.toNat
  | .donorPci => decide (v ≤ if s.num K.tbDonorMode = 1 then 503 else 1007)
  | .todNext => decide (v.toNat = noTime) || (tbValidWord v.toNat && decide (v.toNat % 2 ^ 24 = 0))
  | .tbOrNone => decide (v.toNat = noTime) || tbValidWord v.toNat
  | .tbValid => tbValidWord v.toNat
  | .ref0 => decide (v ≤ 31) || decide (v = 0xFE) || decide (v = 0xFF)
  | .geLoops => v.toNat.testBit 1 && v.toNat.testBit 3 && v.toNat.testBit 4 && v.toNat.testBit 5
  | .interleave => decide (v = 0) || decide ((k / 256 - 0x7110) % 2 = 0)
  | .tmCal => decide (1 ≤ v % 4) && decide (v % 4 ≤ 3) && decide ((v / 4) % 64 = 0) && decide (v / 256 < 17)
  | .railPhases => decide (1 ≤ v) && decide (v ≤ if k / 256 - 0x7200 < 8 then 8 else 2)
  | .react => decide (v < 64) && decide (v % 2 = 1) && (decide (k % 256 ≠ 5) || decide (v = 3))
  | .galSource => decide ((v.toNat / 1024) % 4 = 0) && galSourceOk v.toNat
  | .dmaSource => decide ((v.toNat / 1024) % 4 = 0) && decide (1 ≤ v.toNat / 4096) && decide (v.toNat / 4096 ≤ 4) && galSourceOk v.toNat
  | .pow2 => decide (16 ≤ v) && decide (v ≤ 262144) && decide (v.toNat ∈ (List.range 19).map (fun n => 2 ^ n))
  | .mtrSource => meterSourceOk v.toNat
  | .ledSource => decide (v / 4096 ≤ 12) && decide ((v / 512) % 8 = 0)
  | .segWord => segWordOk v.toNat
  | .lenRange _ _ => true
  | .lut => true
  | .tmEntry => true
  | .shedOrder => true
  | .launchEntry => true
  | .patAction => true

/-- Octets of an object pass its check. -/
def octOk (s : State) (k : Nat) (c : Chk) (b : List Byte) : Bool :=
  match c with
  | .lut => lutOk b
  | .tmEntry =>
    let m := k / 256 - 0x7130
    tmEntryOk m (s.flag (K.tmInterleave (m / 2 * 2))) b
  | .shedOrder => b.all (fun x => decide (x.toNat < 0x50)) && (b.Nodup : Bool)
  | .launchEntry => launchEntryOk b
  | .patAction => patActionOk b
  | _ => true

/-- The length a value of an object may have (TYPE otherwise): the type's size; for the BLOBs of one layout, that
layout's length; else at most the maximum length. -/
def lenOk (r : ObjRow) (n : Nat) : Bool :=
  if r.ty.octets then
    match r.chk with
    | .lut => decide (n = 256)
    | .tmEntry => decide (n = 16)
    | .launchEntry => decide (n = 16)
    | .patAction => decide (n = 16)
    | .lenRange lo hi => decide (lo ≤ n) && decide (n ≤ hi)
    | _ => decide (n ≤ r.maxLen)
  else decide (n = r.ty.size)

/-- What a written value is found to be: TYPE (0x14), RANGE (0x15), or the value. -/
inductive Fit where
  | typeBad
  | rangeBad
  | ok (v : Val)
  deriving DecidableEq, Repr

/-- The test fits(obj, value) of R43. -/
def fits (s : State) (k : Nat) (r : ObjRow) (b : List Byte) : Fit :=
  if !lenOk r b.length then .typeBad
  else if r.ty = .str then (if utf8Ok 0 0x80 0xBF b && octOk s k r.chk b then .ok (.oct b) else .rangeBad)
  else if r.ty = .blob then (if octOk s k r.chk b then .ok (.oct b) else .rangeBad)
  else
    let v := decodeNum r.ty b
    if r.ty = .bool ∧ 1 < v then .rangeBad
    else if r.ty = .tb64 ∧ v.toNat ≠ noTime ∧ !tbValidWord v.toNat then .rangeBad
    else if numOk s k r.chk v then .ok (.num v) else .rangeBad

end Sys2Proof.Machine
end

