-- ==== Sys2Proof/Machine/Request.lean ====
section
/-! DEFINITION. The order in which a request is examined (R43): freezing, form, sequence, allowance, existence, access
right, level, value and conflict; violations and freezes (R51); responses and their resending (R40). -/

namespace Sys2Proof.Machine

/-! ### Status codes (Table 2-6) and kinds (Table 2-5) -/

abbrev stOk : Nat := 0x00
abbrev stAccepted : Nat := 0x01
abbrev stAborted : Nat := 0x02
abbrev stAbortLate : Nat := 0x03
abbrev stBusy : Nat := 0x10
abbrev stNoObject : Nat := 0x11
abbrev stRdOnly : Nat := 0x12
abbrev stWrOnly : Nat := 0x13
abbrev stType : Nat := 0x14
abbrev stRange : Nat := 0x15
abbrev stNotRwv : Nat := 0x16
abbrev stNoTx : Nat := 0x17
abbrev stVFull : Nat := 0x18
abbrev stTxLimit : Nat := 0x19
abbrev stRefused : Nat := 0x1A
abbrev stNoSlot : Nat := 0x1B
abbrev stNotStaged : Nat := 0x1C
abbrev stFrozen : Nat := 0x20
abbrev stLevel : Nat := 0x21
abbrev stSequence : Nat := 0x22
abbrev stMalformed : Nat := 0x23
abbrev stRate : Nat := 0x24
abbrev stOutsideTx : Nat := 0x25

abbrev kRead : Nat := 0
abbrev kWrite : Nat := 1
abbrev kStage : Nat := 2
abbrev kCommit : Nat := 3
abbrev kAbort : Nat := 4

/-! ### Who asks -/

/-- The requester of a frame: its flow (R40), the master whose freeze and allowance count (R46), and its level. -/
structure Who where
  flow : Nat
  charged : Nat
  level : Nat
  tunnel : Bool
  deriving DecidableEq, Repr

/-- The flow of an origin master at an origin part (R40). -/
abbrev tunnelFlow (origin om : Nat) : Nat := 72 + origin * 256 + om

/-- The masters of a CAN controller (Table 2-11). -/
abbrev canBase (bus : Nat) : Nat := if bus = 0 then 8 else 40

/-- The slot bound to a node, and the lowest free slot, of a controller (R45). -/
def boundSlot (s : State) (bus node : Nat) : Option Nat :=
  ((List.range 32).map (fun i => canBase bus + i)).find? (fun m => decide ((s.master m).node = some node))

def freeSlot (s : State) (bus : Nat) : Option Nat :=
  ((List.range 32).map (fun i => canBase bus + i)).find? (fun m => decide ((s.master m).node = none))

/-- Bind a CAN node to a slot (R45). -/
def bindSlot (m bus node : Nat) (s : State) : State :=
  (s.setMaster m { Master.fresh with node := some node, lastActive := s.time.now }).set (K.mrIdent m) (((4 + bus) * 256 + node : Nat) : Int)

/-- The level a master stands at: internal firmware always at Service (R48). -/
def State.levelOf (s : State) (m : Nat) : Nat := if m = 0 then 3 else s.nat (K.mrLevel m)

/-- A CAN frame is for this part only when it names the node number in effect (R45). -/
def forThisPart (s : State) : Origin → Bool
  | .can bus _ dest => decide (dest = if bus = 0 then s.can.nodeA else s.can.nodeB)
  | _ => true

/-- Who sends a frame, binding a CAN slot where its node has none; none when no slot is free. DEDUCED, log entry 102. -/
def whoSends (o : Origin) (s : State) : Option Who × State :=
  match o with
  | .master m => (some ⟨m, m, s.levelOf m, false⟩, s)
  | .can bus node _ =>
    match boundSlot s bus node with
    | some m => (some ⟨m, m, s.levelOf m, false⟩, s)
    | none =>
      match freeSlot s bus with
      | some m => (some ⟨m, m, 0, false⟩, bindSlot m bus node s)
      | none => (none, s)
  | .tunnel link origin om level =>
    (some ⟨tunnelFlow origin om, 3 + link, min level (s.nat K.accTunnelCap), true⟩, s)

/-! ### Responses -/

/-- The frames of a response (R39): a first frame of up to 56 octets, and SEGMENT frames of 62 that count on from its seq. DEDUCED, log entry
111. -/
def responseFrames (flow kind : Nat) (f : Frame) (status : Nat) (payload : List Byte) : List Out :=
  .response flow kind f.seq f.index f.sub status payload.length (decide (56 < payload.length)) (payload.take 56) ::
    (List.range (framesOf payload.length - 1)).map (fun i => .segment flow ((f.seq + 1 + i) % 256)
      (decide (56 + 62 * (i + 1) < payload.length)) ((payload.drop (56 + 62 * i)).take 62))

/-- Send a response on the flow's route: frames into the PCIe response ring, a console line, or frames. -/
def respond (w : Who) (kind : Nat) (f : Frame) (status : Nat) (payload : List Byte) (s : State) : State :=
  if w.flow = 1 then forL (responseFrames 1 kind f status payload) ringFrame s
  else if w.flow = 2 then
    s.emit (.line (if status ≤ stAbortLate then "ok" else "err") [(status : Int)] payload)
  else forL (responseFrames w.flow kind f status payload) (fun o s => s.emit o) s

/-- The answer to a CAN node for which no slot is free (R45). -/
def noSlot (o : Origin) (kind seq index sub : Nat) (s : State) : State :=
  match o with
  | .can bus node _ => s.emit (.noSlot bus node kind seq index sub)
  | _ => s

/-- Answer a request and keep the response for a repeat (R40). -/
def answer (w : Who) (kind : Nat) (f : Frame) (status : Nat) (payload : List Byte) (s : State) : State :=
  let x := s.master w.flow
  respond w kind f status payload
    (s.setMaster w.flow { x with lastReq := some (kind, f), lastRsp := ⟨status, payload⟩, outstanding := false })

/-! ### Violations (R51) -/

/-- Freeze master m with a violation code: its level is kept and dropped, the counts rise, an event and a Notice fault
naming the master are recorded. Internal firmware is never frozen. -/
def freeze (m code : Nat) (s : State) : State :=
  if m = 0 then s
  else
    let lvl := s.levelOf m
    let s1 := ((s.inc (K.mrViolations m) 32).inc K.accFreezeCount 32).sticky skFrozen
    let s2 := fault 0x03 m 0 (evCode 0x01 1) m code lvl 0 (event (evCode 0x01 0) m code lvl 0 s1)
    ((s2.set (K.mrFrozenLevel m) (lvl : Int)).set (K.mrLevel m) 0).set (K.mrFrozen m) (code : Int)

/-- A violation of a frame: the master is frozen and the response carries the code. A tunnelled frame's violation is
charged at the origin part (R46). -/
def violate (w : Who) (kind : Nat) (f : Frame) (code : Nat) (s : State) : State :=
  answer w kind f code [] (if w.tunnel then s else freeze w.charged code s)

/-! ### Form and sequence (R40, R41) -/

/-- A first frame holds its whole value: octets and length agree. With more set it may carry 56 octets, its SEGMENT
frames following one by one, or all of them, received together with it. DEDUCED, log entry 13. -/
def lengthOk (kind : Nat) (f : Frame) : Bool :=
  if kind = kRead ∨ kind = kAbort then decide (f.length = 0) && f.payload.isEmpty && !f.more
  else if kind = kCommit then decide (f.length = 8) && decide (f.payload.length = 8) && !f.more
  else if f.more then decide (56 < f.length) && decide (f.length < 65536) && (decide (f.payload.length = 56) || decide (f.payload.length = f.length))
  else decide (f.payload.length = f.length) && decide (f.length ≤ 56)

/-- The tests of R41 that a first frame can fail. -/
def malformed (kind : Nat) (f : Frame) : Bool :=
  f.resv || ((f.describe || f.staged) && decide (kind ≠ kRead)) || (f.describe && f.staged) || !lengthOk kind f ||
    (decide (kind = kCommit ∨ kind = kAbort) && decide (f.index ≠ 0 ∨ f.sub ≠ 0))

/-- The frame repeats the last completed request, octet for octet (R40). -/
def isRepeat (s : State) (w : Who) (kind : Nat) (f : Frame) : Bool :=
  decide ((s.master w.flow).lastReq = some (kind, f)) && !(s.master w.flow).outstanding && decide (w.flow ≠ 2)

/-- The first frame is that of the last completed request, whose value came in segments: its segments may repeat it too (R40). DEDUCED, log entry 13. -/
def beginsRepeat (s : State) (w : Who) (kind : Nat) (f : Frame) : Bool :=
  match (s.master w.flow).lastReq with
  | some (k, g) => decide (k = kind) && decide ({ g with payload := f.payload } = f) && decide (f.payload <+: g.payload) &&
      decide (f.payload.length < g.payload.length) && !(s.master w.flow).outstanding && decide (w.flow ≠ 2)
  | none => false

/-- The seq may come now (R40): any after reset or unfreezing, else one more than the last; only an ABORT may follow an
outstanding COMMIT, and a request of master 1 whose response the ring still holds is outstanding (R359, R360). The console
carries no seq (R47). DEDUCED, log entry 64. -/
def seqOk (s : State) (w : Who) (kind seq : Nat) : Bool :=
  let x := s.master w.flow
  decide (w.flow = 2) ||
    ((!x.outstanding || decide (kind = kAbort)) && (decide (w.flow ≠ 1) || decide (s.host.held = [])) &&
      (match x.lastSeq with | none => true | some q => decide (seq = (q + 1) % 256)))

/-! ### Allowance (R48) -/

/-- The management cores run on the hold oscillator (clk.status bit 6). -/
def State.holdOsc (s : State) : Bool := s.bit K.clkStatus 6

/-- The bucket of a master in 1/8,000 of a token: the burst, an eighth of it on the hold oscillator. -/
def bucketMax (s : State) (m : Nat) : Nat := if s.holdOsc then s.nat (K.mrBurst m) * 1000 else s.nat (K.mrBurst m) * 8000

/-- What a master's bucket holds, in 1/8,000 of a token. -/
def tokensOf (s : State) (m : Nat) : Nat :=
  match (s.master m).tokens with
  | none => bucketMax s m
  | some t => min t (bucketMax s m)

/-- The master has a token; internal firmware holds no bucket. -/
def hasToken (s : State) (m : Nat) : Bool := decide (m = 0) || decide (8000 ≤ tokensOf s m)

/-- What the buckets of masters hold stands as it is while a burst or the hold oscillator changes: a larger bucket fills by refills (R48). -/
def keepTokens (ms : List Nat) (s : State) : State :=
  forL ms (fun m t => t.setMaster m { t.master m with tokens := some (tokensOf s m) }) s

/-- Take a token. -/
def takeToken (m : Nat) (s : State) : State :=
  if m = 0 then s else s.setMaster m { s.master m with tokens := some (tokensOf s m - 8000) }

/-! ### Objects -/

/-- What an index and sub-index name: an object, its snapshot copy (R80), or a descriptor (R32). -/
inductive Obj where
  | live (r : ObjRow) (k : Nat)
  | copy (r : ObjRow) (k : Nat)
  | desc (index sub : Nat)
  deriving DecidableEq, Repr

/-- Names the tables mark 'latched by snapshots', and those of the accumulators and trackers (R80, R270). -/
def latchedNames : List String :=
  ["rx.power", "ch.power_in", "ch.power_out", "cx.margin", "cx.depth", "ge.applied", "ge.load", "hm.peak", "acc.sum",
   "acc.count", "acc.mean", "tr.min", "tr.max", "tr.min_time", "tr.max_time", "rl.volts", "rl.amps", "rl.watts",
   "rl.amps_peak", "rl.watts_peak", "fd.amps", "th.backoff", "th.temp"]

/-- Objects a snapshot copies (R80): RO objects counting events or requests, the accumulators and trackers, and the
objects whose chapters name them as latched. -/
def copied (r : ObjRow) : Bool :=
  decide (r.access = .ro) &&
    (decide (r.unit = "events") || decide (r.unit = "requests") || decide (r.nameA ∈ latchedNames))

/-- Right, exception of th.zone included: it is RO on the on-die sensors (Table 14-5). -/
def rowFor (index sub : Nat) : Option ObjRow :=
  match Dict.row? index sub with
  | some r => if index = 0x7413 ∧ sub ≤ 48 then some { r with access := .ro } else some r
  | none => none

/-- Find an object (R36). DESIGN CHOICE, log entry 8. -/
def lookup (index sub : Nat) : Option Obj :=
  if 1 ≤ index ∧ index ≤ 0x000E ∨ (0x0100 ≤ index ∧ index ≤ 0x0FFF) then
    if sub = 0 ∨ Config.descriptor index sub ≠ [] then some (.desc index sub) else none
  else if 0x9000 ≤ index ∧ index < 0xFC00 then
    match rowFor (index - 0x8000) sub with
    | some r => if copied r then some (.copy r ((index - 0x8000) * 256 + sub)) else none
    | none => none
  else match rowFor index sub with
    | some r => some (.live r (index * 256 + sub))
    | none => none

/-! ### Replies -/

/-- What examining or executing a request comes to: the state, and the answer with its payload, none while the answer
is still to come (a COMMIT). -/
structure Reply where
  st : State
  status : Option Nat
  payload : List Byte

/-- Answer with a status and change nothing. -/
def Reply.no (s : State) (status : Nat) : Reply := ⟨s, some status, []⟩

/-- Answer OK. -/
def Reply.ok (s : State) : Reply := ⟨s, some stOk, []⟩

/-- Answer ABORT_LATE, counted: completion stands (R117). -/
def Reply.late (s : State) : Reply := ⟨s.inc K.txAbortsLate 32, some stAbortLate, []⟩

/-- Violate inside the examination: the master is frozen and the code answered. -/
def Reply.violation (w : Who) (s : State) (code : Nat) : Reply :=
  ⟨if w.tunnel then s else freeze w.charged code s, some code, []⟩

/-! ### Conflicts (R49) -/

/-- The transactions that hold an object against another master's STAGE: Open, Committing, Prepared and In doubt. -/
def stagedElsewhere (s : State) (flow k : Nat) : Bool :=
  s.tx.slots.any (fun e => match e.2 with
    | some t => (decide (t.flow ≠ flow) || decide (t.state = 6) || decide (t.state = 7)) && t.staged.any (fun v => decide (v.1 = k))
    | none => false)

/-- A CMD object whose previous execution has not finished. -/
def cmdBusy (s : State) (k : Nat) : Bool :=
  let i := k / 256
  if k = K.jrRebuild then s.jr.rebuildDue.isSome
  else if k = K.recFlush then decide (s.log.flushCmd ≠ 0)
  else if k = K.thLearn then s.th.learn
  else if k = K.stRun then decide (s.num K.stState = 1)
  else if 0x7110 ≤ i ∧ i < 0x7128 ∧ k % 256 = 0x06 then
    decide (s.num (K.tmInject (i - 0x7110)) = 1) || decide (s.num (K.tmInject (i - 0x7110)) = 2)
  else if 0x7110 ≤ i ∧ i < 0x7128 ∧ k % 256 = 0x07 then
    decide (s.num (K.tmCalStatus (i - 0x7110)) = 1) || decide (s.num (K.tmCalStatus (i - 0x7110)) = 2)
  else false

/-! ### The examination of R43 -/

/-- The tests from existence to conflict, for WRITE and STAGE, and then the execution act. DEDUCED, log entry 42. -/
def examineWrite (kind : Nat) (w : Who) (f : Frame) (s : State) (act : Who → ObjRow → Nat → Val → State → Reply) : Reply :=
  match lookup f.index f.sub with
  | none => .no s stNoObject
  | some (.desc _ _) => .no s (if kind = kWrite then stRdOnly else stNotRwv)
  | some (.copy _ _) => .no s (if kind = kWrite then stRdOnly else stNotRwv)
  | some (.live r k) =>
    if kind = kWrite ∧ r.access = .ro then .no s stRdOnly
    else if kind = kWrite ∧ r.access = .rwv then .violation w s stOutsideTx
    else if kind = kStage ∧ r.access ≠ .rwv then .no s stNotRwv
    else if w.level < r.level then (if w.tunnel then .no s stLevel else .violation w s stLevel)
    else match fits s k r f.payload with
      | .typeBad => .no s stType
      | .rangeBad => .no s stRange
      | .ok v =>
        if kind = kStage ∧ stagedElsewhere s w.flow k then .no s stBusy
        else if kind = kWrite ∧ r.access = .cmd ∧ cmdBusy s k then .no s stBusy
        else act w r k v s

/-- Finish a request: answer it, or leave it outstanding. -/
def finish (w : Who) (kind : Nat) (f : Frame) (r : Reply) : State :=
  match r.status with
  | some st => answer w kind f st r.payload r.st
  | none => r.st.setMaster w.flow { r.st.master w.flow with outstanding := true }

/-- The part handles requests: boot stage 6 (R392). DEDUCED, log entry 19. -/
def State.serving (s : State) : Bool := decide (s.num K.pdBootStage = 6)

/-- The next frame of a flow is due with the seq after this one. -/
def markSeq (w : Who) (seq : Nat) (s : State) : State :=
  s.setMaster w.flow { s.master w.flow with lastSeq := some (seq % 256), lastActive := s.time.now }

/-- A request frame (R43): whoever sends it, the tests before the object, then the body, which examines the object and
executes. A first frame whose segments are still to come waits for them. A repeated request is answered again before the tests of sequence and
allowance: it takes no token, meets no rate test and does not refresh the idle time (DESIGN CHOICE, log entry 112). mr.requests counts every
frame that reaches the tests of form, malformed and repeated ones too; a request answered FROZEN and a SEGMENT frame do not count (DESIGN
CHOICE, log entry 113). DEDUCED, log entry 13. DEDUCED, log entry 19. DEDUCED, log entry 102. -/
def request (kind : Nat) (f : Frame) (s : State) (body : Who → Frame → State → Reply) : State :=
  if !s.serving || !forThisPart s f.org then s
  else match whoSends f.org s with
    | (none, s0) => noSlot f.org kind f.seq f.index f.sub s0
    | (some w, s0) =>
      if s0.num (K.mrFrozen w.charged) ≠ 0 then respond w kind f stFrozen [] s0
      else
        let s1 := s0.set (K.mrRequests w.charged) (s0.num (K.mrRequests w.charged) + 1)
        if malformed kind f || (s1.master w.flow).seg.isSome then
          violate w kind f stMalformed (s1.setMaster w.flow { s1.master w.flow with seg := none })
        else if isRepeat s1 w kind f then
          respond w kind f (s1.master w.flow).lastRsp.status (s1.master w.flow).lastRsp.payload s1
        else if beginsRepeat s1 w kind f then
          s1.setMaster w.flow { s1.master w.flow with seg := some (kind, f, f.payload, (f.seq + 1) % 256) }
        else if !seqOk s1 w kind f.seq then violate w kind f stSequence s1
        else if !hasToken s1 w.charged then
          (if s1.holdOsc then answer w kind f stBusy [] (markSeq w f.seq s1)
           else if w.tunnel then answer w kind f stRate [] (freeze w.charged stRate s1)
           else violate w kind f stRate s1)
        else
          let s2 := markSeq w (f.seq + (if f.payload.length ≤ 56 then 0 else framesOf f.payload.length - 1)) (takeToken w.charged s1)
          if f.more ∧ f.payload.length < f.length then
            s2.setMaster w.flow { s2.master w.flow with seg := some (kind, f, f.payload, (f.seq + 1) % 256) }
          else finish w kind f (body w f s2)

/-- A WRITE request of the object at key k: the frame's own index and sub-index are those of k. -/
def requestWrite (k : Nat) (f : Frame) (s : State) (act : Who → Val → State → Reply) : State :=
  request kWrite { f with index := k / 256, sub := k % 256, describe := f.describe } s
    (fun w f s => examineWrite kWrite w f s (fun w _ _ v s => act w v s))

/-- The number of a written value. -/
def Val.int : Val → Int
  | .num v => v
  | .oct _ => 0

/-- The octets of a written value. -/
def Val.octs : Val → List Byte
  | .num _ => []
  | .oct b => b

end Sys2Proof.Machine
end

