-- ==== Sys2Proof/Machine/Masters.lean ====
section
/-! DEFINITION. Masters: interface resets, unfreezing, CAN slots, buckets, relocking, and the Stairway tunnel (R45 to
R53). -/

namespace Sys2Proof.Machine

/-! ### Transactions of a flow -/

/-- The slot and transaction of a flow in one of the given states (R111): a master holds at most one open. -/
def txOf (s : State) (flow : Nat) (states : List Nat) : Option (Nat × Tx) :=
  s.tx.slots.findSome? (fun e => match e.2 with
    | some t => if t.flow = flow ∧ t.state ∈ states then some (e.1, t) else none
    | none => none)

/-- Put a transaction into a Vestibule slot, or free it. -/
def setSlot (i : Nat) (t : Option Tx) (s : State) : State :=
  { s with tx := { s.tx with slots := Tab.put (fun _ => none) i t s.tx.slots } }

/-- The transaction of a slot. -/
def State.slot (s : State) (i : Nat) : Option Tx := Tab.get (fun _ => none) s.tx.slots i

/-! ### Cells (R76, R77, R128) -/

/-- The part is the Newel (R76). -/
def isNewel (s : State) : Bool :=
  decide (s.num K.stwRole = 1) || (decide (s.num K.stwRole = 0) && decide (s.num (K.stwLinkLState 0) ≠ 4))

/-- The links a part sends down: those downstream ports that are Up. -/
def downUp (s : State) : List Nat := [1, 2].filter (fun l => decide (s.num (K.stwLinkLState l) = 4))

/-- Send a cell down every downstream link that is Up. DESIGN CHOICE, log entry 26. -/
def sendDown (code : Nat) (nums : List Int) (s : State) : State := forL (downUp s) (fun l s => s.emit (.cell code l nums)) s

/-- The fields of a transaction message (Table 5-7): arg, destination, origin, identity, sequence, launch, reason, object. -/
def msgNums (s : State) (arg dest sysId sysSeq launch reason object : Nat) : List Int :=
  [arg, dest, s.num K.stwAddr, sysId, sysSeq, launch, reason, object]

/-- The destination of a launch cell. -/
abbrev allParts : Nat := 0xFFFF

/-- Abort the transaction of a slot (R116): its staged values are discarded, its slot is freed, and the abort counts. A system home
has its branches discarded: by ABORT_REQ to the Newel, or, being the Newel, by DECIDE with aborted (R129). -/
def abortSlot (i : Nat) (t : Tx) (s : State) : State :=
  let s1 := if t.kind ≠ 2 then s
    else if isNewel s then sendDown 0x25 (msgNums s 3 allParts t.sysId t.sysSeq noTime 0 0) s
    else s.emit (.cell 0x28 0 (msgNums s 0 (s.nat K.stwNewel) t.sysId t.sysSeq noTime 0 0))
  setSlot i none (s1.inc K.txAborts 32)

/-- Abort the open transaction of a flow, if it has one. -/
def abortOpen (flow : Nat) (s : State) : State :=
  match txOf s flow [1] with
  | some (i, t) => abortSlot i t s
  | none => s

/-! ### Unfreezing and interface resets (R48, R52) -/

/-- Unfreeze a master: it stands at Observer and its next request may carry any seq. The stored request and response stay, so that a first
request identical to the last completed one is answered by resending (DESIGN CHOICE, log entry 114). -/
def unfreeze (m : Nat) (s : State) : State :=
  let s1 := s.setMaster m { s.master m with lastSeq := none, seg := none, outstanding := false, challenge := none }
  (s1.set (K.mrLevel m) 0).set (K.mrFrozen m) 0

/-- The interface reset of one master: its open transaction is aborted and it is unfrozen at Observer. -/
def resetMaster (m : Nat) (s : State) : State := unfreeze m (abortOpen m s)

/-- The interface reset of a CAN controller: every master of it. -/
def resetCan (bus : Nat) (s : State) : State :=
  forL ((List.range 32).map (fun i => canBase bus + i)) resetMaster s

/-- MR_UNFREEZE (R52): the writer's level must be higher than the level the frozen master held, else it receives LEVEL
and is itself frozen. Unfreezing a master that is not frozen is answered OK and changes nothing (DEDUCED, log entry 12). -/
def unfreezeEffect (m : Nat) (w : Who) (_ : Val) (s : State) : Reply :=
  if s.nat (K.mrFrozenLevel m) < w.level then
    .ok (if s.num (K.mrFrozen m) = 0 then s else unfreeze m s)
  else .violation w s stLevel

def execMrUnfreeze (m : Nat) (f : Frame) (s : State) : Host.Outcome State Fault Refusal :=
  .next (requestWrite (K.mrUnfreeze m) f s (unfreezeEffect m))

/-- DZ_CANA_RESET, DZ_CANB_RESET (R48, R52). -/
def canResetEffect (bus : Nat) (_ : Who) (_ : Val) (s : State) : Reply := .ok (resetCan bus s)

def execDzCanaReset (f : Frame) (s : State) : Host.Outcome State Fault Refusal :=
  .next (requestWrite K.dzCanaReset f s (canResetEffect 0))

def execDzCanbReset (f : Frame) (s : State) : Host.Outcome State Fault Refusal :=
  .next (requestWrite K.dzCanbReset f s (canResetEffect 1))

/-- CAN_BUS_OFF_RECOVERY (R48): bus-off recovery is an interface reset of the controller's masters. -/
def execCanBusOffRecovery (bus : Nat) (s : State) : Host.Outcome State Fault Refusal := .next (resetCan bus s)

/-- CONSOLE_BREAK (R48): BREAK held for at least 250 ms. -/
def execConsoleBreak (ms : Nat) (s : State) : Host.Outcome State Fault Refusal :=
  .next (if 250 ≤ ms then resetMaster 2 s else s)

/-! ### CAN slots and settings -/

/-- A CAN slot is idle (R45): bound, no open transaction, at Observer, not frozen, and silent for dz.can.bind_idle. -/
def slotIdle (s : State) (m : Nat) : Bool :=
  decide (8 ≤ m) && decide (m < 72) && (s.master m).node.isSome && (txOf s m [1, 2]).isNone && decide (s.num (K.mrLevel m) = 0) &&
    decide (s.num (K.mrFrozen m) = 0) && decide ((s.master m).lastActive + s.nat K.dzCanBindIdle * secTicks ≤ s.time.now)

/-- CAN_SLOT_RELEASE (R45). -/
def execCanSlotRelease (m : Nat) (s : State) : Host.Outcome State Fault Refusal :=
  .next (if slotIdle s m then (s.setMaster m Master.fresh).set (K.mrIdent m) 0 else s)

/-- CAN_SETTING_APPLY (R53): the written rates and node numbers come into effect. -/
def execCanSettingApply (s : State) : Host.Outcome State Fault Refusal :=
  .next { s with can := ⟨s.nat K.dzCanaNode, s.nat K.dzCanbNode, s.nat K.dzCanaDataRate, s.nat K.dzCanbDataRate,
                          s.nat K.dzCanNominalRate⟩ }

/-! ### Levels and allowances -/

/-- MASTER_IDLE_RELOCK (R48): a master above Observer, silent for acc.idle_relock, returns to Observer. -/
def execMasterIdleRelock (m : Nat) (s : State) : Host.Outcome State Fault Refusal :=
  .next (if m ≠ 0 ∧ 0 < s.num (K.mrLevel m) ∧ (s.master m).lastActive + s.nat K.accIdleRelock * secTicks ≤ s.time.now then
    s.set (K.mrLevel m) 0 else s)

/-- What a bucket holds after the refill of 1 ms (R48): 1/1,000 of the allowance, an eighth of it on the hold
oscillator. -/
def refilled (s : State) (m : Nat) : Option Nat :=
  let add := if s.holdOsc then s.nat (K.mrAllowance m) else s.nat (K.mrAllowance m) * 8
  if bucketMax s m ≤ tokensOf s m + add then none else some (tokensOf s m + add)

/-- TOKEN_REFILL (R48): every master's bucket refills toward its burst. A bucket not listed is full. DESIGN CHOICE, log entry 14. -/
def execTokenRefill (s : State) : Host.Outcome State Fault Refusal :=
  .next (forL (s.masters.map Prod.fst).dedup (fun m t => t.setMaster m { t.master m with tokens := refilled s m }) s)

/-! ### Console overrun -/

/-- CONSOLE_OVERRUN (R47): the line being received is discarded, with a value continued on it, and "err OVERRUN"
printed. DEDUCED, log entry 15. -/
def execConsoleOverrun (s : State) : Host.Outcome State Fault Refusal :=
  .next ({ s with con := { s.con with cont := none } }.say "err OVERRUN" [])

/-! ### The Stairway tunnel (R46, R77) -/

/-- The record of a link. -/
def State.link (s : State) (l : Nat) : Link := Tab.get (fun _ => Link.fresh) s.links l

def State.setLink (s : State) (l : Nat) (x : Link) : State :=
  { s with links := Tab.put (fun _ => Link.fresh) l x s.links }

/-- The link a destination lies behind: the downstream port whose subtree holds it, else up (R77). -/
def routeOf (s : State) (dest : Nat) : Nat :=
  if dest ∈ (s.link 1).below then 1 else if dest ∈ (s.link 2).below then 2 else 0

/-- The part knows that an address stands twice (R77). -/
def duplicated (s : State) (a : Nat) : Bool := decide (a ∈ s.dups)

/-- A tunnel header is bad: a field out of its range or a reserved bit (R46). -/
def headerBad (h : TunHdr) : Bool :=
  decide (511 < h.dest) || decide (511 < h.origin) || decide (3 < h.level) || decide (h.resv ≠ 0) || decide (h.hops = 0)

end Sys2Proof.Machine
end

