-- ==== Sys2Proof/Machine/LaunchTable.lean ====
section
/-! DEFINITION. The launch table as data (R85 to R91): armed entries, their order, and the status an executed entry
takes. -/

namespace Sys2Proof.Machine

/-- Entry statuses (Table 4-3). -/
abbrev leFree : Int := 0
abbrev leArmed : Int := 1
abbrev leDone : Int := 2
abbrev leLate : Int := 3
abbrev leHeld : Int := 4
abbrev leLost : Int := 5

/-- The octets of launch entry n. -/
abbrev entryOct (s : State) (n : Nat) : List Byte := s.oct (K.ltEntry n)

/-- Armed entries, ascending. -/
def armedEntries (s : State) : List Nat :=
  (listed s.obj (fun k v => decide (0x2120 * 256 ≤ k) && decide (k < 0x2130 * 256) && decide (v = 1))).map (fun k => k - 0x2120 * 256)

/-- Armed entries of a kind on a target. -/
def armedOf (s : State) (kind target : Nat) : List Nat :=
  (armedEntries s).filter (fun n => decide ((entryAction (entryOct s n)).kind = kind) && decide ((entryAction (entryOct s n)).target = target))

/-- The due tick of an armed entry. -/
abbrev dueOf (s : State) (n : Nat) : Nat := entryDue (entryOct s n)

/-- The class of an action (Table 4-2): 0 A to 4 E. -/
def classNo (a : Action) : Nat :=
  match a.kind with
  | 0x0D => 0
  | 0x02 => 3
  | 0x03 => 1
  | 0x04 => if a.param = 1 then 1 else 3
  | 0x07 => if a.param = 1 then 1 else 3
  | 0x08 => if a.param = 1 then 1 else 3
  | 0x0C => if a.param = 1 then 3 else 1
  | 0x09 => 4
  | 0x0B => 4
  | _ => 2

/-- Entry m comes before entry n in the order of R89. -/
def entryBefore (s : State) (m n : Nat) : Bool :=
  let cm := classNo (entryAction (entryOct s m))
  let cn := classNo (entryAction (entryOct s n))
  decide (cm < cn) || (decide (cm = cn) && (decide (dueOf s m < dueOf s n) || (decide (dueOf s m = dueOf s n) && decide (m < n))))

/-- Armed entries that are due in this tick, other than transaction commits. -/
def dueEntries (s : State) : List Nat :=
  (armedEntries s).filter (fun n => decide (dueOf s n ≤ s.time.tb) && decide ((entryAction (entryOct s n)).kind ≠ 0x0D))

/-- No accepted transaction is due in this tick. -/
def noCommitDue (s : State) : Bool := s.tx.accepted.all (fun t => decide (s.time.tb < t.launch))

/-- Launch entries run (R22, R100, R392). -/
def launchRuns (s : State) : Bool := s.serving && s.time.running && !s.tbInvalid

/-- Entry n is the next to execute in this tick (R57, R89). -/
def entryReady (s : State) (n : Nat) : Bool :=
  launchRuns s && noCommitDue s && decide (n ∈ dueEntries s) && (dueEntries s).all (fun m => decide (m = n) || entryBefore s n m)

/-- The status of an execution (R91): held first, then late. -/
def doneStatus (s : State) (n : Nat) (held : Bool) : Int :=
  if held then leHeld else if dueOf s n < s.time.tb then leLate else leDone

/-- Count an execution and set the entry's status. -/
def entryDone (n : Nat) (held : Bool) (s : State) : State :=
  let s1 := s.inc K.ltExecuted 64
  let s2 := if dueOf s n < s.time.tb then s1.inc K.ltLate 32 else s1
  s2.set (K.ltStatus n) (doneStatus s n held)

/-- The earliest of some ticks. -/
def earliest (l : List Nat) : Option Nat := l.min?

end Sys2Proof.Machine
end

