-- ==== Sys2Proof/Machine/Ports.lean ====
section
/-! DEFINITION. RF ports: states and transitions (R138 to R143), synthesisers (R147 to R150), calibrations (R151 to
R157), and the return check (R397 to R401). -/

namespace Sys2Proof.Machine

/-! ### Pins (R135, R142) -/

/-- The JTAG instruction holds the balls that only observe at their reset levels (R385). DEDUCED, log entry 94. -/
def jtagHolds (s : State) : Bool := decide (s.jtag = .extest) || decide (s.jtag = .clamp) || decide (s.jtag = .highz)

/-- PAEN[p]. DEDUCED, log entry 94. -/
def paenNow (s : State) (p : Nat) : Bool :=
  let st := s.num (K.portState p)
  let dest := s.num (K.portChangingTo p)
  let due := (s.port p).due
  !jtagHolds s && decide (portMutesNow s p = 0) &&
    ((decide (st = psRelay) && !changing s p) ||
      (decide (st = psListen) && decide (dest = psRelay) && decide (due ≤ s.time.now + 1229)) ||
      (decide (st = psRelay) && decide (dest = psListen) && decide (s.time.now + 1475 < due + 123)))

/-! ### Synthesisers -/

/-- The TX synthesiser of port p is locked. -/
def txLocked (s : State) (p : Nat) : Bool := decide (s.num (K.synState true p) = 3)

/-- The TX synthesiser of port p runs unlocked: retuning, calibrating or relocking (Table 6-9). -/
def txUnlocked (s : State) (p : Nat) : Bool := decide (2 ≤ s.num (K.synState true p)) && !txLocked s p

/-- A calibration of port p runs (cal.status bits 6:0 = 2). -/
def calRuns (s : State) (p : Nat) : Bool := decide (s.nat (K.calStatus p) % 128 = 2)

/-- The self-test of port p runs (R406). -/
def portTests (s : State) (p : Nat) : Bool := match s.panel.test with | some t => decide (t.block = 256 + p) | none => false

/-- Ticks of a port's self-test in Cal (Table 20-2). -/
abbrev portTestTicks : Nat := 1228800

/-- A calibration of port p runs, or its self-test, which counts as one for R150 and R154. -/
def calHolds (s : State) (p : Nat) : Bool := calRuns s p || portTests s p

/-- The TX synthesiser hold is met now (R150): not locked, or a calibration holds the port. -/
def holdMet (s : State) (p : Nat) : Bool := txUnlocked s p || calHolds s p || decide (s.num (K.portState p) = psCal)

/-- Release the hold when nothing asks for it and no scheduled window that it has struck is open. -/
def freeHold (p : Nat) (s : State) : State :=
  if holdMet s p || ((s.port p).window && (s.port p).lost) then s else releasePort p pmSynth s

/-- Raise the hold: an open scheduled window is lost with it. -/
def raiseHold (p : Nat) (s : State) : State :=
  raisePort p pmSynth (if (s.port p).window then s.setPort p { s.port p with lost := true } else s)

/-! ### Targets and moves (R139 to R141) -/

/-- The state port p is to stand in: its walker's wish, or its target. -/
def wantState (s : State) (p : Nat) : Int :=
  if (portWalker s p).isSome then (s.port p).wanted else s.num (K.portTarget p)

/-- A Chrysalis cause of port p: a stale kind, or a return check that waits. -/
def chrysalisDue (s : State) (p : Nat) : Bool := decide (s.num (K.calStale p) ≠ 0) || (s.port p).returnWait.isSome

/-- The end of an open window: a lost one counts, is recorded, and its opening entry reports status 5. -/
def windowEnd (p : Nat) (s : State) : State :=
  let x := s.port p
  let s1 := if x.window ∧ x.lost then
      let s2 := event (evCode 0x05 0) p 0 0 0 (((s.sticky skWindowLost).inc K.ltLostWindows 32).inc (K.portWindowsLost p) 32)
      match x.opener with
      | some n => if s2.num (K.ltStatus n) = leDone ∨ s2.num (K.ltStatus n) = leLate then s2.set (K.ltStatus n) leLost else s2
      | none => s2
    else s
  freeHold p (s1.setPort p { s1.port p with window := false, lost := false, opener := none })

/-- Begin a transition of port p to a neighbouring state. -/
def beginMove (p : Nat) (dest : Int) (s : State) : State :=
  let st := s.num (K.portState p)
  let s1 := if st = psRelay then windowEnd p s else s
  let s2 := if dest = psRelay ∧ holdMet s1 p then raiseHold p s1 else s1
  let s3 := s2.setPort p { s2.port p with due := s.time.now + transTicks st dest }
  s3.set (K.portChangingTo p) dest

/-- Port p, in Cal, is due to transmit: the synthesiser hold meets it (R150, R154). -/
def holdInCal (p : Nat) (s : State) : State :=
  if wantState s p = psRelay ∧ !s.bit (K.portMutes p) pmSynth then raiseHold p s else s

/-- Move port p on toward what it is to stand in: a calibration that has begun takes it to Cal, else its target. -/
def moveOn (p : Nat) (s : State) : State :=
  if changing s p then s
  else
    let st := s.num (K.portState p)
    if st = psCal then holdInCal p s
    else if calHolds s p ∧ psStandby ≤ st then beginMove p (if st = psRelay then psListen else psCal) s
    else
      let dest := nextState st (wantState s p)
      if dest = st then s else beginMove p dest s

/-- A new target, taken at once or from the state a running transition reaches. -/
def retarget (p : Nat) (s : State) : State := moveOn p s

/-- Port p stands in a state: the transition that led to it is over. -/
def arrive (p : Nat) (v : Int) (s : State) : State :=
  let s1 := (s.set (K.portChangingTo p) 0xFF).set (K.portStateSince p) (s.tbNow : Nat)
  setPortState p v (s1.inc (K.portTransitions p) 64)

/-! ### Chrysalis and the return check (R397 to R401) -/

/-- The fingerprint of port p as it stands (Table 19-6). -/
def fingerprint (s : State) (p : Nat) : List Byte :=
  let fed := s.flag (K.fdEnable p)
  let rail := railOf s p
  leBytes 2 (if fed then s.num (K.fdSignature p) else 0) ++ leBytes 1 (if fed then s.num (K.fdClass p) else 0xFF) ++
    leBytes 1 (s.num (K.rlPortRail p)) ++ leBytes 1 (match rail with | some r => s.num (K.rlPhases r) | none => 0) ++
    leBytes 1 (match rail with | some r => s.num (K.rlFailedPhases r) | none => 0) ++ leBytes 2 0 ++
    leBytes 4 (s.num (K.rxLoopbackLoss p)) ++ leBytes 4 (s.num (K.calGeneration p))

/-- Clear the measurement records that rest on port p (R211). -/
def clearPortRecords (p : Nat) (s : State) : State :=
  forN 512 (fun c s =>
    if s.num (K.cxRecords c) = 0 then s
    else forN 4 (fun n s => if s.num (K.cxRefPortN c n) = p ∨ s.num (K.chInPort c) = p then clearRecord c n s else s) s) s

/-- Port p leaves Chrysalis: its fingerprint is written; a changed one clears the records that rest on it (R400). -/
def leaveChrysalis (p : Nat) (s : State) : State :=
  let new := fingerprint s p
  let old := s.oct (K.pdFingerprint p)
  let s1 := if new.take 12 = old.take 12 then s else clearPortRecords p s
  (s1.setPort p { s1.port p with chrysalis := false }).setOct (K.pdFingerprint p) new

/-- Port p, in a powered state and in no transition, begins its entry into Chrysalis, of one tick (Table 6-2). -/
def enterChrysalis (p : Nat) (s : State) : State :=
  if changing s p ∨ s.num (K.portState p) < psStandby ∨ psRelay < s.num (K.portState p) then s else beginMove p psChrysalis s

/-- Put the low bits of cal.status; bit 7 stands while a kind recorded as overdue is pending (R153). DEDUCED, log entry 106. -/
def putCalStatus (p : Nat) (v : Int) (s : State) : State :=
  s.set (K.calStatus p) (if (s.port p).overdue &&& s.nat (K.calPending p) = 0 then v else v + 128)

/-- The low bits of cal.status. -/
def calStatusNow (s : State) (p : Nat) : Int := s.num (K.calStatus p) % 128

/-- Join kinds to the pending set (R152): a kind already pending is not added twice. -/
def joinPending (p mask : Nat) (s : State) : State :=
  let new := maskOff mask (s.nat (K.calPending p))
  let x := s.port p
  let s1 := s.setPort p { x with pendAt := (List.range 4).map (fun k => if new.testBit k then s.time.now else (x.pendAt[k]?).getD 0),
                                 overdue := maskOff x.overdue new }
  s1.set (K.calPending p) (s1.nat (K.calPending p) ||| mask : Nat)

/-- Mark kinds stale, join them to the pending set, and put the port into Chrysalis when it stands in a powered state. -/
def markStale (p mask : Nat) (s : State) : State :=
  let s1 := joinPending p mask (s.setPort p { s.port p with staleNew := (s.port p).staleNew ||| mask })
  let s2 := s1.set (K.calStale p) (s1.nat (K.calStale p) ||| mask : Nat)
  let s3 := if calRuns s2 p ∨ mask = 0 then s2 else putCalStatus p 1 s2
  if mask ≠ 0 then enterChrysalis p s3 else s3

/-- The kinds with no passed calibration in the store. -/
def neverPassed (s : State) (p : Nat) : Nat :=
  (if s.num (K.calDoneTime0 p) = 0 then 1 else 0) + (if s.num (K.calDoneTime1 p) = 0 then 2 else 0) +
    (if s.num (K.calDoneTime2 p) = 0 then 4 else 0) + (if s.num (K.calDoneTime3 p) = 0 then 8 else 0)

/-- The feed's fingerprint differs from the stored one (Table 19-5): its class, or its signature by more than 5 %. -/
def feedDiffers (s : State) (p : Nat) : Bool :=
  let old := s.oct (K.pdFingerprint p)
  let sig : Int := leAt old 0 2
  decide (s.num (K.fdClass p) ≠ leAt old 2 1) || decide (5 * sig < 100 * |s.num (K.fdSignature p) - sig|)

/-- The rail identity differs from the stored one. -/
def railDiffers (s : State) (p : Nat) : Bool := decide (((fingerprint s p).drop 3).take 3 ≠ ((s.oct (K.pdFingerprint p)).drop 3).take 3)

/-- Rows of Table 19-5 that a return check finds at once: bits of pd.return. -/
def returnRows (s : State) (p : Nat) (cold : Bool) : Nat :=
  (if neverPassed s p ≠ 0 then 1 else 0) + (if s.nat (K.calGeneration p) / 65536 < s.nat K.pdRepairGen then 2 else 0) +
    (if cold then 4 else 0) + (if railDiffers s p then 16 else 0)

/-- The kinds the rows make stale. -/
def staleKinds (s : State) (p rows : Nat) : Nat :=
  (if rows.testBit 0 then neverPassed s p else 0) ||| (if rows.testBit 1 then 15 else 0) ||| (if rows.testBit 2 then 1 else 0) |||
    (if rows.testBit 3 then 5 else 0) ||| (if rows.testBit 4 then 1 else 0) ||| (if rows.testBit 5 then 6 else 0)

/-- Record what a return check found: pd.return and RETURN_STALE, and mark the kinds. -/
def returnFinds (p rows : Nat) (s : State) : State :=
  if rows = 0 then s.set (K.pdReturn p) 0
  else
    let s1 := markStale p (staleKinds s p rows) (s.set (K.pdReturn p) (rows : Nat))
    fault 0x07 p 0 0x1202 p rows (s1.nat (K.calStale p)) 0 s1

/-- A valid signature stands at feed f (R296): every reading valid for fd.debounce. -/
def signatureValid (s : State) (f : Nat) : Bool :=
  match (s.feed f).validFrom with
  | some t => decide (t + s.nat (K.fdDebounce f) * msTicks ≤ s.time.now)
  | none => false

/-- The return check of a port that has reached Standby from Off or Sleep (R397). With the feed enabled and no valid
signature yet, it waits for one for at most 1 s, in Chrysalis. -/
def returnCheck (p : Nat) (cold : Bool) (s : State) : State :=
  let fed := s.flag (K.fdEnable p)
  let ready := !fed || signatureValid s p
  let rows := returnRows s p cold + (if fed ∧ ready ∧ feedDiffers s p then 8 else 0)
  let s1 := returnFinds p rows s
  if ready then s1 else enterChrysalis p (s1.setPort p { s1.port p with returnWait := some (s.time.now + secTicks) })

/-- The waited-for feed condition is decided: differs adds its row. -/
def decideFeed (p : Nat) (differs : Bool) (s : State) : State :=
  let s1 := s.setPort p { s.port p with returnWait := none }
  if differs then returnFinds p (s1.nat (K.pdReturn p) ||| 8) s1 else s1

/-- A port in Chrysalis by nothing but a wait that has ended, with no kind stale, leaves it as every port does: through Cal to Listen,
with no calibration. DEDUCED, log entry 29. -/
def settleChrysalis (p : Nat) (s : State) : State :=
  if s.num (K.portState p) = psChrysalis ∧ !chrysalisDue s p ∧ !changing s p then
    let s1 := moveOn p s
    if changing s1 p then s1 else beginMove p psCal s1
  else s

/-- RETURN_FEED_WAIT_TIMEOUT (R397): without a signature in 1 s the feed condition counts as differing if the stored
fingerprint holds a class. -/
def execReturnFeedWaitTimeout (p : Nat) (s : State) : Host.Outcome State Fault Refusal :=
  .next (match (s.port p).returnWait with
    | some t => if t ≤ s.time.now then settleChrysalis p (decideFeed p (decide (leAt (s.oct (K.pdFingerprint p)) 2 1 ≠ 0xFF)) s) else s
    | none => s)

/-! ### Arrivals -/

/-- The present segment of the walker of port p is one in which it transmits (R97). -/
def txSegmentNow (s : State) (p : Nat) : Bool :=
  match portWalker s p with
  | some w => match segAt s w (positionAt s w s.time.tb) with
    | some g => transmitsIn s p g.dir
    | none => false
  | none => false

/-- A scheduled window of port p opens (R150): it is lost at once where the synthesiser hold is still raised. DEDUCED, log entry 107. -/
def openTxWindow (p : Nat) (s : State) : State :=
  if (s.port p).window then s else s.setPort p { s.port p with window := true, lost := s.bit (K.portMutes p) pmSynth }

/-- What reaching a state brings. -/
def reached (p : Nat) (frm v : Int) (s : State) : State :=
  if v = psOff then
    let s1 := (s.set (K.synState false p) 0).set (K.synState true p) 0
    freeHold p (s1.setPort p { s1.port p with fromOff := true, chrysalis := false, returnWait := none, window := false, lost := false })
  else if v = psSleep then
    let s1 := (s.set (K.synState false p) 1).set (K.synState true p) 1
    let s2 := s1.setPort p { s1.port p with sleepOt := s.time.ot, chrysalis := false, returnWait := none, window := false, lost := false,
                                            fromOff := (s1.port p).fromOff && decide (frm = psOff) }
    freeHold p (forL (channelsIn s2 p) reviewChrysalis s2)
  else if v = psStandby ∧ frm = psSleep then
    let s1 := ((s.set (K.synState false p) 3).set (K.synState true p) 3).set (K.synFreqNow false p) (s.num (K.synFreq false p))
    let s2 := s1.set (K.synFreqNow true p) (s.num (K.synFreq true p))
    let x := s2.port p
    let cold := x.fromOff || decide (x.sleepOt + 1024 * s.nat K.pdSleepStale < s.time.ot)
    returnCheck p cold (s2.setPort p { x with fromOff := false })
  else if v = psListen ∧ frm ≠ psRelay then
    let s1 := if (s.port p).chrysalis ∧ !chrysalisDue s p then leaveChrysalis p s else s
    freeHold p (inputReturns p (forL (channelsIn s1 p) reviewChrysalis s1))
  else if v = psChrysalis then
    let s1 := s.setPort p { s.port p with chrysalis := true }
    let s2 := freeHold p (forL (channelsIn s1 p) reviewChrysalis s1)
    if frm = psListen ∨ frm = psRelay then s2 else inputReturns p s2
  else if v = psRelay then
    let s1 := s.setPort p { s.port p with relayAt := s.time.now }
    let opens := if (portWalker s p).isSome then txSegmentNow s p else decide (s.num (K.portTxWindow p) ≠ 0)
    freeHold p (if opens then openTxWindow p s1 else s1)
  else s

/-- The synthesisers of port p while its oscillator calibration runs, and after it (Table 6-9). -/
def synCalBegin (p : Nat) (s : State) : State :=
  if s.num (K.calKind p) ≠ 3 ∨ !calRuns s p then s
  else forL [false, true] (fun tx s => if s.num (K.synState tx p) = 3 then s.set (K.synState tx p) 4 else s) s

def synCalEnd (p : Nat) (s : State) : State :=
  forL [false, true] (fun tx s => if s.num (K.synState tx p) = 4 then s.set (K.synState tx p) 3 else s) s

/-- Leave Cal: to Listen, or to Chrysalis while a cause remains (Table 6-2). -/
def leaveCal (p : Nat) (s : State) : State :=
  if s.num (K.portState p) = psCal ∧ !changing s p then
    let s1 := synCalEnd p s
    beginMove p (if chrysalisDue s1 p then psChrysalis else psListen) s1
  else s

/-- The clock mute of a port that was changing at the resumption falls when its transition has ended (R23). DEDUCED, log entry 45. -/
def freeClock (p : Nat) (s : State) : State := if s.time.running && !changing s p then releasePort p pmClock s else s

/-- Ticks of a calibration kind or piece (Table 6-5). -/
def calTicks (kind : Nat) : Nat := if kind = 0 then 24576 else if kind = 1 then 73728 else if kind = 2 then 55296 else 368640

/-- PORT_TRANSITION_DONE (R139): the running transition of port p reaches its end, and the port moves on. DESIGN CHOICE, log entry 36. -/
def execPortTransitionDone (p : Nat) (s : State) : Host.Outcome State Fault Refusal :=
  .next (if 31 < p ∨ !changing s p ∨ s.time.now < (s.port p).due then s
    else
      let frm := s.num (K.portState p)
      let v := s.num (K.portChangingTo p)
      let s1 := reached p frm v (arrive p v s)
      freeClock p (
        if v = psCal then
          (if calHolds s1 p then
            let n := if portTests s1 p then portTestTicks else calTicks (s1.nat (K.calKind p))
            holdInCal p (synCalBegin p (s1.setPort p { s1.port p with calDue := s.time.now + n }))
          else leaveCal p s1)
        else if v = psChrysalis then (if chrysalisDue s1 p then moveOn p s1 else settleChrysalis p s1)
        else if chrysalisDue s1 p ∧ psStandby ≤ v ∧ v ≤ psRelay then enterChrysalis p s1
        else moveOn p s1))

/-- TX_WINDOW_END (R141): a Relay of port.tx_window ticks ends at the rest state. -/
def execTxWindowEnd (p : Nat) (s : State) : Host.Outcome State Fault Refusal :=
  .next (if (portWalker s p).isNone ∧ s.num (K.portState p) = psRelay ∧ !changing s p ∧ s.num (K.portTxWindow p) ≠ 0 ∧
      (s.port p).relayAt + s.nat (K.portTxWindow p) ≤ s.time.now then
    moveOn p (s.set (K.portTarget p) (s.num (K.portRest p)))
  else s)

/-! ### Synthesisers (R147 to R150) -/

/-- Put the tick at which a synthesiser's retune or relock ends. -/
def putSynDue (tx : Bool) (p due : Nat) (s : State) : State :=
  s.setPort p (if tx then { s.port p with txDue := due } else { s.port p with rxDue := due })

def synDue (s : State) (tx : Bool) (p : Nat) : Nat := if tx then (s.port p).txDue else (s.port p).rxDue

/-- Add a calibration kind to the pending set (R152). -/
def addPending (p kind : Nat) (s : State) : State :=
  let s1 := joinPending p (2 ^ kind) s
  if calRuns s1 p then s1 else putCalStatus p 1 s1

/-- Ticks of a retune over a step in kHz (R148). -/
def retuneTicks (step : Nat) : Nat := if step < 50000 then 14746 else 55296

/-- A change of frequency in effect (R148): a locked synthesiser retunes; one that is off or stopped takes the frequency
with its next lock; one that relocks begins its relock afresh, at the new frequency. DEDUCED, log entry 107. -/
def retune (tx : Bool) (p : Nat) (old new : Int) (s : State) : State :=
  let step := (new - old).natAbs
  let st := s.num (K.synState tx p)
  if step = 0 ∨ st < 2 then s
  else if st = 5 then putSynDue tx p (s.time.now + 55296) (if 200000 ≤ step then addPending p 2 s else s)
  else
    let s1 := putSynDue tx p (s.time.now + retuneTicks step) ((s.inc (K.synRetunes tx p) 32).set (K.synState tx p) 2)
    let s2 := if 200000 ≤ step then addPending p 2 s1 else s1
    if tx ∧ (s2.num (K.portState p) = psRelay ∨ s2.num (K.portChangingTo p) = psRelay) then raiseHold p s2 else s2

/-- The end of a retune or relock: the frequency is in effect, and the cancellers that rest on it reset (R205). -/
def synLocked (tx : Bool) (p : Nat) (s : State) : State :=
  let s1 := (s.set (K.synFreqNow tx p) (s.num (K.synFreq tx p))).set (K.synState tx p) 3
  let s2 := forL (if tx then channelsRef s1 p else channelsIn s1 p) tapReset s1
  if tx then freeHold p s2 else s2

/-- SYNTH_RETUNE_DONE (R148). -/
def execSynthRetuneDone (tx : Bool) (p : Nat) (s : State) : Host.Outcome State Fault Refusal :=
  .next (if s.num (K.synState tx p) = 2 ∧ synDue s tx p ≤ s.time.now then synLocked tx p s else s)

/-- SYNTH_LOCK_LOSS (R149). -/
def execSynthLockLoss (tx : Bool) (p : Nat) (s : State) : Host.Outcome State Fault Refusal :=
  .next (if 31 < p ∨ s.num (K.synState tx p) ≠ 3 then s
    else
      let s1 := if tx then raiseHold p s else s
      let s2 := fault 0x08 (2 * p + (if tx then 1 else 0)) 2 (evCode 0x05 1) p (if tx then 1 else 0) 0 0 ((s1.sticky skSynth).inc (K.synLockLosses tx p) 32)
      (putSynDue tx p (s.time.now + 55296) (addPending p 3 s2)).set (K.synState tx p) 5)

/-- SYNTH_RELOCK_DONE (R149, R180): after a receive relock the first valid samples reset the port's channels. -/
def execSynthRelockDone (tx : Bool) (p : Nat) (s : State) : Host.Outcome State Fault Refusal :=
  .next (if s.num (K.synState tx p) = 5 ∧ synDue s tx p ≤ s.time.now then
    let s1 := synLocked tx p s
    if !tx && rxValid s1 p then inputReturns p s1 else s1
  else s)

/-! ### Calibrations (R151 to R157) -/

/-- Begin a calibration or piece of a kind on port p: the port goes to Cal. -/
def calBegin (p kind : Nat) (s : State) : State :=
  let s1 := s.setPort p { s.port p with staleNew := 0, lateAbort := false }
  let s2 := (s1.clrBit (K.calPending p) kind).set (K.calKind p) (kind : Nat)
  let s3 := s2.set (K.calIrPieces p) (if kind = 2 then s2.num (K.calIrPieces p) else 0)
  moveOn p (putCalStatus p 2 s3)

/-- CAL_START (R152): a kind joins the pending set. -/
def calStartEffect (p : Nat) (_ : Who) (v : Val) (s : State) : Reply := .ok (addPending p v.int.toNat s)

def execCalStart (p : Nat) (f : Frame) (s : State) : Host.Outcome State Fault Refusal :=
  .next (requestWrite (K.calStart p) f s (calStartEffect p))

/-- CAL_ABORT (R156, R117): the running calibration is aborted; one whose end has come completes, with a late abort, and so does one
that has completed in this tick; with none running the pending set empties. -/
def calAbortEffect (p : Nat) (_ : Who) (v : Val) (s : State) : Reply :=
  if v.int ≠ 1 then .ok s
  else if (s.port p).calEnd = some s.time.now then .late (if calStatusNow s p = 3 then putCalStatus p 4 s else s)
  else if !calRuns s p then
    .ok (putCalStatus p (if s.num (K.calPending p) = 0 then calStatusNow s p else 0) (s.set (K.calPending p) 0))
  else if s.num (K.portState p) = psCal ∧ !changing s p ∧ (s.port p).calDue ≤ s.time.now then
    .late (s.setPort p { s.port p with lateAbort := true })
  else .ok (leaveCal p (putCalStatus p 5 (s.set (K.calIrPieces p) 0)))

def execCalAbort (p : Nat) (f : Frame) (s : State) : Host.Outcome State Fault Refusal :=
  .next (requestWrite (K.calAbort p) f s (calAbortEffect p))

/-- Started channels that use port p: as input or as output. -/
def portChannels (s : State) (p : Nat) : List Nat :=
  s.started.filter (fun c => decide (s.num (K.chInPort c) = p) || (outputsOf s c).any (fun e => decide (e.2 = p)))

/-- A tick beyond every projected one. -/
abbrev unbounded : Nat := 2 ^ 80

/-- Keys of channel c's configuration, banks and fan-out, and of port p. -/
def touches (k : Nat) (p : Nat) (cs : List Nat) : Bool :=
  let i := k / 256
  (decide (0x3000 ≤ i) && decide (i < 0x3400) && decide ((i - 0x3000) / 32 = p)) ||
    (decide (0x4000 ≤ i) && decide (i < 0x6000) && decide ((i - 0x4000) / 16 ∈ cs))

/-- Launch ticks of accepted transactions that touch port p or its channels. -/
def txOnPort (s : State) (p : Nat) : List Nat :=
  (s.tx.accepted.filter (fun t => t.staged.any (fun e => touches e.1 p (portChannels s p)))).map (fun t => t.launch)

/-- Launch ticks of accepted transactions that need port p in a state other than its present one: by its target, or by a pattern. -/
def txMoves (s : State) (p : Nat) : List Nat :=
  (s.tx.accepted.filter (fun t => t.staged.any (fun e =>
    (decide (e.1 = K.portTarget p) && decide (e.2.int ≠ s.num (K.portState p))) ||
      (decide (0x2180 ≤ e.1 / 256) && decide (e.1 / 256 < 0x2188))))).map (fun t => t.launch)

/-- The segment before number i of the cycle of pattern w. -/
def segBefore (s : State) (w i : Nat) : Option Seg :=
  let l := segsOf s w
  l[(i + (l.length - 1)) % max 1 l.length]?

/-- The ticks from tick t on at which the walker of port p begins a change of its port from its present state (R97): a port in Relay
leaves it at the end of a segment in which it transmits; any other begins its change to Relay its charged change before a segment in
which it transmits, or with the guard before it that is no Landing; and one in Standby begins its change to Listen before a segment in
which it receives. -/
def walkerNeeds (s : State) (p t : Nat) : List Nat :=
  match portWalker s p with
  | none => []
  | some w =>
    let st := s.num (K.portState p)
    let from_ (lead at_ : Nat) : Nat := nextAt s w at_ (t + lead) - lead
    let l := segsOf s w
    (List.range l.length).flatMap (fun i => match l[i]? with
      | none => []
      | some g =>
        if transmitsIn s p g.dir then
          (if st = psRelay then [from_ 0 (g.start + g.len)]
          else from_ (toRelay st) g.start :: (match segBefore s w i with
            | some b => if b.dir = 2 ∧ !b.landing then [from_ 0 b.start] else []
            | none => []))
        else if receivesIn s p g.dir ∧ st = psStandby then [from_ 4916 g.start] else [])

/-- The last tick of the quiet interval that holds the present tick, for calibrations of port p (R102, R152, R399). -/
def quietUntil (s : State) (p : Nat) : Option Nat :=
  let t := s.time.tb
  let cs := portChannels s p
  let ends := (cs.flatMap (fun c => armedOf s 0x02 c)).map (fun n => dueOf s n - 1) ++ (txOnPort s p).map (· - 1)
  if s.num (K.portState p) = psChrysalis ∧ (portWalker s p).isNone then some unbounded
  else if cs.all (fun c => s.bit (K.chMutes c) cmLaunch) then some ((earliest ends).getD unbounded)
  else match portWalker s p with
    | none => none
    | some w =>
      if s.num (K.portState p) = psRelay ∨ s.num (K.portChangingTo p) = psRelay then none
      else match segAt s w (positionAt s w t) with
        | some g => if g.landing then some (nextAt s w (g.start + g.len) t - 1) else none
        | none => none

/-- The first tick after the present one at which an armed entry, an accepted transaction or a walker needs port p in a state other
than its present one (R152). -/
def neededAt (s : State) (p : Nat) : Nat :=
  let t := s.time.tb
  let moves := (armedOf s 0x01 p).filter (fun n => decide (((entryAction (entryOct s n)).param : Int) ≠ s.num (K.portState p)))
  (earliest ((moves ++ armedOf s 0x0A p).map (fun n => dueOf s n) ++ txMoves s p ++ walkerNeeds s p (t + 1))).getD unbounded

/-- may_start of R152 for a run of n ticks in Cal. -/
def mayRun (s : State) (p n : Nat) : Bool :=
  let need := toCal (s.num (K.portState p)) + n + 2458
  match quietUntil s p with
  | some q => decide (s.time.tb + need ≤ min q (neededAt s p))
  | none => false

/-- may_start of R152 for a calibration. -/
def mayStart (s : State) (p kind : Nat) : Bool := mayRun s p (calTicks kind)

/-- The pending kind that runs next: oscillator, offset, filter bandwidth, image rejection. -/
def nextKind (s : State) (p : Nat) : Option Nat := [3, 0, 1, 2].find? (fun k => s.bit (K.calPending p) k)

/-- CAL_PENDING_START (R152): the next pending kind starts when its quiet interval holds. -/
def execCalPendingStart (p : Nat) (s : State) : Host.Outcome State Fault Refusal :=
  .next (match nextKind s p with
    | some k => if !calHolds s p && !changing s p && decide (psStandby ≤ s.num (K.portState p)) && mayStart s p k then calBegin p k s else s
    | none => s)

/-- The running calibration or piece of port p has come to its end. -/
def calEnded (s : State) (p : Nat) : Bool :=
  calRuns s p && decide (s.num (K.portState p) = psCal) && !changing s p && decide ((s.port p).calDue ≤ s.time.now)

/-- CAL_PIECE_DONE (R103): a piece before the fourth changes no coefficients. -/
def execCalPieceDone (p : Nat) (s : State) : Host.Outcome State Fault Refusal :=
  .next (if calEnded s p ∧ s.num (K.calKind p) = 2 ∧ s.num (K.calIrPieces p) < 3 then
    let s1 := joinPending p 4 (s.set (K.calIrPieces p) (s.num (K.calIrPieces p) + 1))
    leaveCal p (putCalStatus p 1 s1)
  else s)

/-- Consecutive failures of a kind. -/
def failsOf (s : State) (p k : Nat) : Nat := ((s.port p).fails[k]?).getD 0

def putFails (p k n : Nat) (s : State) : State := s.setPort p { s.port p with fails := (s.port p).fails.set k n }

/-- The done-time object of a kind. -/
def doneKey (p k : Nat) : Nat :=
  if k = 0 then K.calDoneTime0 p else if k = 1 then K.calDoneTime1 p else if k = 2 then K.calDoneTime2 p else K.calDoneTime3 p

/-- cal.generation after one more passed calibration (R398). -/
def nextGeneration (s : State) (p : Nat) : Int := (s.nat K.pdRepairGen * 65536 + (s.nat (K.calGeneration p) % 65536 + 1) % 65536 : Nat)

/-- What a passed calibration of a kind measures: the loopback loss of kinds 0 and 2, the image rejection of kind 2, the
temperatures of kind 3 (R153, R158). -/
structure CalResult where
  loss : Int
  image : Int
  rxTemp : Int
  txTemp : Int
  deriving DecidableEq, Repr

/-- The pass limit of a kind that its result shows (Table 6-5): image rejection of at least 50.00 dB. -/
def meetsLimit (k : Nat) (r : CalResult) : Bool := decide (k ≠ 2) || decide (50 * 65536 ≤ r.image)

/-- An offset or image-rejection calibration measures the loopback loss, whether it passes or not (R158). -/
def storeLoss (p k : Nat) (r : CalResult) (s : State) : State := if k = 0 ∨ k = 2 then s.set (K.rxLoopbackLoss p) r.loss else s

/-- Store what a passed calibration found: its coefficients in the calibration store (R157), a free value, and its measurements. -/
def storeResult (p k : Nat) (r : CalResult) (s : State) : State :=
  let s1 := storeLoss p k r { s.drawn with calStore := Tab.put (fun _ => 0) (4 * p + k) s.fresh s.calStore }
  if k = 2 then s1.set (K.rxImageRej p) r.image
  else if k = 3 then (s1.set (K.synCalTemp false p) r.rxTemp).set (K.synCalTemp true p) r.txTemp
  else s1

/-- The loopback condition of Table 19-5, checked at each offset calibration: a loss that differs from the stored one by more than
1.50 dB. -/
def lossDiffers (s : State) (p k : Nat) (loss : Int) : Bool :=
  decide (k = 0) && (decide (s.num (K.calDoneTime0 p) ≠ 0) || decide (s.num (K.rxLoopbackLoss p) ≠ 0)) &&
    decide (98304 < |loss - s.num (K.rxLoopbackLoss p)|)

/-- A calibration passes (R151, R155, R157, R397). -/
def calPass (p k : Nat) (r : CalResult) (s : State) : State :=
  let s1 := storeResult p k r (putFails p k 0 s)
  let s2 := if (s.port p).staleNew.testBit k then s1 else s1.clrBit (K.calStale p) k
  let s3 := ((s2.set (K.calIrPieces p) 0).set (doneKey p k) (s.time.ot : Nat)).set (K.calGeneration p) (nextGeneration s p)
  let s4 := putCalStatus p (if (s.port p).lateAbort then 4 else 3) s3
  if lossDiffers s p k r.loss then returnFinds p (s4.nat (K.pdReturn p) ||| 32) s4 else s4

/-- A calibration fails (R155): the third failure in a row of one kind makes it stale; a stale kind rejoins the pending
set. -/
def calFail (p k : Nat) (r : CalResult) (s : State) : State :=
  let n := failsOf s p k + 1
  let s1 := fault 0x09 p 1 (evCode 0x05 2) p k 0 0 ((s.sticky skCalFail).inc (K.calFailCount p) 32)
  let s2 := storeLoss p k r ((putFails p k n s1).set (K.calIrPieces p) 0)
  let s3 := if lossDiffers s p k r.loss then returnFinds p (s2.nat (K.pdReturn p) ||| 32) s2 else s2
  let s4 := if n = 3 then markStale p (2 ^ k) (fault 0x09 p 2 (evCode 0x05 3) p k 0 0 s3)
    else if s3.bit (K.calStale p) k then joinPending p (2 ^ k) s3 else s3
  putCalStatus p 6 s4

/-- CAL_COMPLETE (R151, R155): the calibration ends and passes, its coefficients taking effect, or fails. -/
def execCalComplete (p : Nat) (pass : Bool) (loss image rxTemp txTemp : Int) (s : State) : Host.Outcome State Fault Refusal :=
  .next (if calEnded s p ∧ (s.num (K.calKind p) ≠ 2 ∨ s.num (K.calIrPieces p) = 3) then
    let k := s.nat (K.calKind p)
    let r : CalResult := ⟨loss, image, rxTemp, txTemp⟩
    let s1 := s.setPort p { s.port p with calEnd := some s.time.now }
    leaveCal p (if pass && meetsLimit k r then calPass p k r s1 else calFail p k r s1)
  else s)

/-- Kind k of port p has been pending for longer than port.cal_overdue and has not been recorded as overdue. -/
def overdueNow (s : State) (p k : Nat) : Bool :=
  s.bit (K.calPending p) k && !(s.port p).overdue.testBit k &&
    decide (((s.port p).pendAt[k]?).getD 0 + s.nat (K.portCalOverdue p) * secTicks < s.time.now)

/-- CAL_OVERDUE (R153): a Minor fault for the kinds that have become overdue; cal.status takes bit 7, and 1 below it unless a
calibration runs. -/
def execCalOverdue (p : Nat) (s : State) : Host.Outcome State Fault Refusal :=
  .next (
    let new := (List.range 4).filter (overdueNow s p)
    if new = [] then s
    else
      let s1 := fault 0x09 p 1 (evCode 0x05 4) p (s.nat (K.calPending p)) 0 0 s
      let s2 := s1.setPort p { s1.port p with overdue := new.foldl bitSet (s1.port p).overdue }
      putCalStatus p (if calRuns s2 p then 2 else 1) s2)

end Sys2Proof.Machine
end

