-- ==== Sys2Proof/Machine/Rails.lean ====
section
/-! DEFINITION. The PA and auxiliary rail controllers (R276 to R292). -/

namespace Sys2Proof.Machine

/-! ### Phases (R282, R290) -/

/-- Phases of rail r that are fitted and not dropped, ascending. -/
def goodPhases (s : State) (r : Nat) : List Nat :=
  (List.range (s.nat (K.rlPhases r))).filter (fun k => !s.bit (K.rlFailedPhases r) k)

/-- Phases that switch and are not ramping down, ascending. -/
def steadyPhases (s : State) (r : Nat) : List Nat :=
  (goodPhases s r).filter (fun k => s.bit (K.rlActivePhases r) k && (Tab.get (fun _ => none) (s.rail r).shedding k).isNone)

/-- A mask of phase numbers. -/
def phaseMask (l : List Nat) : Nat := (l.map (fun k => 2 ^ k)).sum

/-- The phases a set-point asks for: 0 stands for all good phases. -/
def wantedCount (s : State) (r n : Nat) : Nat :=
  let c := s.nat (K.rlSpNPhases r n)
  let g := (goodPhases s r).length
  if c = 0 then g else min c g

/-- One switching period of rail r in ticks (R278). -/
def switchPeriod (s : State) (r : Nat) : Nat := 5 * s.nat (K.rlPwmDiv r)

/-- Shed phase k of rail r: its share ramps to 0 over 16 switching periods. -/
def shedPhase (r k : Nat) (byLoad : Bool) (s : State) : State :=
  let x := s.rail r
  s.setRail r { x with shedding := Tab.put (fun _ => none) k (some (s.time.now + 16 * switchPeriod s r)) x.shedding,
                       auto := if byLoad then bitSet x.auto k else x.auto }

/-- Re-add phases at full share: what ramps down comes back too. -/
def readdPhases (r : Nat) (l : List Nat) (s : State) : State :=
  let x := s.rail r
  let s1 := s.setRail r { x with shedding := x.shedding.filter (fun e => decide (e.1 ∉ l)), auto := maskOff x.auto (phaseMask l) }
  s1.set (K.rlActivePhases r) (s1.nat (K.rlActivePhases r) ||| phaseMask l : Nat)

/-- Bring the active count to what set-point n asks for. -/
def schedulePhases (r n : Nat) (s : State) : State :=
  let want := wantedCount s r n
  let on := steadyPhases s r
  if on.length < want then
    readdPhases r (((goodPhases s r).filter (fun k => decide (k ∉ on))).take (want - on.length)) s
  else forL (on.drop want) (fun k s => shedPhase r k false s) s

/-- The rail limit: rl.phase_ilimit times the good phases, Q16.16 A. -/
def railLimit (s : State) (r : Nat) : Int := qdiv (s.num (K.rlPhaseIlimit r) * (goodPhases s r).length * 65536) 100

/-! ### Set-points and moves (R279, R280) -/

/-- The rail is on: its reference follows the selected set-point. -/
def railOn (s : State) (r : Nat) : Bool := decide (2 ≤ s.num (K.rlState r)) && decide (s.num (K.rlState r) ≤ 5)

/-- Select set-point n of rail r: a change of voltage on a rail that is on starts a move; off, it is stored. -/
def selectSetpoint (r n : Nat) (s : State) : State :=
  if s.num (K.rlSetpoint r) = (n : Int) then s
  else
    let s1 := s.set (K.rlSetpoint r) (n : Int)
    if !railOn s r then s1
    else
      let v := vrefNow s r
      let g := spMv s r n
      let s2 := if v = g ∧ (s.rail r).goal = g then s1
        else
          let s3 := moveRef r (nsTicks (s.nat (K.rlMoveDelay r))) (s.nat (K.rlMoveRamp r)) g s1
          s3.setRail r { s3.rail r with moveDue := some (s.time.now + moveTicks s r (absDiff v g)) }
      schedulePhases r n s2

/-- RAIL_SET_POINT_SELECT's effect (R280): it does not act on a rail with pin selection. -/
def railSelect (r n : Nat) (s : State) : State := if s.num (K.rlSelSource r) = 1 then s else selectSetpoint r n s

/-- RAIL_MOVE_END (R280). -/
def execRailMoveEnd (r : Nat) (s : State) : Host.Outcome State Fault Refusal :=
  .next (match (s.rail r).moveDue with
    | some t => if t ≤ s.time.now then
        (s.setRail r { s.rail r with moveDue := none }).set (K.rlVref r) ((s.rail r).goal : Int)
      else s
    | none => s)

/-- Every port the rail feeds is out of Relay (R102). -/
def railQuiet (s : State) (r : Nat) : Bool := (portsFed s r).all (fun p => decide (s.num (K.portState p) ≠ psRelay))

/-- Rail r takes the VSEL value: an AUX rail at once, a PA rail once it is quiet. -/
def takeVsel (r v : Nat) (s : State) : State :=
  if 8 ≤ r ∨ railQuiet s r then selectSetpoint r v (s.setRail r { s.rail r with vsel := none })
  else s.setRail r { s.rail r with vsel := some v }

/-- VSEL_ACCEPT (R279): eight equal samples of VSEL[2:0]. -/
def execVselAccept (v : Nat) (s : State) : Host.Outcome State Fault Refusal :=
  .next (
    let n := v % 8
    let s1 := forN 24 (fun r s => if s.num (K.rlSelSource r) = 1 then takeVsel r n s else s) s
    s1.set K.rlVselPins (n : Int))

/-- VSEL_DEFERRED_APPLY (R279). -/
def execVselDeferredApply (r : Nat) (s : State) : Host.Outcome State Fault Refusal :=
  .next (match (s.rail r).vsel with
    | some v => if railQuiet s r ∧ s.num (K.rlSelSource r) = 1 then selectSetpoint r v (s.setRail r { s.rail r with vsel := none }) else s
    | none => s)

/-! ### Phase shedding (R282, R283) -/

/-- Scheduled starts of a change to Relay of port p, from the present tick. -/
def txOns (s : State) (p : Nat) : List Nat :=
  walkerNeeds s p s.time.tb ++
    ((armedOf s 0x01 p).filter (fun n => decide ((entryAction (entryOct s n)).param = 4))).map (fun n => dueOf s n)

/-- The keep-out of rail r holds (R282): from rl.keepout before a scheduled TX-on of a fed port until it leaves Relay. -/
def inKeepout (s : State) (r : Nat) : Bool :=
  (portsFed s r).any (fun p => decide (s.num (K.portState p) = psRelay) || decide (s.num (K.portChangingTo p) = psRelay) ||
    (txOns s p).any (fun t => decide (t ≤ s.time.tb + nsTicks (s.nat (K.rlKeepout r)))))

/-- RAIL_AUTO_SHED (R282): mean is the rail current over the last 1 ms in 0.01 A. -/
def execRailAutoShed (r : Nat) (mean : Int) (s : State) : Host.Outcome State Fault Refusal :=
  .next (
    let on := steadyPhases s r
    if s.flag (K.rlAutoShed r) ∧ s.num (K.rlState r) = rsGood ∧ railQuiet s r ∧ !inKeepout s r ∧
        max 1 (wantedCount s r (s.nat (K.rlSetpoint r))) < on.length ∧
        100 * mean < s.num (K.rlShedBelow r) * s.num (K.rlPhaseIlimit r) * ((on.length : Int) - 1) then
      match on.getLast? with
      | some k => shedPhase r k true s
      | none => s
    else s)

/-- PHASE_SHED_DONE (R282): 16 periods have passed and the phase stops. -/
def execPhaseShedDone (r k : Nat) (s : State) : Host.Outcome State Fault Refusal :=
  .next (match Tab.get (fun _ => none) (s.rail r).shedding k with
    | some t => if t ≤ s.time.now then
        (s.setRail r { s.rail r with shedding := Tab.put (fun _ => none) k none (s.rail r).shedding }).clrBit (K.rlActivePhases r) k
      else s
    | none => s)

/-- KEEPOUT_READD (R282): every automatically shed phase comes back. -/
def execKeepoutReadd (r : Nat) (s : State) : Host.Outcome State Fault Refusal :=
  .next (if inKeepout s r ∧ (s.rail r).auto ≠ 0 then
    readdPhases r ((goodPhases s r).filter (fun k => (s.rail r).auto.testBit k)) s else s)

/-- LOAD_STEP_READD (R283): every shed phase comes back, counted, with a Notice. -/
def execLoadStepReadd (r : Nat) (s : State) : Host.Outcome State Fault Refusal :=
  .next (if railOn s r ∧ (steadyPhases s r).length < (goodPhases s r).length then
    readdPhases r (goodPhases s r) (fault 0x11 r 0 (evCode 0x0B 0) r (s.nat (K.rlActivePhases r)) 0 0 (s.inc (K.rlReadds r) 32))
  else s)

/-! ### Balancing (R284) -/

/-- acc.mean: toward zero; 0 when empty (R270). -/
def accMean (s : State) (a : Nat) : Int := if s.num (K.accCount a) = 0 then 0 else (s.num (K.accSum a)).tdiv (s.num (K.accCount a))

/-- A temperature in Q16.16 °C from a mean code, a scale in µ°C per code and an offset in m°C. -/
def scaledTemp (mean scale offset : Int) : Int := qdiv (65536 * (mean * scale + 1000 * offset)) 1000000

/-- The shares of the active phases for their temperatures: 1 - gain x (T - mean), from 0.80 to 1.20, scaled to sum to
the active count; other phases hold 1. -/
def balanced (gain : Int) (active : List Nat) (temps : List Int) (n : Nat) : List Int :=
  let ts := active.map (fun k => (temps[k]?).getD 0)
  let mean := qdiv ts.sum active.length
  let raw := active.map (fun k => clampI (65536 - qdiv (gain * ((temps[k]?).getD 0 - mean)) 1000) (qdiv (65536 * 8) 10) (qdiv (65536 * 12) 10))
  let total := raw.sum
  (List.range n).map (fun k => match active.findIdx? (· = k) with
    | some i => qdiv ((raw[i]?).getD 65536 * 65536 * active.length) total
    | none => 65536)

/-- PHASE_BALANCE (R284). -/
def execPhaseBalance (r : Nat) (s : State) : Host.Outcome State Fault Refusal :=
  .next (if 7 < r ∨ s.num (K.rlTAcc r) = 0xFF then s
    else
      let n := s.nat (K.rlPhases r)
      let temps := (List.range n).map (fun k => scaledTemp (accMean s (s.nat (K.rlTAcc r) + k)) (s.num (K.rlTempScale r)) (s.num (K.rlTempOffset r)))
      let on := steadyPhases s r
      let s1 := if on = [] then s else s.setRail r { s.rail r with shares := balanced (s.num (K.rlBalGain r)) on temps n }
      forN n (fun k s => s.set (K.rlPhaseTempK r k) ((temps[k]?).getD 0)) s1)

/-! ### States (R285 to R288) -/

/-- Enter a rail state in this tick. -/
def enterRail (r : Nat) (v : Int) (s : State) : State :=
  (s.setRail r { s.rail r with since := s.time.now }).set (K.rlState r) v

/-- The gating rail of rail r is Good, or none is named. -/
def gateGood (s : State) (r : Nat) : Bool :=
  decide (s.num (K.rlOnAfter r) = 0xFF) || decide (s.num (K.rlState (s.nat (K.rlOnAfter r))) = rsGood)

/-- RAIL_START (R285): leaving Off, dropped phases and remote sense come back. -/
def execRailStart (r : Nat) (s : State) : Host.Outcome State Fault Refusal :=
  .next (if r < 24 ∧ s.num (K.rlState r) = rsOff ∧ s.flag (K.rlEnable r) ∧ gateGood s r ∧ !s.flag K.fltStopped ∧ s.serving ∧
      (8 ≤ r ∨ s.num K.thLevel ≠ 3) then
    let s1 := ((s.set (K.rlFailedPhases r) 0).set (K.rlSense r) 0).set (K.rlRetriesLeft r) (s.num (K.rlRetryMax r))
    enterRail r rsOnDelay s1
  else s)

/-- Start Ramping: from the higher of 0 and the sensed output, at rl.on_ramp, with the phases of the set-point. -/
def startRamp (r sensed : Nat) (s : State) : State :=
  let n := s.nat (K.rlSetpoint r)
  let s1 := s.set (K.rlVref r) (sensed : Int)
  let s2 := s1.setRail r { s1.rail r with since := s.time.now, refAt := s.time.now, rate := s.nat (K.rlOnRamp r), goal := spMv s r n,
                                          moveDue := none, conds := [], shedding := [], auto := 0 }
  let s3 := s2.set (K.rlActivePhases r) (phaseMask ((goodPhases s r).take (wantedCount s r n)) : Nat)
  (s3.set (K.rlIlimit r) (railLimit s r)).set (K.rlState r) rsRamping

/-- RAIL_ON_DELAY_END (R285, R286): sensed is the output in mV as it stands. -/
def execRailOnDelayEnd (r sensed : Nat) (s : State) : Host.Outcome State Fault Refusal :=
  .next (if s.num (K.rlState r) = rsOnDelay ∧ (s.rail r).since + usTicks (s.nat (K.rlOnDelay r)) ≤ s.time.now then
    startRamp r sensed s else s)

/-- The reference has reached its goal. -/
def refArrived (s : State) (r : Nat) : Bool := decide ((s.rail r).refAt ≤ s.time.now) && decide (vrefNow s r = (s.rail r).goal)

/-- RAIL_RAMP_DONE (R286). DESIGN CHOICE, log entry 36. -/
def execRailRampDone (r : Nat) (s : State) : Host.Outcome State Fault Refusal :=
  .next (if s.num (K.rlState r) = rsRamping ∧ refArrived s r then
    enterRail r rsQualifying (s.set (K.rlVref r) ((s.rail r).goal : Int)) else s)

/-- No fault condition is present. -/
def noConds (s : State) (r : Nat) : Bool := (s.rail r).conds.all (fun e => e.2.isNone)

/-- RAIL_QUALIFIED (R285). -/
def execRailQualified (r : Nat) (s : State) : Host.Outcome State Fault Refusal :=
  .next (if s.num (K.rlState r) = rsQualifying ∧ noConds s r ∧ (s.rail r).since + usTicks (s.nat (K.rlPgQual r)) ≤ s.time.now then
    enterRail r rsGood (s.set (K.rlPg r) 1) else s)

/-- The rails and states in which a condition is active (Table 12-3). -/
def condActive (s : State) (r cause : Nat) : Bool :=
  let st := s.num (K.rlState r)
  let late := decide (st = rsQualifying ∨ st = rsGood ∨ st = rsFaultTiming)
  let any := late || decide (st = rsRamping)
  if cause = 1 then decide (r < 8) && late
  else if cause = 2 then decide (r < 8) && any
  else if cause = 3 then decide (r < 24) && any
  else if cause = 4 then decide (8 ≤ r) && decide (r < 24) && late
  else false

/-- RAIL_FAULT_CONDITION (R287): the timer of the cause starts, PG falls, and the rail enters Fault-timing. -/
def execRailFaultCondition (r cause : Nat) (s : State) : Host.Outcome State Fault Refusal :=
  .next (if condActive s r cause ∧ (Tab.get (fun _ => none) (s.rail r).conds cause).isNone then
    let x := s.rail r
    let s1 := (s.setRail r { x with conds := Tab.put (fun _ => none) cause (some s.time.now) x.conds }).set (K.rlHeadroom r) 0
    enterRail r rsFaultTiming (s1.set (K.rlPg r) 0)
  else s)

/-- RAIL_FAULT_CLEAR (R285): a condition clears and its timer stops; with none left the rail qualifies afresh. -/
def execRailFaultClear (r cause : Nat) (s : State) : Host.Outcome State Fault Refusal :=
  .next (
    let x := s.rail r
    let s1 := s.setRail r { x with conds := Tab.put (fun _ => none) cause none x.conds }
    if s.num (K.rlState r) = rsFaultTiming ∧ noConds s1 r then enterRail r rsQualifying s1 else s1)

/-- The timer of a cause in ticks. -/
def condTicks (s : State) (r cause : Nat) : Nat :=
  usTicks (s.nat (if cause = 2 then K.rlOvTime r else if cause = 3 then K.rlOcTime r else K.rlFaultTime r))

/-- Latch rail r: a Severe fault (R287). -/
def latchRail (r : Nat) (s : State) : State :=
  enterRail r rsLatched (fault 0x11 r 3 (evCode 0x0B 2) r (s.nat (K.rlLastFault r)) 0 0 s)

/-- RAIL_FAULT_TIMER_EXPIRED (R287): switching stops, a Major fault names the cause, and the rail enters Fault-off, or
Latched where rl.retry is 0. -/
def execRailFaultTimerExpired (r cause : Nat) (s : State) : Host.Outcome State Fault Refusal :=
  .next (match Tab.get (fun _ => none) (s.rail r).conds cause with
    | some t =>
      if s.num (K.rlState r) = rsFaultTiming ∧ t + condTicks s r cause ≤ s.time.now then
        let s1 := (((s.sticky skRail).inc (K.rlFaults r) 32).set (K.rlActivePhases r) 0).set (K.rlLastFault r) (cause : Int)
        let s2 := s1.setRail r { s1.rail r with conds := [], shedding := [], auto := 0, moveDue := none }
        let s3 := enterRail r rsFaultOff (fault 0x11 r 2 (evCode 0x0B 1) r cause 0 0 s2)
        if s.num (K.rlRetry r) = 0 then latchRail r s3 else s3
      else s
    | none => s)

/-- RAIL_RETRY (R285): rl.retry has passed in Fault-off: another ramp while retries are left, else Latched. -/
def execRailRetry (r sensed : Nat) (s : State) : Host.Outcome State Fault Refusal :=
  .next (if s.num (K.rlState r) = rsFaultOff ∧ (s.rail r).since + s.nat (K.rlRetry r) * secTicks ≤ s.time.now then
    if s.num (K.rlRetriesLeft r) = 0 then latchRail r s
    else startRamp r sensed (s.set (K.rlRetriesLeft r) (s.num (K.rlRetriesLeft r) - 1))
  else s)

/-- RAIL_OFF_RAMP_DONE (R286): the reference has reached 0. -/
def execRailOffRampDone (r : Nat) (s : State) : Host.Outcome State Fault Refusal :=
  .next (if s.num (K.rlState r) = rsOffRamp ∧ refArrived s r then
    enterRail r rsOff ((s.set (K.rlActivePhases r) 0).set (K.rlVref r) 0) else s)

/-- rl.enable 0 in effect (R285). -/
def railDisabled (r : Nat) (s : State) : State :=
  let st := s.num (K.rlState r)
  if 1 ≤ st ∧ st ≤ 5 then railOffRamp r s
  else if st = rsFaultOff ∨ st = rsLatched then enterRail r rsOff ((s.set (K.rlActivePhases r) 0).set (K.rlVref r) 0)
  else s

/-! ### Sense failures and telemetry (R289 to R291) -/

/-- REMOTE_SENSE_FAIL (R289). -/
def execRemoteSenseFail (r : Nat) (s : State) : Host.Outcome State Fault Refusal :=
  .next (if railOn s r ∧ s.num (K.rlSense r) = 0 then
    (fault 0x11 r 2 (evCode 0x0B 3) r 0 0 0 (s.sticky skRailSense)).set (K.rlSense r) 1 else s)

/-- H_r for a peak current of ipk (Q16.16 A): 0 when it would be negative or the rail is not Good (R291). DEDUCED, log entry 5. -/
def headroom (s : State) (r : Nat) (ipk : Nat) : Int :=
  if s.num (K.rlState r) ≠ rsGood ∨ s.nat (K.rlIlimit r) ≤ ipk then 0 else max 0 (Config.db20 (s.nat (K.rlIlimit r)) ipk)

/-- PHASE_FAIL (R290): phase k is dropped; the limit and the headroom follow it in the same tick. -/
def execPhaseFail (r k ipk : Nat) (s : State) : Host.Outcome State Fault Refusal :=
  .next (if railOn s r ∧ k ∈ goodPhases s r then
    let s0 := fault 0x11 r 2 (evCode 0x0B 4) r k 0 0 (s.sticky skRailSense)
    let s1 := (s0.setBit (K.rlFailedPhases r) k).clrBit (K.rlActivePhases r) k
    let s2 := s1.setRail r { s1.rail r with shedding := Tab.put (fun _ => none) k none (s1.rail r).shedding }
    let s3 := s2.set (K.rlIlimit r) (railLimit s2 r)
    s3.set (K.rlHeadroom r) (headroom s3 r ipk)
  else s)

/-- Every entry that the converters run into accumulator a has gain 1 (R291). -/
def unityGain (s : State) (a : Nat) : Bool :=
  (List.range 24).all (fun m => ((List.range (s.nat (K.tmNentries m))).map (fun e => s.oct (K.tmEntryK m e)) ++ [s.oct (K.tmInjectEntry m)]).all (fun b =>
    !(teValid b && teAccEn b && decide (teAcc b = a)) || decide (teGain b = 0)))

/-- RAIL_TELEMETRY_UPDATE (R291): volts, amps and watts from the accumulators, where what routes to them runs at gain 1; ipk is the highest rail current of the
last 8 periods and peak the highest since the last update, both in Q16.16 A. -/
def execRailTelemetryUpdate (r ipk peak : Nat) (s : State) : Host.Outcome State Fault Refusal :=
  .next (if 7 < r then s
    else
      let volts := if s.num (K.rlVAcc r) = 0xFF then 0 else if !unityGain s (s.nat (K.rlVAcc r)) then s.num (K.rlVolts r) else qdiv (accMean s (s.nat (K.rlVAcc r)) * 5 * s.num (K.rlDivider r)) (4 * 2 ^ 23)
      let amps := if s.num (K.rlIAcc r) = 0xFF then 0 else if !unityGain s (s.nat (K.rlIAcc r)) then s.num (K.rlAmps r)
        else qdiv (accMean s (s.nat (K.rlIAcc r)) * 500000 * 65536) (s.num (K.rlRsense r) * 2 ^ 23)
      let top := max (s.num (K.rlAmpsPeak r)) (peak : Int)
      let s1 := (s.set (K.rlHeadroom r) (headroom s r ipk)).set (K.rlAmpsPeak r) top
      let s2 := s1.set (K.rlWattsPeak r) (if s.num (K.rlAmpsPeak r) < peak then qdiv (volts * peak) 65536 else s.num (K.rlWattsPeak r))
      ((s2.set (K.rlWatts r) (qdiv (volts * amps) 65536)).set (K.rlAmps r) amps).set (K.rlVolts r) volts)

/-- RL_PEAK_CLEAR (R291). -/
def peakClearEffect (r : Nat) (_ : Who) (v : Val) (s : State) : Reply :=
  .ok (if v.int = 1 then (s.set (K.rlWattsPeak r) 0).set (K.rlAmpsPeak r) 0 else s)

def execRlPeakClear (r : Nat) (f : Frame) (s : State) : Host.Outcome State Fault Refusal :=
  .next (requestWrite (K.rlPeakClear r) f s (peakClearEffect r))

/-- The headroom H of channel c: the lowest over the rails that feed its output ports; none where no rail does (R223). A rail that is not Good
has none to give: H is taken as 0 (R28). -/
def supplyHeadroom (s : State) (c : Nat) : Option Int :=
  (((outputsOf s c).filterMap (fun e => railOf s e.2)).map (fun r => if s.num (K.rlState r) = rsGood then s.num (K.rlHeadroom r) else 0)).min?

/-! ### Switching cycles (R277, R278) -/

/-- The active phases of rail r, ascending. -/
def activePhases (s : State) (r : Nat) : List Nat := (List.range 8).filter (fun k => s.bit (K.rlActivePhases r) k)

/-- The share of the rail command that phase k takes: balanced on a PA rail (R284), falling to 0 over 16 periods while it is shed (R282). -/
def shareNow (s : State) (r k : Nat) : Rat :=
  let full : Rat := match (s.rail r).shares[k]? with | some q => (q : Rat) / 65536 | none => 1
  match Tab.get (fun _ => none) (s.rail r).shedding k with
  | some t => full * ((t - s.time.now : Nat) : Rat) / ((16 * switchPeriod s r : Nat) : Rat)
  | none => full

/-- What the comparator sees of a level in mV: its range is 0 to 75 mV. -/
def inRange75 (v : Rat) : Rat := max 0 (min 75 v)

/-- The sensed current of phase k in this tick, in A. -/
def phaseAmps (s : State) (r k : Nat) : Rat := Config.phaseCurrent r k s.time.now

/-- The slope ramp in mV, d ticks after a period start. -/
def slopeAt (s : State) (r d : Nat) : Rat := (s.nat (K.rlSlope r) * d * 5 : Nat) / 6144

/-- A phase whose switch is on since d ticks turns off in this tick: the sensed voltage and the slope ramp reach its command, the current reaches
rl.phase_ilimit, or the duty 90 %. DEDUCED, log entry 129. -/
def turnsOff (s : State) (r k d : Nat) : Bool :=
  let i := phaseAmps s r k
  decide (inRange75 (Config.railCommand r s.time.now * shareNow s r k) ≤ inRange75 (i * s.nat (K.rlRsense r) / 1000 + slopeAt s r d)) ||
    decide ((s.nat (K.rlPhaseIlimit r) : Rat) / 100 ≤ i) || decide (9 * switchPeriod s r ≤ 10 * d)

/-- The tick at which phase k, the j-th of n spaced phases, starts its period after tick b (R278). -/
def phaseStart (s : State) (r b j n : Nat) : Nat := b + 5 * (j * s.nat (K.rlPwmDiv r) / n)

/-- The first active phase begins a period in this tick: where the number of active phases has changed, they are spaced afresh. -/
def railBase (r : Nat) (s : State) : State :=
  let x := s.rail r
  let due := match x.base with | some b => decide (b + switchPeriod s r ≤ s.time.now) | none => true
  if due then s.setRail r { x with base := some s.time.now, spaced := activePhases s r } else s

/-- One phase in a tick: on at its own period start, then off in the tick in which it has to be. -/
def phaseTick (r k : Nat) (s : State) : State :=
  let x := s.rail r
  let begins := match x.base, x.spaced.idxOf? k with
    | some b, some j => decide (phaseStart s r b j x.spaced.length = s.time.now)
    | _, _ => false
  let p := if begins then some ⟨s.time.now, true, 0⟩ else Tab.get (fun _ => none) x.pwm k
  let q := p.map (fun p => if p.on ∧ turnsOff s r k (s.time.now - p.start) then { p with on := false, offAt := s.time.now } else p)
  s.setRail r { x with pwm := Tab.put (fun _ => none) k q x.pwm }

/-- The switching of rail r in a tick: a phase that is not active is driven low (R276). -/
def railTick (r : Nat) (s : State) : State :=
  let on := activePhases s r
  let x := s.rail r
  if on = [] then (if x.base.isNone then s else s.setRail r { x with base := none, spaced := [], pwm := [] })
  else forL on (phaseTick r) (railBase r (s.setRail r { x with pwm := x.pwm.filter (fun e => decide (e.1 ∈ on)) }))

/-- The switching cycles of the 24 rails in a tick. -/
def railsTick (s : State) : State := forN 24 railTick s

/-- PWM output of phase k of rail r: PAPWM[8r + k], and AXPWM[2(r - 8) + k] of an AUX rail (R276). -/
def pwmOut (s : State) (r k : Nat) : Bool := (Tab.get (fun _ => none) (s.rail r).pwm k).any (fun p => p.on)

end Sys2Proof.Machine
end

