-- ==== Sys2Proof/Machine/Feeds.lean ====
section
/-! DEFINITION. Antenna feeds (R293 to R307) and the open-cable mute (R303). -/

namespace Sys2Proof.Machine

/-- The fault mute of a port that requires its feed (R304). -/
def reviewRequired (f : Nat) (s : State) : State :=
  if s.flag (K.fdRequired f) ∧ s.num (K.fdState f) ≠ fsOn then holdPort f (.feed f) s else unholdPort f (.feed f) s

/-- Feed f enters a state; the mute of its port follows it. -/
def feedTo (f : Nat) (v : Int) (s : State) : State := reviewRequired f (enterFeed f v s)

/-- Feed f begins to detect: a start runs. -/
def feedDetect (f : Nat) (s : State) : State := feedTo f fsDetecting (s.set (K.fdStatus f) 1)

/-- fd.retry_max is restored (R301). -/
def restoreRetries (f : Nat) (s : State) : State := s.set (K.fdRetriesLeft f) (s.num (K.fdRetryMax f))

/-- Latch feed f: a Major fault (R299). -/
def latchFeed (f : Nat) (s : State) : State :=
  feedTo f fsLatched (fault 0x12 f 2 (evCode 0x0C 1) f (s.nat (K.fdLastFault f)) 0 0 s)

/-- Enter Fault-off with a cause (R299): counted and recorded; the retry timer starts, or the feed latches. -/
def feedFault (f cause : Nat) (s : State) : State :=
  let s1 := ((s.sticky skFeed).inc (K.fdFaults f) 32).set (K.fdRetriesLeft f) (max 0 (s.num (K.fdRetriesLeft f) - 1))
  let s2 := (s1.set (K.fdStatus f) 0).set (K.fdRetryDue f) (s.time.ot + 1024 * s.nat (K.fdRetry f) : Nat)
  let s3 := fault 0x12 f 1 (evCode 0x0C 0) f cause 0 0 (s2.set (K.fdLastFault f) (cause : Int))
  if s3.num (K.fdRetry f) = 0 ∨ s3.num (K.fdRetriesLeft f) = 0 then latchFeed f s3 else feedTo f fsFaultOff s3

/-- The Banister hold holds feed f off (R411). -/
def banHolds (s : State) (f : Nat) : Bool := decide (s.num K.banState ≠ 0) && s.bit K.banFeeds f

/-- fd.enable becomes 1, or 0, in effect (R295, R301). -/
def feedEnabled (f : Nat) (s : State) : State :=
  if s.num (K.fdState f) ≠ fsOff ∨ s.flag K.fltStopped then s
  else if banHolds s f then feedTo f fsHeld s
  else feedDetect f s

def feedDisabled (f : Nat) (s : State) : State :=
  if s.num (K.fdState f) = fsSealed then s
  else feedTo f fsOff ((restoreRetries f s).set (K.fdStatus f) 0)

/-- FEED_ENABLE's effect (Table 4-2): fd.enable in effect changes. -/
def feedSwitch (f v : Nat) (s : State) : State :=
  let old := s.num (K.fdEnable f)
  let s1 := s.set (K.fdEnable f) (v : Int)
  if v = 1 ∧ old = 0 then feedEnabled f s1 else if v = 0 then feedDisabled f s1 else s1

/-- The supply lies within 10.0 to 60.0 V (mV). -/
def supplyOk (mv : Nat) : Bool := decide (10000 ≤ mv) && decide (mv ≤ 60000)

/-- A condition has stood in every sample since a tick at least n ticks ago. DEDUCED, log entry 131. -/
def stood (v : Option Nat) (n : Nat) (s : State) : Bool := match v with | some t => decide (t + n ≤ s.time.now) | none => false

/-- Since when a condition has stood, with what it is in this sample. -/
def condSince (v : Option Nat) (now : Nat) (b : Bool) : Option Nat := if b then some (v.getD now) else none

/-- The limit fd.ilimit in A, Q16.16. -/
def feedLimit (s : State) (f : Nat) : Int := qdiv (s.num (K.fdIlimit f) * 65536) 100

/-- SHORT (Table 13-4), in a sample: above 2 x fd.ilimit, or in On an output below half the supply. -/
def feedShort (s : State) (f : Nat) : Bool :=
  decide (2 * feedLimit s f < s.num (K.fdAmps f)) || (decide (s.num (K.fdState f) = fsOn) && decide (2 * s.num (K.fdVout f) < s.num (K.fdVin f)))

/-- SOA (Table 13-4): the estimate stands at or above fd.tj_max. -/
def feedHot (s : State) (f : Nat) : Bool := decide (s.num (K.fdTjMax f) * 65536 ≤ 10 * s.num (K.fdTj f))

/-- A fault condition of Table 13-4 that FEED_FAULT names is present: SHORT 1, SOA 3, VIN 6. -/
def feedCond (s : State) (f cause : Nat) : Bool :=
  if cause = 1 then feedShort s f else if cause = 3 then feedHot s f else if cause = 6 then stood (s.feed f).vinFrom msTicks s else false

/-- The output that the ramp of R298 has reached, Q16.16 V: fd.dvdt in 0.01 V/ms over the ticks it has run. -/
def rampOutput (s : State) (f : Nat) : Int :=
  (s.feed f).rampFrom + qdiv (s.num (K.fdDvdt f) * 65536 * (s.feed f).rampTicks) (100 * msTicks)

/-- The ramp pauses in this tick: the current at fd.ilimit, or the estimate within fd.tj_margin of fd.tj_max (R298). -/
def rampPauses (s : State) (f : Nat) : Bool :=
  decide (feedLimit s f ≤ s.num (K.fdAmps f)) || decide ((s.num (K.fdTjMax f) - s.num (K.fdTjMargin f)) * 65536 ≤ 10 * s.num (K.fdTj f))

/-- The ramps of the feeds in Inrush in a tick (R298). -/
def feedsTick (s : State) : State :=
  forN 32 (fun f s => if s.num (K.fdState f) = fsInrush ∧ !rampPauses s f then s.setFeed f { s.feed f with rampTicks := (s.feed f).rampTicks + 1 } else s) s

/-- A sample shows a shorted pass transistor (R302): in Off, Latched and Held from 100 ms after the gate was last turned off, in Fault-off likewise,
in Detecting at once. -/
def leaks (s : State) (f : Nat) : Bool :=
  let st := s.num (K.fdState f)
  let v := s.num (K.fdVout f)
  let quiet := decide (st = fsOff ∨ st = fsLatched ∨ st = fsHeld)
  let source := decide (st = fsDetecting ∨ st = fsFaultOff)
  let rested := decide (st = fsDetecting) || decide ((s.feed f).gateOff + 100 * msTicks ≤ s.time.now)
  (quiet || source) && rested && (decide (1310 < s.num (K.fdAmps f)) || (quiet && decide (131072 < v)) ||
    (source && decide (720896 < v) && decide (786432 ≤ s.num (K.fdVin f))))

/-- FEED_SIGNATURE_READING (R296): mv is the voltage at 1.00 mA, so the signature in ohms. A return check that waits for
the first valid signature is decided by it (R397). -/
def execFeedSignatureReading (f mv : Nat) (s : State) : Host.Outcome State Fault Refusal :=
  .next (if s.num (K.fdState f) ≠ fsDetecting ∧ s.num (K.fdState f) ≠ fsFaultOff then s
    else
      let ok := decide (s.nat (K.fdSigLo f) ≤ mv) && decide (mv ≤ s.nat (K.fdSigHi f))
      let x := s.feed f
      let s1 := s.setFeed f { x with validFrom := if ok then some (x.validFrom.getD s.time.now) else none }
      let s2 := s1.set (K.fdSignature f) (min mv 65535 : Nat)
      if (s2.port f).returnWait.isSome ∧ signatureValid s2 f then settleChrysalis f (decideFeed f (feedDiffers s2 f) s2) else s2)

/-- FEED_DETECTED (R295): a valid signature and the supply in range; vin is in mV. -/
def execFeedDetected (f vin : Nat) (s : State) : Host.Outcome State Fault Refusal :=
  .next (if s.num (K.fdState f) = fsDetecting ∧ signatureValid s f ∧ supplyOk vin then feedTo f fsClassifying s else s)

/-- The class of a mean current in 0.1 mA (Table 13-3); none at the limit. -/
def classFor (ma : Nat) : Option Nat :=
  if ma < 50 then some 0 else if ma < 150 then some 1 else if ma < 300 then some 2 else if ma < 600 then some 3
  else if ma < 1000 then some 4 else none

/-- FEED_CLASSIFIED (R297): after 4 ms, ma is the mean current of the last 2 ms in 0.1 mA. -/
def execFeedClassified (f ma : Nat) (s : State) : Host.Outcome State Fault Refusal :=
  .next (if s.num (K.fdState f) ≠ fsClassifying ∨ s.time.now < (s.feed f).since + 4 * msTicks then s
    else match classFor ma with
      | some k =>
        let s1 := s.set (K.fdClass f) (k : Int)
        if s.bit (K.fdClassAllow f) k then feedTo f fsInrush s1 else feedFault f 4 s1
      | none => feedFault f 4 (s.set (K.fdClass f) 0xFF))

/-- FEED_ON (R295): the output has been near the supply for 1 ms with no fault condition. -/
def execFeedOn (f : Nat) (s : State) : Host.Outcome State Fault Refusal :=
  .next (if s.num (K.fdState f) = fsInrush ∧ stood (s.feed f).nearFrom msTicks s then feedTo f fsOn (s.set (K.fdStatus f) 2) else s)

/-- FEED_INRUSH_TIMEOUT (R298). -/
def execFeedInrushTimeout (f : Nat) (s : State) : Host.Outcome State Fault Refusal :=
  .next (if s.num (K.fdState f) = fsInrush ∧ (s.feed f).since + s.nat (K.fdInrushMax f) * msTicks ≤ s.time.now then feedFault f 5 s else s)

/-- The feed is powered: Classifying, Inrush or On. -/
def feedPowered (s : State) (f : Nat) : Bool :=
  decide (s.num (K.fdState f) = fsClassifying ∨ s.num (K.fdState f) = fsInrush ∨ s.num (K.fdState f) = fsOn)

/-- FEED_FAULT (R299): SHORT (1), SOA (3) or VIN (6) is present. -/
def execFeedFault (f cause : Nat) (s : State) : Host.Outcome State Fault Refusal :=
  .next (if feedPowered s f ∧ feedCond s f cause then feedFault f cause s else s)

/-- FEED_OC_TIMEOUT (R299): limited for fd.oc_time in On. -/
def execFeedOcTimeout (f : Nat) (s : State) : Host.Outcome State Fault Refusal :=
  .next (if s.num (K.fdState f) = fsOn ∧ stood (s.feed f).limitFrom (s.nat (K.fdOcTime f) * msTicks) s then feedFault f 2 s else s)

/-- FEED_LOAD_REMOVED (R299): below fd.hold_ma for fd.hold_time in On; not a fault, but recorded as a Notice. -/
def execFeedLoadRemoved (f : Nat) (s : State) : Host.Outcome State Fault Refusal :=
  .next (if s.num (K.fdState f) = fsOn ∧ s.num (K.fdHoldMa f) ≠ 0 ∧ stood (s.feed f).lowFrom (s.nat (K.fdHoldTime f) * msTicks) s then
    feedDetect f (fault 0x12 f 0 (evCode 0x0C 2) f 0 0 0 (s.inc (K.fdRemovals f) 32))
  else s)

/-- The mean of the outputs newly added to the accumulator of a feed, if any. -/
def newMean (s : State) (f : Nat) : Option Int :=
  let a := s.nat (K.fdTAcc f)
  let x := s.feed f
  let (s0, c0) := if s.num (K.accCount a) < x.accCount then (0, 0) else (x.accSum, x.accCount)
  if s.num (K.fdTAcc f) = 0xFF ∨ s.num (K.accCount a) = c0 then none
  else some ((s.num (K.accSum a) - s0).tdiv (s.num (K.accCount a) - c0))

/-- The junction estimate of feed f after a sample (R300). In direct mode T_j takes a reading every 1 ms, and the model, which runs alongside, while
no output has arrived for 10 ms. DEDUCED, log entry 11. -/
def updateJunction (f : Nat) (s : State) : State :=
  let x := s.feed f
  let p := qdiv ((s.num (K.fdVin f) - s.num (K.fdVout f)) * s.num (K.fdAmps f)) 65536
  let d1 := Config.approach (qdiv (p * s.num (K.fdRth1 f)) 100) x.dt1 (s.nat (K.fdTau1 f)) 10
  let d2 := Config.approach (qdiv (p * s.num (K.fdRth2 f)) 100) x.dt2 (s.nat (K.fdTau2 f)) 10
  let direct := decide (s.num (K.fdSoaMode f) = 1)
  let reads := !direct || decide (x.readAt + msTicks ≤ s.time.now)
  let m := if reads then newMean s f else none
  let a := s.nat (K.fdTAcc f)
  let tRef := if s.num (K.fdTAcc f) = 0xFF then scaledTemp 0 0 (s.num (K.fdTOffset f))
    else match m with | some v => scaledTemp v (s.num (K.fdTScale f)) (s.num (K.fdTOffset f)) | none => x.tRef
  let x1 := { x with dt1 := d1, dt2 := d2, tRef := tRef, outAt := if m.isSome then s.time.now else x.outAt,
                     readAt := if reads then s.time.now else x.readAt }
  let x2 := if reads then { x1 with accSum := s.num (K.accSum a), accCount := s.num (K.accCount a) } else x1
  let lost := direct && decide (x2.outAt + 10 * msTicks ≤ s.time.now)
  let tj := if !direct || lost then tRef + d1 + d2 else if m.isSome then tRef else s.num (K.fdTj f)
  ((s.setFeed f x2).setFlag (K.fdDirectLost f) lost).set (K.fdTj f) tj

/-- The conditions of Tables 13-2 and 13-4 and of R302 in a sample. -/
def judgeFeed (f : Nat) (s : State) : State :=
  let x := s.feed f
  let st := s.num (K.fdState f)
  let v := s.num (K.fdVin f)
  let now := s.time.now
  let vin := condSince x.vinFrom now (feedPowered s f && (decide (v < 589824) || decide (4063232 < v)))
  let near := decide (st = fsInrush) && decide (v - 32768 ≤ s.num (K.fdVout f)) && !feedShort s f && !feedHot s f && vin.isNone
  s.setFeed f { x with
    nearFrom := condSince x.nearFrom now near,
    limitFrom := condSince x.limitFrom now (decide (st = fsOn) && decide (feedLimit s f ≤ s.num (K.fdAmps f))),
    lowFrom := condSince x.lowFrom now (decide (st = fsOn) && decide (1000 * s.num (K.fdAmps f) < s.num (K.fdHoldMa f) * 65536)),
    vinFrom := vin, leakFrom := condSince x.leakFrom now (leaks s f) }

/-- FEED_SOA_UPDATE (R300): vin, vout in V and amps in A, Q16.16, as sampled every 10 µs; the estimate and the conditions judged on them follow.
DEDUCED, log entry 131. -/
def execFeedSoaUpdate (f : Nat) (vin vout amps : Int) (s : State) : Host.Outcome State Fault Refusal :=
  .next (judgeFeed f (updateJunction f (((s.set (K.fdVin f) vin).set (K.fdVout f) vout).set (K.fdAmps f) amps)))

/-- A feed in Fault-off by SOA must cool below fd.tj_max - 40.0 °C (R300). -/
def cooled (s : State) (f : Nat) : Bool :=
  decide (s.num (K.fdLastFault f) ≠ 3) || decide (s.num (K.fdTj f) * 10 < (s.num (K.fdTjMax f) - 400) * 65536)

/-- FEED_RETRY (R301). -/
def execFeedRetry (f : Nat) (s : State) : Host.Outcome State Fault Refusal :=
  .next (if s.num (K.fdState f) = fsFaultOff ∧ s.num (K.fdRetryDue f) ≤ s.time.ot ∧ signatureValid s f ∧
      0 < s.num (K.fdRetriesLeft f) ∧ cooled s f then
    feedTo f fsClassifying ((s.set (K.fdRetryDue f) 0).set (K.fdStatus f) 1)
  else s)

/-- FEED_RETRIES_RESTORE (R301): 600 s in On without a fault. -/
def execFeedRetriesRestore (f : Nat) (s : State) : Host.Outcome State Fault Refusal :=
  .next (if s.num (K.fdState f) = fsOn ∧ (s.feed f).since + 600 * secTicks ≤ s.time.now then restoreRetries f s else s)

/-- FEED_LEAK_SEAL (R302): a shorted pass transistor has been found for 10 ms, in a state whose gate is off. -/
def execFeedLeakSeal (f : Nat) (s : State) : Host.Outcome State Fault Refusal :=
  .next (if 31 < f ∨ feedPowered s f ∨ s.num (K.fdState f) = fsSealed ∨ !stood (s.feed f).leakFrom (10 * msTicks) s then s
    else
      let s1 := (s.set (K.fdStatus f) 0).set (K.fdLastFault f) 7
      feedTo f fsSealed (fault 0x12 f 4 (evCode 0x0C 3) f 7 0 0 (((s1.sticky skFeed).setBit K.fdSealed f).set K.fdKill 1)))

/-- OPEN_CABLE_RELEASE (R303): fd.rl_hold of operating time has passed. -/
def execOpenCableRelease (p : Nat) (s : State) : Host.Outcome State Fault Refusal :=
  .next (match (s.port p).rlEnd with
    | some t => if t ≤ s.time.ot then releasePort p pmOpenCable (s.setPort p { s.port p with rlEnd := none }) else s
    | none => s)

/-- FD_ABORT (R306, R117): a start ends in Off; an abort in the tick of the entry into On comes late. -/
def fdAbortEffect (f : Nat) (_ : Who) (v : Val) (s : State) : Reply :=
  let st := s.num (K.fdState f)
  if v.int ≠ 1 then .ok s
  else if fsDetecting ≤ st ∧ st ≤ fsInrush then
    .ok (feedTo f fsOff (s.set (K.fdStatus f) 4))
  else if st = fsOn ∧ (s.feed f).since = s.time.now then .late (s.set (K.fdStatus f) 3)
  else .no s stRange

def execFdAbort (f : Nat) (fr : Frame) (s : State) : Host.Outcome State Fault Refusal :=
  .next (requestWrite (K.fdAbort f) fr s (fdAbortEffect f))

/-- FD_RESTART (R306). DEDUCED, log entry 35. -/
def fdRestartEffect (f : Nat) (_ : Who) (v : Val) (s : State) : Reply :=
  let st := s.num (K.fdState f)
  if v.int ≠ 1 then .ok s
  else if st = fsOff ∨ st = fsLatched then
    .ok (feedDetect f (restoreRetries f s))
  else .no s stRange

def execFdRestart (f : Nat) (fr : Frame) (s : State) : Host.Outcome State Fault Refusal :=
  .next (requestWrite (K.fdRestart f) fr s (fdRestartEffect f))

end Sys2Proof.Machine
end

