-- ==== Sys2Proof/Machine/Canceller.lean ====
section
/-! DEFINITION. Cancellers (R197 to R220): the margin in use, estimator windows, divergence, convergence, measurement
records, deferred placement, and the power of sub-pools. -/

namespace Sys2Proof.Machine

/-! ### The margin (R209, R210, R212) -/

/-- The branch whose reference port is the port of output o, if any. -/
def branchOfPort (s : State) (c p : Nat) : Option Nat := ((usedBranches s c).find? (fun e => decide (e.2 = p))).map Prod.fst

/-- J - g - t over the used outputs whose branch is measured (R207, R209); j gives J of a branch. -/
def marginOf (s : State) (c : Nat) (j : Nat → Option Int) : Option Int :=
  ((outputsOf s c).filterMap (fun e =>
    match branchOfPort s c e.2 with
    | some n => (j n).map (fun v => v - s.num (K.geApplied c) - cdb (s.num (outGainKey c e.1)))
    | none => none)).min?

/-- The probe margin (R212). -/
def probeMargin (s : State) (c : Nat) : Int :=
  cdb (s.num (K.geMarginTarget c)) + s.gmin c + cdb (s.num (K.cxProbeGain c)) - s.num (K.geApplied c)

/-- M as the Margin loop takes it (Table 8-3). -/
def marginNow (s : State) (c : Nat) : Int :=
  let st := s.num (K.cxMarginState c)
  if st = 1 then s.num (K.cxMargin c)
  else if st = 2 then (marginOf s c (fun n => (Tab.find? (s.chan c).lastJ n))).getD (s.num (K.cxMargin c))
  else probeMargin s c

/-- The channel is watched for oscillation (R249). -/
def oscWatched (s : State) (c : Nat) : Bool :=
  decide (s.num (K.chRun c) = 1) && decide (s.num (K.cxState c) ∈ [1, 2, 4])

/-- osc.state: 2 sealed, 1 awaiting restart, else 0 while watched and 3 while not (Table 10-5). -/
def oscStateNow (s : State) (c : Nat) : Int :=
  let v := s.num (K.oscState c)
  if v = 1 ∨ v = 2 then v else if oscWatched s c then 0 else 3

/-! ### Estimator windows (R208 to R210, R249) -/

/-- A correlation of a window at one lag. -/
def corr (v : Int × Int) : Cpx := ⟨v.1 / 65536, v.2 / 65536⟩

/-- The response of a tap vector at frequency i of the 16 spaced equally across the channel's band (R209). DESIGN CHOICE, log entry 41. -/
def responseAt (s : State) (c i : Nat) (l : List Cpx) : Cpx :=
  let f := Config.bandTurn i (s.nat (K.bkBw (activeBank s c) c)) (s.nat (K.chD c))
  (l.zipIdx).foldl (fun a (v, k) =>
    let r := f * k
    let t : Cpx := ⟨Config.cosTurn r, -Config.cosTurn (r - 1 / 4)⟩
    ⟨a.re + v.re * t.re - v.im * t.im, a.im + v.re * t.im + v.im * t.re⟩) ⟨0, 0⟩

/-- The residual coupling r of branch n that a window has measured: its correlations over the branch's span, and over at least 16 channel samples. -/
def residual (s : State) (c n : Nat) (w : EstWindow) : List Cpx := (((w.res[n]?).getD []).take (max 16 (s.nat (K.cxTaps c)))).map corr

/-- The raw coupling c = h + r of branch n. -/
def coupling (s : State) (c n : Nat) (w : EstWindow) : List Cpx :=
  let h := if s.num (K.cxState c) = 4 then [] else Tab.get (fun _ => []) (s.pathOf c).taps n
  (List.range (max 16 (s.nat (K.cxTaps c)))).map (fun k =>
    let a := (h[k]?).getD ⟨0, 0⟩
    let b := ((residual s c n w)[k]?).getD ⟨0, 0⟩
    ⟨a.re + b.re, a.im + b.im⟩)

/-- -20 log10 of the greatest magnitude over the 16 frequencies (R209). -/
def isolationOf (s : State) (c : Nat) (l : List Cpx) : Int :=
  let p := (List.range 16).map (fun i => let v := responseAt s c i l; v.re * v.re + v.im * v.im);
  (-Config.dbOf (p.foldl max 0) : Int)

/-- I and J of branch n (R209). -/
def isoOf (s : State) (c n : Nat) (w : EstWindow) : Int := isolationOf s c (coupling s c n w)

def resOf (s : State) (c n : Nat) (w : EstWindow) : Int := isolationOf s c (residual s c n w)

/-- The branches an estimator window measures: used and not held, with their measured J. -/
def measured (s : State) (c : Nat) (w : EstWindow) : List (Nat × Nat × Int) :=
  (usedBranches s c).filterMap (fun e => if branchHeld s e.2 ∨ w.res.length ≤ e.1 then none else some (e.1, e.2, resOf s c e.1 w))

/-- A window is valid (R210): every measured branch's reference power, and the error of M. -/
def windowValid (s : State) (c : Nat) (w : EstWindow) : Bool :=
  decide (measured s c w ≠ []) && decide (w.err ≤ cdb (s.num (K.cxMaxError c))) &&
    (measured s c w).all (fun e => match w.ref[e.1]? with
      | some p => decide (cdb (s.num (K.cxMinRef c)) ≤ p)
      | none => false)

/-- The lower of a kept value and a new one. -/
def lower (old : Option Int) (v : Int) : Option Int := some (match old with | some x => min x v | none => v)

/-- I of a branch referred to attenuation 0 (R211). -/
def isoAtZero (s : State) (c p : Nat) (iso : Int) : Int :=
  iso - cdb (s.num (K.portRxAtten (s.nat (K.chInPort c)))) - cdb (s.num (K.portTxAtten p))

/-- The depth J - I of a branch: 0 for an Estimator-only canceller. -/
def depthOf (s : State) (c n : Nat) (w : EstWindow) : Int := if s.num (K.cxState c) = 4 then 0 else resOf s c n w - isoOf s c n w

/-- Keep the lowest isolation and depth of a demonstration window (R211). -/
def demonstrate (c : Nat) (w : EstWindow) (s : State) : State :=
  if s.num (K.cxState c) ≠ 2 then s
  else forL (measured s c w) (fun e s =>
    let x := s.chan c
    let i := lower (Tab.get (fun _ => none) x.demoIso e.1) (isoAtZero s c e.2.1 (isoOf s c e.1 w))
    let d := lower (Tab.get (fun _ => none) x.demoDepth e.1) (depthOf s c e.1 w)
    s.setChan c { x with demoIso := Tab.put (fun _ => none) e.1 i x.demoIso, demoDepth := Tab.put (fun _ => none) e.1 d x.demoDepth }) s

/-- The median of the residual powers at the 16 frequencies: the mean of the two middle ones. -/
def medianOf (l : List Int) : Int :=
  let q := l.mergeSort (fun a b => decide (a ≤ b))
  qdiv ((q[(l.length - 1) / 2]?).getD 0 + (q[l.length / 2]?).getD 0) 2

/-- The run of growing windows at each frequency after a valid window (R249): the first valid window starts a run at 0
steps of growth. DEDUCED, log entry 30. -/
def lineRuns (s : State) (c : Nat) (w : EstWindow) : List Nat :=
  let x := s.chan c
  (List.range 16).map (fun i =>
    match x.line[i]?, w.lines[i]? with
    | some a, some b => if cdb (s.num K.oscLineGrowth) < b - a then (x.lineRun[i]?).getD 0 + 1 else 0
    | _, _ => 0)

/-- A spectral line has risen over osc.line_windows consecutive windows and stands clear of the median (R249). -/
def lineFires (s : State) (w : EstWindow) (runs : List Nat) : Bool :=
  (List.range 16).any (fun i => decide (s.nat K.oscLineWindows ≤ (runs[i]?).getD 0 + 1) && decide (0 < (runs[i]?).getD 0) &&
    decide (medianOf w.lines + cdb (s.num K.oscLineExcess) ≤ (w.lines[i]?).getD 0))

/-- A detector fires for a watched channel that neither waits nor is sealed: the trip is due 6,144 ticks on (R250). -/
def fireDetector (c det : Nat) (s : State) : State :=
  if oscWatched s c ∧ s.num (K.oscState c) ≠ 1 ∧ s.num (K.oscState c) ≠ 2 ∧ (s.chan c).oscFired = none then
    s.setChan c { s.chan c with oscFired := some (det, s.time.now + 6144) }
  else s

/-- What a valid window brings (R209 to R211, R249). DEDUCED, log entry 30. -/
def validWindow (c : Nat) (w : EstWindow) (m : Int) (s : State) : State :=
  let runs := lineRuns s c w
  let s1 := demonstrate c w s
  let s2 := s1.setChan c { s1.chan c with lastJ := (measured s c w).map (fun e => (e.1, e.2.2)), heldTicks := 0, line := w.lines, lineRun := runs }
  let depth := (((measured s c w).map (fun e => depthOf s c e.1 w)).min?).getD 0
  let s3 := (((s2.set (K.cxMarginError c) w.err).set (K.cxDepth c) depth).set (K.cxMargin c) m).set (K.cxMarginState c) 1
  if m < cdb (s.num K.oscMarginTrip) then fireDetector c 1 s3
  else if lineFires s w runs then fireDetector c 2 s3 else s3

/-- What a window that is not valid brings: Fresh becomes Held, and the runs of spectral lines begin again. -/
def invalidWindow (c : Nat) (w : EstWindow) (s : State) : State :=
  let s1 := (s.setChan c { s.chan c with line := [], lineRun := [] }).set (K.cxMarginError c) w.err
  if s1.num (K.cxMarginState c) = 1 then s1.set (K.cxMarginState c) 2 else s1

/-- The tap reset, count and faults of a divergence (R208). DEDUCED, log entry 30. -/
def diverge (c : Nat) (s : State) : State :=
  let x := s.chan c
  let recent := s.time.now :: x.diverged.filter (fun t => decide (s.time.now < t + 10 * secTicks))
  let s1 := (tapReset c (s.setChan c { x with diverged := recent })).inc (K.cxDivergences c) 32
  let s2 := fault 0x0B c 1 (evCode 0x07 1) c 0 0 0 s1
  if 3 ≤ recent.length then fault 0x0B c 2 (evCode 0x07 2) c 0 0 0 s2 else s2

/-- ESTIMATOR_WINDOW_END (R209): once cx.est_window samples have been counted, the window of channel c yields its quantities; a residual more than
3.00 dB above the input is a divergence, which acts in the next tick (R208). DESIGN CHOICE, log entry 41. -/
def execEstimatorWindowEnd (c : Nat) (w : EstWindow) (s : State) : Host.Outcome State Fault Refusal :=
  .next (if s.num (K.chRun c) ≠ 1 ∨ (s.pathOf c).est < s.nat (K.cxEstWindow c) then s
    else
      let s0 := match marginOf s c (fun n => ((measured s c w).find? (fun e => decide (e.1 = n))).map (fun e => e.2.2)) with
        | some m => if windowValid s c w then validWindow c w m s else invalidWindow c w s
        | none => invalidWindow c w s
      let diverges := (decide (s.num (K.cxState c) = 1 ∨ s.num (K.cxState c) = 2)) && decide (w.pIn + 3 * 65536 < w.pRes)
      s0.setPath c { s0.pathOf c with est := 0, divergeAt := if diverges then some (s.time.now + 1) else (s0.pathOf c).divergeAt })

/-- CANCELLER_CONVERGED (R204): enough adapting ticks and a Fresh margin; a demonstration window begins. -/
def execCancellerConverged (c : Nat) (s : State) : Host.Outcome State Fault Refusal :=
  .next (if s.num (K.cxState c) = 1 ∧ (reconvOf s c : Int) ≤ s.num (K.cxAdaptTicks c) ∧ s.num (K.cxMarginState c) = 1 then
    let s1 := s.setChan c { s.chan c with demoFrom := some s.time.ot, demoIso := [], demoDepth := [] }
    (s1.set (K.cxConvergedAt c) (s.tbNow : Nat)).set (K.cxState c) 2
  else s)

/-- MARGIN_EXPIRED (R210): a Held margin of more than cx.hold_limit radiating ticks. -/
def execMarginExpired (c : Nat) (s : State) : Host.Outcome State Fault Refusal :=
  .next (if s.num (K.cxMarginState c) = 2 ∧ s.nat (K.cxHoldLimit c) < (s.chan c).heldTicks then s.set (K.cxMarginState c) 3 else s)

/-- Write the record of branch n (R211), with the active band in kHz. DEDUCED, log entry 31. -/
def writeRecord (c n : Nat) (iso depth : Int) (s : State) : State :=
  let b := inBand s (activeBank s c) c
  let s1 := ((s.set (K.cxIsoN c n) iso).set (K.cxDemoDepthN c n) depth).set (K.cxBandLoN c n) (b.lo / 2)
  let s2 := (s1.set (K.cxBandHiN c n) ((b.hi + 1) / 2)).set (K.cxIsoTimeN c n) (s.time.ot : Int)
  s2.setBit (K.cxRecords c) n

/-- DEMO_WINDOW_END (R211): 60 s of operating time Converged rewrite the records of the branches measured. -/
def execDemoWindowEnd (c : Nat) (s : State) : Host.Outcome State Fault Refusal :=
  .next (match (s.chan c).demoFrom with
    | some t =>
      if s.num (K.cxState c) = 2 ∧ t + 60 * 1024 ≤ s.time.ot then
        let x := s.chan c
        let s1 := forN 4 (fun n s =>
          match Tab.get (fun _ => none) x.demoIso n, Tab.get (fun _ => none) x.demoDepth n with
          | some i, some d => writeRecord c n i d s
          | _, _ => s) s
        s1.setChan c { s1.chan c with demoFrom := some s.time.ot, demoIso := [], demoDepth := [] }
      else s
    | none => s)

/-- The effect of a write of 1 to cx.reset: a tap reset (R205). -/
def cxResetEffect (c : Nat) (_ : Who) (_ : Val) (s : State) : Reply := .ok (tapReset c s)

/-- CX_RESET (R205). -/
def execCxReset (c : Nat) (f : Frame) (s : State) : Host.Outcome State Fault Refusal :=
  .next (requestWrite (K.cxReset c) f s (cxResetEffect c))

/-- The unplaced branch that is placed next: the first, in ascending channel and branch number, for which there is room (R202). -/
def nextDeferred (s : State) : Option (Nat × Nat) :=
  ((s.started.filter (hasTaps s)).flatMap (fun c => (usedBranches s c).map (fun e => (c, e.1)))).find? (fun e =>
    decide (s.num (K.cxBranchSubpoolN e.1 e.2) = 0xFF) && (roomFor s e.1).isSome)

/-- BRANCH_DEFERRED_PLACE (R202): an unplaced branch of a started channel is placed when a powered sub-pool has room, its taps zero. -/
def execBranchDeferredPlace (c n : Nat) (s : State) : Host.Outcome State Fault Refusal :=
  .next (if nextDeferred s = some (c, n) then
    placeBranch c n (s.setPath c { s.pathOf c with taps := Tab.put (fun _ => []) n [] (s.pathOf c).taps })
  else s)

/-! ### The power of sub-pools (R203, R314) -/

/-- Started channels with a branch in sub-pool sp. -/
def channelsPooled (s : State) (sp : Nat) : List Nat :=
  s.started.filter (fun c => (List.range 4).any (fun n => decide (s.num (K.cxBranchSubpoolN c n) = sp)))

/-- The canceller of channel c enters Shed: its taps are zero, it stops subtracting, and its channel takes the thermal mute (R203). -/
def shedCanceller (c : Nat) (s : State) : State :=
  let s1 := raiseCh c cmThermal ((clearTaps c s).setChan c { s.chan c with demoFrom := none, demoIso := [], demoDepth := [] })
  (s1.setBit (K.cxFreezes c) 8).set (K.cxState c) 3

/-- Every sub-pool that holds a branch of channel c is powered. -/
def poolsPowered (s : State) (c : Nat) : Bool :=
  (List.range 4).all (fun n => decide (s.num (K.cxBranchSubpoolN c n) = 0xFF) || poolPowered s (s.nat (K.cxBranchSubpoolN c n)))

/-- The canceller of channel c leaves Shed: Acquiring with a tap reset, and its mute released unless its slice is shed. -/
def unshedCanceller (c : Nat) (s : State) : State :=
  let s1 := (tapReset c (s.clrBit (K.cxFreezes c) 8)).set (K.cxState c) 1
  if s1.num (K.pdState (c / 8)) = 5 then s1 else releaseCh c cmThermal s1

/-- Sub-pool sp is powered off. -/
def poolOff (sp : Nat) (s : State) : State :=
  if !poolPowered s sp then s
  else
    let hit := (channelsPooled s sp).filter (fun c => decide (s.num (K.cxState c) ≠ 3))
    let s1 := forL hit shedCanceller (s.clrBit K.cxPoolPowered sp)
    if hit = [] then s1 else s1.inc K.cxPoolSheds 32

/-- Sub-pool sp is powered again. -/
def poolOn (sp : Nat) (s : State) : State :=
  if poolPowered s sp then s
  else
    let s1 := s.setBit K.cxPoolPowered sp
    forL ((channelsPooled s1 sp).filter (fun c => decide (s1.num (K.cxState c) = 3) && poolsPowered s1 c)) unshedCanceller s1

end Sys2Proof.Machine
end

