-- ==== Sys2Proof/Machine/Gain.lean ====
section
/-! DEFINITION. The gain control engine (R221 to R241): the symbol grids of lockstep, the loops and their errors, lookup
tables, notches, updates, application, following-error supervision, load and fallback. -/

namespace Sys2Proof.Machine

/-! ### Symbol grids and update instants (R231) -/

/-- The first symbol at or after a position of a grid. -/
def symUp (scs : Nat) (ecp : Bool) (pos : Nat) : Nat :=
  let (n, len, extra) := symGrid scs ecp
  let blk := pos / 614400
  let r := pos % 614400
  if r = 0 then blk * n else blk * n + min n (max 1 (ceilDiv (r - extra) len))

/-- The grid of a channel: its walker, spacing, and prefix; no walker for a channel on no pattern. -/
def gridOf (s : State) (c : Nat) : Option Nat × Nat × Bool :=
  match chanWalker s c with
  | some w => (some w, s.nat (K.patScs w), s.flag (K.patEcp w))
  | none => (none, s.nat (K.geScs c), false)

/-- The first symbol boundary of the channel's grid at or after timebase tick t: the symbols of each cycle of its walker,
or of each frame. -/
def boundaryUp (s : State) (c t : Nat) : Nat :=
  match gridOf s c with
  | (some w, scs, ecp) =>
    let pos := positionAt s w t
    t + (min (symTick scs ecp (symUp scs ecp pos)) (cycleTicks s w) - pos)
  | (none, scs, ecp) =>
    let pos := t % frameTicks
    t + (min (symTick scs ecp (symUp scs ecp pos)) frameTicks - pos)

/-- The n-th boundary after t. -/
def nthBoundary (s : State) (c t : Nat) : Nat → Nat
  | 0 => t
  | n + 1 => nthBoundary s c (boundaryUp s c (t + 1)) n

/-- Symbols per 0.5 ms of the channel's grid. -/
def symsPerHalf (s : State) (c : Nat) : Nat :=
  let (_, scs, ecp) := gridOf s c
  (symGrid scs ecp).1

/-- The symbols between two instants: ge.lock_symbols, at most 10 ms of them; in fallback the smallest count that spans
ge.period (R231, R232). -/
def lockN (s : State) (c : Nat) : Nat :=
  let spm := symsPerHalf s c
  if s.num (K.geModeNow c) = 2 then ceilDiv (s.nat (K.gePeriod c) * spm) 614400
  else min (s.nat (K.geLockSymbols c)) (20 * spm)

/-- The mode a channel runs in from its next instant on (R232). -/
def modeNext (s : State) (c : Nat) : Int :=
  if s.num (K.geMode c) ≠ 0 then 1 else if s.flag K.geFallback then 2 else 0

/-- The next lockstep instant after the boundary t: the n-th boundary, or on no pattern the next frame boundary when that
comes first. DEDUCED, log entry 33. -/
def lockAfter (s : State) (c t : Nat) : Nat :=
  let b := nthBoundary s c t (lockN s c)
  match chanWalker s c with
  | some _ => b
  | none => min b (t - t % frameTicks + frameTicks)

/-- The next update instant, counted afresh after a restart: in prompt a period after the window's opening; in lockstep the
first boundary at or after the restart, and the n-th after it where the restart lies on it. -/
def instantOf (s : State) (c : Nat) : Nat :=
  let x := s.chan c
  match x.nextInst with
  | some t => t
  | none =>
    if s.num (K.geModeNow c) = 0 then x.windowFrom + s.nat (K.gePeriod c)
    else
      let b := boundaryUp s c x.lockFrom
      if x.restarted ∧ b = x.lockFrom ∨ !x.restarted then lockAfter s c x.lockFrom else b

/-- This tick is an update instant of channel c. -/
def atInstant (s : State) (c : Nat) : Bool :=
  if s.num (K.geModeNow c) = 0 then decide (instantOf s c ≤ s.time.now)
  else !s.tbInvalid && decide (instantOf s c ≤ s.time.tb)

/-- A of R231. -/
def applyOffset (s : State) (c : Nat) : Nat :=
  let d := s.nat (K.chD c)
  if d = 1 then 38 else 82 + classK (classOf s c) * d / 2 + 3 * (slotsOf d - 1)

/-! ### The loops (R223) -/

/-- Loop i acts on channel c. -/
def loopActs (s : State) (c i : Nat) : Bool :=
  s.bit (K.geLoops c) i && (decide (i ≠ 2) || decide (s.num (K.chDir c) = 1)) && (decide (i ≠ 6) || (supplyHeadroom s c).isSome)

/-- Loops that act, ascending. -/
def loopsOf (s : State) (c : Nat) : List Nat := (List.range 7).filter (loopActs s c)

/-- The error of loop i (Table 9-1), before its notch; none where the loop requests rate 0 for want of its input. -/
def loopError (s : State) (c i : Nat) (m : GainMeas) : Option Int :=
  let gw := (s.chan c).gw
  match i with
  | 0 => some (s.num (K.geAlcSetpoint c) - m.pOut)
  | 1 => some (marginNow s c - cdb (s.num (K.geMarginTarget c)))
  | 2 => m.nOut.map (fun n => cdb (s.num (K.geNoiseTarget c)) - n)
  | 3 => some (s.gmax c - s.num (K.geThermalBackoff c) - gw)
  | 4 =>
    if s.num (K.gePermitKind c) = 1 then some (s.num (K.gePermitCap c) - (m.pOut + cdb (s.num (K.geEirpOffset c))))
    else some (s.num (K.gePermitCap c) - gw)
  | 5 => some (s.gmax c - gw)
  | _ => some ((supplyHeadroom s c).getD 0 - cdb (s.num (K.geSupplyReserve c)))

/-! ### Lookup tables (R224) -/

/-- The rate of an error between two points. -/
def lutBetween (a b : Int × Int) (e : Int) : Int := a.2 + qdiv ((b.2 - a.2) * (e - a.1)) (b.1 - a.1)

/-- Walk the points from the first whose error lies at or below e. -/
def lutFrom (b : List Byte) (e : Int) : Nat → Nat → Int
  | _, 0 => (lutPoint b 31).2
  | n, k + 1 => if e ≤ (lutPoint b (n + 1)).1 then lutBetween (lutPoint b n) (lutPoint b (n + 1)) e else lutFrom b e (n + 1) k

/-- The rate a table requests for an error: flat beyond its ends. -/
def lutRate (b : List Byte) (e : Int) : Int := if e ≤ (lutPoint b 0).1 then (lutPoint b 0).2 else lutFrom b e 0 31

/-! ### Notches (R226) -/

/-- The update interval, in ticks, as a quotient: numerator and denominator. -/
def nominalInterval (s : State) (c : Nat) : Nat × Nat :=
  if s.num (K.geModeNow c) = 0 then (s.nat (K.gePeriod c), 1) else (lockN s c * 614400, symsPerHalf s c)

/-- The cycle the notches are set to: of the named pattern, or of the channel's own; none when it is disabled. -/
def notchCycle (s : State) (c : Nat) : Option Nat :=
  let w := if s.num (K.geNotchPattern c) = 0xFF then chanWalker s c else walkerOf s (s.nat (K.geNotchPattern c))
  w.map (cycleTicks s)

/-- The notches are bypassed: no cycle, or a frequency at or above 0.45 of the update rate. -/
def notchBypassed (s : State) (c : Nat) : Bool :=
  match notchCycle s c with
  | none => true
  | some t => decide (9 * t * (nominalInterval s c).2 ≤ 20 * s.nat (K.geNotchHarm c) * (nominalInterval s c).1)

/-- Bits of ge.notch_active: the notches of loops that act, when not bypassed. -/
def notchesRunning (s : State) (c : Nat) : Nat :=
  if notchBypassed s c then 0 else ((loopsOf s c).filter (fun i => s.bit (K.geNotchMask c) i)).foldl bitSet 0

/-- The output of the notch of loop i for an error, and its state after it (R226): H(z) in exact fractions, with the cosine of ω; ge.errorI takes
the word next to it. DEDUCED, log entry 6. -/
def notchStep (s : State) (c i : Nat) (e : Int) : Int × State :=
  let x := s.chan c
  let (x1, x2, y1, y2) := Tab.get (fun _ => (0, 0, 0, 0)) x.notch i
  let u := nominalInterval s c
  let t := (notchCycle s c).getD 0
  let cw : Rat := 2 * Config.cosTurn ((s.nat (K.geNotchHarm c) * u.1 : Nat) / (t * u.2 : Nat))
  let rho : Rat := (s.num (K.geNotchRadius c) : Rat) / 65536
  let b := (1 - rho * cw + rho * rho) / (2 - cw)
  let y := b * (e - cw * x1 + x2) + rho * cw * y1 - rho * rho * y2
  (qdiv y.num y.den, s.setChan c { x with notch := Tab.put (fun _ => (0, 0, 0, 0)) i ((e : Rat), x1, y, y1) x.notch })

/-- A Notice when a bypass begins, and the running notches shown. -/
def reviewNotches (c : Nat) (s : State) : State :=
  let want := decide (s.nat (K.geNotchMask c) % 128 ≠ 0) && notchBypassed s c
  let begins := want && !(s.chan c).bypassed
  let s1 := (s.setChan c { s.chan c with bypassed := want }).set (K.geNotchActive c) (notchesRunning s c : Nat)
  if begins then fault 0x0C c 0 (evCode 0x08 1) c 0 0 0 s1 else s1

/-! ### Load (R234) -/

/-- The cost of one update of channel c. -/
def costOf (s : State) (c : Nat) : Nat :=
  1 + (loopsOf s c).length + ((loopsOf s c).filter (fun i => (notchesRunning s c).testBit i)).length

/-- The nominal update rate of channel c, its own mode counted: in updates per second. -/
def nominalRate (s : State) (c : Nat) : Rat :=
  if s.num (K.geMode c) = 0 then (1228800000 : Rat) / s.nat (K.gePeriod c)
  else (2000 * symsPerHalf s c : Rat) / (min (s.nat (K.geLockSymbols c)) (20 * symsPerHalf s c) : Nat)

/-- The admitted load as a share of the engine's 81,920,000 units per second. -/
def admittedLoad (s : State) : Rat := (s.started.map (fun c => (costOf s c : Rat) * nominalRate s c)).sum / 81920000

/-- The measured load at tick t, as a Q16.16 word of percent: costs of the last 1,228,800 ticks over 81,920. -/
def loadAt (s : State) (t : Nat) : Nat :=
  80 * ((s.eng.recent.filter (fun e => decide (e.1 ≤ t) && decide (t < e.1 + msTicks))).map Prod.snd).sum

/-- Count an update's cost; what is older than 11 ms is forgotten. -/
def countUpdate (cost : Nat) (s : State) : State :=
  let s1 := { s with eng := { s.eng with recent := (s.time.now, cost) :: s.eng.recent.filter (fun e => decide (s.time.now < e.1 + 11 * msTicks)) } }
  s1.set K.geLoadPeak (max (s1.num K.geLoadPeak) (loadAt s1 s1.time.now : Nat))

/-! ### Updates (R227, R229, R230, R233) -/

/-- The ALC set-point after a clean window: toward its target at the ramp (R230). -/
def advanceSetpoint (s : State) (c len : Nat) : Int :=
  let p := s.num (K.geAlcSetpoint c)
  let goal := cdb (s.num (K.geAlcTarget c))
  let d := qdiv (s.num (K.geAlcRamp c) * 65536 * len) (100 * 1228800000)
  if p ≤ goal then min goal (p + d) else max goal (p - d)

/-- What the loops request: error after the notch and rate of each loop that acts, shown in ge.errorI and ge.requestI. -/
def requestLoops (c : Nat) (m : GainMeas) (s : State) : List (Nat × Int) × State :=
  (loopsOf s c).foldl (fun acc i =>
    match loopError acc.2 c i m with
    | none => (acc.1 ++ [(i, 0)], (acc.2.set (K.geErrorI c i) 0).set (K.geRequestI c i) 0)
    | some e =>
      let (y, s1) := if (notchesRunning acc.2 c).testBit i then notchStep acc.2 c i e else (e, acc.2)
      let q := lutRate (s1.oct (K.geLutI c i)) y
      (acc.1 ++ [(i, q)], (s1.set (K.geErrorI c i) y).set (K.geRequestI c i) q)) ([], s)

/-- The lowest request; a tie keeps the lower loop. -/
def lowestWins (l : List (Nat × Int)) : Option (Nat × Int) :=
  l.foldl (fun b e => match b with
    | none => some e
    | some x => if e.2 < x.2 then some e else some x) none

/-- The following error and its timer after a window (R233). -/
def supervise (c len : Nat) (m : GainMeas) (s : State) : State :=
  let fe := |m.pOut - (m.pRes + (s.chan c).gw)|
  let s1 := s.set (K.geFe c) fe
  if cdb (s.num (K.geFeLimit c)) < fe then s1.set (K.geFeTimer c) (min (s.num (K.geFeTimer c) + len) (s.num (K.geFeTime c)))
  else (s1.setChan c { s1.chan c with feTripped := false }).set (K.geFeTimer c) 0

/-- The delay of a prompt application: from 0.2 to 0.9 of the period (R231, DEDUCED, log entry 9). -/
def promptDelayOf (s : State) (c : Nat) : Nat :=
  let p := s.nat (K.gePeriod c)
  max (ceilDiv p 5) (min (Config.promptDelay p (loadAt s s.time.now : Nat)) (9 * p / 10))

/-- The next instant and the restart marks after the instant in this tick. DEDUCED, log entry 30. -/
def openWindow (c : Nat) (s : State) : State :=
  let b := instantOf s c
  let old := s.num (K.geModeNow c)
  let mode := modeNext s c
  let s1 := s.set (K.geModeNow c) mode
  let x := s1.chan c
  let x1 := { x with windowFrom := s.time.now, dirty := engineHeld s c, gw := s.num (K.geIntegrator c) }
  if mode = 0 then s1.setChan c { x1 with nextInst := some (s.time.now + s1.nat (K.gePeriod c)), restarted := false }
  else if old = 0 then s1.setChan c { x1 with nextInst := none, lockFrom := s.time.tb, restarted := true }
  else s1.setChan c { x1 with nextInst := some (lockAfter s1 c b), lockFrom := b, restarted := false }

/-- A pending rate is due. -/
def pendDue (s : State) (x : Pend) : Bool :=
  if x.lock then !s.tbInvalid && decide (x.due ≤ s.time.tb) else decide (x.due ≤ s.time.now)

/-- The tick in which the multiplier takes a g applied in this tick in lockstep: A + ge.lock_offset later (R231). -/
def multiplierTick (s : State) (c : Nat) : Nat := ((s.time.now : Int) + max 0 ((applyOffset s c : Int) + s.num (K.geLockOffset c))).toNat

/-- The multiplier keeps its gain until its tick for a lockstep step, and takes a prompt one with the next channel sample (R231). -/
def stepMultiplier (c : Nat) (lock : Bool) (s : State) : State :=
  let x := s.chan c
  if lock then s.setChan c { x with mulG := some (x.mulG.getD (s.num (K.geIntegrator c))),
                                    mulNext := x.mulNext ++ [(multiplierTick s c, wrap32 (s.num (K.geIntegrator c) + s.num (K.geRate c)))] }
  else s.setChan c { x with mulG := none, mulNext := [] }

/-- Apply a rate: the integrator moves by it, wrapping, and the gain follows (R221, R222, R229). -/
def applyRate (c : Nat) (x : Pend) (s : State) : State :=
  let s1 := stepMultiplier c x.lock (((s.set (K.geWinner c) (x.loop : Int)).set (K.geRate c) x.rate).inc (K.geUpdates c) 64)
  let s2 := if x.lock then s1 else s1.set (K.gePromptDelay c) (x.delay : Int)
  setGain c (wrap32 (s.num (K.geIntegrator c) + x.rate)) s2

/-- A due rate is applied, or discarded while the engine is held; a rate that is not due waits (R229). -/
def settlePending (c : Nat) (s : State) : State :=
  match (s.chan c).pendingRate with
  | some x =>
    if !pendDue s x then s
    else
      let s1 := s.setChan c { s.chan c with pendingRate := none }
      if engineHeld s c then s1.inc (K.geDiscarded c) 32 else applyRate c x s1
  | none => s

/-- GAIN_UPDATE (R229): at an update instant of a started channel, after a rate due in this tick, a clean window yields
errors, requests and the lowest one as the pending rate; the window ends and a new one opens. A changed mode acts on the
rate computed here (R229). DESIGN CHOICE, log entry 41. -/
def execGainUpdate (c : Nat) (m : GainMeas) (s : State) : Host.Outcome State Fault Refusal :=
  .next (if s.num (K.chRun c) ≠ 1 ∨ engineHeld s c ∨ !atInstant s c then s
    else
      let len := s.time.now - (s.chan c).windowFrom
      let s0 := (settlePending c s).set (K.geWindow c) (len : Nat)
      if (s.chan c).dirty then openWindow c s0
      else
        let s1 := s0.set (K.geAlcSetpoint c) (advanceSetpoint s0 c len)
        let s2 := reviewNotches c (s1.set (K.geSupplyHeadroom c) ((supplyHeadroom s1 c).getD 0))
        let (reqs, s3) := requestLoops c m s2
        let s4 := countUpdate (costOf s3 c) (supervise c len m s3)
        let delay := promptDelayOf s4 c
        let s5 := openWindow c s4
        let lock := decide (s5.num (K.geModeNow c) ≠ 0)
        match lowestWins reqs with
        | none => s5
        | some (i, q) =>
          let due := if lock then (match (s5.chan c).nextInst with | some t => t | none => instantOf s5 c) else s.time.now + delay
          s5.setChan c { s5.chan c with pendingRate := some ⟨q, i, due, lock, delay⟩ })

/-- RATE_APPLICATION (R229): a due rate is applied, or discarded while the engine is held. -/
def execRateApplication (c : Nat) (s : State) : Host.Outcome State Fault Refusal :=
  .next (settlePending c s)

/-- FE_TRIP (R233): the timer has reached ge.fe_time; one fault for each time it does. -/
def execFeTrip (c : Nat) (s : State) : Host.Outcome State Fault Refusal :=
  .next (if s.num (K.chRun c) = 1 ∧ s.num (K.geFeTime c) ≤ s.num (K.geFeTimer c) ∧ !(s.chan c).feTripped then
    let s1 := fault 0x0C c 2 (evCode 0x08 0) c 0 0 0 (s.inc (K.geFeTrips c) 32)
    s1.setChan c { s1.chan c with feTripped := true }
  else s)

/-- ENGINE_FALLBACK (R232): a measured load above 90.00 %. Each prompt channel runs in lockstep from its next instant. DEDUCED, log entry 32. -/
def execEngineFallback (s : State) : Host.Outcome State Fault Refusal :=
  .next (if s.flag K.geFallback ∨ loadAt s s.time.now ≤ 90 * 65536 then s
    else
      let s1 := fault 0x00 0 0 (evCode 0x08 2) (loadAt s s.time.now) 0 0 0 ((s.sticky skFallback).inc K.geFallbacks 32)
      s1.set K.geFallback 1)

/-- ENGINE_FALLBACK_EXIT (R232): the load has stayed below 80.00 % for 10 ms: at the start of those 10 ms, and after each
update since. -/
def execEngineFallbackExit (s : State) : Host.Outcome State Fault Refusal :=
  .next (if s.flag K.geFallback ∧ 10 * msTicks ≤ s.time.now ∧ loadAt s (s.time.now - 10 * msTicks) < 80 * 65536 ∧
      s.eng.recent.all (fun e => decide (e.1 + 10 * msTicks ≤ s.time.now) || decide (loadAt s e.1 < 80 * 65536)) then
    s.set K.geFallback 0
  else s)

end Sys2Proof.Machine
end

