-- ==== Sys2Proof/Machine/Protect.lean ====
section
/-! DEFINITION. Network protection (R242 to R259): the Hawkmoth guard, MUTE_N, oscillation trips, restarts and seals, the
uplink noise limit, emission checks; and the observation receivers that feed them (R159, R160). -/

namespace Sys2Proof.Machine

/-! ### The Hawkmoth guard (R243 to R247) -/

/-- Release the guard of port p. -/
def hmRelease (p : Nat) (s : State) : State := releasePort p pmHawkmoth (s.set (K.hmState p) 0)

/-- A trip on condition cond (1 amplitude, 2 over-range): state, time, counts, records, mute; the trip beyond
hm.trip_limit in 1 s latches (R245, R247). -/
def hmTrip (p cond : Nat) (s : State) : State :=
  let x := s.port p
  let recent := s.time.now :: x.trips.filter (fun t => decide (s.time.now < t + secTicks))
  let latch := decide (s.nat (K.hmTripLimit p) < recent.length)
  let s1 := s.setPort p { x with trips := recent, cleanFrom := s.time.now }
  let s2 := (((s1.sticky skHawkmoth).inc (K.hmTrips p) 32).set (K.hmLastTrip p) (s.time.ot : Int))
  let s3 := fault 0x0F p 1 (evCode 0x09 1) p cond 0 0 (event (evCode 0x09 0) p cond 0 0 s2)
  let s4 := if latch then fault 0x0F p 2 (evCode 0x09 2) p cond 0 0 s3 else s3
  let s5 := if s.gal.hmPorts.testBit p then galTrigger 1 s4 else s4
  (raisePort p pmHawkmoth s5).set (K.hmState p) (if latch then 3 else (cond : Int))

/-- HAWKMOTH_TRIP (R244): the guard of port p trips on the condition that its final stage has found, in the fifth tick after its entry tick. -/
def execHawkmothTrip (p cond : Nat) (s : State) : Host.Outcome State Fault Refusal :=
  .next (match (s.wingOf p).hmDue with
    | some (due, c) =>
      if 31 < p ∨ c ≠ cond ∨ s.time.now < due then s
      else
        let s1 := s.setWing p { s.wingOf p with hmDue := none }
        if s1.num (K.hmState p) = 0 then hmTrip p cond s1 else s1
    | none => s)

/-- HAWKMOTH_RELEASE (R246): an automatic guard with hm.hold clean ticks. -/
def execHawkmothRelease (p : Nat) (s : State) : Host.Outcome State Fault Refusal :=
  .next (if (s.num (K.hmState p) = 1 ∨ s.num (K.hmState p) = 2) ∧ s.num (K.hmRelease p) = 0 ∧
      (s.port p).cleanFrom + s.nat (K.hmHold p) ≤ s.time.now then hmRelease p s else s)

/-- The effect of a write of 1 to hm.clear: a tripped or latched guard is released (R246). -/
def hmClearEffect (p : Nat) (_ : Who) (_ : Val) (s : State) : Reply := .ok (if s.num (K.hmState p) = 0 then s else hmRelease p s)

/-- HM_CLEAR (R246). -/
def execHmClear (p : Nat) (f : Frame) (s : State) : Host.Outcome State Fault Refusal :=
  .next (requestWrite (K.hmClear p) f s (hmClearEffect p))

/-! ### MUTE_N (R248) -/

/-- MUTE_N_ASSERT (R248): every port that obeys the pin is forced silent; the assertion is counted and recorded. -/
def execMuteNAssert (s : State) : Host.Outcome State Fault Refusal :=
  .next (if s.flag K.prMutepin then s
    else
      let s1 := fault 0x00 0 0 (evCode 0x09 3) 0 0 0 0 ((s.sticky skMutePin).inc K.prMutepinCount 32)
      let s2 := forN 32 (fun p s => if s.flag (K.hmMutePin p) then raisePort p pmPin s else s) s1
      s2.set K.prMutepin 1)

/-- MUTE_N_RELEASE (R248): the forced ports are released. -/
def execMuteNRelease (s : State) : Host.Outcome State Fault Refusal :=
  .next (if s.flag K.prMutepin then (forN 32 (fun p s => releasePort p pmPin s) s).set K.prMutepin 0 else s)

/-! ### Causes of the protection mute (R258) -/

/-- Raise cause b of pr.cause: bit 6 of ch.mutes is held while any cause is. -/
def raiseCause (c b : Nat) (s : State) : State := (raiseCh c cmProtection s).setBit (K.prCause c) b

/-- Release cause b. -/
def releaseCause (c b : Nat) (s : State) : State :=
  let s1 := s.clrBit (K.prCause c) b
  if s1.num (K.prCause c) = 0 then releaseCh c cmProtection s1 else s1

/-! ### Oscillation (R249 to R253) -/

/-- A trip that finds restarts left: the channel waits for its restart (R250). -/
def oscTrip (c det : Nat) (s : State) : State :=
  let s1 := fault 0x0D c 2 (evCode 0x09 5) c det 0 0 (event (evCode 0x09 4) c det 0 0 (raiseCause c 0 s))
  (s1.set (K.oscDue c) ((s.time.ot + 1024 * s.nat K.oscRestartDelay : Nat) : Int)).set (K.oscState c) 1

/-- A trip that finds none: the channel is sealed (R253). -/
def oscSeal (c det : Nat) (s : State) : State :=
  let s1 := raiseCh c cmSealed (raiseCause c 0 s)
  let s2 := fault 0x0D c 2 (evCode 0x09 5) c det 0 0 (event (evCode 0x09 4) c det 0 0 s1)
  let s3 := fault 0x0D c 4 (evCode 0x09 6) c det 0 0 (s2.inc K.oscSeals 16)
  s3.set (K.oscState c) 2

/-- OSCILLATION_TRIP (R250): 6,144 ticks after the detecting window ended. -/
def execOscillationTrip (c : Nat) (s : State) : Host.Outcome State Fault Refusal :=
  .next (match (s.chan c).oscFired with
    | some (det, due) =>
      if s.time.now < due then s
      else
        let s1 := s.setChan c { s.chan c with oscFired := none, oscTicks := 0 }
        if s1.num (K.oscState c) = 1 ∨ s1.num (K.oscState c) = 2 then s1
        else
          let s2 := (s1.sticky skOscillation).inc K.oscTrips 32
          if s2.num (K.oscRestarts c) < s2.num K.oscRestartLimit then oscTrip c det s2 else oscSeal c det s2
    | none => s)

/-- A restart of channel c (R251): it is counted, the taps are reset as by a write of master 0, and the cause is let go. -/
def oscRestart (c : Nat) (s : State) : State :=
  let s1 := releaseCause c 0 (tapReset c (s.inc (K.oscRestarts c) 8))
  (s1.set (K.oscDue c) 0).set (K.oscState c) 0

/-- OSC_RESTART (R251): the operating time reaches the restart due time. -/
def execOscRestart (c : Nat) (s : State) : Host.Outcome State Fault Refusal :=
  .next (if s.num (K.oscState c) = 1 ∧ s.num (K.oscDue c) ≤ s.time.ot then oscRestart c s else s)

/-- The effect of a write of 1 to osc.restart_now: RANGE unless the channel awaits its restart (R251). -/
def oscRestartNowEffect (c : Nat) (_ : Who) (_ : Val) (s : State) : Reply :=
  if s.num (K.oscState c) = 1 then .ok (oscRestart c s) else .no s stRange

/-- OSC_RESTART_NOW (R251). -/
def execOscRestartNow (c : Nat) (f : Frame) (s : State) : Host.Outcome State Fault Refusal :=
  .next (requestWrite (K.oscRestartNow c) f s (oscRestartNowEffect c))

/-- OSC_RESTARTS_DECAY (R252): osc.decay seconds of radiating since the last trip. -/
def execOscRestartsDecay (c : Nat) (s : State) : Host.Outcome State Fault Refusal :=
  .next (if s.nat K.oscDecay * secTicks ≤ (s.chan c).oscTicks then s.set (K.oscRestarts c) 0 else s)

/-! ### Uplink noise (R254) -/

/-- NOISE_EVALUATION (R254): n is the 10th percentile of the output powers of the frame's symbols in which the channel
radiated, count their number. -/
def execNoiseEvaluation (c : Nat) (n : Int) (count : Nat) (s : State) : Host.Outcome State Fault Refusal :=
  .next (if s.num (K.chRun c) ≠ 1 ∨ s.num (K.chDir c) ≠ 1 ∨ count < 14 then s
    else
      let run := if cdb (s.num (K.nlLimit c)) < n then (s.chan c).noiseRun + 1 else 0
      if run < s.nat K.nlFrames then s.setChan c { s.chan c with noiseRun := run }
      else
        let s1 := s.setChan c { s.chan c with noiseRun := 0, noiseEnd := some (s.time.ot + 1024 * s.nat K.nlHold) }
        raiseCause c 1 (fault 0x0E c 1 (evCode 0x09 8) c 1 0 0 (event (evCode 0x09 7) c 1 0 0 (s1.sticky skNoise))))

/-- NOISE_MUTE_RELEASE (R254): nl.hold seconds after the mute. -/
def execNoiseMuteRelease (c : Nat) (s : State) : Host.Outcome State Fault Refusal :=
  .next (match (s.chan c).noiseEnd with
    | some t => if t ≤ s.time.ot then releaseCause c 1 (s.setChan c { s.chan c with noiseEnd := none }) else s
    | none => s)

/-! ### Emission entries (R255, R256) -/

/-- The band of entry m, in half kHz. -/
def emBand (s : State) (m : Nat) : Band := ⟨2 * s.num (K.emLo m), 2 * s.num (K.emHi m)⟩

/-- The receiver of port p's wing has a visit to its forward or reflected input in its list. -/
def inObsList (s : State) (p : Nat) (refl : Bool) : Bool :=
  (List.range 2).any (fun i => (List.range 8).any (fun v =>
    let b := s.nat (K.obsList (2 * (p / 8) + i)) / 256 ^ v % 256
    b.testBit 7 && (b.testBit 4 == refl) && decide (b % 8 = p % 8)))

/-- The range lies inside the port's transmit bandwidth and overlaps no output band of a started channel on it. -/
def emInView (s : State) (m : Nat) : Bool :=
  let p := s.nat (K.emPort m)
  (emBand s m).inside (portBand2 s true p) &&
    s.started.all (fun c => (outputsOf s c).all (fun e => decide (e.2 ≠ p) || !(outBand s (activeBank s c) c e.1).overlaps (emBand s m)))

/-- em.status of entry m. -/
def emStatusNow (s : State) (m : Nat) : Int :=
  let p := s.nat (K.emPort m)
  if s.num (K.emPort m) = 0xFF then 0
  else if !emInView s m then 3
  else if !((outputsOf s (s.nat (K.emChannel m))).any (fun e => decide (e.2 = p)) && inObsList s p false) then 2
  else match Tab.get (fun _ => some 0) s.emRun m with
    | none => 5
    | some 0 => 1
    | some _ => 4

/-- Entry m is measured. -/
def emWatching (s : State) (m : Nat) : Bool := decide (emStatusNow s m ∈ [1, 4, 5])

/-- Put the run of entry m. -/
def putEmRun (m : Nat) (v : Option Nat) (s : State) : State := { s with emRun := Tab.put (fun _ => some 0) m v s.emRun }

/-- A level measured for entry m (R256). -/
def emMeasure (m : Nat) (level : Int) (counted : Bool) (s : State) : State :=
  let s1 := s.set (K.emLevel m) level
  if !counted then s1
  else if level ≤ cdb (s.num (K.emLimit m)) then (match Tab.get (fun _ => some 0) s.emRun m with | some _ => putEmRun m (some 0) s1 | none => s1)
  else match Tab.get (fun _ => some 0) s.emRun m with
    | none => s1
    | some n =>
      if n + 1 < s.nat (K.emCount m) then putEmRun m (some (n + 1)) s1
      else
        let c := s.nat (K.emChannel m)
        let s2 := ((putEmRun m none s1).sticky skEmission).inc (K.emBreaches m) 32
        let s3 := s2.setChan c { s2.chan c with emissionEnd := some (s.time.ot + 1024 * s.nat K.emHold) }
        raiseCause c 2 (fault 0x0E c 1 (evCode 0x09 10) m c 0 0 (event (evCode 0x09 9) m c 0 0 s3))

/-- EMISSION_MUTE_RELEASE (R256): em.hold seconds after the breach. -/
def execEmissionMuteRelease (c : Nat) (s : State) : Host.Outcome State Fault Refusal :=
  .next (match (s.chan c).emissionEnd with
    | some t =>
      if t ≤ s.time.ot then
        let s1 := forN 64 (fun m s => if s.nat (K.emChannel m) = c ∧ Tab.get (fun _ => some 0) s.emRun m = none then putEmRun m (some 0) s else s) s
        releaseCause c 2 (s1.setChan c { s1.chan c with emissionEnd := none })
      else s
    | none => s)

/-! ### Observation receivers (R159, R160, R200, R303) -/

/-- The record of receiver r. -/
def State.obsv (s : State) (r : Nat) : Obs := Tab.get (fun _ => Obs.fresh) s.obs r

/-- Byte v of the list of receiver r. -/
def visitByte (s : State) (r v : Nat) : Nat := s.nat (K.obsList r) / 256 ^ v % 256

/-- The port of a visit byte of receiver r. -/
def visitPort (r b : Nat) : Nat := 8 * (r / 2) + b % 8

/-- Start visit v of receiver r. -/
def startVisit (r v : Nat) (s : State) : State :=
  ({ s with obs := Tab.put (fun _ => Obs.fresh) r ⟨v, s.time.now, false⟩ s.obs }).set (K.obsCurrent r) (visitByte s r v : Nat)

/-- Walk to the next visit from number v on: visits to a port whose TX synthesiser is not locked are skipped and counted;
with none left the receiver samples nothing. -/
def walkObs (r : Nat) : Nat → Nat → State → State
  | _, 0, s => s.set (K.obsCurrent r) 0
  | v, k + 1, s =>
    let b := visitByte s r (v % 8)
    if !b.testBit 7 then walkObs r (v + 1) k s
    else if txLocked s (visitPort r b) then startVisit r (v % 8) s
    else walkObs r (v + 1) k (s.inc (K.obsSkipped r) 32)

/-- A list that changes is walked from visit 0, at once or when the receiver is given back (Table 6-12). -/
def restartObs (r : Nat) (s : State) : State :=
  if s.num (K.obsOwner r) = 0 then walkObs r 0 8 s
  else { s with obs := Tab.put (fun _ => Obs.fresh) r { s.obsv r with changed := true } s.obs }

/-- A receiver given back walks on after the visit interrupted, or from visit 0 where its list has changed. -/
def resumeObs (r : Nat) (s : State) : State := walkObs r (if (s.obsv r).changed then 0 else (s.obsv r).idx + 1) 8 (s.set (K.obsOwner r) 0)

/-- The Gallery's receivers: the numbers its sources name (R346). -/
def galReceivers (s : State) : List Nat := (s.gal.srcs.filter (fun w => decide (w / 4096 = 5))).map (fun w => w % 8)

/-- The Gallery takes its receivers: their lists stop in this tick (R160). -/
def takeReceivers (s : State) : State := forL (galReceivers s) (fun r s => (s.set (K.obsOwner r) 1).set (K.obsCurrent r) 0) s

/-- The Gallery gives its receivers back: each list resumes at the visit after the one interrupted. -/
def freeReceivers (s : State) : State :=
  forL (galReceivers s) (fun r s => if s.num (K.obsOwner r) = 1 then resumeObs r s else s) s

/-- Port p stands in the list of an observation receiver of its wing as a forward visit (R200). -/
def obsLists (s : State) (p : Nat) : Bool :=
  (List.range 2).any (fun i => (List.range 8).any (fun v =>
    let b := visitByte s (2 * (p / 8) + i) v
    b.testBit 7 && !b.testBit 4 && decide (b % 8 = p % 8)))

/-- A forward visit to port p gives the PA tracking factors of the branches on it: the measured gain, magnitude and phase, over that held at the
branch's last tap reset; they act from the next tick on (R200). DEDUCED, log entry 31. -/
def trackPa (p : Nat) (gain : Int) (phase : Nat) (s : State) : State :=
  let s1 := s.setPort p { s.port p with paGain := some (gain, phase) }
  forL s1.started (fun c s => if !s.flag (K.cxPaTrack c) then s
    else forL ((usedBranches s c).filter (fun e => decide (e.2 = p))) (fun e s =>
      let x := s.chan c
      match Tab.get (fun _ => none) x.paRef e.1 with
      | some g => s.setPath c { s.pathOf c with factorsNew := (s.pathOf c).factorsNew ++ [(e.1, gain - g.1, (phase + 65536 - g.2) % 65536)] }
      | none => s.setChan c { x with paRef := Tab.put (fun _ => none) e.1 (some (gain, phase)) x.paRef }) s) s1

/-- The factors of branches whose port has left every list are 1 (R200). -/
def dropFactors (s : State) : State :=
  forL s.started (fun c s => forL ((usedBranches s c).filter (fun e => !obsLists s e.2)) (fun e s =>
    (s.setPath c { s.pathOf c with factors := Tab.put (fun _ => (0, 0)) e.1 (0, 0) (s.pathOf c).factors,
                                   factorsNew := (s.pathOf c).factorsNew.filter (fun a => decide (a.1 ≠ e.1)) }).set (K.cxPaGainN c e.1) 0) s) s

/-- A reflected visit to port p compared with its last forward visit (R303). -/
def returnLoss (p : Nat) (m : ObsMeas) (s : State) : State :=
  match (s.port p).obsFwd with
  | some (fwd, at_, still) =>
    if at_ + 100 * msTicks < s.time.now then s
    else
      let rl := fwd - m.power
      let s1 := s.set (K.fdRl p) rl
      if !(still && m.still && portRadiates s p) then s1
      else if cdb (s.num (K.fdRlLimit p)) ≤ rl then s1.setPort p { s1.port p with rlRun := 0 }
      else if (s.port p).rlRun + 1 < s.nat (K.fdRlCount p) then s1.setPort p { s1.port p with rlRun := (s.port p).rlRun + 1 }
      else
        let s2 := s1.setPort p { s1.port p with rlRun := 0, rlEnd := some (s.time.ot + 1024 * s.nat (K.fdRlHold p)) }
        let s3 := fault 0x12 p 1 (evCode 0x0C 5) p 0 0 0 (event (evCode 0x0C 4) p 0 0 0 (s2.sticky skOpenCable))
        raisePort p pmOpenCable s3
  | none => s

/-- What a completed visit brings: forward visits feed PA tracking and the emission entries, reflected ones the return
loss. -/
def visitDone (r : Nat) (m : ObsMeas) (s : State) : State :=
  let b := s.nat (K.obsCurrent r)
  let p := visitPort r b
  let s1 := s.inc (K.obsVisits r) 64
  if b.testBit 4 then returnLoss p m s1
  else
    let s2 := trackPa p m.gain m.phase s1
    let s3 := s2.setPort p { s2.port p with obsFwd := some (m.power, s.time.now, m.still && portRadiates s p) }
    forL m.levels (fun e s => if e.1 < 64 ∧ s.num (K.emPort e.1) = p ∧ emWatching s e.1 then emMeasure e.1 e.2.1 e.2.2 s else s) s3

/-- OBS_VISIT_END (R159): the dwell of receiver r's visit ends; the receiver goes on to its next visit. While the Gallery
or a self-test owns the receiver no visit completes (R160). DESIGN CHOICE, log entry 41. -/
def execObsVisitEnd (r : Nat) (m : ObsMeas) (s : State) : Host.Outcome State Fault Refusal :=
  .next (if 7 < r ∨ s.num (K.obsOwner r) ≠ 0 then s
    else if s.num (K.obsCurrent r) = 0 then walkObs r 0 8 s
    else if s.time.now < (s.obsv r).since + s.nat (K.obsDwell r) then s
    else walkObs r ((s.obsv r).idx + 1) 8 (visitDone r m s))

end Sys2Proof.Machine
end

