-- ==== Sys2Proof/Machine/Timebase.lean ====
section
/-! DEFINITION. The frame timebase (R55 to R71): its tick, its states and sources, the tracking loop, holdover, and the
scheduling of steps. The step instant itself stands in Instant.lean, beside the launch table. -/

namespace Sys2Proof.Machine

/-! ### The tick (R9, R56, R334) -/

/-- The accumulator at which a slew adjustment is due: one tick, in 2^-16 ppb of a tick. -/
abbrev slewUnit : Int := 65536000000000

/-- One tick of operating time: a unit per 1,200,000 ticks (R334). -/
def tickOt (t : Time) : Time :=
  if t.otRem + 1 < 1200000 then { t with otRem := t.otRem + 1 } else { t with otRem := 0, ot := t.ot + 1 }

/-- How far the counter advances in a tick, and the accumulator after it (R56, R63): 2 or 0 where the accumulated
correction reaches a whole tick. -/
def advanceBy (acc : Int) : Nat × Int :=
  if slewUnit ≤ acc then (2, acc - slewUnit) else if acc ≤ -slewUnit then (0, acc + slewUnit) else (1, acc)

/-- Operating time counts from the release of power-on reset until power fail is detected (R334); it runs on through a supply dip
(Table 19-2), on VHOLD (R19). DEDUCED, log entry 108. -/
def otCounts (s : State) : Bool := s.log.pfailAt.isNone && !(s.boot.por && s.boot.allDown)

/-- The counter moves by d against the sources: what they lead it by falls by d (R63). -/
def shiftSources (d : Int) (t : Time) : Time := { t with srcDelta := t.srcDelta.map (fun e => (e.1, e.2.map (fun x => x - d))) }

/-- One tick of the tick clock. DESIGN CHOICE, log entry 1. -/
def tick (s : State) : State :=
  let t0 := { s.time with now := s.time.now + 1 }
  let t := if otCounts s then tickOt t0 else t0
  if !t.running then { s with time := t, before := s.obj, chansBefore := s.chans }
  else
    let a := advanceBy (t.slewAcc + s.num K.tbFreqOffset)
    let t1 := { t with tb := t.tb + a.1, slewAcc := a.2 }
    let s1 := { s with time := if a.1 = 1 then t1 else shiftSources ((a.1 : Int) - 1) t1, before := s.obj, chansBefore := s.chans }
    if a.1 = 1 then s1 else s1.inc K.tbSlewCount 64

/-- The level of the output TB_MARK (R79): high in the first 1,228,800 ticks of each frame. DEDUCED, log entry 117. -/
def tbMark (s : State) : Bool := decide (s.time.tb % frameTicks < 1228800)

/-! ### Trace and the timebase mute (R60) -/

/-- Started channels on a pattern. DEDUCED, log entry 28. -/
def tddStarted (s : State) : List Nat := s.started.filter (fun c => isTdd s c)

/-- tb.trace falls: every started TDD channel takes the timebase mute, recorded as one Notice. -/
def muteForTrace (s : State) : State :=
  let l := tddStarted s
  if l = [] then s
  else forL l (fun c s => raiseCh c cmTimebase (s.setChan c { s.chan c with resumeTrace := none }))
    (fault 0x04 0 0 (evCode 0x02 1) l.length (s.nat K.tbState) 0 0 s)

/-- The channel's timebase mute is due at the first segment start of its direction that comes after this tick and lies its lead later. -/
def planRelease (c : Nat) (s : State) : State := s.setChan c { s.chan c with resumeTrace := resumeAt s c s.time.tb false }

/-- tb.trace rises: the release of each muted channel is planned. -/
def planTraceRelease (s : State) : State := forL ((tddStarted s).filter (fun c => s.bit (K.chMutes c) cmTimebase)) planRelease s

/-- Set tb.trace: a change is a cause of vector 4 (R363). -/
def setTrace (v : Bool) (s : State) : State :=
  if s.flag K.tbTrace = v then s
  else
    let s1 := (irq 4 s).setFlag K.tbTrace v
    if v then planTraceRelease s1 else muteForTrace s1

/-- Set tb.state: a change is a cause of vector 4. -/
def setTbState (v : Int) (s : State) : State := if s.num K.tbState = v then s else (irq 4 s).set K.tbState v

/-- Timebase states (Table 3-1). -/
abbrev tsInvalid : Int := 0
abbrev tsFree : Int := 1
abbrev tsAcquiring : Int := 2
abbrev tsLocked : Int := 3
abbrev tsHoldover : Int := 4
abbrev tsExpired : Int := 5

/-- tb.trace in Locked: 1, or the upstream trace of a Stairway source. -/
def lockedTrace (s : State) : Bool := if s.num K.tbSourceSelected = 1 then (s.link 0).upTrace else true

/-- TIMEBASE_MUTE_RELEASE (R60): at the channel's resume tick, with tb.trace 1, the timebase mute is released and
recorded. -/
def execTimebaseMuteRelease (c : Nat) (s : State) : Host.Outcome State Fault Refusal :=
  .next (match (s.chan c).resumeTrace with
    | some t =>
      if s.flag K.tbTrace ∧ t ≤ s.time.tb then
        releaseCh c cmTimebase (event (evCode 0x02 3) 1 (s.nat K.tbState) 0 0
          (s.setChan c { s.chan c with resumeTrace := none }))
      else s
    | none => s)

/-- STEP_MUTE_RELEASE (R69): at c.resume the step mute is released and adaptation unfreezes. -/
def execStepMuteRelease (c : Nat) (s : State) : Host.Outcome State Fault Refusal :=
  .next (if s.bit (K.chMutes c) cmStep ∧ (s.chan c).resume ≤ s.time.tb then
    releaseCh c cmStep (s.clrBit (K.cxFreezes c) 9) else s)

/-! ### Steps (R68, R70) -/

/-- The first frame boundary at least 20 ms after the present tick; a step that waits keeps its instant. -/
def stepInstant (s : State) : Nat :=
  match s.time.step with
  | some p => p.at_
  | none => frameUp (s.time.tb + 24576000)

/-- Hold a step against its instant, announced downstream. -/
def putStep (p : StepPlan) (s : State) : State :=
  let s1 := sendDown 0x20 [(p.at_ : Int), p.delta] { s with time := { s.time with step := some p } }
  s1.set K.tbStepPending (tbWord p.at_ : Nat)

/-- A step replaces the one that waits: in Acquiring it takes over where the timebase came from and that it locks (Table 3-1). DEDUCED, log entry 25. -/
def heir (s : State) (p : StepPlan) : StepPlan :=
  match s.time.step with
  | some o => { p with back := if s.num K.tbState = 2 then o.back else p.back, locks := p.locks || o.locks }
  | none => p

/-- Decide a step in this tick (R68). -/
def schedule (delta : Int) (cause back : Nat) (locks : Bool) (s : State) : State :=
  putStep (heir s ⟨stepInstant s, delta, s.nat K.tbSourceSelected, cause, back, locks⟩) s

/-- Cancel the step that waits; an announcement sent for it is not withdrawn (DESIGN CHOICE, log entry 118). DEDUCED, log entry 25. -/
def cancelStep (s : State) : State :=
  { s with time := { s.time with step := none } }.set K.tbStepPending (noTime : Nat)

/-- Cancel the step that waits to align the counter to a source; a host's step that has taken its place stands. -/
def cancelAlignment (s : State) : State :=
  match s.time.step with
  | some p =>
    if p.cause = 4 then { s with time := { s.time with step := some { p with locks := false } } }
    else if p.locks then cancelStep s else s
  | none => s

/-- The step itself (R69, first line): in tick S the timebase reads S + Δ, also where a slew advance has passed S. A step whose result would lie
before 0:0:0 leaves it at 0:0:0 (DESIGN CHOICE, log entry 119). -/
def stepCounter (p : StepPlan) (s : State) : State :=
  let n := ((p.at_ : Int) + p.delta).toNat
  { s with time := shiftSources ((n : Int) - s.time.tb) { s.time with tb := n, step := none } }

/-- The state after a step: Acquiring becomes Locked, and so do Holdover and Holdover-expired after a step that aligns to a source selected there
(Table 3-1). -/
def lockAfterStep (p : StepPlan) (s : State) : State :=
  if s.num K.tbState = tsAcquiring ∨ ((s.num K.tbState = tsHoldover ∨ s.num K.tbState = tsExpired) ∧ p.locks) then
    setTrace (lockedTrace s) (setTbState tsLocked s)
  else s

/-- Count and record a step that has been taken. The source the record names is the one selected when the step was decided (DESIGN CHOICE, log
entry 120). -/
def recordStep (p : StepPlan) (s : State) : State :=
  let d := (p.delta % 18446744073709551616).toNat
  let s1 := event (evCode 0x02 2) (d % 2 ^ 32) (d / 2 ^ 32) p.source p.cause (((irq 4 s).sticky skStep).inc K.tbStepCount 32)
  (s1.set K.tbStepPending (noTime : Nat)).set K.tbLastStep p.delta

/-! ### Sources (R61, R62) -/

/-- A source is qualified. -/
def State.qualifiedSrc (s : State) (c : Nat) : Bool := (Tab.get (fun _ => none) s.time.qualified c).isSome

/-- The codes of the priority word, highest first. -/
def priorityList (s : State) : List Nat :=
  let w := s.nat K.tbSourcePriority
  [w / 4096 % 16, w / 256 % 16, w / 16 % 16, w % 16]

/-- A source that may be selected: not free-run, qualified, and not a Stairway source past the depth limit (R76). -/
def selectable (s : State) (c : Nat) : Bool :=
  decide (1 ≤ c) && decide (c ≤ 3) && s.qualifiedSrc c && (decide (c ≠ 1) || decide (s.num K.stwDepth ≠ 0xFF))

/-- The selectable source that stands highest in the priority word. -/
def bestSource (s : State) : Option Nat := (priorityList s).find? (selectable s)

/-- Δ reduced modulo one frame into -6,144,000 to 6,143,999 (R63). -/
def frameError (delta : Int) : Int := (delta + 6144000) % 12288000 - 6144000

/-- Δ of a source (R63): its last measured position less the local one; the donor carries no label, so its Δ is e (R65). -/
def sourceDelta (s : State) (src : Nat) : Int :=
  let d := (Tab.get (fun _ => none) s.time.srcDelta src).getD 0
  if src = 2 then frameError d else d

/-- Put the position of a source, measured in this tick, less the local one. -/
def putSource (src : Nat) (d : Int) (s : State) : State :=
  { s with time := { s.time with srcDelta := Tab.put (fun _ => none) src (some d) s.time.srcDelta } }

/-- A label of the last epoch (R55). -/
def lastEpoch (label : Nat) : Bool := decide (1073741823 * 1024 * frameTicks ≤ label)

/-- Select a source in a state whose timing is free (R61, R64, Table 3-1): from Free-run and Holdover-expired by a step
whatever its size; from Holdover by slew within the threshold, else by a step. DEDUCED, log entry 25. -/
def select (src : Nat) (s : State) : State :=
  let s0 := cancelAlignment s
  let d := sourceDelta s src
  let e := frameError d
  let s1 := (({ s0 with time := { s0.time with excessSince := none } }).set K.tbSourceSelected (src : Int)).set K.tbPhaseError e
  let st := s.num K.tbState
  if st = tsFree then schedule d 6 1 true (setTbState tsAcquiring s1)
  else if st = tsExpired then schedule d 1 5 true (setTbState tsAcquiring s1)
  else if st = tsHoldover then
    if d ≠ e then schedule (if (s.nat K.tbStepThreshold : Int) < |e| then d else d - e) 3 4 true s1
    else if (s.nat K.tbStepThreshold : Int) < |e| then schedule e 1 4 true s1
    else setTrace (lockedTrace s1) (setTbState tsLocked s1)
  else s1

/-- A source takes the place of the selected one in Acquiring, whose alignment step is then to it, or in Locked. -/
def replaceSource (src : Nat) (s : State) : State :=
  let s1 := ({ s with time := { s.time with excessSince := none } }).set K.tbSourceSelected (src : Int)
  if s.num K.tbState = tsAcquiring then schedule (sourceDelta s src) 1 1 true (s1.set K.tbPhaseError (frameError (sourceDelta s src)))
  else setTrace (lockedTrace s1) s1

/-- The objects that show a source's qualification (Table 3-9). -/
def showQualified (src : Nat) (v : Bool) (s : State) : State :=
  if src = 2 then s.set K.tbDonorState (if v then 3 else 1) else if src = 3 then s.set K.tbPpsState (if v then 2 else 1) else s

/-- What Table 3-3 asks of a source that qualifies: 16 frames of good time cells on a link that is Up, 4 good detections, 3 good edges with
labels. DEDUCED, log entry 121. -/
def mayQualify (s : State) (src : Nat) : Bool :=
  if src = 1 then decide (s.num (K.stwLinkLState 0) = 4) && decide (16 * 20480 ≤ (s.link 0).goodCells)
  else if src = 2 then decide (4 ≤ s.time.donorGood)
  else decide (3 ≤ s.time.ppsGood) && (match s.time.ppsLabel with | some l => !lastEpoch l | none => false)

/-- Two PPS edges are missing: none has come for two periods and the tolerance. -/
def ppsAbsent (s : State) : Bool :=
  match s.time.ppsLast with
  | some t => decide (t + 2 * 1228800000 + 12288 < ((s.time.now : Int) - s.num K.tbPpsDelayComp).toNat)
  | none => true

/-- What Table 3-3 asks of a source that is lost, and R55 of its label. -/
def mustDisqualify (s : State) (src : Nat) : Bool :=
  if src = 1 then decide (s.num (K.stwLinkLState 0) ≠ 4) || decide (4 ≤ (s.link 0).badCells)
  else if src = 2 then decide (3 ≤ s.time.donorBad)
  else ppsAbsent s || decide (s.time.ppsGood ≤ 1) || (match s.time.ppsLabel with | some l => lastEpoch l | none => true)

/-- Put or clear a source's qualification. -/
def putQualified (src : Nat) (v : Option Nat) (s : State) : State :=
  { s with time := { s.time with qualified := Tab.put (fun _ => none) src v s.time.qualified } }

/-- A selection is free: free-run, Holdover or Holdover-expired (R61). -/
def freeToSelect (s : State) : Bool :=
  decide (s.num K.tbState = tsFree) || decide (s.num K.tbState = tsHoldover) || decide (s.num K.tbState = tsExpired)

/-- SOURCE_QUALIFY (R61, R62): a source that meets Table 3-3 qualifies; where selection is free and it stands highest, it is selected in this
tick. -/
def execSourceQualify (src : Nat) (_ : Report) (s : State) : Host.Outcome State Fault Refusal :=
  .next (if src < 1 ∨ 3 < src ∨ s.qualifiedSrc src ∨ !mayQualify s src then s
    else
      let s1 := showQualified src true (putQualified src (some s.time.now) s)
      if freeToSelect s1 ∧ bestSource s1 = some src then select src s1 else s1)

/-- The loss of the selected source (R61, Table 3-1): the highest other qualified source, else Holdover from Locked, or
from Acquiring the state it came from; a step decided in Locked stands. DEDUCED, log entry 25. -/
def loseSelected (s : State) : State :=
  let st := s.num K.tbState
  if st = tsAcquiring then
    let back := match s.time.step with | some p => p.back | none => 1
    let s1 := setTbState (back : Int) (cancelAlignment s)
    match bestSource s1 with
    | some b => select b s1
    | none => if back = 1 then s1.set K.tbSourceSelected 4 else s1
  else if st = tsHoldover ∨ st = tsExpired then
    let s1 := cancelAlignment s
    match bestSource s1 with
    | some b => select b s1
    | none => s1
  else if st = tsLocked then
    match bestSource s with
    | some b => replaceSource b s
    | none =>
      let s1 := { s with time := { s.time with holdE := (s.num K.tbPhaseError).natAbs, holdSince := s.time.now, excessSince := none } }
      let s2 := ((s1.set K.tbHoldoverElapsed 0).set K.tbHoldoverUncertainty (s1.time.holdE : Int)).sticky skHoldover
      setTbState tsHoldover s2
  else s

/-- A source disqualifies. -/
def disqualify (src : Nat) (s : State) : State :=
  if !s.qualifiedSrc src then s
  else
    let s1 := showQualified src false (putQualified src none s)
    let s2 := if src = 3 ∧ ppsAbsent s then s1.set K.tbPpsState 0 else s1
    if s.num K.tbSourceSelected = src then loseSelected s2 else s2

/-- A selected source that may no longer be selected is lost; where selection is free, the highest that may be is selected. -/
def reselectSource (s : State) : State :=
  let sel := s.nat K.tbSourceSelected
  if 1 ≤ sel ∧ sel ≤ 3 ∧ s.qualifiedSrc sel ∧ (sel ∉ priorityList s ∨ !selectable s sel) then loseSelected s
  else if freeToSelect s ∧ s.time.step.isNone then (match bestSource s with | some b => select b s | none => s)
  else s

/-- A written priority word (R61): a source absent from it is never selected, so one that stands selected is lost. DEDUCED, log entry 25. -/
def priorityEffect (v : Int) (s : State) : State := reselectSource (s.set K.tbSourcePriority v)

/-- SOURCE_DISQUALIFY (R61, R62): a source that meets the loss condition of Table 3-3. -/
def execSourceDisqualify (src : Nat) (_ : Report) (s : State) : Host.Outcome State Fault Refusal :=
  .next (if 1 ≤ src ∧ src ≤ 3 ∧ mustDisqualify s src then disqualify src s else s)

/-- SOURCE_REVERT (R61): a source that stands higher than the selected one and has stayed qualified for
tb.source.revert replaces it. -/
def revertDue (s : State) (src : Nat) : Bool :=
  match Tab.get (fun _ => none) s.time.qualified src with
  | some t => decide (s.num K.tbSourceRevert ≠ 65535) && decide (t + s.nat K.tbSourceRevert * secTicks ≤ s.time.now)
  | none => false

def execSourceRevert (src : Nat) (s : State) : Host.Outcome State Fault Refusal :=
  .next (if (s.num K.tbState = tsLocked ∨ s.num K.tbState = tsAcquiring) ∧ s.num K.tbSourceSelected ≠ src ∧ bestSource s = some src ∧
      revertDue s src then replaceSource src s
  else s)

/-! ### The tracking loop (R63, R64, R67) -/

/-- A correction in 2^-16 ppb within ±tb.slew_max. -/
def clampSlew (s : State) (v : Int) : Int := clampI v (-(s.num K.tbSlewMax * 65536)) (s.num K.tbSlewMax * 65536)

/-- The loop slews: the PI filter turns e into the correction. DEDUCED, log entry 10. -/
def slewLoop (e : Int) (s : State) : State :=
  let f := Config.loopCorrection (s.num K.tbLoopBandwidth) (s.num K.tbLoopDamping) s.time.integ e
  let i := Config.loopIntegrator (s.num K.tbLoopBandwidth) (s.num K.tbLoopDamping) s.time.integ e
  { s with time := { s.time with integ := clampSlew s i, excessSince := none } }.set K.tbFreqOffset (clampSlew s f)

/-- The excess of R64 has persisted for tb.jump_confirm frames. -/
def excessConfirmed (s : State) : Bool :=
  match s.time.excessSince with
  | some t => decide (t + s.nat K.tbJumpConfirm * frameTicks ≤ s.time.now)
  | none => false

/-- Mark the start of an excess, or keep it. -/
def markExcess (s : State) : State :=
  match s.time.excessSince with
  | some _ => s
  | none => { s with time := { s.time with excessSince := some s.time.now } }

/-- One run of the loop in Locked, on the selected source's position. -/
def trackLocked (s : State) : State :=
  let d := sourceDelta s (s.nat K.tbSourceSelected)
  let e := frameError d
  let s1 := s.set K.tbPhaseError e
  let beyond := decide ((s.nat K.tbStepThreshold : Int) < |e|)
  let s2 := if beyond then markExcess s1 else slewLoop e s1
  if d ≠ e then schedule (if beyond ∧ excessConfirmed s2 then d else d - e) 3 3 false s2
  else if beyond ∧ excessConfirmed s2 then schedule e 2 3 false s2
  else s2

/-- Ticks in Holdover. -/
def holdTicks (s : State) : Nat := s.time.now - s.time.holdSince

/-- u of R67 in 2^-16 / 1,228,800,000 of a tick: exact. -/
def uncertaintyExact (s : State) : Int :=
  (s.time.holdE : Int) * 65536 * secTicks + s.num K.tbHoldoverDriftRate * holdTicks s

/-- The loop in Holdover: elapsed time and uncertainty. -/
def trackHoldover (s : State) : State :=
  (s.set K.tbHoldoverElapsed (holdTicks s / msTicks : Nat)).set K.tbHoldoverUncertainty
    (min (qdiv (uncertaintyExact s) (65536 * secTicks)) 0xFFFFFFFF)

/-- TRACKING_LOOP_UPDATE (R63): once per 1 ms, on the last measured position of the selected source. DESIGN CHOICE, log entry 14. -/
def execTrackingLoopUpdate (_ : Report) (s : State) : Host.Outcome State Fault Refusal :=
  .next (if s.num K.tbState = tsLocked then trackLocked s
    else if s.num K.tbState = tsHoldover then trackHoldover s
    else if s.num K.tbState = tsAcquiring then s.set K.tbPhaseError (frameError (sourceDelta s (s.nat K.tbSourceSelected)))
    else s)

/-- HOLDOVER_EXPIRED (R67): u exceeds the budget. A step that waits stands. -/
def execHoldoverExpired (s : State) : Host.Outcome State Fault Refusal :=
  .next (if s.num K.tbState = tsHoldover ∧ s.num K.tbHoldoverBudget * 65536 * secTicks < uncertaintyExact s then
    setTrace false (setTbState tsExpired (trackHoldover s))
  else s)

/-! ### Donor and PPS (R65, R66) -/

/-- Two donor timings agree within 4 ticks. -/
def timingAgrees (s : State) (timing : Int) : Bool :=
  match s.time.donorLast with
  | some t => decide (|frameError (timing - t)| ≤ 4)
  | none => true

/-- The donor correlation runs (R65): on a started channel past its settling length that takes its input from a donor port. -/
def donorRuns (s : State) : Bool :=
  let c := s.nat K.tbDonorChannel
  decide (s.num (K.chRun c) = 1) && decide (chStateNow s c ≠ 1) && decide (s.num (K.chInPort c) < 32) &&
    decide (s.num (K.portRole (s.nat (K.chInPort c))) = 0)

/-- The frame start that a detected PSS symbol start (in local timebase ticks) means: less tb.donor.ssb_offset in NR mode, the channel's
group delay and tb.donor.delay_comp. DEDUCED, log entry 122. -/
def donorFrame (s : State) (start : Nat) : Int :=
  (start : Int) - (if s.num K.tbDonorMode = 0 then s.num K.tbDonorSsbOffset else 0) - delayTicks (s.nat (K.chD (s.nat K.tbDonorChannel))) (classOf s (s.nat K.tbDonorChannel)) - s.num K.tbDonorDelayComp

/-- DONOR_DETECTION (R65, Table 3-3): a detection, or a missed one with a metric below the threshold, counts toward
qualification or loss. -/
def execDonorDetection (metric : Int) (start : Nat) (s : State) : Host.Outcome State Fault Refusal :=
  .next (
    if !donorRuns s then
      let s1 := { s with time := { s.time with donorGood := 0, donorBad := s.time.donorBad + 1 } }
      (if s.num K.tbDonorState = 3 then s1 else s1.set K.tbDonorState 0)
    else
      let timing := donorFrame s start
      let good := decide (s.num K.tbDonorMinMetric ≤ metric)
      let n := if good then (if timingAgrees s timing then s.time.donorGood + 1 else 1) else 0
      let s1 := { s with time := { s.time with donorGood := n, donorBad := if good then 0 else s.time.donorBad + 1,
                                               donorLast := if good then some timing else s.time.donorLast } }
      let s2 := if good then putSource 2 (frameError (-timing)) s1 else s1
      let s3 := if s.num K.tbDonorState = 3 then s2 else s2.set K.tbDonorState (if good then 2 else 1)
      s3.set K.tbDonorMetric metric)

/-- The timestamp of an edge in this tick less tb.pps.delay_comp. -/
def ppsStamp (s : State) : Nat := ((s.time.now : Int) - s.num K.tbPpsDelayComp).toNat

/-- The spacing of an edge at t from the last one lies in 1,228,800,000 ± 12,288 ticks. -/
def spacingGood (s : State) (t : Nat) : Bool :=
  match s.time.ppsLast with
  | some l => decide (l + 1228787712 ≤ t) && decide (t ≤ l + 1228812288)
  | none => false

/-- The label an edge in this tick takes: tb.tod.next when it was written at least 10 ms ago, else the previous label
plus 100 frames. -/
def edgeLabel (s : State) : Option Nat × Bool :=
  let next := (s.time.ppsLabel).map (· + 100 * frameTicks)
  match s.time.todAt with
  | some w => if w + 12288000 ≤ s.time.now then (some (tbTicks (s.nat K.tbTodNext)), true) else (next, false)
  | none => (next, false)

/-- A written label is fresh until an edge takes it; all ones is no label (R55, R66). -/
def todEffect (v : Int) (s : State) : State :=
  let s1 := s.set K.tbTodNext v
  { s1 with time := { s1.time with todAt := if v = noTime then none else some s.time.now } }

/-- The next edge of PPS_IN is of the polarity tb.pps.edge asks for. -/
def ppsActive (s : State) : Bool := decide (s.time.ppsPin = decide (s.num K.tbPpsEdge = 1))

/-- An edge of PPS_IN marks a frame boundary at its stamp (R66); its label, at that stamp, is the source's position (R63). -/
def takeEdge (s : State) : State :=
  let t := ppsStamp s
  let good := spacingGood s t
  let l := edgeLabel s
  let at_ : Int := (s.time.tb : Int) - s.num K.tbPpsDelayComp
  let s1 := { s with time := { s.time with ppsLast := some t, ppsLabel := l.1, todAt := if l.2 then none else s.time.todAt,
                                           ppsGood := if l.1.isNone then 0 else if good then s.time.ppsGood + 1 else 1 } }
  let s2 := putSource 3 (match l.1 with | some x => (x : Int) - at_ | none => frameError (-at_)) s1
  let s3 := if s.time.ppsLast.isSome ∧ !good then s2.inc K.tbPpsMissed 32 else s2
  if s.num K.tbPpsState = 2 then s3 else s3.set K.tbPpsState 1

/-- PPS_EDGE (R66, Table 3-3): PPS_IN changes its level; an edge of the polarity tb.pps.edge asks for is taken. DEDUCED, log entry 121. -/
def execPpsEdge (s : State) : Host.Outcome State Fault Refusal :=
  .next (
    let u : State := { s with time := { s.time with ppsPin := !s.time.ppsPin } }
    if ppsActive s then takeEdge u else u)

/-- A tick of the PPS input (Table 3-9): an edge counts as missing when its tolerance has passed, and the second one missing leaves the input
absent where it does not stand qualified. DEDUCED, log entry 121. -/
def ppsTick (s : State) : State :=
  match s.time.ppsLast with
  | none => s
  | some t =>
    let d := ppsStamp s - t
    if d < 1228800000 ∨ d % 1228800000 ≠ 12289 then s
    else
      let s1 := s.inc K.tbPpsMissed 32
      if ppsAbsent s ∧ s.num K.tbPpsState ≠ 2 then s1.set K.tbPpsState 0 else s1

/-! ### Host steps (R71) -/

/-- A host step is accepted: the selected source is PPS_IN or free-run, on the Newel or with no downstream link Up. -/
def adjustAllowed (s : State) : Bool :=
  decide (s.num K.tbSourceSelected = 3 ∨ s.num K.tbSourceSelected = 4) && (isNewel s || decide (downUp s = []))

/-- A host step waits. -/
def hostStepWaits (s : State) : Bool := match s.time.step with | some p => decide (p.cause = 4) | none => false

/-- TB_ADJUST (R71): a step of Δ; 0 cancels a pending host step, after which an alignment it had replaced is decided again. DEDUCED, log entry 25. -/
def adjustEffect (_ : Who) (v : Val) (s : State) : Reply :=
  if !adjustAllowed s then .no s stRange
  else if v.int = 0 then
    .ok (if !hostStepWaits s then s
      else
        let s1 := cancelStep s
        let back := match s.time.step with | some p => p.back | none => 1
        if s.num K.tbState = tsAcquiring then schedule (sourceDelta s (s.nat K.tbSourceSelected)) 1 back true s1 else s1)
  else .ok (schedule v.int 4 (s.nat K.tbState) false s)

def execTbAdjust (f : Frame) (s : State) : Host.Outcome State Fault Refusal :=
  .next (requestWrite K.tbAdjust f s adjustEffect)

end Sys2Proof.Machine
end

