-- ==== Sys2Proof/Machine/Stairway.lean ====
section
/-! DEFINITION. Stairway links, trees and addresses (R72 to R78), and how accumulators and trackers empty (R270). -/

namespace Sys2Proof.Machine

/-! ### Links (R74) -/

/-- Link states (Table 3-7). -/
abbrev lsDown : Int := 0
abbrev lsAlign : Int := 1
abbrev lsRole : Int := 2
abbrev lsMeasure : Int := 3
abbrev lsUp : Int := 4
abbrev lsMiswired : Int := 5

/-- The state of a link. -/
abbrev linkState (s : State) (l : Nat) : Int := s.num (K.stwLinkLState l)

/-- A link number of the part. -/
abbrev isLink (l : Nat) : Prop := l < 3

/-- Enter a state of Table 3-7: its counters start afresh. -/
def enterLink (l : Nat) (v : Int) (s : State) : State :=
  let x := s.link l
  (s.setLink l { x with since := s.time.now, crc := [], badStart := 0, exchanges := if v = lsMeasure then [] else x.exchanges }).set
    (K.stwLinkLState l) v

/-- What leaving Up brings (R48, R62, R76, R363, Table 15-4): the neighbour's interface reset, the loss of the upstream
source, and the head of a partition. -/
def leaveUp (l : Nat) (s : State) : State :=
  let s1 := resetMaster (3 + l) ((irq 7 s).sticky skStairway)
  if l = 0 then
    let s2 := if s1.num K.stwRole = 2 then s1.set K.stwPartition 1 else s1
    disqualify 1 (s2.setLink 0 { s2.link 0 with goodCells := 0, badCells := 0, deep := false })
  else s1.setLink l { s1.link l with below := [] }

/-- A link goes to Align: from Up it is a retrain. -/
def retrain (l : Nat) (s : State) : State :=
  if linkState s l = lsUp then enterLink l lsAlign (leaveUp l (s.inc (K.stwLinkLRetrains l) 32)) else enterLink l lsAlign s

/-- A link goes Down. -/
def linkDown (l : Nat) (s : State) : State := enterLink l lsDown (if linkState s l = lsUp then leaveUp l s else s)

/-- LINK_SIGNAL_DETECT: Down to Align when the link is enabled, while the Stairway ports are powered (R396). DEDUCED, log entry 100. -/
def execLinkSignalDetect (l : Nat) (s : State) : Host.Outcome State Fault Refusal :=
  .next (if isLink l ∧ linkState s l = lsDown ∧ s.flag (K.stwLinkLEnable l) ∧ s.num (K.pdState 83) = 3 then enterLink l lsAlign s else s)

/-- LINK_ALIGNED: 1,024 good cells in Align. -/
def execLinkAligned (l : Nat) (s : State) : Host.Outcome State Fault Refusal :=
  .next (if isLink l ∧ linkState s l = lsAlign then enterLink l lsRole s else s)

/-- LINK_ALIGN_TIMEOUT: no alignment in 10 ms. -/
def execLinkAlignTimeout (l : Nat) (s : State) : Host.Outcome State Fault Refusal :=
  .next (if isLink l ∧ linkState s l = lsAlign ∧ (s.link l).since + 12288000 ≤ s.time.now then enterLink l lsDown s else s)

/-- The role of a link's own end: 0 upstream, 1 downstream. -/
def ownRole (l : Nat) : Nat := if l = 0 then 0 else 1

/-- LINK_ROLE_EXCHANGE: the far end reports its role, opposite or the same; in Miswired a changed role aligns again. -/
def execLinkRoleExchange (l far : Nat) (s : State) : Host.Outcome State Fault Refusal :=
  .next (if !decide (isLink l) then s
    else
      let old := (s.link l).farRole
      let s1 := s.setLink l { s.link l with farRole := some far }
      if linkState s l = lsRole then enterLink l (if far = ownRole l then lsMiswired else lsMeasure) s1
      else if linkState s l = lsMiswired ∧ old ≠ some far then enterLink l lsAlign s1
      else s1)

/-- The mean of the exchanges kept, at most 1,024. -/
def meanDelay (l : List Int) : Int := if l = [] then 0 else qdiv l.sum l.length

/-- A downstream link comes Up: the DECIDE that replay sends again goes out on it too, where it has not yet gone (R124, R132). DEDUCED, log
entry 84. -/
def sendOwed (l : Nat) (s : State) : State :=
  let send (x : SysTx) (s : State) : State :=
    if x.state = 3 ∧ l ∈ x.owed ∧ isNewel s then s.emit (.cell 0x25 l (msgNums s 1 allParts x.sysId x.sysSeq (tbWord x.launch) 0 0)) else s
  let s1 := forL s.tx.sys send s
  { s1 with tx := { s1.tx with sys := s1.tx.sys.map (fun x => { x with owed := x.owed.filter (fun a => decide (a ≠ l)) }) } }

/-- LINK_MEASURE_DONE: 64 exchanges have completed: Up where the one-way delay lies within 0 to 122,880 ticks, else Down with a Minor
fault. stw.partition returns to 0 when the upstream link comes Up (DESIGN CHOICE, log entry 123). -/
def execLinkMeasureDone (l : Nat) (_ : Report) (s : State) : Host.Outcome State Fault Refusal :=
  .next (if ¬ isLink l ∨ linkState s l ≠ lsMeasure ∨ (s.link l).exchanges.length < 64 then s
    else
      let delay := meanDelay (s.link l).exchanges
      if 0 ≤ delay ∧ delay ≤ 122880 then
        let s1 := (irq 7 s).set (K.stwLinkLDelay l) delay
        sendOwed l (enterLink l lsUp (if l = 0 then s1.set K.stwPartition 0 else s1))
      else enterLink l lsDown (fault 0x05 l 1 (evCode 0x02 4) l (delay % 4294967296).toNat 0 0 s))

/-- LINK_ERROR_RETRAIN: 16 CRC errors within 1 ms or 4 consecutive bad start characters, in Up. -/
def errorsReached (s : State) (l : Nat) : Bool :=
  decide (16 ≤ ((s.link l).crc.filter (fun t => decide (s.time.now ≤ t + msTicks))).length) || decide (4 ≤ (s.link l).badStart)

def execLinkErrorRetrain (l : Nat) (s : State) : Host.Outcome State Fault Refusal :=
  .next (if isLink l ∧ linkState s l = lsUp ∧ errorsReached s l then retrain l s else s)

/-- STW_RETRAIN: a write of 1 retrains the link, or takes a miswired one to Align. A link that is Down stays Down. -/
def retrainEffect (l : Nat) (_ : Who) (v : Val) (s : State) : Reply :=
  .ok (if v.int = 1 ∧ linkState s l ≠ lsDown then retrain l s else s)

def execStwRetrain (l : Nat) (f : Frame) (s : State) : Host.Outcome State Fault Refusal :=
  .next (requestWrite (K.stwLinkLRetrain l) f s (retrainEffect l))

/-! ### Cells (R72 to R76) -/

/-- A cell with a CRC error counts, and is kept toward the 16 of Table 3-7; a time cell also breaks a run of good ones (Table 3-3). -/
def crcError (l : Nat) (time : Bool) (s : State) : State :=
  let x := s.link l
  let x1 := if time then { x with goodCells := 0, badCells := x.badCells + 1 } else x
  (s.setLink l { x1 with crc := s.time.now :: x.crc.take 15 }).inc (K.stwLinkLCrcErrors l) 32

/-- The depth an upstream time cell gives (R76): one more than its sender's, 0xFF past 9. -/
def depthFrom (d : Nat) : Nat := if d < 9 then d + 1 else 0xFF

/-- Take the depth of an upstream cell; a depth past 9 raises a Minor fault when it comes about, and a Stairway source that stands selected is
lost with it. DEDUCED, log entry 27. -/
def takeDepth (d : Nat) (s : State) : State :=
  let n := depthFrom d
  let deep := decide (n = 0xFF)
  let s1 := if deep ∧ !(s.link 0).deep then fault 0x05 0 1 (evCode 0x02 5) d 0 0 0 s else s
  let s2 := (s1.setLink 0 { s1.link 0 with deep := deep }).set K.stwDepth (n : Int)
  if deep ∧ s2.num K.tbSourceSelected = 1 then reselectSource s2 else s2

/-- TIME_CELL (R75, R76): a good cell of the upstream link gives depth, Newel, upstream trace, and, the link being Up, the source's position:
the cell's stamp plus d_down at this tick's arrival (R63). A cell of the last epoch disqualifies the source (R55). A role that has changed
aligns a miswired link again (Table 3-7). A cell in error counts. -/
def execTimeCell (l : Nat) (c : TimeCell) (s : State) : Host.Outcome State Fault Refusal :=
  .next (if !decide (isLink l) then s
    else
      let s0 := s.setLink l { s.link l with badStart := if c.good then 0 else (s.link l).badStart + 1 }
      if !c.crcOk then crcError l true s0
      else
        let x := s0.link l
        let s1 := s0.setLink l { x with goodCells := x.goodCells + 1, badCells := 0, farRole := some c.role, upTrace := c.trace }
        let s2 := if linkState s l = lsMiswired ∧ x.farRole.isSome ∧ x.farRole ≠ some c.role then enterLink l lsAlign s1 else s1
        if l ≠ 0 then s2
        else
          let s3 := (takeDepth c.depth s2).set K.stwNewel (c.newel : Int)
          let s4 := if linkState s 0 = lsUp then
              putSource 1 ((tbTicks c.tb : Int) + s.num (K.stwLinkLDelay 0) - s.time.tb) s3 else s3
          let s5 := if lastEpoch (tbTicks c.tb) then disqualify 1 s4 else s4
          if s5.num K.tbSourceSelected = 1 ∧ s5.num K.tbState = tsLocked then setTrace c.trace s5 else s5)

/-- DELAY_CELL (R75): the upstream end of a link, that is a part at its downstream ports, computes d_down from the four stamps; the downstream
end receives it. The value in use is the mean of the last 1,024. DEDUCED, log entry 124. -/
def execDelayCell (l : Nat) (c : DelayCell) (s : State) : Host.Outcome State Fault Refusal :=
  .next (if !decide (isLink l) then s
    else if !c.crcOk then crcError l false s
    else
      let d := if l = 0 then c.dDown else qdiv ((c.t4 - c.t1) - (c.t3 - c.t2) + s.num (K.stwLinkLAsym l)) 2
      let xs := d :: (s.link l).exchanges.take 1023
      (s.setLink l { s.link l with exchanges := xs }).set (K.stwLinkLDelay l) (clampI (meanDelay xs) 0 0xFFFFFFFF))

/-- CENSUS (R77): what the census has gathered: parts, the addresses below each downstream port, and the addresses that stand twice; those it
can tell itself, in both subtrees or its own below it, are among them. Where this part's address is one, a Major fault is raised when that is
found. DEDUCED, log entry 27. -/
def execCensus (parts : Nat) (subA subB dups : List Nat) (s : State) : Host.Outcome State Fault Refusal :=
  .next (
    let own := s.nat K.stwAddr
    let all := dups ++ subA.filter (fun a => decide (a ∈ subB)) ++ (if own ∈ subA ++ subB then [own] else [])
    let s1 := (s.setLink 1 { s.link 1 with below := subA })
    let s2 := { s1.setLink 2 { s1.link 2 with below := subB } with dups := all }
    let s3 := if own ∈ all ∧ !s.flag K.stwConflict then fault 0x05 0 2 (evCode 0x02 6) own 0 0 0 s2 else s2
    (s3.setFlag K.stwConflict (decide (own ∈ all))).set K.stwCensus (parts : Int))

/-- STEP_ANNOUNCEMENT (R78): on a part that follows Stairway the announced step is held against the announced instant and
repeated downstream; one after its instant is discarded. -/
def execStepAnnouncement (at_ : Nat) (delta : Int) (s : State) : Host.Outcome State Fault Refusal :=
  .next (if s.num K.tbSourceSelected = 1 ∧ s.time.tb ≤ at_ then
    putStep (heir s ⟨at_, delta, 1, 5, s.nat K.tbState, false⟩) s else s)

/-! ### Accumulators -/

/-- Empty accumulator a, and tracker a (R270). -/
def clearAcc (a : Nat) (s : State) : State := ((s.set (K.accSum a) 0).set (K.accFull a) 0).set (K.accCount a) 0

def clearTr (a : Nat) (s : State) : State :=
  (((s.set (K.trMinTime a) 0).set (K.trMaxTime a) 0).set (K.trMax a) (-8388608)).set (K.trMin a) 8388607

end Sys2Proof.Machine
end

