-- ==== Sys2Proof/Machine/Telemetry.lean ====
section
/-! DEFINITION. Telemetry converters (R260 to R275): sequences, injected and calibration conversions, the stages that the
results pass, accumulators and trackers. -/

namespace Sys2Proof.Machine

/-- The record of modulator m. -/
def State.tm (s : State) (m : Nat) : Modulator := Tab.get (fun _ => Modulator.fresh) s.tms m

def State.setTm (s : State) (m : Nat) (x : Modulator) : State := { s with tms := Tab.put (fun _ => Modulator.fresh) m x s.tms }

/-- Modulators 2j and 2j + 1 are interleaved (R266). -/
def paired (s : State) (m : Nat) : Bool := s.flag (K.tmInterleave (m / 2 * 2))

/-- Modulator m is the odd half of a pair: it runs nothing of its own. -/
def oddHalf (s : State) (m : Nat) : Bool := decide (m % 2 = 1) && paired s m

/-- The base period in ticks: 15.625 µs, half of it for a pair. DEDUCED, log entry 34. -/
def basePeriod (s : State) (m : Nat) : Nat := if paired s m then 9600 else 19200

/-- Outputs that the median of an entry takes: 1 while it is off (R262). -/
def medianLen (b : List Byte) : Nat := 2 * teMedian b + 1

/-- Base periods before the decimation of an entry begins: 2 + k + N (R264). -/
def leadLen (b : List Byte) : Nat := 2 + (teSinc b + 3) + teNotch b

/-- The settling length S of an entry in base periods (R264): then its first outputs are discarded until the median is full. -/
def settleLen (b : List Byte) : Nat := leadLen b + teRatio b * medianLen b

/-- The settings that make an entry follow another with no settling. -/
def sameChain (a b : List Byte) : Bool :=
  decide (teInput a = teInput b) && decide (teGain a = teGain b) && decide (teSinc a = teSinc b) && decide (teNotch a = teNotch b) &&
    decide (teRatio a = teRatio b) && decide (teMedian a = teMedian b)

/-- The octets of entry e of modulator m: 16 is the injection entry. -/
def entryBytes (s : State) (m e : Nat) : List Byte := if e = 16 then s.oct (K.tmInjectEntry m) else s.oct (K.tmEntryK m e)

/-- The first valid entry of the sequence from e on, in its cyclic order. -/
def nextValid (s : State) (m e : Nat) : Option Nat :=
  let n := s.nat (K.tmNentries m)
  ((List.range n).map (fun i => (e + i) % n)).find? (fun i => teValid (entryBytes s m i))

/-- Start a conversion of entry e (R264): the chain is reset and settles, unless it follows one with the same chain. -/
def startConv (m kind e : Nat) (s : State) : State :=
  let b := entryBytes s m e
  let x := s.tm m
  let same := match x.last with | some a => sameChain a b | none => false
  let x1 := { x with kind := kind, entry := e, oct := b, outs := 0, raw := Part.zero, cal := Part.zero, block := Part.zero, blockN := 0, ready := [],
                     last := none,
                     endsAt := s.time.now + ((if same then 0 else settleLen b) + teOutputs b * teRatio b) * basePeriod s m }
  let s1 := s.setTm m (if same then { x1 with skip := 0, drop := 0 } else { x1 with base := [], med := [], skip := leadLen b, drop := medianLen b })
  (s1.set (K.tmEntryNow m) (e : Int)).set (K.tmState m) (kind : Int)

/-- The modulator converts nothing. -/
def idleConv (m : Nat) (s : State) : State :=
  let s1 := s.setTm m { s.tm m with kind := 0, last := none }
  (s1.set (K.tmEntryNow m) 0xFF).set (K.tmState m) (if oddHalf s1 m then 4 else if s1.num (K.tmNentries m) = 0 then 0 else 1)

/-- Start the sequence from entry e. DEDUCED, log entry 34. -/
def startSeq (m e : Nat) (s : State) : State :=
  match nextValid s m e with
  | some i => startConv m 1 i (s.setTm m { s.tm m with next := i })
  | none => idleConv m s

/-- The self-test of modulator m runs (R406). -/
def tmTests (s : State) (m : Nat) : Bool := match s.panel.test with | some t => decide (t.block = 1024 + m) | none => false

/-- The conversions of a self-test, served as one injection of 40 ms that routes nothing. -/
def startTest (m : Nat) (s : State) : State :=
  let s1 := s.setTm m { s.tm m with kind := 2, entry := 16, oct := [], outs := 0, last := none, endsAt := s.time.now + 40 * msTicks }
  ((s1.set (K.tmEntryNow m) 16).set (K.tmState m) 2).set (K.tmInject m) 2

/-- Serve what waits (R274): an injection, then a calibration step, then the sequence from its next entry. -/
def serveNext (m : Nat) (s : State) : State :=
  if oddHalf s m then idleConv m s
  else if s.num (K.tmInject m) = 1 ∧ tmTests s m then startTest m s
  else if s.num (K.tmInject m) = 1 then
    (if teValid (entryBytes s m 16) then startConv m 2 16 (s.set (K.tmInject m) 2) else startSeq m (s.tm m).next (s.set (K.tmInject m) 3))
  else match (s.tm m).step with
    | some (e, _) => startConv m 3 e (s.set (K.tmCalStatus m) 2)
    | none => startSeq m (s.tm m).next s

/-- Something that waits may pre-empt what runs at a base-sample boundary: an injection all but an injection, a calibration
step a sequence conversion. -/
def preempts (s : State) (m : Nat) : Bool :=
  let k := (s.tm m).kind
  !oddHalf s m && ((decide (s.num (K.tmInject m) = 1) && decide (k ≠ 2)) || ((s.tm m).step.isSome && decide (k ≤ 1)))

/-- Pre-empt (R274): an interrupted sequence entry restarts later; an interrupted calibration step waits again. -/
def preempt (m : Nat) (s : State) : State :=
  let k := (s.tm m).kind
  let s1 := if k = 1 then (s.inc (K.tmPreempted m) 32).setTm m { s.tm m with next := (s.tm m).entry, last := none } else s
  serveNext m (if k = 3 then s1.set (K.tmCalStatus m) 1 else s1)

/-! ### The conversion chain (R262, R264, R266) -/

def Part.add (a b : Part) : Part := ⟨a.own + b.own, a.odd + b.odd, a.share + b.share⟩

def Part.scale (k : Rat) (a : Part) : Part := ⟨k * a.own, k * a.odd, k * a.share⟩

/-- The value itself. -/
def Part.total (a : Part) : Rat := a.own + a.odd

/-- The median of an odd number of outputs. -/
def medianPart (l : List Part) : Part :=
  (l.find? (fun e => decide ((l.filter (fun x => decide (x.total < e.total))).length ≤ l.length / 2) &&
    decide (l.length / 2 < (l.filter (fun x => decide (x.total ≤ e.total))).length))).getD Part.zero

/-- The base sample of modulator m in this tick: the sinc stage's output, of an interleaved pair by turns that of each half (R266). DEDUCED,
log entry 34. -/
def baseSample (s : State) (m : Nat) : Part :=
  let b := (s.tm m).oct
  let odd := paired s m && decide (s.time.now / 9600 % 2 = 1)
  let v := Config.sincOut (if odd then m + 1 else m) (teInput b) (teGain b) (3 + teSinc b) s.time.now
  if odd then ⟨0, v, 1⟩ else ⟨v, 0, 0⟩

/-- One base period of the conversion of modulator m: notch, decimation and median; what settles is discarded, and what leaves stage 4 waits for its
route (R262, R264). -/
def chainStep (m : Nat) (s : State) : State :=
  let t := s.tm m
  let b := t.oct
  if t.kind = 0 ∨ b = [] then s
  else
    let x := baseSample s m
    let t1 := { t with base := (x :: t.base).take (max 1 (teNotch b)) }
    if 0 < t.skip then s.setTm m { t1 with skip := t.skip - 1 }
    else
      let w := if teNotch b = 0 then x else (t1.base.foldl Part.add Part.zero).scale (1 / (teNotch b : Rat))
      let sum := t.block.add w
      if t.blockN + 1 < teRatio b then s.setTm m { t1 with block := sum, blockN := t.blockN + 1 }
      else
        let med := (sum.scale (1 / (teRatio b : Rat)) :: t.med).take (medianLen b)
        let t2 := { t1 with block := Part.zero, blockN := 0, med := med }
        if 0 < t.drop then s.setTm m { t2 with drop := t.drop - 1 }
        else if t.outs + t.ready.length < teOutputs b then s.setTm m { t2 with ready := t.ready ++ [medianPart med] }
        else s.setTm m t2

/-- What the converters do in a tick: at a base-sample boundary of the tick clock what waits pre-empts, or the chain takes a base sample. -/
def tmTick (s : State) : State :=
  if s.time.now % 9600 ≠ 0 then s
  else forN 24 (fun m s => if s.time.now % basePeriod s m ≠ 0 then s else if preempts s m then preempt m s else chainStep m s) s

/-! ### Accumulators and trackers (R269, R270) -/

/-- Add a code to accumulator a: nothing once it is full. -/
def addAcc (a : Nat) (v : Int) (s : State) : State :=
  if s.flag (K.accFull a) then s
  else
    let n := s.num (K.accCount a) + 1
    ((s.setFlag (K.accFull a) (decide (n = 4294967295))).set (K.accSum a) (s.num (K.accSum a) + v)).set (K.accCount a) n

/-- Show a code to tracker a. -/
def addTr (a : Nat) (v : Int) (s : State) : State :=
  let s1 := if v < s.num (K.trMin a) then (s.set (K.trMinTime a) (s.time.ot : Int)).set (K.trMin a) v else s
  if s1.num (K.trMax a) < v then (s1.set (K.trMaxTime a) (s.time.ot : Int)).set (K.trMax a) v else s1

/-- A 24-bit result code (R263). -/
def clipCode (v : Int) : Int := clampI v (-8388608) 8388607

/-- The integer next to a value in codes (DEDUCED, log entry 5). -/
def nearCode (r : Rat) : Int := qdiv r.num r.den

/-- Stage 5: the offset estimate for the entry's gain is subtracted, each modulator's own from its own share (R262, R266). -/
def stage5 (s : State) (m : Nat) (b : List Byte) (x : Part) : Part :=
  ⟨x.own - (1 - x.share) * s.num (K.tmOffsetG m (teGain b)), x.odd - x.share * s.num (K.tmOffsetG (m + 1) (teGain b)), x.share⟩

/-- Stage 6: (x - O) K with the values of entry e, each modulator's own on its own share, as a result code (R263, R266, R273). -/
def stage6 (s : State) (m e : Nat) (x : Part) : Int :=
  clipCode (nearCode (((x.own - (1 - x.share) * s.num (K.tmCalOffsetK m e)) * s.num (K.tmCalGainK m e) +
    (x.odd - x.share * s.num (K.tmCalOffsetK (m + 1) e)) * s.num (K.tmCalGainK (m + 1) e)) / 65536))

/-- Route a result code as the entry says. -/
def route (b : List Byte) (v : Int) (s : State) : State :=
  let s1 := if teAccEn b then addAcc (teAcc b) v s else s
  if teTrEn b then addTr (teTracker b) v s1 else s1

/-- TM_OUTPUT (R269): the next output of the conversion of modulator m that has left stage 4 passes stages 5 and 6 and goes to its routes; one of a
calibration conversion goes to none. -/
def execTmOutput (m : Nat) (_ _ : Report) (s : State) : Host.Outcome State Fault Refusal :=
  .next (
    let t := s.tm m
    match t.ready with
    | [] => s
    | x :: rest =>
      if t.kind = 0 ∨ teOutputs t.oct ≤ t.outs then s
      else
        let v := stage5 s m t.oct x
        let s1 := s.setTm m { t with outs := t.outs + 1, ready := rest, raw := t.raw.add x, cal := t.cal.add v }
        if t.kind = 3 then s1 else route t.oct (stage6 s m t.entry v) s1)

/-! ### The end of a conversion (R267, R271, R273) -/

/-- The mean over a conversion's outputs of what the modulator itself, and the odd half of a pair, brought to a sum; none of one that brought
nothing. -/
def ownMean (t : Modulator) (x : Part) : Option Int :=
  if (t.outs : Rat) = t.raw.share then none else some (nearCode (x.own / (t.outs - t.raw.share)))

def oddMean (t : Modulator) (x : Part) : Option Int := if t.raw.share = 0 then none else some (nearCode (x.odd / t.raw.share))

/-- A zero-reference conversion replaces the estimates for its gain, unless they are frozen (R271). -/
def takeOffset (m : Nat) (s : State) : State :=
  let t := s.tm m
  if !teZref t.oct then s
  else
    let put (h : Nat) (v : Option Int) (s : State) : State :=
      match v with
      | some o => if s.flag (K.tmOffsetFreeze h) then s else s.set (K.tmOffsetG h (teGain t.oct)) o
      | none => s
    put (m + 1) (oddMean t t.raw) (put m (ownMean t t.raw) s)

/-- K of step 2 (R273), Q16.16: tm.cal_point times 2^23 over F - Z; none outside 0.8 to 1.25. -/
def calGain (s : State) (m : Nat) (z f : Int) : Option Int :=
  if f - z = 0 then none
  else
    let n := s.num (K.tmCalPoint m) * 8388608
    if 0 < f - z ∧ 4 * (f - z) * 65536 ≤ 5 * n ∧ 4 * n ≤ 5 * (f - z) * 65536 then some (qdiv n (f - z)) else none

/-- A finished calibration step of entry e. -/
def finishStep (m e step : Nat) (s : State) : State :=
  let t := s.tm m
  let f := (ownMean t t.cal).getD 0
  let fb := oddMean t t.cal
  if step = 1 then
    (s.setTm m { t with step := none, zero := Tab.put (fun _ => none) e (some f) t.zero,
                        zeroB := if fb = none then t.zeroB else Tab.put (fun _ => none) e fb t.zeroB }).set (K.tmCalStatus m) 3
  else
    let z := (Tab.get (fun _ => none) t.zero e).getD 0
    let zb := (Tab.get (fun _ => none) t.zeroB e).getD 0
    let k := calGain s m z f
    let kb := match fb with | some v => calGain s m zb v | none => some 0
    let s1 := s.setTm m { t with step := none }
    match k, kb with
    | some g, some gb =>
      let s2 := (s1.set (K.tmCalOffsetK m e) z).set (K.tmCalGainK m e) g
      let s3 := if fb = none then s2 else (s2.set (K.tmCalOffsetK (m + 1) e) zb).set (K.tmCalGainK (m + 1) e) gb
      s3.set (K.tmCalStatus m) 4
    | _, _ => s1.set (K.tmCalStatus m) 5

/-- TM_CONVERSION_END (R267, R274): the conversion has given its outputs and its time is over; what waits comes next. -/
def execTmConversionEnd (m : Nat) (s : State) : Host.Outcome State Fault Refusal :=
  .next (
    let t := s.tm m
    if t.kind = 0 ∨ s.time.now < t.endsAt ∨ t.outs < teOutputs t.oct then s
    else
      let s1 := (takeOffset m s).inc (K.tmConversions m) 64
      let s2 := if t.kind = 1 then s1.setTm m { s1.tm m with next := (t.entry + 1) % max 1 (s.nat (K.tmNentries m)), last := some t.oct, kind := 0 }
        else if t.kind = 2 then (s1.setTm m { s1.tm m with last := none, kind := 0 }).set (K.tmInject m) 3
        else match t.step with
          | some (e, st) => finishStep m e st (s1.setTm m { s1.tm m with last := none, kind := 0 })
          | none => s1.setTm m { s1.tm m with last := none, kind := 0 }
      serveNext m s2)

/-- A change in effect of the sequence, an entry or the interleaving of modulator m (R268): its sequence conversion is
abandoned and entry 0 starts; an injected or calibration conversion runs to its end first. -/
def tmRestart (m : Nat) (s : State) : State :=
  let s1 := s.setTm m { s.tm m with next := 0, last := none }
  if oddHalf s1 m then idleConv m s1
  else if (s1.tm m).kind = 2 ∨ (s1.tm m).kind = 3 then s1
  else startSeq m 0 s1

/-- TM_OVERRANGE (R272): input beyond 1.1 FS during a conversion of modulator m. -/
def execTmOverrange (m : Nat) (s : State) : Host.Outcome State Fault Refusal :=
  .next (if (s.tm m).kind = 0 ∨ s.bit (K.tmOvr m) (s.tm m).entry then s
    else
      let e := (s.tm m).entry
      (fault 0x10 m 0 (evCode 0x0A 0) m e 0 0 (s.sticky skTmOvr)).setBit (K.tmOvr m) e)

/-! ### Commands -/

/-- tm.inject (R274): the injection waits for the next base-sample boundary. -/
def tmInjectEffect (m : Nat) (_ : Who) (_ : Val) (s : State) : Reply :=
  if s.num (K.tmInject m) = 1 ∨ s.num (K.tmInject m) = 2 then .no s stBusy else .ok (s.set (K.tmInject m) 1)

/-- TM_INJECT (R274). -/
def execTmInject (m : Nat) (f : Frame) (s : State) : Host.Outcome State Fault Refusal :=
  .next (requestWrite (K.tmInject m) f s (tmInjectEffect m))

/-- tm.cal (R273): step 1 or 2 waits as a calibration conversion; step 3 restores the defaults at once. -/
def tmCalEffect (m : Nat) (_ : Who) (v : Val) (s : State) : Reply :=
  let e := v.int.toNat / 256 % 32
  let st := v.int.toNat % 4
  if st = 3 then .ok ((s.set (K.tmCalOffsetK m e) 0).set (K.tmCalGainK m e) 65536)
  else if (s.tm m).step.isSome then .no s stBusy
  else if st = 2 ∧ Tab.get (fun _ => none) (s.tm m).zero e = none then .no s stRange
  else .ok ((s.setTm m { s.tm m with step := some (e, st) }).set (K.tmCalStatus m) 1)

/-- TM_CAL_ZERO (R273). -/
def execTmCalZero (m : Nat) (f : Frame) (s : State) : Host.Outcome State Fault Refusal :=
  .next (requestWrite (K.tmCal m) f s (tmCalEffect m))

/-- TM_CAL_GAIN (R273). -/
def execTmCalGain (m : Nat) (f : Frame) (s : State) : Host.Outcome State Fault Refusal :=
  .next (requestWrite (K.tmCal m) f s (tmCalEffect m))

/-- TM_CAL_RESTORE (R273). DEDUCED, log entry 34. -/
def execTmCalRestore (m : Nat) (f : Frame) (s : State) : Host.Outcome State Fault Refusal :=
  .next (requestWrite (K.tmCal m) f s (tmCalEffect m))

/-- tm.ovr_clear (R272): the bits of the mask clear. -/
def tmOvrClearEffect (m : Nat) (_ : Who) (v : Val) (s : State) : Reply :=
  .ok (s.set (K.tmOvr m) (maskOff (s.nat (K.tmOvr m)) v.int.toNat : Nat))

/-- TM_OVR_CLEAR (R272). -/
def execTmOvrClear (m : Nat) (f : Frame) (s : State) : Host.Outcome State Fault Refusal :=
  .next (requestWrite (K.tmOvrClear m) f s (tmOvrClearEffect m))

/-- acc.clear and tr.clear (R270). -/
def accClearEffect (a : Nat) (_ : Who) (_ : Val) (s : State) : Reply := .ok (clearAcc a s)

def trClearEffect (a : Nat) (_ : Who) (_ : Val) (s : State) : Reply := .ok (clearTr a s)

/-- ACC_CLEAR (R270). -/
def execAccClear (a : Nat) (f : Frame) (s : State) : Host.Outcome State Fault Refusal :=
  .next (requestWrite (K.accClear a) f s (accClearEffect a))

/-- TR_CLEAR (R270). -/
def execTrClear (a : Nat) (f : Frame) (s : State) : Host.Outcome State Fault Refusal :=
  .next (requestWrite (K.trClear a) f s (trClearEffect a))

end Sys2Proof.Machine
end

