-- ==== Sys2Proof/Machine/Domains.lean ====
section
/-! DEFINITION. Power domains (R395, R396): slices, sub-pools and core services, their holders, power-up and the slice
check. -/

namespace Sys2Proof.Machine

/-- States of pd.state (Table 19-7). -/
abbrev dsOff : Int := 0
abbrev dsPowering : Int := 1
abbrev dsChecking : Int := 2
abbrev dsOn : Int := 3
abbrev dsRequest : Int := 4
abbrev dsThermal : Int := 5
abbrev dsFailed : Int := 6

/-- The holders of domain d beside pd.hold: of a slice, or of a sub-pool (kept above the slices). -/
def domHolders (s : State) (d : Nat) : List Holder := Tab.get (fun _ => []) s.flt.slice d

def putHolders (d : Nat) (l : List Holder) (s : State) : State :=
  { s with flt := { s.flt with slice := Tab.put (fun _ => []) d l s.flt.slice } }

/-- Something holds domain d off. -/
def heldOff (s : State) (d : Nat) : Bool := s.flag (K.pdHold d) || decide (domHolders s d ≠ [])

/-- The state of a domain that is held off. -/
def offState (s : State) (d : Nat) : Int :=
  if s.flag (K.pdHold d) then dsRequest else if .thermal ∈ domHolders s d then dsThermal else dsOff

/-- Ticks from release to power: 10 µs, or 1 ms for a core service. -/
def powerTicks (d : Nat) : Nat := if d < 80 then 12288 else msTicks

/-- Put the tick at which domain d goes on. -/
def putDomDue (d : Nat) (v : Option Nat) (s : State) : State := { s with domDue := Tab.put (fun _ => none) d v s.domDue }

/-- What the loss of power of domain d does. -/
def domainLost (d : Nat) (s : State) : State :=
  if d < 64 then s
  else if d < 80 then poolOff (d - 64) s
  else if d = 80 then
    let s1 := { s with gal := { s.gal with buf := [], written := [] } }
    if s1.num K.galState = gsIdle then s1 else setGal gsIdle (freeReceivers s1)
  else if d = 81 then s.set K.galDriveState 0
  else if d = 82 then (forN 32 (fun e s => if s.num (K.dmaState e) = 1 then (irq (8 + e) s).set (K.dmaState e) 4 else s) s).set K.hostDmaLoad 0
  else forN 3 (fun l s => if s.num (K.stwLinkLState l) = 0 then s else linkDown l s) s

/-- Domain d follows its holders in this tick: off with its first, powering up after its last. -/
def reviewDomain (d : Nat) (s : State) : State :=
  let on := decide (s.num (K.pdState d) ∈ [dsPowering, dsChecking, dsOn, dsFailed])
  if heldOff s d then
    (if on then (putDomDue d none (domainLost d s)).set (K.pdState d) (offState s d) else s.set (K.pdState d) (offState s d))
  else if on then s
  else (putDomDue d (some (s.time.now + powerTicks d)) s).set (K.pdState d) dsPowering

/-- Hold domain d off for a holder, and let the holder go. -/
def holdDomain (d : Nat) (h : Holder) (s : State) : State := reviewDomain d (putHolders d (addHolder h (domHolders s d)) s)

def releaseDomain (d : Nat) (h : Holder) (s : State) : State := reviewDomain d (putHolders d (dropHolder h (domHolders s d)) s)

/-- Shedding slice sl by the thermal manager: its started channels hold their thermal mute (R314). -/
def thermalShed (d : Nat) (s : State) : State :=
  let s1 := holdDomain d .thermal s
  if d < 64 then forL (startedIn s1 d) (raiseCh · cmThermal) s1 else s1

/-- Sources that no longer act: their state is Clear. -/
def spent (s : State) (h : Holder) : Bool :=
  match h with | .source w => decide (s.num (stateKey w) = 0) | _ => false

/-- Slice sl is powered and checked: every started channel resets, and the mutes that its loss had raised fall (R315,
R323), but for the thermal mute of a channel whose canceller is still Shed (R203); a failed check holds them in Chrysalis. DEDUCED, log entry 40. -/
def sliceUp (sl : Nat) (s : State) : State :=
  forL (startedIn s sl) (fun c s =>
    let s0 := syncReset c s
    let s1 := if s0.num (K.cxState c) = 3 then s0 else releaseCh c cmThermal s0
    let gone := (Tab.get (fun _ => []) s1.flt.chan c).filter (spent s1)
    reviewChrysalis c (forL gone (fun h s => unholdChan c h s) s1)) s

/-- DOMAIN_POWERED (R396): a released domain is powered after its delay; a slice then checks its engine memory. -/
def execDomainPowered (d : Nat) (s : State) : Host.Outcome State Fault Refusal :=
  .next (match Tab.get (fun _ => none) s.domDue d with
    | some t =>
      if s.time.now < t ∨ s.num (K.pdState d) ≠ dsPowering then s
      else if d < 64 then (putDomDue d (some (s.time.now + 2048)) s).set (K.pdState d) dsChecking
      else if d < 80 then poolOn (d - 64) ((putDomDue d none s).set (K.pdState d) dsOn)
      else (putDomDue d none s).set (K.pdState d) dsOn
    | none => s)

/-- SLICE_CHECK (R396): the check of slice sl ends, well or with a Major fault and its channels in Chrysalis. DEDUCED, log entry 40. -/
def execSliceCheck (sl : Nat) (ok : Bool) (s : State) : Host.Outcome State Fault Refusal :=
  .next (match Tab.get (fun _ => none) s.domDue sl with
    | some t =>
      if 63 < sl ∨ s.time.now < t ∨ s.num (K.pdState sl) ≠ dsChecking then s
      else if ok then sliceUp sl ((putDomDue sl none s).set (K.pdState sl) dsOn)
      else sliceUp sl (fault 0x01 0 2 0x1203 sl 0 0 0 ((putDomDue sl none s).set (K.pdState sl) dsFailed))
    | none => s)

/-- pd.state of a domain that follows a port (Table 6-1): its receiver, transmitter or synthesiser. -/
def portDomainState (s : State) (d : Nat) : Int :=
  let p := if d < 116 then d - 84 else if d < 148 then d - 116 else (d - 148) / 2
  let st := s.num (K.portState p)
  if st = psOff ∨ (st = psSleep ∧ d < 148) then dsOff else dsOn

end Sys2Proof.Machine
end

