-- ==== Sys2Proof/Machine/Banks.lean ====
section
/-! DEFINITION. The journal in the MRAM banks (R119 to R121): the octets of a record and its CRC, the regions and headers of each bank, what
a write leaves in them, and what the part reads of them. -/

namespace Sys2Proof.Machine

/-! ### The octets of a record (R120) -/

/-- One value of an ACCEPT or PREPARE body (Table 5-6); its octets are padded to 4. -/
def valueBytes (e : Nat × Val) : List Byte :=
  let b := match Dict.rowOf e.1 with
    | some r => encodeVal r.ty e.2
    | none => match e.2 with | .oct b => b | .num _ => []
  leBytes 2 ((e.1 / 256 : Nat) : Int) ++ leBytes 1 ((e.1 % 256 : Nat) : Int) ++ leBytes 1 0 ++ leBytes 2 (b.length : Int) ++ b ++
    List.replicate ((b.length + 3) / 4 * 4 - b.length) 0

/-- The bitmap of participants: bit j of octet i is address 8 i + j. -/
def bitmapBytes (parts : List Nat) : List Byte :=
  (List.range 64).map (fun i => BitVec.ofNat 8 (((List.range 8).map (fun j => if 8 * i + j ∈ parts then 2 ^ j else 0)).sum))

/-- The body of a record (Table 5-6). -/
def JRec.body (r : JRec) : List Byte :=
  let values := leBytes 8 (tbWord r.launch : Int) ++ leBytes 2 (r.staged.length : Int) ++ leBytes 2 0 ++ r.staged.flatMap valueBytes
  match r.kind with
  | 1 => values
  | 2 => values
  | 3 => leBytes 1 (r.outcome : Int) ++ leBytes 3 0 ++ leBytes 8 (tbWord r.launch : Int) ++ bitmapBytes r.parts
  | 4 => leBytes 1 (r.outcome : Int) ++ leBytes 3 0
  | 5 => leBytes 2 (r.marks.length : Int) ++ leBytes 2 0 ++
      r.marks.flatMap (fun m => leBytes 2 (m.1 : Int) ++ leBytes 2 0 ++ leBytes 4 (m.2 : Int))
  | 6 => leBytes 1 (r.copy : Int) ++ leBytes 3 0 ++ leBytes 4 (r.covered : Int)
  | 7 => leBytes 4 (r.covered : Int)
  | _ => []

/-- Octets 0 to 27 of the header (Table 5-5). -/
def JRec.head (r : JRec) : List Byte :=
  leBytes 2 (r.magic : Int) ++ leBytes 1 (r.kind : Int) ++ leBytes 1 (r.flags : Int) ++ leBytes 4 (r.length : Int) ++ leBytes 4 (r.seq : Int) ++
    leBytes 4 (r.number : Int) ++ leBytes 4 (r.sysSeq : Int) ++ leBytes 4 (r.sysId : Int) ++ leBytes 4 (r.count : Int)

/-- One bit of the reflected CRC-32 of IEEE 802.3. -/
def crcBit (c : Nat) : Nat := if c % 2 = 1 then (c / 2) ^^^ 0xEDB88320 else c / 2

/-- The CRC-32 of IEEE 802.3. -/
def crc32 (b : List Byte) : Nat :=
  (b.foldl (fun c x => crcBit (crcBit (crcBit (crcBit (crcBit (crcBit (crcBit (crcBit (c ^^^ x.toNat))))))))) 0xFFFFFFFF) ^^^ 0xFFFFFFFF

/-- The magic number of a record. -/
abbrev recMagic : Nat := 0x524A

/-- A record as it is written: magic, body length and CRC over all else. -/
def JRec.sealed (r : JRec) : JRec :=
  let x := { r with magic := recMagic, length := r.body.length }
  { x with crc := crc32 (x.head ++ x.body) }

/-- A record read back passes its check. -/
def JRec.valid (r : JRec) : Bool :=
  decide (r.magic = recMagic) && decide (r.length = r.body.length) && decide (r.crc = crc32 (r.head ++ r.body))

/-- Octets of a value in a record: its header of 6 and its own, padded to 4. -/
def valueOctets (e : Nat × Val) : Nat :=
  let n := match e.2 with | .num _ => (match Dict.rowOf e.1 with | some r => r.ty.size | none => 0) | .oct b => b.length
  6 + (n + 3) / 4 * 4

/-- The body length of a record. -/
def bodyLength (r : JRec) : Nat :=
  match r.kind with
  | 1 => 12 + (r.staged.map valueOctets).sum
  | 2 => 12 + (r.staged.map valueOctets).sum
  | 3 => 76
  | 4 => 4
  | 5 => 4 + 8 * r.marks.length
  | 6 => 8
  | 7 => 4
  | _ => 0

/-- Blocks of 64 octets a record takes (R120). -/
def recBlocks (r : JRec) : Nat := (32 + bodyLength r + 63) / 64

/-! ### The regions of a bank (Table 5-4) -/

/-- Offset and size of the header, of image copies 0 and 1, and of the ring in each bank. -/
abbrev headerRegion : Nat × Nat := (0x00800000, 0x1000)

abbrev imageRegion (copy : Nat) : Nat × Nat := if copy = 0 then (0x00801000, 0xFF000) else (0x00900000, 0x100000)

abbrev ringRegion : Nat × Nat := (0x00A00000, 0x400000)

/-- Blocks of the ring. -/
abbrev ringBlocks : Nat := ringRegion.2 / 64

/-- The offset in its bank of block n of the ring, which runs round. -/
def ringOffset (n : Nat) : Nat := ringRegion.1 + 64 * (n % ringBlocks)

/-- A bank marked failed in either header copy. -/
def Bank.failed (b : Bank) : Bool := b.head0.failed || b.head1.failed

/-- Write both header copies. -/
def Bank.setHead (h : JHead) (b : Bank) : Bank := { b with head0 := h, head1 := h }

/-- A record behind the ring's end. -/
def Bank.add (r : JRec) (b : Bank) : Bank :=
  ({ b with ring := b.ring ++ [r] }).setHead { b.head0 with fin := (b.head0.fin + recBlocks r) % ringBlocks, count := r.count }

/-- Reclaim the records before the first that is kept. -/
def Bank.reclaim (keep : JRec → Bool) (b : Bank) : Bank :=
  let l := b.ring.dropWhile (fun r => !keep r)
  let gone := ((b.ring.take (b.ring.length - l.length)).map recBlocks).sum
  ({ b with ring := l }).setHead { b.head0 with start := (b.head0.start + gone) % ringBlocks }

/-- The image copy of the latest checkpoint, and the other one written. -/
def Bank.image (b : Bank) : Image := if b.head0.latest1 then b.img1 else b.img0

def Bank.putSpare (i : Image) (b : Bank) : Bank := if b.head0.latest1 then { b with img0 := i } else { b with img1 := i }

/-- Records put into the recorder's areas of a bank, and both copies of its header (R336, R337). -/
def Bank.addLog (circ : List (Nat × Rec)) (perm : List Rec) (h : LHead) (b : Bank) : Bank := { b with circ := circ, perm := perm, log0 := h, log1 := h }

/-- The bank by its number. -/
def Journal.bank (j : Journal) (b : Nat) : Bank := if b = 0 then j.bank0 else j.bank1

def Journal.putBank (b : Nat) (x : Bank) (j : Journal) : Journal := if b = 0 then { j with bank0 := x } else { j with bank1 := x }

/-- Write every bank that has not failed (R121, R125). -/
def Journal.onBanks (f : Bank → Bank) (j : Journal) : Journal :=
  { j with bank0 := if j.bank0.failed then j.bank0 else f j.bank0, bank1 := if j.bank1.failed then j.bank1 else f j.bank1 }

/-! ### What the part reads of the journal -/

/-- The bank that is read: bank 0 unless it has failed; none when both have. -/
def Journal.live (j : Journal) : Option Bank := if !j.bank0.failed then some j.bank0 else if !j.bank1.failed then some j.bank1 else none

/-- The bank the log is read from: the one in service, or with both failed the one that was written last. -/
def Journal.logBank (j : Journal) : Bank :=
  match j.live with
  | some b => b
  | none => if j.bank0.log0.next < j.bank1.log0.next then j.bank1 else j.bank0

/-- Write counts that a VOID record names. -/
def voided (l : List JRec) : List Nat := (l.filter (fun r => decide (r.kind = 7))).map (fun r => r.covered)

/-- The records of the ring, oldest first, but for those a VOID record discards. -/
def Journal.ring (j : Journal) : List JRec :=
  match j.live with
  | some b => b.ring.filter (fun r => decide (r.count ∉ voided b.ring))
  | none => []

/-- The write count of the last record. -/
def Journal.count (j : Journal) : Nat := match j.live with | some b => b.head0.count | none => max j.bank0.head0.count j.bank1.head0.count

/-- The image of the latest checkpoint. -/
def Journal.latest (j : Journal) : Image := match j.live with | some b => b.image | none => Image.fresh

/-- Octets of the live ring. -/
def ringUsed (s : State) : Nat := match s.jr.live with | some b => 64 * (b.ring.map recBlocks).sum | none => 0

/-- Bank b is marked failed in its headers. -/
def markBank (b : Nat) (failed : Bool) (s : State) : State :=
  let x := s.jr.bank b
  { s with jr := s.jr.putBank b (x.setHead { x.head0 with failed := failed }) }

/-- The record as it stands in the banks: its write count, the sequence number it takes, bit 0 of its flags while one bank has failed, and its
CRC (R120). -/
def ringRec (s : State) (r : JRec) : JRec :=
  { r with count := s.jr.count + 1, flags := if s.oneFailed then 1 else 0,
           seq := if r.kind = 1 ∨ (r.kind = 4 ∧ r.outcome = 1) then s.nat K.txNextSeq else 0 }.sealed

/-- A record enters the ring of every bank that has not failed. -/
def addRec (x : JRec) (s : State) : State := { s with jr := s.jr.onBanks (Bank.add x) }

end Sys2Proof.Machine
end

