-- ==== Sys2Proof/Machine/Thermal.lean ====
section
/-! DEFINITION. Thermal sensing and throttling (R308 to R317), and the drift of synthesiser temperatures (R153). -/

namespace Sys2Proof.Machine

/-! ### Sensors (R308, R309) -/

/-- Sensor n is in use: its zone is not 0xFF. -/
def sensorUsed (s : State) (n : Nat) : Bool := decide (s.num (K.thZone n) ≠ 0xFF)

/-- The neighbours of sensor n with their offsets in 0.01 °C (Table 14-5). -/
def neighbours (s : State) (n : Nat) : List (Nat × Int) :=
  (List.range 4).filterMap (fun i =>
    let m := s.nat (K.thNbrs n) / 256 ^ i % 256
    if m < 80 then some (m, toSigned 2 (s.nat (K.thOffsets n) / 65536 ^ i % 65536)) else none)

/-- The reading of external sensor n from its accumulator (R309). -/
def externalRaw (s : State) (n : Nat) : Int :=
  let e := n - 48
  if s.num (K.thExtAcc e) = 0xFF then 0
  else scaledTemp (accMean s (s.nat (K.thExtAcc e))) (s.num (K.thExtScale e)) (s.num (K.thExtOffset e))

/-- The raw readings of an evaluation: raws gives those of the 48 on-die front ends, Q16.16. -/
def readSensors (raws : List Int) (s : State) : State :=
  forN 80 (fun n s =>
    if n < 48 then s.set (K.thRaw n) ((raws[n]?).getD (s.num (K.thRaw n)))
    else if !sensorUsed s n then s
    else
      let c := s.num (K.accCount (s.nat (K.thExtAcc (n - 48))))
      let t := s.th
      let moved := decide (s.num (K.thExtAcc (n - 48)) ≠ 0xFF) && decide (c ≠ Tab.get (fun _ => 0) t.seen n)
      let s1 := if moved then { s with th := { t with seen := Tab.put (fun _ => 0) n c t.seen, seenAt := Tab.put (fun _ => 0) n s.time.now t.seenAt } } else s
      s1.set (K.thRaw n) (externalRaw s n)) s

/-- The reading lies within -55.0 to 150.0 °C. -/
def rawInRange (s : State) (n : Nat) : Bool := decide (-3604480 ≤ s.num (K.thRaw n)) && decide (s.num (K.thRaw n) ≤ 9830400)

/-- An external sensor has had no new output for 1 s. -/
def staleSensor (s : State) (n : Nat) : Bool := decide (48 ≤ n) && decide (Tab.get (fun _ => 0) s.th.seenAt n + secTicks ≤ s.time.now)

/-- The sensor fails at once (R309). DEDUCED, log entry 55. -/
def failsAtOnce (s : State) (n : Nat) : Bool := !rawInRange s n || staleSensor s n

/-- The sensor has failed: status 1 or 2. -/
def sensorFailed (s : State) (n : Nat) : Bool := decide (s.num (K.thStatus n) = 1) || decide (s.num (K.thStatus n) = 2)

/-! ### Cross-checking (R310) -/

/-- pred(s, n) in 1/6,553,600 °C, so that no rounding enters a comparison. -/
def prediction (s : State) (e : Nat × Int) : Int := 100 * s.num (K.thRaw e.1) + 65536 * e.2

/-- Neighbours valid in the previous check. -/
def validNeighbours (s : State) (n : Nat) : List (Nat × Int) := (neighbours s n).filter (fun e => s.th.valid.testBit e.1)

/-- Two of those words differ by more than th.xcheck_tol. -/
def apart (s : State) (a b : Int) : Bool := decide (s.num K.thXcheckTol * 65536 < |a - b|)

/-- Sensor n disagrees in a check: with more than half of its valid neighbours, whose predictions lie together. -/
def disagrees (s : State) (n : Nat) : Bool :=
  let nb := validNeighbours s n
  let off := nb.filter (fun e => apart s (100 * s.num (K.thRaw n)) (prediction s e))
  decide (2 ≤ nb.length) && decide (nb.length < 2 * off.length) &&
    off.all (fun a => off.all (fun b => !apart s (prediction s a) (prediction s b)))

/-- Consecutive disagreeing checks of sensor n after this one, and consecutive good checks of a failed one. -/
def badAfter (s : State) (n : Nat) : Nat := if disagrees s n then Tab.get (fun _ => 0) s.th.bad n + 1 else 0

def goodAfter (s : State) (n : Nat) : Nat :=
  if rawInRange s n ∧ !disagrees s n then Tab.get (fun _ => 0) s.th.good n + 1 else 0

/-- Whether sensor n stands failed after the first part of an evaluation, which completes a check or does not. -/
def failedAfter (s : State) (check : Bool) (n : Nat) : Bool :=
  failsAtOnce s n ||
    (if sensorFailed s n then !(check && decide (s.nat K.thRecoverCount ≤ goodAfter s n))
     else check && decide (s.nat K.thXcheckCount ≤ badAfter s n))

/-- Offsets of sensor n learned in a check: its reading less that of each valid neighbour, in 0.01 °C. -/
def learned (s : State) (n : Nat) : Nat :=
  ((List.range 4).map (fun i =>
    let m := s.nat (K.thNbrs n) / 256 ^ i % 256
    let old := s.nat (K.thOffsets n) / 65536 ^ i % 65536
    let d := clampI (qdiv (100 * (s.num (K.thRaw n) - s.num (K.thRaw m))) 65536) (-32768) 32767
    (if m < 80 ∧ s.th.valid.testBit m ∧ s.th.valid.testBit n then (d % 65536).toNat else old) * 65536 ^ i)).sum

/-- Set every offset as a write of 1 to th.learn asked. DEDUCED, log entry 55. -/
def learnOffsets (s : State) : State :=
  let l := (List.range 80).map (fun n => learned s n)
  { forN 80 (fun n s => s.set (K.thOffsets n) ((l[n]?).getD 0 : Nat)) s with th := { s.th with learn := false } }

/-- The counters and the validity that a check leaves for the next one. -/
def closeCheck (failed : List Nat) (s : State) : State :=
  let t := s.th
  let bad := (List.range 80).foldl (fun b n => Tab.put (fun _ => 0) n (if n ∈ failed then 0 else badAfter s n) b) t.bad
  let good := (List.range 80).foldl (fun g n => Tab.put (fun _ => 0) n (if n ∈ failed then goodAfter s n else 0) g) t.good
  let valid := ((List.range 80).filter (fun n => sensorUsed s n && decide (n ∉ failed))).foldl bitSet 0
  let s1 := if t.learn then learnOffsets s else s
  { s1 with th := { s1.th with bad := bad, good := good, valid := valid } }

/-! ### Substitution (R311) -/

/-- Valid neighbours as they stand: used and not failed. -/
def standing (s : State) (failed : List Nat) (n : Nat) : List (Nat × Int) :=
  (neighbours s n).filter (fun e => sensorUsed s e.1 && decide (e.1 ∉ failed))

/-- The hottest prediction, Q16.16. -/
def hottest (s : State) (l : List (Nat × Int)) : Option Int := ((l.map (prediction s)).max?).map (fun v => qdiv v 100)

/-- The status of a sensor that stands valid. -/
def validStatus (s : State) (n : Nat) : Int := if 2 ≤ (validNeighbours s n).length then 0 else 4

/-- A sensor enters status 1 or 2 from another: counted when it fails, recorded, and its level kept for escalation. -/
def enterStatus (n : Nat) (v : Int) (s : State) : State :=
  let old := s.num (K.thStatus n)
  if old = v then s
  else
    let s0 := s.sticky skSensor
    let s1 := if old = 1 ∨ old = 2 then s0 else s0.inc (K.thFails n) 32
    let s2 := if v = 1 then fault 0x13 n 1 (evCode 0x0D 0) n 0 0 0 s1
      else fault 0x13 n 2 (evCode 0x0D 1) n 0 0 0
        { s1 with th := { s1.th with lostAt := Tab.put (fun _ => 0) n (s.nat (K.thSensorLevel n)) s1.th.lostAt } }
    s2.set (K.thStatus n) v

/-- Status and value in use of every sensor. DEDUCED, log entry 55. -/
def substitute (failed : List Nat) (s : State) : State :=
  forN 80 (fun n t =>
    if !sensorUsed s n then t.set (K.thStatus n) 3
    else if n ∈ failed then
      match hottest s (standing s failed n) with
      | some v => (enterStatus n 1 t).set (K.thTemp n) v
      | none => enterStatus n 2 t
    else (t.set (K.thStatus n) (validStatus s n)).set (K.thTemp n) (s.num (K.thRaw n))) s

/-! ### Levels (R312) -/

/-- Threshold and hysteresis of a level in a zone, 0.1 °C. -/
def levelSet (s : State) (z l : Nat) : Int × Int :=
  if l = 1 then (s.num (K.thWarn z), s.num (K.thWarnHyst z))
  else if l = 2 then (s.num (K.thThrottle z), s.num (K.thThrottleHyst z))
  else (s.num (K.thShutdown z), s.num (K.thShutdownHyst z))

/-- The highest level whose threshold a value reaches. -/
def reachedLevel (s : State) (z : Nat) (temp : Int) : Nat :=
  if (levelSet s z 3).1 * 65536 ≤ 10 * temp then 3
  else if (levelSet s z 2).1 * 65536 ≤ 10 * temp then 2
  else if (levelSet s z 1).1 * 65536 ≤ 10 * temp then 1 else 0

/-- Fall from level l while the value lies below its threshold less its hysteresis. -/
def fallFrom (s : State) (z : Nat) (temp : Int) : Nat → Nat
  | 0 => 0
  | l + 1 =>
    if 10 * temp < ((levelSet s z (l + 1)).1 - (levelSet s z (l + 1)).2) * 65536 then fallFrom s z temp l else l + 1

/-- The level of sensor n after this evaluation; agreed: a check completes in which it does not disagree. -/
def sensorLevel (s : State) (n : Nat) (agreed : Bool) : Nat :=
  let z := s.nat (K.thZone n)
  let l := s.nat (K.thSensorLevel n)
  let up := reachedLevel s z (s.num (K.thTemp n))
  if !sensorUsed s n then 0
  else if l < up then up
  else
    let down := fallFrom s z (s.num (K.thTemp n)) l
    if s.num (K.thStatus n) = 0 ∧ !agreed then l else down

/-- Sensor a governs before b: a higher level, then a hotter value, then a lower number. -/
def governsBefore (s : State) (a b : Nat) : Bool :=
  let la := s.num (K.thSensorLevel a)
  let lb := s.num (K.thSensorLevel b)
  decide (lb < la) || (decide (la = lb) && (decide (s.num (K.thTemp b) < s.num (K.thTemp a)) ||
    (decide (s.num (K.thTemp a) = s.num (K.thTemp b)) && decide (a < b))))

/-- The governing sensor. -/
def governing (s : State) : Nat :=
  ((List.range 80).filter (sensorUsed s)).foldl (fun g n => if governsBefore s n g then n else g) 0

/-- What the sensors alone give: the highest level, raised by those in status 2 (escalation). -/
def aloneLevel (s : State) : Nat :=
  ((List.range 80).filter (sensorUsed s)).foldl (fun l n =>
    max l (max (s.nat (K.thSensorLevel n)) (if s.num (K.thStatus n) = 2 then min 3 (Tab.get (fun _ => 0) s.th.lostAt n + 1) else 0))) 0

/-! ### Enforcement (R313 to R315) -/

/-- THROT_N is asserted while a throttle request is outstanding. -/
def State.throtPin (s : State) : Bool := s.flag K.thRequest

/-- Enforcement neither advances nor retreats: a hold stands whose sensors alone would give a level below Throttle. -/
def enforceFrozen (s : State) : Bool := s.flag K.thHeld && decide (s.th.alone < 2)

/-- Show B. -/
def putBackoff (b : Nat) (s : State) : State :=
  ({ s with th := { s.th with backoff := b } }).set K.thBackoff (qdiv ((b : Int) * 65536) 10000)

/-- Give B to the gain engine of every started channel; it holds its last value while substituted sensor data is in use (R28, Table 9-1). -/
def giveBackoff (s : State) : State :=
  if s.flag K.thHeld then s
  else forL s.started (fun c s => s.set (K.geThermalBackoff c) (s.num K.thBackoff)) { s with th := { s.th with given := s.num K.thBackoff } }

/-- Re-power the item shed last. -/
def repowerLast (s : State) : State :=
  match s.th.shed with
  | [] => s
  | d :: rest =>
    let s1 := releaseDomain d .thermal { s with th := { s.th with shed := rest, stepAt := s.time.now } }
    s1.set K.thShedCount (rest.length : Nat)

/-- Enforcement is over when nothing is shed and B is 0. -/
def settleRetreat (s : State) : State :=
  if s.num K.thEnforce = 4 ∧ s.th.shed = [] ∧ s.th.backoff = 0 then s.set K.thEnforce 0 else s

/-- Retreat begins: the item shed last comes back in the same evaluation. -/
def beginRetreat (s : State) : State :=
  let s1 := { s with th := { s.th with graceEnd := none } }
  if s1.num K.thEnforce = 2 ∨ s1.num K.thEnforce = 3 then settleRetreat (repowerLast (s1.set K.thEnforce 4))
  else if s1.num K.thEnforce = 1 then s1.set K.thEnforce 0 else s1

/-- B stands at th.backoff_max. -/
def fullBackoff (s : State) : Bool := decide (100 * s.nat K.thBackoffMax ≤ s.th.backoff)

/-- The event record of an entry into Throttle goes to every master as NOTIFY. -/
def throttleNotify (s : State) : State :=
  let r : Rec := ⟨evCode 0x0D 5, 0, s.nat K.recPowerCycles, s.time.ot, 7, s.nat K.thGoverning, 2, 0, 0⟩
  forL (reachable s) (notifyOne r) (irq 3 (enterRec r s))

/-- Entry into Throttle (Table 14-2): during a retreat enforcement advances again with no new grace. -/
def enterThrottle (s : State) : State :=
  let s1 := fault 0x14 0 1 (evCode 0x0D 6) (s.nat K.thGoverning) 2 0 0 (throttleNotify (s.inc K.thThrottles 32))
  let s2 := s1.set K.thRequest 1
  if s2.num K.thEnforce = 4 then
    ({ s2 with th := { s2.th with stepAt := s2.time.now } }).set K.thEnforce (if fullBackoff s2 then 3 else 2)
  else
    ({ s2 with th := { s2.th with graceEnd := some (s2.time.now + s2.nat K.thGrace * secTicks) } }).set K.thEnforce 1

/-- PA rail r is shut down: whatever runs or waits to restart. -/
def shutRail (r : Nat) (s : State) : State :=
  let st := s.num (K.rlState r)
  if (1 ≤ st ∧ st ≤ 5) ∨ st = rsFaultOff then railOffRamp r s else s

/-- Entry into Shutdown (Table 14-2). -/
def enterShutdown (s : State) : State :=
  let s1 := forN 32 (fun p s => raisePort p pmThermal s) (irq 3 s)
  let s2 := forN 8 shutRail s1
  fault 0x14 0 3 (evCode 0x0D 7) (s.nat K.thGoverning) 3 0 0 (s2.inc K.thShutdowns 32)

/-- Entry into Warning. -/
def enterWarning (s : State) : State :=
  fault 0x14 0 0 (evCode 0x0D 3) (s.nat K.thGoverning) 1 0 0 (event (evCode 0x0D 2) (s.nat K.thGoverning) 1 0 0 s)

/-- The entry actions of a rise from level a to level b. -/
def riseActions (a b : Nat) (s : State) : State :=
  let s0 := s.sticky skThermal
  if b = 1 then enterWarning s0
  else
    let s1 := if a < 2 then enterThrottle s0 else s0
    if b = 3 then enterShutdown s1 else s1

/-- The actions of a fall from level a to level b. -/
def fallActions (a b : Nat) (s : State) : State :=
  let s1 := if a = 3 then forN 32 (fun p s => releasePort p pmThermal s) s else s
  let s2 := if 2 ≤ a ∧ b < 2 then beginRetreat (s1.set K.thRequest 0) else s1
  if a = 1 ∧ b = 0 then event (evCode 0x0D 4) (s.nat K.thGoverning) 0 0 0 s2 else s2

/-- th.level becomes v. -/
def putLevel (v : Nat) (s : State) : State :=
  let a := s.nat K.thLevel
  let s1 := s.set K.thLevel (v : Nat)
  if a < v then riseActions a v s1 else if v < a then fallActions a v s1 else s1

/-- th.level from what the sensors alone give and the substitution hold (R312). -/
def settleLevel (s : State) : State :=
  let alone := aloneLevel s
  let s1 := { s with th := { s.th with alone := alone } }
  putLevel (match s1.th.hold with | some (_, l, _) => max alone l | none => alone) s1

/-- One step of enforcement or retreat (R314, R315). -/
def enforceStep (s : State) : State :=
  if enforceFrozen s then s
  else if s.num K.thEnforce = 2 then
    let b := min (s.th.backoff + s.nat K.thBackoffRate) (100 * s.nat K.thBackoffMax)
    let s1 := putBackoff (max s.th.backoff b) s
    if fullBackoff s1 then ({ s1 with th := { s1.th with stepAt := s1.time.now } }).set K.thEnforce 3 else s1
  else if s.num K.thEnforce = 4 ∧ s.th.shed = [] ∧ s.th.stepAt ≠ s.time.now then
    settleRetreat (putBackoff (s.th.backoff - s.nat K.thBackoffRate) s)
  else s

/-! ### The drift of synthesisers (R153) -/

/-- The sensor nearest to the synthesisers of port p (R308). -/
def nearSensor (p : Nat) : Nat := 24 + 5 * (p / 8) + p % 8 / 2

/-- port.temp. -/
def portTemp (s : State) (p : Nat) : Int := s.num (K.thTemp (nearSensor p))

/-- A synthesiser of port p has drifted beyond port.cal_temp_delta since its last oscillator calibration. -/
def drifted (s : State) (p : Nat) : Bool :=
  let far (tx : Bool) := decide (s.num (K.portCalTempDelta p) < |portTemp s p - s.num (K.synCalTemp tx p)|)
  (far false || far true) && !(calRuns s p && decide (s.num (K.calKind p) = 3))

/-- Make the oscillator calibrations of drifted ports pending. -/
def calDrift (s : State) : State :=
  forN 32 (fun p s => if drifted s p ∧ !s.bit (K.calPending p) 3 then addPending p 3 s else s) s

/-! ### Evaluations (R316) -/

/-- The governing sensor fails while th.level is Throttle or Shutdown: the substitution hold begins. A sensor that recovers
ends its hold. -/
def holdLevel (failed : List Nat) (s : State) : State :=
  let g := s.nat K.thGoverning
  let begins := decide (g ∈ failed) && !sensorFailed s g && decide (2 ≤ s.nat K.thLevel)
  let ends := match s.th.hold with | some (n, _, _) => decide (n ∉ failed) | none => false
  if begins then
    ({ s with th := { s.th with hold := some (g, s.nat K.thLevel, s.time.now + s.nat K.thSubstHold * secTicks) } }).set K.thHeld 1
  else if ends then ({ s with th := { s.th with hold := none } }).set K.thHeld 0
  else s

/-- Give every sensor its level. -/
def putLevels (l : List Nat) (s : State) : State :=
  let s1 := forN 80 (fun n s => s.set (K.thSensorLevel n) ((l[n]?).getD 0 : Nat)) s
  s1.set K.thGoverning (governing s1 : Nat)

/-- THERMAL_EVALUATION (R316): readings, the results of a completing cross-check, substitution, sensor levels, th.level, and
one step of enforcement or retreat; every tenth evaluation completes a check. raws are the 48 on-die readings. DEDUCED, log entry 55. -/
def execThermalEvaluation (raws : List Int) (s : State) : Host.Outcome State Fault Refusal :=
  .next (
    let s0 := readSensors raws s
    let check := decide ((s.th.evals + 1) % 10 = 0)
    let failed := (List.range 80).filter (fun n => sensorUsed s0 n && failedAfter s0 check n)
    let agreed := (List.range 80).map (fun n => check && !disagrees s0 n)
    let s1 := substitute failed (holdLevel failed s0)
    let s2 := if check then closeCheck failed s1 else s1
    let levels := (List.range 80).map (fun n => sensorLevel s2 n ((agreed[n]?).getD false))
    let s3 := calDrift (giveBackoff (enforceStep (settleLevel (putLevels levels s2))))
    { s3 with th := { s3.th with evals := s.th.evals + 1 } })

/-- THERMAL_GRACE_END (R314): enforcement begins with backoff. -/
def execThermalGraceEnd (s : State) : Host.Outcome State Fault Refusal :=
  .next (match s.th.graceEnd with
    | some t =>
      if s.num K.thEnforce = 1 ∧ t ≤ s.time.now ∧ 2 ≤ s.num K.thLevel then
        ({ s with th := { s.th with graceEnd := none } }).set K.thEnforce 2
      else s
    | none => s)

/-- The next item of th.shed_order whose domain is on. -/
def nextShed (s : State) : Option Nat :=
  ((s.oct K.thShedOrder).map (fun b => b.toNat)).find? (fun d => !heldOff s d)

/-- th.step_time has passed since the last shed or retreat step. -/
def stepDue (s : State) : Bool := decide (s.th.stepAt + s.nat K.thStepTime * secTicks ≤ s.time.now)

/-- THERMAL_SHED_STEP (R314): the next item is powered off. -/
def execThermalShedStep (s : State) : Host.Outcome State Fault Refusal :=
  .next (if s.num K.thEnforce = 3 ∧ 2 ≤ s.num K.thLevel ∧ !enforceFrozen s ∧ stepDue s then
    match nextShed s with
    | some d =>
      let s1 := thermalShed d { s with th := { s.th with shed := d :: s.th.shed, stepAt := s.time.now } }
      s1.set K.thShedCount (s.th.shed.length + 1 : Nat)
    | none => s
  else s)

/-- THERMAL_RETREAT_STEP (R315): the next item comes back. -/
def execThermalRetreatStep (s : State) : Host.Outcome State Fault Refusal :=
  .next (if s.num K.thEnforce = 4 ∧ !enforceFrozen s ∧ stepDue s then settleRetreat (repowerLast s) else s)

/-- THERMAL_SUBST_HOLD_END (R312, R313): the hold ends and th.level is what the sensors give. -/
def execThermalSubstHoldEnd (s : State) : Host.Outcome State Fault Refusal :=
  .next (match s.th.hold with
    | some (_, _, t) =>
      if t ≤ s.time.now then giveBackoff (settleLevel (({ s with th := { s.th with hold := none } }).set K.thHeld 0)) else s
    | none => s)

/-- The effect of a write of 1 to th.learn: RANGE while th.level is above Normal (R310). -/
def thLearnEffect (_ : Who) (_ : Val) (s : State) : Reply :=
  if s.num K.thLevel = 0 then .ok { s with th := { s.th with learn := true } } else .no s stRange

/-- TH_LEARN (R310). -/
def execThLearn (f : Frame) (s : State) : Host.Outcome State Fault Refusal :=
  .next (requestWrite K.thLearn f s thLearnEffect)

end Sys2Proof.Machine
end

