-- ==== Sys2Proof/Machine/Faults.lean ====
section
/-! DEFINITION. The end of fault states: the Major hold, clears of sources, and the sticky word (R324, R328). -/

namespace Sys2Proof.Machine

/-- A source word of Table 15-2. DEDUCED, log entry 57. -/
def sourceListed (w : Nat) : Bool := decide (w % 1024 < faultInstances (w / 1024)) && decide (w < 65536)

/-- Release what a source holds (R324): the mute of its channel or port, and a slice that it shed, whose channels let
their mutes go when it is powered again. -/
def releaseSource (w : Nat) (s : State) : State :=
  let kind := w / 1024
  let inst := w % 1024
  if kindChannel kind then
    if .source w ∈ domHolders s (inst / 8) then releaseDomain (inst / 8) (.source w) s else unholdChan inst (.source w) s
  else match portOf kind inst with
    | some p => unholdPort p (.source w) s
    | none => s

/-- The source returns to Clear, its reactions released. -/
def clearSource (w : Nat) (s : State) : State :=
  let s1 := { s with flt := { s.flt with holdEnd := Tab.put (fun _ => none) w none s.flt.holdEnd } }
  setSource w 0 (if s.num (stateKey w) = 2 ∨ s.num (stateKey w) = 3 then releaseSource w s1 else s1)

/-- A clear on request also empties the escalation times. -/
def clearFully (w : Nat) (s : State) : State :=
  clearSource w { s with flt := { s.flt with times := Tab.put (fun _ => []) w [] s.flt.times } }

/-- FAULT_MAJOR_HOLD_END (R324): flt.major_hold seconds of operating time with no further fault of the source. -/
def execFaultMajorHoldEnd (w : Nat) (s : State) : Host.Outcome State Fault Refusal :=
  .next (match Tab.get (fun _ => none) s.flt.holdEnd w with
    | some t => if s.num (stateKey w) = 2 ∧ t ≤ s.time.ot then clearSource w s else s
    | none => s)

/-- The effect of flt.clear: RANGE for a Sealed source and for a word that names none (R324). DEDUCED, log entry 57. -/
def fltClearEffect (_ : Who) (v : Val) (s : State) : Reply :=
  let w := v.int.toNat
  if !sourceListed w ∨ s.num (stateKey w) = 4 then .no s stRange else .ok (clearFully w s)

/-- FLT_CLEAR (R324). -/
def execFltClear (f : Frame) (s : State) : Host.Outcome State Fault Refusal :=
  .next (requestWrite K.fltClear f s fltClearEffect)

/-- Source words with a state or escalation times, ascending. -/
def busySources (s : State) : List Nat :=
  let st := (listed s.obj (fun k v => decide (0x758000 ≤ k) && decide (k < 0x75C000) && decide (v ≠ 0))).map
    (fun k => let i := k / 256 - 0x7580; (i / 2) * 1024 + (i % 2) * 256 + k % 256)
  firsts (st ++ s.flt.times.map Prod.fst)

/-- The effect of flt.clear_all: every source not Sealed (R324). -/
def fltClearAllEffect (_ : Who) (_ : Val) (s : State) : Reply :=
  .ok (forL ((busySources s).filter (fun w => decide (s.num (stateKey w) ≠ 4))) clearFully s)

/-- FLT_CLEAR_ALL (R324). -/
def execFltClearAll (f : Frame) (s : State) : Host.Outcome State Fault Refusal :=
  .next (requestWrite K.fltClearAll f s fltClearAllEffect)

/-- Sticky bits whose cause is a condition that stands now: they stay 1 (R328). DEDUCED, log entry 56. -/
def stickyPresent (s : State) : Nat :=
  (if s.num K.thLevel ≠ 0 then 2 ^ skThermal else 0) + (if (List.range 80).any (sensorFailed s) then 2 ^ skSensor else 0) +
    (if (List.range 24).any (fun m => decide (s.num (K.tmOvr m) ≠ 0)) then 2 ^ skTmOvr else 0) +
    (if s.flag K.recLoglost then 2 ^ skLoglost else 0) + (if s.bothFailed then 2 ^ skJournalFailed else 0) +
    (if s.oneFailed then 2 ^ skJournalDegraded else 0) + (if s.flag K.prMutepin then 2 ^ skMutePin else 0) +
    (if s.tx.slots.any (fun e => match e.2 with | some t => decide (t.state = 7) | none => false) then 2 ^ skInDoubt else 0)

/-- The sticky word after a clear of a mask. DEDUCED, log entry 56. -/
def stickyAfter (s : State) (mask : Nat) : Nat := maskOff (s.nat K.fltSticky) mask ||| (s.nat K.fltSticky &&& stickyPresent s)

/-- The effect of flt.sticky_clear (R328). -/
def stickyClearEffect (_ : Who) (v : Val) (s : State) : Reply := .ok (s.set K.fltSticky (stickyAfter s v.int.toNat : Nat))

/-- FLT_STICKY_CLEAR (R328). -/
def execFltStickyClear (f : Frame) (s : State) : Host.Outcome State Fault Refusal :=
  .next (requestWrite K.fltStickyClear f s stickyClearEffect)

end Sys2Proof.Machine
end

