-- ==== Sys2Proof/Machine/Recorder.lean ====
section
/-! DEFINITION. The event recorder (R331 to R343): flushes of the volatile buffer, failure of the banks, power fail, and
reading the log. -/

namespace Sys2Proof.Machine

/-! ### Failure of a bank (R121, R125, R126, R339, R340) -/

/-- The console line of a buffered record. -/
def streamRec (e : Nat × Rec) (s : State) : State :=
  s.emit (.line "!rec" [e.1, e.2.pcc, e.2.ot, e.2.code, e.2.source, e.2.flags, e.2.p0, e.2.p1, e.2.p2, e.2.p3] [])

/-- Both banks have failed: the buffered records go to the console, and LOG_LOST enters next (R126, R340). DEDUCED, log entry 59. -/
def loseLog (b : Nat) (s : State) : State :=
  let s1 := forL s.log.buffer streamRec (((s.sticky skJournalFailed).sticky skLoglost).set K.recLoglost 1)
  let s2 := fault 0x15 0 3 0x0004 s.log.buffer.length 0 0 0 s1
  fault 0x06 b 3 (evCode 0x04 0) b 0 0 0 s2

/-- Mark bank b failed: writer 0 is the recorder, 1 the journal. DEDUCED, log entry 59. -/
def bankFail (b writer : Nat) (s : State) : State :=
  if !s.bankOk b then s
  else
    let s1 := ((s.sticky skJournalDegraded).set (if b = 0 then K.jrBank0State else K.jrBank1State) 1).set K.jrDegraded 1 |> markBank b true
    let s2 := fault (if writer = 0 then 0x15 else 0x06) (if writer = 0 then 0 else b) 2 0x0003 b writer 0 0 s1
    if s2.bothFailed then loseLog b s2 else s2

/-- What the write checks of one record or flush come to: bad is the number of failed checks of each bank. A failed check
is retried twice; the third failure marks the bank. -/
def writeChecks (writer bad0 bad1 : Nat) (s : State) : State :=
  let n0 := if s.bankOk 0 then min bad0 2 else 0
  let n1 := if s.bankOk 1 then min bad1 2 else 0
  let s1 := s.incBy K.jrRetries 32 (n0 + n1 : Nat)
  let s2 := if 3 ≤ bad0 then bankFail 0 writer s1 else s1
  if 3 ≤ bad1 then bankFail 1 writer s2 else s2

/-! ### Flushes (R337, R338) -/

/-- REC_FLUSH_PERIODIC (R337): 10 s after the last flush ended. -/
def execRecFlushPeriodic (s : State) : Host.Outcome State Fault Refusal :=
  .next (if s.log.lastFlushEnd + 10 * secTicks ≤ s.time.now then startFlush s else s)

/-- A record that starts a flush is still buffered. DEDUCED, log entry 60. -/
def flushOwed (s : State) : Bool :=
  decide (384 ≤ s.log.buffer.length) || s.log.buffer.any (fun e => decide (2 ≤ e.2.cls) && decide (e.2.cls ≤ 4))

/-- The effect of a write of 1 to rec.flush: a flush starts, or, where one that it did not start runs, when that one has ended (R49, R337).
DEDUCED, log entry 110. -/
def recFlushEffect (_ : Who) (_ : Val) (s : State) : Reply :=
  match s.log.flushing with
  | some _ => .ok { s with log := { s.log with flushCmd := 1 } }
  | none =>
    let s1 := startFlush s
    .ok { s1 with log := { s1.log with flushCmd := if s1.log.flushing.isSome then 2 else 0 } }

/-- What a flush that has ended leaves: rec.flush, where it waited, starts its own. -/
def flushNext (s : State) : State :=
  let cmd := s.log.flushCmd
  let s1 := if flushOwed s ∨ cmd = 1 then startFlush s else s
  { s1 with log := { s1.log with flushCmd := if cmd = 1 ∧ s1.log.flushing.isSome then 2 else 0 } }

/-- REC_FLUSH (R337). -/
def execRecFlush (f : Frame) (s : State) : Host.Outcome State Fault Refusal :=
  .next (requestWrite K.recFlush f s recFlushEffect)

/-- A record as it stands in the banks: bit 5 while one bank has failed. -/
def storedRec (s : State) (e : Nat × Rec) : Nat × Rec :=
  (e.1, if s.oneFailed then { e.2 with flags := bitSet e.2.flags 5 } else e.2)

/-- Slots of the circulating area (Table 16-5). -/
abbrev circSlots : Nat := 122880

/-- Durable records, oldest first, and the permanent area, as they are read from the banks. -/
def State.durable (s : State) : List (Nat × Rec) := s.jr.logBank.circ

def State.perm (s : State) : List Rec := s.jr.logBank.perm

/-- The first n buffered records become durable in every bank that has not failed, and leave the buffer; permanent ones are copied, and the headers
are written (R336, R337, R339). DESIGN CHOICE, log entry 132. -/
def makeDurable (n : Nat) (s : State) : State :=
  let out := (s.log.buffer.take n).map (storedRec s)
  let keep := s.durable ++ out
  let newest := match keep.getLast? with | some e => e.1 | none => 0
  let perm := s.perm ++ (out.filter (fun e => e.2.flags.testBit 4)).map Prod.snd
  let head : LHead := ⟨if keep = [] then 0 else newest + 1, perm.length, s.time.ot, s.nat K.recPowerCycles, if s.flag K.recPermFull then 1 else 0⟩
  let s1 := { s with jr := s.jr.onBanks (Bank.addLog (keep.filter (fun e => decide (newest < e.1 + circSlots))) perm head),
                     log := { s.log with buffer := s.log.buffer.drop n, flushing := none, lastFlushEnd := s.time.now } }
  (s1.set K.recPermUsed (perm.length : Nat)).set K.recBuffered (s1.log.buffer.length : Nat)

/-- The log is restored when a bank is back in service and the buffer has been flushed to it (R340). DEDUCED, log entry 76. -/
def restoreLog (n : Nat) (s : State) : State :=
  if s.flag K.recLoglost then
    fault 0x15 0 0 0x0005 (if s.bankOk 0 then 0 else 1) n 0 0 (s.set K.recLoglost 0)
  else s

/-- The measured duration of a power-fail flush, in µs. -/
def pfailDone (s : State) : State :=
  match s.log.pfailAt with
  | some t => if s.log.lastFlushEnd < t then s.set K.recPfailFlush (qdiv (10 * ((s.time.now - t : Nat) : Int)) 12288) else s
  | none => s

/-- The mark buffer of the power-and-sense die: it holds a mark until the EXEC record that carries it is durable (R122). -/
def markBuffer (s : State) : List (Nat × Nat) := (s.jr.writing.filter (fun r => decide (r.kind = 5))).flatMap (fun r => r.marks) ++ s.jr.marks

/-- The EXEC marks go into the ring with the flush of a power fail or of a reset (R122, R338). -/
def flushMarks (s : State) : State :=
  if markBuffer s = [] ∨ s.bothFailed then s
  else
    let s1 := addRec (ringRec s { kind := 5, marks := markBuffer s }) s
    { s1 with jr := { s1.jr with writing := s1.jr.writing.filter (fun r => decide (r.kind ≠ 5)), marks := [], markSince := none } }

/-- REC_FLUSH_DONE (R337): the header write is durable in a bank that has not failed. With both failed, the records stay
buffered. -/
def execRecFlushDone (bad0 bad1 : Nat) (s : State) : Host.Outcome State Fault Refusal :=
  .next (match s.log.flushing with
    | some n =>
      let s1 := writeChecks 0 bad0 bad1 s
      if s1.bothFailed then { s1 with log := { s1.log with flushing := none, flushCmd := 0 } }
      else flushNext (restoreLog n (makeDurable n (pfailDone (if s1.log.pfailAt.isSome then flushMarks s1 else s1))))
    | none => s)

/-- RECORD_ENTER_AFTER_WAIT (R337): the first record that waits enters once there is room. -/
def execRecordEnterAfterWait (s : State) : Host.Outcome State Fault Refusal :=
  .next (match s.log.waiting with
    | r :: rest =>
      if s.log.buffer.length < 512 ∨ s.bothFailed then
        let s1 := placeRec r { s with log := { s.log with waiting := [] } }
        { s1 with log := { s1.log with waiting := rest ++ s1.log.waiting } }
      else s
    | [] => s)

/-! ### Reading the log (R343) -/

/-- Records that can be read, by number. -/
def readable (s : State) : List (Nat × Rec) := s.durable ++ s.log.buffer

/-- rec.oldest: the oldest number still readable. -/
def recOldestNow (s : State) : Nat := match (readable s).head? with | some e => e.1 | none => s.nat K.recNext

/-- A read of rec.record by a flow: the record at its cursor, which advances; RANGE outside rec.oldest to rec.next. -/
def recRecordReply (flow : Nat) (s : State) : Reply :=
  let x := s.master flow
  match (readable s).find? (fun e => decide (e.1 = x.cursor)) with
  | some e => ⟨s.setMaster flow { x with cursor := x.cursor + 1 }, some stOk, e.2.bytes⟩
  | none => .no s stRange

/-- A read of rec.perm_record: the slot at the permanent cursor, which advances. -/
def recPermReply (flow : Nat) (s : State) : Reply :=
  let x := s.master flow
  match s.perm[x.permCursor]? with
  | some r => ⟨s.setMaster flow { x with permCursor := x.permCursor + 1 }, some stOk, r.bytes⟩
  | none => .no s stRange

end Sys2Proof.Machine
end

