-- ==== Sys2Proof/Machine/Datapath.lean ====
section
/-! DEFINITION. The sample paths in one tick: receive correction and over-range (R144, R145), a channel from its input to its outputs (R173 to
R187), the canceller (R197 to R206), the TX summation of a port (R187), PAEN and the mutes that the core sees (R142, R207). What a stage gives
is exact where the spec gives its law, and free where it gives a response alone (DESIGN CHOICE,
log entry 41). -/

namespace Sys2Proof.Machine

/-! ### Samples -/

/-- A converter code: 14 bits, two's complement. -/
def code14 (v : Int) : Int := (v + 8192) % 16384 - 8192

/-- A code is over range (R145). -/
def codeOver (v : Int) : Bool := decide (v = 8191) || decide (v = -8192)

/-- A sample is over range in I or Q. -/
def overRange (x : IQ) : Bool := codeOver x.1 || codeOver x.2

/-- The range of a channel sample (R173), saturating. -/
def clamp18 (v : Int) : Int := max (-131072) (min 131071 v)

/-- The code nearest to a sum in channel units; a tie goes either way (R187). -/
def nearestCode (v : Int) : Int := if v % 16 < 8 then v / 16 else if 8 < v % 16 then v / 16 + 1 else qdiv v 16

/-- A port code in channel units: bits 17:4 (R173). -/
def ofCode (x : IQ) : IQ := (16 * x.1, 16 * x.2)

/-- A sample times a real factor, brought to an integer. -/
def scaled (k : Rat) (x : IQ) : IQ := (Config.narrow (k * x.1), Config.narrow (k * x.2))

/-- n / f of a and the rest of b (R184). -/
def mixed (n f : Nat) (a b : IQ) : IQ :=
  let w (x y : Int) : Int := Config.narrow (((n : Rat) * x + ((f : Rat) - n) * y) / f)
  (w a.1 b.1, w a.2 b.2)

/-- A phase advanced by an offset in kHz, modulo 1,228,800 (R175). -/
def turn (phase : Nat) (offset : Int) : Nat := (((phase : Int) + offset) % 1228800).toNat

/-! ### Complex numbers of the canceller -/

def Cpx.zero : Cpx := ⟨0, 0⟩

def Cpx.add (a b : Cpx) : Cpx := ⟨a.re + b.re, a.im + b.im⟩

def Cpx.mul (a b : Cpx) : Cpx := ⟨a.re * b.re - a.im * b.im, a.re * b.im + a.im * b.re⟩

def Cpx.conj (a : Cpx) : Cpx := ⟨a.re, -a.im⟩

def Cpx.scale (k : Rat) (a : Cpx) : Cpx := ⟨k * a.re, k * a.im⟩

/-- The squared magnitude. -/
def Cpx.power (a : Cpx) : Rat := a.re * a.re + a.im * a.im

def ofIQ (x : IQ) : Cpx := ⟨x.1, x.2⟩

def sumCpx (l : List Cpx) : Cpx := l.foldl Cpx.add Cpx.zero

/-! ### Ports: receive path and PAEN (R142, R144, R145) -/

/-- Remember since which tick PAEN of port p has been high. -/
def paenTick (p : Nat) (s : State) : State :=
  let w := s.wingOf p
  let v := if paenNow s p then some (w.paenFrom.getD s.time.now) else none
  if v = w.paenFrom then s else s.setWing p { w with paenFrom := v }

/-- The receive path of port p in a tick: converter code, DC tracker, IQ correction. The tracker holds where it does not run, on an over-range
sample and in the tick after (R144). -/
def receive (p : Nat) (s : State) : State :=
  let w := s.wingOf p
  if s.num (K.portState p) ∉ [psListen, psRelay, psChrysalis] then
    (if w.hist = [] ∧ !w.ovr ∧ !w.ovrBefore then s else s.setWing p { w with rx := (0, 0), ovr := false, ovrBefore := w.ovr, hist := [] })
  else
    let a := Config.adc p s.time.now (Tab.get (fun _ => 0) s.calStore (4 * p))
    let x : IQ := (code14 a.1, code14 a.2)
    let ov := overRange x
    let track (h v : Int) : Int := code14 (Config.dcStep (s.nat (K.portRxDcTrack p)) 1 h v)
    let s1 := if ov || w.ovr then s
      else (s.set (K.rxDcI p) (track (s.num (K.rxDcI p)) x.1)).set (K.rxDcQ p) (track (s.num (K.rxDcQ p)) x.2)
    let hist := ((x.1 - s1.num (K.rxDcI p), x.2 - s1.num (K.rxDcQ p)) :: w.hist).take 8
    let y := Config.iqCorrect (Tab.get (fun _ => 0) s1.calStore (4 * p + 2)) hist
    let s2 := if ov then s1.inc (K.rxOvrCount p) 32 else s1
    s2.setWing p { w with rx := (code14 y.1, code14 y.2), ovr := ov, ovrBefore := w.ovr, hist := hist }

/-! ### The input of a channel (R174, R180, R182, R184) -/

/-- The engine of the channel's slice runs. -/
def sliceRuns (s : State) (c : Nat) : Bool := decide (s.num (K.pdState (c / 8)) = 3)

/-- The input sample of channel c in this tick, in channel units; none when it is not valid. -/
def inputOf (s : State) (c : Nat) : Option IQ :=
  let p := s.nat (K.chInPort c)
  if rxValid s p then some (ofCode (s.wingOf p).rx) else none

/-- A channel sample emerges in this tick: on the grid of the last synchronising reset (R180). -/
def emits (s : State) (c : Nat) : Bool :=
  decide ((s.chan c).grid ≠ s.time.now) && decide (((s.time.now : Int) - (s.chan c).grid) % (s.nat (K.chD c) : Int) = 0)

/-- The memory of a filter of channel c. -/
def memOf (s : State) (c i : Nat) : Int := Tab.get (fun _ => 0) (s.pathOf c).mem i

def putMem (c i : Nat) (v : Int) (s : State) : State := s.setPath c { s.pathOf c with mem := Tab.put (fun _ => 0) i v (s.pathOf c).mem }

/-- Number and length of the fade that channel c is in: how many samples with this one, and F; none when it does not fade (R184). -/
def fadePos (s : State) (c : Nat) : Option (Nat × Nat) :=
  match (s.chan c).fadeDue with
  | some t => if s.time.now < t then
      let n := (s.pathOf c).fadeN + 1
      some (n, n + (t - 1 - s.time.now) / max 1 (s.nat (K.chD c)))
    else none
  | none => none

/-- The input NCO and decimation chain of bank b take the input sample, zero while it is not valid. -/
def decimate (b c : Nat) (s : State) : State :=
  let x := s.pathOf c
  let ph := Tab.get (fun _ => 0) x.inPhase b
  let offset := s.num (K.bkCentre b c) - s.num (K.synFreqNow false (s.nat (K.chInPort c)))
  let s1 := s.setPath c { x with inPhase := Tab.put (fun _ => 0) b (turn ph offset) x.inPhase }
  putMem c b (Config.decimMem (s.nat (K.bkClass b c)) (s.nat (K.chD c)) (memOf s c b) (Config.rotate ph ((inputOf s c).getD (0, 0)))) s1

/-- The sample of two memories, one per bank, weighted in a fade (R184, R197). -/
def weighted (s : State) (c : Nat) (base : Nat) : IQ :=
  let b := activeBank s c
  let out (b : Nat) : IQ := Config.decimOut (s.nat (K.bkClass b c)) (s.nat (K.chD c)) (memOf s c (base + b))
  match fadePos s c with
  | some (n, f) => mixed n f (out b) (out (1 - b))
  | none => out b

/-- The DC-blocking stage: the estimate in use is subtracted, and tracks unless it is frozen (R182). -/
def dcBlock (c : Nat) (x : IQ) (s : State) : IQ × State :=
  let i := s.num (K.chDcI c)
  let q := s.num (K.chDcQ c)
  let track (h v : Int) : Int := clamp18 (Config.dcStep (s.nat (K.chDcCorner c)) (s.nat (K.chD c)) h v)
  ((x.1 - i, x.2 - q), if dcFrozen s c then s else (s.set (K.chDcI c) (track i x.1)).set (K.chDcQ c) (track q x.2))

/-! ### The canceller (R197 to R200, R206) -/

/-- The PA tracking factor of branch n of channel c (R200). -/
def paFactor (s : State) (c n : Nat) : Cpx :=
  match Tab.find? (s.pathOf c).factors n with
  | some g => if s.flag (K.cxPaTrack c) then ⟨Config.polarRe g.1 g.2, Config.polarIm g.1 g.2⟩ else ⟨1, 0⟩
  | none => ⟨1, 0⟩

/-- The reference of branch n on port p: NCO to the active bank's centre, and the decimation chains of both banks (R197). -/
def reference (c n p : Nat) (s : State) : State :=
  let x := s.pathOf c
  let ph := Tab.get (fun _ => 0) x.refPhase n
  let offset := s.num (K.bkCentre (activeBank s c) c) - s.num (K.synFreqNow true p)
  let r := Config.rotate ph (ofCode ((refSample s p).getD (0, 0)))
  let s1 := s.setPath c { x with refPhase := Tab.put (fun _ => 0) n (turn ph offset) x.refPhase }
  forN 2 (fun b s => putMem c (8 + 2 * n + b) (Config.decimMem (s.nat (K.bkClass b c)) (s.nat (K.chD c)) (memOf s c (8 + 2 * n + b)) r) s) s1

/-- A sample of branch n enters its delay line (R197, R198): its newest element is aligned with an outside delay of 0. -/
def delayLine (c n : Nat) (s : State) : State :=
  let x := s.pathOf c
  let v := (paFactor s c n).mul (ofIQ (weighted s c (8 + 2 * n)))
  let l := ((Config.narrow v.re, Config.narrow v.im) :: Tab.get (fun _ => []) x.refs n).take (s.nat (K.cxBulkDelay c) + max 16 (s.nat (K.cxTaps c)))
  s.setPath c { x with refs := Tab.put (fun _ => []) n l x.refs }

/-- The reference vector of branch n: the cx.taps samples that lie cx.bulk_delay samples back, newest first, so that tap k covers an outside delay
of (bulk + k) x D ticks; zero for a held branch (R198, R206). -/
def refVector (s : State) (c n p : Nat) : List Cpx :=
  let l := Tab.get (fun _ => []) (s.pathOf c).refs n
  (List.range (s.nat (K.cxTaps c))).map (fun k => if branchHeld s p then Cpx.zero else ofIQ ((l[s.nat (K.cxBulkDelay c) + k]?).getD (0, 0)))

/-- The span of a branch in ticks (R198). -/
def branchSpan (s : State) (c : Nat) : Nat := s.nat (K.cxTaps c) * s.nat (K.chD c)

/-- The taps of branch n. -/
def tapsOf (s : State) (c n : Nat) : List Cpx :=
  let l := Tab.get (fun _ => []) (s.pathOf c).taps n
  (List.range (s.nat (K.cxTaps c))).map (fun k => (l[k]?).getD Cpx.zero)

/-- dot(w, x). -/
def dot (w x : List Cpx) : Cpx := sumCpx (List.zipWith Cpx.mul w x)

/-- The branches that carry taps: those of the used branches that are placed (R202). -/
def tapBranches (s : State) (c : Nat) : List (Nat × Nat) :=
  (usedBranches s c).filter (fun e => decide (s.num (K.cxBranchSubpoolN c e.1) ≠ 0xFF))

/-- The canceller subtracts: Acquiring or Converged, with taps (R203, R204). -/
def subtracts (s : State) (c : Nat) : Bool := hasTaps s c && decide (s.num (K.cxState c) = 1 ∨ s.num (K.cxState c) = 2)

/-- The estimate: the sum of the tap outputs of all branches (R197). -/
def estimate (s : State) (c : Nat) : Cpx :=
  if subtracts s c then sumCpx ((tapBranches s c).map (fun e => dot (tapsOf s c e.1) (refVector s c e.1 e.2))) else Cpx.zero

/-- The power of a sample at -60.00 dBFS, where 0 dBFS is an amplitude of 131,072 (R173, R206). -/
def epsPower : Rat := 131072 * 131072 / 1000000

/-- dot(x, conj(x)) over the joined reference vectors. -/
def refPower (s : State) (c : Nat) : Rat := ((tapBranches s c).map (fun e => ((refVector s c e.1 e.2).map Cpx.power).sum)).sum

/-- w + mu y conj(x) / (eps + dot(x, conj(x))) for one tap (R206). -/
def nlmsTap (mu : Rat) (y : Cpx) (power : Rat) (w x : Cpx) : Cpx := w.add ((y.mul x.conj).scale (mu / (epsPower + power)))

/-- The taps of every branch after the update of one sample with residual y. -/
def adaptTaps (c : Nat) (y : Cpx) (s : State) : State :=
  let mu : Rat := (s.num (K.cxMu c) : Rat) / 65536
  let power := refPower s c
  forL (tapBranches s c) (fun e t => t.setPath c { t.pathOf c with
    taps := Tab.put (fun _ => []) e.1 (List.zipWith (nlmsTap mu y power) (tapsOf s c e.1) (refVector s c e.1 e.2)) (t.pathOf c).taps }) s

/-- The residual of one channel sample: the estimate is subtracted, frozen or not, and the taps adapt with no freeze (R206). -/
def cancel (c : Nat) (x : IQ) (s : State) : Cpx × State :=
  let e := estimate s c
  let y := (ofIQ x).add (e.scale (-1))
  (y, if subtracts s c && decide (freezesNow s c = 0) then adaptTaps c y s else s)

/-! ### The applied gain and the outputs (R173, R174, R181, R186) -/

/-- Lockstep steps whose tick has come reach the multiplier (R231). -/
def takeGain (c : Nat) (s : State) : State :=
  let x := s.chan c
  let due := x.mulNext.filter (fun e => decide (e.1 ≤ s.time.now))
  let rest := x.mulNext.filter (fun e => decide (s.time.now < e.1))
  match due.getLast? with
  | some e => s.setChan c { x with mulG := if rest = [] then none else some e.2, mulNext := rest }
  | none => s

/-- The gain of the multiplier: g, or while a lockstep step is on its way to it the g before that step (R231). -/
def multiplierGain (s : State) (c : Nat) : Int := match (s.chan c).mulG with | some g => s.clampG c g | none => s.num (K.geApplied c)

/-- The applied gain on one sample: beyond the range it saturates, and counts (R173). -/
def amplify (c : Nat) (y : Cpx) (s : State) : IQ × State :=
  let g := Config.ratio (multiplierGain s c)
  let v : IQ := (Config.narrow (g * y.re), Config.narrow (g * y.im))
  let z : IQ := (clamp18 v.1, clamp18 v.2)
  (z, if z = v then s else s.inc (K.chSatCount c) 32)

/-- The gain trim of output o on a sample. -/
def trimmed (s : State) (c o : Nat) (x : IQ) : IQ := scaled (Config.ratio (cdb (s.num (outGainKey c o)))) x

/-- Output o of channel c in a tick: interpolation, delay trim, output NCO; x is the channel sample that enters in this tick, and ok that the
input is valid. -/
def output (c o p : Nat) (x : Option IQ) (ok : Bool) (s : State) : State :=
  let w := s.pathOf c
  let cls := classOf s c
  let d := s.nat (K.chD c)
  let m := if d = 1 then 0 else Config.interpMem cls d (memOf s c (2 + o)) (x.map (trimmed s c o))
  let v : IQ := if d = 1 then trimmed s c o (x.getD (0, 0)) else Config.interpOut cls d m
  let lag := ((if ok then some v else none) :: Tab.get (fun _ => []) w.trims o).take (s.nat (outDelayKey c o) + 1)
  let u := (lag[s.nat (outDelayKey c o)]?).getD none
  let ph := Tab.get (fun _ => 0) w.outPhase o
  let offset := outCentre s (activeBank s c) c o - s.num (K.synFreqNow true p)
  let y := if suppressed s c o then none else u.map (fun v => if d = 1 then v else Config.rotate ph v)
  putMem c (2 + o) m (s.setPath c { w with trims := Tab.put (fun _ => []) o lag w.trims,
                                           outPhase := Tab.put (fun _ => 0) o (if d = 1 then 0 else turn ph offset) w.outPhase,
                                           outs := Tab.put (fun _ => none) o y w.outs })

/-- Every used output of channel c. -/
def outputs (c : Nat) (x : Option IQ) (ok : Bool) (s : State) : State := forL (outputsOf s c) (fun e s => output c e.1 e.2 x ok s) s

/-! ### A channel in a tick -/

/-- An over-range input sample freezes for its tick and the next D (R182, Table 8-2). -/
def overTick (c : Nat) (s : State) : State :=
  if (s.wingOf (s.nat (K.chInPort c))).ovr then s.setPath c { s.pathOf c with ovrEnd := s.time.now + s.nat (K.chD c) + 1 } else s

/-- PA tracking factors measured in the tick before come into use (R200). -/
def takeFactors (c : Nat) (s : State) : State :=
  let l := (s.pathOf c).factorsNew
  if l = [] then s
  else
    let s1 := forL l (fun e s => (s.setPath c { s.pathOf c with factors := Tab.put (fun _ => (0, 0)) e.1 e.2 (s.pathOf c).factors }).set
      (K.cxPaGainN c e.1) e.2.1) s
    s1.setPath c { s1.pathOf c with factorsNew := [] }

/-- Bits of cx.freezes that stop the estimator (Table 8-2). -/
def estimatorStops (w : Nat) : Bool := [1, 2, 3, 4, 6, 8, 9].any (fun i => w.testBit i)

/-- The estimator counts a channel sample. -/
def countSample (c : Nat) (s : State) : State :=
  if estimatorStops (freezesNow s c) then s else s.setPath c { s.pathOf c with est := (s.pathOf c).est + 1 }

/-- One channel sample with D from 2 on: DC blocking, canceller, applied gain. -/
def sample (c : Nat) (s : State) : Option IQ × State :=
  let x := weighted s c 0
  let s0 := forL (usedBranches s c) (fun e s => delayLine c e.1 s) s
  let s1 := s0.setPath c { s0.pathOf c with dec := some x, fadeN := if (fadePos s c).isSome then (s.pathOf c).fadeN + 1 else 0 }
  let (d, s2) := dcBlock c x s1
  let (y, s3) := cancel c d s2
  let (z, s4) := amplify c y s3
  (some z, countSample c (s4.setPath c { s4.pathOf c with amp := some z }))

/-- A started channel of a slice that runs, with D from 2 on. -/
def filtered (c : Nat) (s : State) : State :=
  let ok := (inputOf s c).isSome
  let s1 := forL (usedBranches s c) (fun e s => reference c e.1 e.2 s) (decimate 1 c (decimate 0 c s))
  let s2 := s1.setPath c { s1.pathOf c with dec := none, amp := none }
  if emits s2 c then
    let (z, s3) := sample c s2
    outputs c z ok s3
  else outputs c none ok s2

/-- A whole-port channel: the applied gain alone (R188). -/
def repeated (c : Nat) (s : State) : State :=
  match inputOf s c with
  | some x =>
    let (z, s1) := amplify c (ofIQ x) s
    countSample c (outputs c (some z) true (s1.setPath c { s1.pathOf c with dec := some x, amp := some z }))
  | none => outputs c none false (s.setPath c { s.pathOf c with dec := none, amp := none })

/-- The sample path of channel c in a tick. -/
def channelPath (c : Nat) (s : State) : State :=
  let s1 := takeGain c (takeFactors c (overTick c s))
  if s1.num (K.chD c) = 1 then repeated c s1 else if sliceRuns s1 c then filtered c s1 else s1.setPath c { s1.pathOf c with outs := [] }

/-! ### The TX summation of a port (R187, R198, R207) -/

/-- The contributions of channels to port p, and whether each is muted. -/
def contributions (cs : List Nat) (s : State) (p : Nat) : List (IQ × Bool) :=
  cs.flatMap (fun c => (outputsOf s c).filterMap (fun e =>
    if e.2 = p then (Tab.get (fun _ => none) (s.pathOf c).outs e.1).map (fun v => (v, decide (chMutesNow s c ≠ 0))) else none))

/-- The sum of the contributions to port p in 14-bit codes: a muted one adds zero; rounded to the nearest, saturating; none when no contribution is
valid. -/
def txSum (cs : List Nat) (s : State) (p : Nat) : Option IQ :=
  let l := contributions cs s p
  let part (f : IQ → Int) : Int := max (-8192) (min 8191 (nearestCode ((l.map (fun e => if e.2 then 0 else f e.1)).sum)))
  if l = [] then none else some (part Prod.fst, part Prod.snd)

/-- The sample that the DAC of port p takes: the one that entered the final stage 14 ticks ago (R242), and zero while the port does not
radiate (R142). -/
def dacInput (s : State) (p : Nat) : IQ := if portRadiates s p then ((s.wingOf p).stage[14]?).getD (0, 0) else (0, 0)

/-- The summation and the wing's mute flags of port p, as the tick before left them, enter the paths to the core. -/
def transmit (cs : List Nat) (p : Nat) (s : State) : State :=
  let w := s.wingOf p
  let sums := (txSum cs s p :: w.sums).take 92
  let mutes := (decide (s.nat (K.portMutes p) &&& wingMutes ≠ 0) :: w.muted).take 10
  let x := { w with sums := if sums.all (fun v => v.isNone) then [] else sums, muted := if mutes.any id then mutes else [] }
  if x = w then s else s.setWing p x

/-! ### The final stage of a port and its guard (R242, R243) -/

/-- The magnitude of a sample in 14-bit codes. -/
def magnitude (x : IQ) : Nat := max x.1.natAbs x.2.natAbs

/-- A sample within the limiter's bounds. -/
def limited (s : State) (p : Nat) (x : IQ) : IQ :=
  let f (v : Int) : Int := max (-(s.num (K.hmLimit p))) (min (s.num (K.hmLimit p)) v)
  (f x.1, f x.2)

/-- The sample that enters the final stage of port p in this tick: the summation that the core handed to the crossing 10 ticks ago (Table 1-3),
zero where none is valid. -/
def stageInput (s : State) (p : Nat) : IQ := (((s.wingOf p).sums[9]?).getD none).getD (0, 0)

/-- A masked receive port of the same wing is over range in this tick. -/
def maskedOver (s : State) (p : Nat) : Bool :=
  (List.range 8).any (fun n => s.bit (K.hmOvrMask p) n && (s.wingOf (8 * (p / 8) + n)).ovr)

/-- The trip condition that this tick completes: 1 amplitude, 2 receive over-range. -/
def tripCond (s : State) (p run ranged : Nat) : Option Nat :=
  if s.nat (K.hmCount p) ≤ run then some 1 else if s.nat (K.hmOvrCount p) ≤ ranged then some 2 else none

/-- The final stage of port p in a tick: comparator, guard, limiter, and the 14 ticks to the DAC. A trip that is found acts in the fifth tick after
(R244); while the guard is tripped a sample above the threshold or a masked over-range restarts the count of its hold (R246). -/
def finalStage (p : Nat) (s : State) : State :=
  let x := stageInput s p
  let m := magnitude x
  let y := limited s p x
  let above := decide (s.nat (K.hmThreshold p) < m)
  let ranged := maskedOver s p
  let w := s.wingOf p
  let run := if above then min (w.hmRun + 1) 8 else 0
  let ovr := if ranged then min (w.hmOvr + 1) 65535 else 0
  let line := (y :: w.stage).take 15
  let due := if s.num (K.hmState p) = 0 ∧ w.hmDue = none then (tripCond s p run ovr).map (fun c => (s.time.now + 5, c)) else w.hmDue
  let v := { w with stage := if line.all (fun e => decide (e = (0, 0))) then [] else line, hmRun := run, hmOvr := ovr, hmDue := due }
  let s1 := if v = w then s else s.setWing p v
  let s2 := if s1.num (K.hmState p) ≠ 0 ∧ (above ∨ ranged) then s1.setPort p { s1.port p with cleanFrom := s1.time.now } else s1
  let s3 := if y = x then s2 else s2.inc (K.hmClipped p) 32
  if s3.nat (K.hmPeak p) < m then s3.set (K.hmPeak p) (m : Int) else s3

/-! ### Everything in a tick -/

/-- PAEN as it stands when a tick begins. -/
def paenTicks (s : State) : State := forN 32 paenTick s

/-- The sample paths in a tick: the summations of the tick before go on their way, ports receive, the final stages take what has come through the
crossing, and channels process. -/
def pathTick (s : State) : State :=
  let cs := s.started
  forL cs channelPath (forN 32 finalStage (forN 32 receive (forN 32 (transmit cs) s)))

end Sys2Proof.Machine
end

