-- ==== Sys2Proof/Machine/Gallery.lean ====
section
/-! DEFINITION. The Gallery (R344 to R354): captures, their triggers and aborts, and the volume of the NVMe drive. -/

namespace Sys2Proof.Machine

/-! ### Capture points (R344, R345) -/

/-- Samples of a block of the buffer with n sources, and the offset of block b. -/
def galBlock (n : Nat) : Nat := 8388608 / max 1 n

def blockOffset (n b : Nat) : Nat := b * (33554432 / max 1 n)

/-- The sample of a source word in this tick, in its stored format; none when the source gives none in this tick. -/
def captured (s : State) (w : Nat) : Option IQ :=
  let n := w % 1024
  let narrow16 (x : IQ) : IQ := (min 32767 (qdiv x.1 4), min 32767 (qdiv x.2 4))
  match w / 4096 with
  | 1 => some (s.wingOf n).rx
  | 2 => some ((txSum s.started s n).getD (0, 0))
  | 3 => (s.pathOf n).dec.map narrow16
  | 4 => (s.pathOf n).amp.map narrow16
  | 5 => let a := Config.obsAdc n s.time.now; some (code14 a.1, code14 a.2)
  | _ => none

/-- The word of a sample: I, then Q. -/
def sampleWord (x : IQ) : Nat := (x.1 % 65536).toNat + 65536 * (x.2 % 65536).toNat

/-- Source n writes the sample of this tick into its block, round and round (R345). -/
def captureOne (n w : Nat) (s : State) : State :=
  match captured s w with
  | some x =>
    let k := Tab.get (fun _ => 0) s.gal.written n
    let m := s.gal.srcs.length
    { s with gal := { s.gal with buf := Tab.put (fun _ => none) (blockOffset m n + 4 * (k % galBlock m)) (some (s.time.now, sampleWord x)) s.gal.buf,
                                 written := Tab.put (fun _ => 0) n (k + 1) s.gal.written } }
  | none => s

/-- Every source captures. -/
def captureAll (s : State) : State :=
  forN s.gal.srcs.length (fun n s => match s.gal.srcs[n]? with | some w => captureOne n w s | none => s) s

/-- Capture in Filling, Armed and Triggered, up to the last tick of the window. -/
def galleryTick (s : State) : State :=
  if s.num K.galState = gsFilling ∨ s.num K.galState = gsArmed ∨ (s.num K.galState = gsTriggered ∧ s.time.now < s.gal.trigAt + s.gal.post) then
    captureAll s
  else s

/-- Octet off of the Gallery buffer: of the sample written there last (R364), and free where none is. DEDUCED, log entry 130. -/
def galOctet (s : State) (off : Nat) : Byte :=
  let l := (List.range 4).filterMap (fun i => if off < i then none else (Tab.get (fun _ => none) s.gal.buf (off - i)).map (fun e => (e.1, e.2, i)))
  match l.foldl (fun (b : Option (Nat × Nat × Nat)) e => match b with | some x => if x.1 < e.1 then some e else some x | none => some e) none with
  | some (_, w, i) => BitVec.ofNat 8 (w / 256 ^ i)
  | none => Config.galByte off

/-! ### Arming and captures (R345 to R348) -/

/-- The four source words, and those set, in their order. -/
def galWords (s : State) : List Nat := (List.range 4).map (fun n => s.nat (K.galSrcN n))

def galSources (s : State) : List Nat := (galWords s).filter (fun w => decide (w / 4096 ≠ 0))

/-- Latch the settings of an arm and enter Filling with the samples of this tick; named receivers are taken (R346, R354). -/
def galFill (s : State) : State :=
  let g := { s.gal with fillAt := s.time.now, pre := s.nat K.galPre, post := s.nat K.galPost, faultClass := s.nat K.galFaultClass,
                        faultSource := s.nat K.galFaultSource, hmPorts := s.nat K.galHmPorts, launch := s.flag K.galLaunch,
                        words := galWords s, srcs := galSources s, written := [] }
  setGal gsFilling (captureAll (takeReceivers { s with gal := g }))

/-- The effect of a write of 1 to gal.arm: RANGE also while domain 80 is off (R396). DEDUCED, log entry 100. -/
def galArmEffect (_ : Who) (_ : Val) (s : State) : Reply :=
  let n := (galSources s).length
  if s.num (K.pdState 80) ≠ 3 ∨ s.num K.galState ≠ gsIdle ∨ n = 0 ∨ galBlock n < s.nat K.galPre + s.nat K.galPost then .no s stRange else .ok (galFill s)

/-- GAL_ARM (R345). -/
def execGalArm (f : Frame) (s : State) : Host.Outcome State Fault Refusal :=
  .next (requestWrite K.galArm f s galArmEffect)

/-- The effect of a write of 1 to gal.trigger: a host trigger. -/
def galTriggerEffect (_ : Who) (_ : Val) (s : State) : Reply := .ok (galTrigger 3 s)

/-- GAL_TRIGGER (R347). -/
def execGalTrigger (f : Frame) (s : State) : Host.Outcome State Fault Refusal :=
  .next (requestWrite K.galTrigger f s galTriggerEffect)

/-- A launch trigger with its tag: the tag of the first one at T (R347). -/
def galLaunchTrigger (tag : Nat) (s : State) : State :=
  if !s.gal.launch then s
  else
    let first := decide (s.num K.galState = gsFilling ∨ s.num K.galState = gsArmed) ||
      (decide (s.num K.galState = gsTriggered) && decide (s.gal.trigAt = s.time.now) && !s.bit K.galReasons 2)
    let s1 := galTrigger 2 s
    if first then s1.set K.galTag (tag : Nat) else s1

/-- GALLERY_PRE_FULL (R346). -/
def execGalleryPreFull (s : State) : Host.Outcome State Fault Refusal :=
  .next (if s.num K.galState = gsFilling ∧ s.gal.fillAt + s.gal.pre ≤ s.time.now then setGal gsArmed s else s)

/-- The samples of source n that lie in the capture window: those in its block whose tick falls in it (R345). -/
def windowCount (s : State) (n : Nat) : Nat :=
  let m := s.gal.srcs.length
  let mine (e : Nat × Option (Nat × Nat)) : Bool := decide (blockOffset m n ≤ e.1) && decide (e.1 < blockOffset m n + 4 * galBlock m) &&
    e.2.any (fun v => decide (s.gal.trigAt ≤ v.1 + s.nat K.galPreActual))
  if m ≤ n then 0 else (s.gal.buf.filter mine).length

/-- gal.wrapN: the index in its block of the first window sample (R345), the oldest of those whose tick falls in the window. -/
def galWrap (n : Nat) (s : State) : State :=
  if s.gal.srcs.length ≤ n then s
  else
    let g := galBlock s.gal.srcs.length
    s.set (K.galWrapN n) ((((Tab.get (fun _ => 0) s.gal.written n + g - windowCount s n) % g : Nat)) : Int)

/-- A free slot stands on the volume, or circular mode makes one. -/
def slotFree (s : State) : Bool := decide (s.num K.galMode = 0) || decide (s.num K.galUsed < s.num K.galSlots)

/-- A Held capture in stop-when-full mode with no free slot enters Full, recorded (R353). -/
def reviewFull (s : State) : State :=
  if s.num K.galState = gsHeld ∧ s.num K.galMode = 1 ∧ s.num K.galUsed = s.num K.galSlots ∧
      (s.num K.galDriveState = 2 ∨ s.num K.galDriveState = 6) then
    setGal gsFull (fault 0x15 1 1 0x0F06 (s.nat K.galSlots) 0 0 0 s)
  else s

/-- The completion tick of the capture has come: the last post-trigger sample is written. -/
def captureOver (s : State) : Bool := decide (s.num K.galState = gsTriggered) && decide (s.gal.trigAt + s.gal.post ≤ s.time.now)

/-- A capture completes with a status. -/
def completeCapture (status : Int) (s : State) : State :=
  let s1 := forN 4 galWrap (freeReceivers s)
  let s2 := event 0x0F01 (s1.nat K.galNumber % 2 ^ 32) (s1.nat K.galReasons) (s1.nat K.galTag) (s1.nat K.galPreActual) s1
  reviewFull (setGal gsHeld (s2.set K.galStatus status))

/-- GALLERY_CAPTURE_COMPLETE (R346). -/
def execGalleryCaptureComplete (s : State) : Host.Outcome State Fault Refusal :=
  .next (if captureOver s then completeCapture 2 s else s)

/-- The effect of a write of 1 to gal.abort (R348, R117). -/
def galAbortEffect (_ : Who) (_ : Val) (s : State) : Reply :=
  if s.num K.galState = gsFilling ∨ s.num K.galState = gsArmed then .ok (setGal gsIdle (freeReceivers s))
  else if captureOver s then .late (completeCapture 3 s)
  else if s.num K.galState = gsTriggered then
    let s1 := event 0x0F02 (s.nat K.galNumber % 2 ^ 32) 0 0 0 (freeReceivers s)
    .ok (setGal gsIdle ((s1.set K.galSettled (s1.num K.galNumber)).set K.galStatus 4))
  else .no s stRange

/-- GAL_ABORT (R348). -/
def execGalAbort (f : Frame) (s : State) : Host.Outcome State Fault Refusal :=
  .next (requestWrite K.galAbort f s galAbortEffect)

/-- The effect of gal.release: RANGE except in Held while no drive is ready (R348). -/
def galReleaseEffect (_ : Who) (_ : Val) (s : State) : Reply :=
  if s.num K.galState = gsHeld ∧ s.num K.galDriveState ≠ 2 then .ok (setGal gsIdle (s.set K.galSettled (s.num K.galNumber)))
  else .no s stRange

/-- GAL_RELEASE (R348). -/
def execGalRelease (f : Frame) (s : State) : Host.Outcome State Fault Refusal :=
  .next (requestWrite K.galRelease f s galReleaseEffect)

/-! ### The volume (R349 to R353) -/

/-- Slots of a volume (R350). -/
def volumeSlots (capacity : Nat) : Nat := min 262144 ((min capacity 8000000000000 - 67108864) / 34603008)

/-- The offsets of the superblock copies, of directory entry k, and of slot k (Table 16-9). -/
abbrev superOffset (copy : Nat) : Nat := 0x1000 * copy

abbrev entryOffset (k : Nat) : Nat := 0x100000 + 128 * k

abbrev slotOffset (k : Nat) : Nat := 0x4000000 + 34603008 * k

/-- "MYGALVOL". -/
def galMagic : List Byte := [0x4D, 0x59, 0x47, 0x41, 0x4C, 0x56, 0x4F, 0x4C]

/-- Octets followed by their CRC-32. -/
def withCrc (b : List Byte) : List Byte := b ++ leBytes 4 (crc32 b : Int)

/-- The superblock of the volume for a generation (Table 16-10). -/
def superblock (s : State) (generation : Nat) : List Byte :=
  withCrc (galMagic ++ leBytes 4 1 ++ leBytes 8 (Config.serial.toNat : Int) ++ leBytes 8 (s.gal.capacity : Int) ++ leBytes 4 (volumeSlots s.gal.capacity : Int) ++
    leBytes 1 (s.num K.galMode) ++ leBytes 3 0 ++ leBytes 8 (generation : Int) ++ leBytes 8 (s.num K.galNumber + 1) ++ leBytes 4 (s.gal.oldestSlot : Int) ++
    leBytes 4 (s.gal.nextSlot : Int))

/-- A superblock copy whose magic, version and CRC pass. -/
def superOk (b : List Byte) : Bool :=
  decide (64 ≤ b.length) && decide (b.take 8 = galMagic) && decide (leAt b 8 4 = 1) && decide (leAt b 60 4 = crc32 (b.take 60))

/-- The current superblock: the copy with the higher generation of those that pass (R351). -/
def volCurrent (v : NvmeVol) : Option (Nat × List Byte) :=
  match superOk v.copy0, superOk v.copy1 with
  | true, true => if leAt v.copy0 36 8 < leAt v.copy1 36 8 then some (1, v.copy1) else some (0, v.copy0)
  | true, false => some (0, v.copy0)
  | false, true => some (1, v.copy1)
  | false, false => none

/-- The directory read: the slots whose entry holds a capture number and passes its CRC, with that number (R351). -/
def volDir (v : NvmeVol) : List (Nat × Nat) :=
  (v.entries.filter (fun e => decide (e.1 < volumeSlots v.capacity) && decide (128 ≤ e.2.length) && decide (leAt e.2 0 8 ≠ 0) &&
    decide (leAt e.2 124 4 = crc32 (e.2.take 124)))).map (fun e => (e.1, leAt e.2 0 8))

/-- The directory as a table. -/
def volTab (v : NvmeVol) : Tab Nat := (volDir v).foldl (fun t e => Tab.put (fun _ => 0) e.1 e.2 t) []

/-- gal.drive_state of an identified drive (R349, R353): unformatted, foreign, full or ready. -/
def driveState (v : NvmeVol) : Int :=
  match volCurrent v with
  | none => 4
  | some (_, b) =>
    if leAt b 12 8 ≠ Config.serial.toNat then 3
    else if leAt b 32 1 = 1 ∧ volumeSlots v.capacity ≤ (volTab v).length then 6 else 2

/-- NVME_DRIVE_READY (R349, R351): the drive is identified, and its superblock copies and directory are read; while
domain 81 is off there is none (R396). DEDUCED, log entry 100. -/
def execNvmeDriveReady (v : NvmeVol) (s : State) : Host.Outcome State Fault Refusal :=
  .next (if s.num (K.pdState 81) ≠ 3 then s else
    let b := match volCurrent v with | some e => e.2 | none => []
    let own := decide (driveState v = 2) || decide (driveState v = 6)
    let dir := if own then volTab v else []
    let g := { s.gal with generation := leAt b 36 8, copy := match volCurrent v with | some e => e.1 | none => 0, dir := dir, nextSlot := leAt b 56 4,
                          oldestSlot := leAt b 52 4, capacity := min v.capacity 8000000000000, owner := leAt b 12 8,
                          formatted := (volCurrent v).isSome }
    let s1 := (({ s with gal := g }).set K.galLink (v.link : Nat)).set K.galSlots (volumeSlots v.capacity : Nat)
    let s2 := (s1.set K.galUsed (dir.length : Nat)).set K.galMode (if (volCurrent v).isSome then (leAt b 32 1 : Nat) else 0xFF)
    reviewFull (s2.set K.galDriveState (driveState v)))

/-- Write len octets at an offset of namespace 1, zeros beyond those listed, in Writes of at most 128 KiB (R349). -/
def nvmeWrite (off len : Nat) (b : List Byte) (s : State) : State :=
  forN (ceilDiv len 131072) (fun i s => s.emit (.nvme 1 [off + 131072 * i, min 131072 (len - 131072 * i)] ((b.drop (131072 * i)).take 131072))) s

/-- Flush ends each step (R352). -/
def nvmeFlush (s : State) : State := s.emit (.nvme 0 [] [])

/-- Write both superblock copies of a format and zero the directory; a Full capture is Held again. DESIGN CHOICE, log entry 58. -/
def formatVolume (mode : Int) (s : State) : State :=
  let g := { s.gal with generation := 1, copy := 0, dir := [], nextSlot := 0, oldestSlot := 0, owner := Config.serial.toNat, formatted := true }
  let s1 := (({ s with gal := g }).set K.galMode mode).set K.galUsed 0
  let b := superblock s1 1
  let s2 := nvmeFlush (nvmeWrite (entryOffset 0) 33554432 [] (nvmeWrite (superOffset 1) 4096 b (nvmeWrite (superOffset 0) 4096 b s1)))
  let s3 := s2.set K.galDriveState 2
  if s3.num K.galState = gsFull then setGal gsHeld s3 else s3

/-- A drive with a namespace that can be written: ready, foreign, unformatted or full. -/
def drivePresent (s : State) : Bool := decide (s.num K.galDriveState ∈ [2, 3, 4, 6])

/-- The effect of gal.format: RANGE in Draining (R353). DESIGN CHOICE, log entry 58. -/
def galFormatEffect (_ : Who) (v : Val) (s : State) : Reply :=
  if s.num K.galState = gsDraining then .no s stRange
  else .ok (if drivePresent s then formatVolume v.int s else s)

/-- GAL_FORMAT (R353). -/
def execGalFormat (f : Frame) (s : State) : Host.Outcome State Fault Refusal :=
  .next (requestWrite K.galFormat f s galFormatEffect)

/-- Step 1 of a drain in circular mode: an occupied next slot's entry is zeroed and the oldest slot advances (R352). -/
def freeNext (s : State) : State :=
  let n := s.gal.nextSlot
  if s.num K.galMode = 0 ∧ Tab.get (fun _ => 0) s.gal.dir n ≠ 0 then
    let g := { s.gal with dir := Tab.put (fun _ => 0) n 0 s.gal.dir, oldestSlot := (n + 1) % max 1 (s.nat K.galSlots) }
    nvmeFlush (nvmeWrite (entryOffset n) 128 [] (({ s with gal := g }).set K.galUsed (g.dir.length : Nat)))
  else s

/-! ### The octets of a capture (Table 16-10) -/

/-- The data of the capture: the window samples of each source block in source order, each block's in time order. -/
def captureData (s : State) : List Byte :=
  let m := s.gal.srcs.length
  (List.range m).flatMap (fun n => (List.range (windowCount s n)).flatMap (fun i =>
    leBytes 4 (((Tab.get (fun _ => none) s.gal.buf (blockOffset m n + 4 * ((s.nat (K.galWrapN n) + i) % galBlock m))).map Prod.snd).getD 0 : Nat)))

/-- Octets 0 to 43 of the directory entry of the capture in a slot. -/
def entryHead (s : State) (slot len : Nat) : List Byte :=
  leBytes 8 (s.num K.galNumber) ++ leBytes 4 (slot : Int) ++ leBytes 4 (s.gal.trigPcc : Int) ++ leBytes 6 (s.gal.trigOt : Int) ++
    leBytes 2 (s.num K.galReasons) ++ leBytes 8 (s.num K.galTriggerTb) ++ leBytes 4 (s.num K.galTag) ++ leBytes 8 (len : Int)

/-- Samples of the sources that the four source words name; 0 for a word that names none. -/
def sampleCounts (s : State) : List Nat :=
  (s.gal.words.zipIdx).map (fun e => if e.1 / 4096 = 0 then 0
    else windowCount s ((s.gal.words.take e.2).filter (fun w => decide (w / 4096 ≠ 0))).length)

/-- The capture header of 4 KiB: signed over octets 0 to 123 by the device identity key. -/
def captureHeader (s : State) (slot : Nat) : List Byte :=
  let data := captureData s
  let b := entryHead s slot data.length ++ s.gal.words.flatMap (fun w => leBytes 2 (w : Int)) ++ leBytes 4 (s.num K.galPreActual) ++
    leBytes 4 (s.gal.post : Int) ++ (sampleCounts s).flatMap (fun n => leBytes 8 (n : Int)) ++ Config.sha256 data
  let c := b ++ Config.ecdsaSign b
  c ++ List.replicate (4096 - c.length) 0

/-- The directory entry of the capture in a slot. -/
def captureEntry (s : State) (slot : Nat) : List Byte :=
  withCrc (entryHead s slot (captureData s).length ++ leBytes 4 (crc32 (captureHeader s slot) : Int) ++ List.replicate 76 0)

/-- GALLERY_DRAIN_START (R352): a ready volume with a slot takes the Held capture: its slot is made free, header and data go to it, and then its
directory entry. DESIGN CHOICE, log entry 58. -/
def execGalleryDrainStart (s : State) : Host.Outcome State Fault Refusal :=
  .next (if s.num K.galState = gsHeld ∧ s.num K.galDriveState = 2 ∧ slotFree s then
    let n := s.gal.nextSlot
    let data := captureData s
    let s1 := nvmeWrite (slotOffset n + 0x100000) data.length data (nvmeWrite (slotOffset n) 4096 (captureHeader s n) (freeNext s))
    setGal gsDraining (nvmeFlush (nvmeWrite (entryOffset n) 128 (captureEntry s n) (nvmeFlush s1)))
  else reviewFull s)

/-- The slot of a drained capture is occupied, and the superblock goes into the copy that does not hold the current generation (R352). -/
def enterVolume (s : State) : State :=
  let n := s.gal.nextSlot
  let g := { s.gal with dir := Tab.put (fun _ => 0) n (s.nat K.galNumber) s.gal.dir, nextSlot := (n + 1) % max 1 (s.nat K.galSlots),
                        generation := s.gal.generation + 1, copy := 1 - s.gal.copy }
  let s0 : State := { s with gal := g }
  let s1 := ((nvmeFlush (nvmeWrite (superOffset g.copy) 4096 (superblock s0 g.generation) s0)).set K.galUsed (g.dir.length : Nat)).set
    K.galSettled (s.num K.galNumber)
  if s1.num K.galMode = 1 ∧ s1.num K.galSlots ≤ s1.num K.galUsed then s1.set K.galDriveState 6 else s1

/-- GALLERY_DRAIN_DONE (R352): the directory entry is durable. -/
def execGalleryDrainDone (s : State) : Host.Outcome State Fault Refusal :=
  .next (if s.num K.galState = gsDraining then
    let s1 := event 0x0F03 (s.nat K.galNumber % 2 ^ 32) s.gal.nextSlot 0 0 (enterVolume s)
    if s1.flag K.galAutoRearm then galFill s1 else setGal gsIdle s1
  else s)

/-- NVME_COMMAND_FAIL (R349): a command that fails is retried twice; its third failure marks the drive failed, and a
capture that drained is Held again. n is the number of failures of this command. -/
def execNvmeCommandFail (opcode status n : Nat) (s : State) : Host.Outcome State Fault Refusal :=
  .next (if s.num (K.pdState 81) ≠ 3 then s
    else if n < 3 then s.emit (.nvme opcode [] [])
    else
      let s1 := (fault 0x15 1 2 0x0F05 status opcode 0 0 s).set K.galDriveState 5
      if s1.num K.galState = gsDraining then setGal gsHeld s1 else s1)

/-- NVME_SMART_POLL (R349): Get Log Page for SMART / Health Information goes to a drive that is fitted. -/
def execNvmeSmartPoll (s : State) : Host.Outcome State Fault Refusal :=
  .next (if drivePresent s then s.emit (.nvme 2 [2] []) else s)

end Sys2Proof.Machine
end

