-- ==== Sys2Proof/Machine/HostPcie.lean ====
section
/-! DEFINITION. The host PCIe interface (R355 to R369): interface resets, ring indices, interrupt causes, the status mirror and
the DMA stream engines. The doorbell, which hands frames to the dictionary, stands in Dictionary.lean. -/

namespace Sys2Proof.Machine

/-! ### BAR2 (R364) -/

/-- What a read of octet off of BAR2 gives: the Gallery buffer, 0 above it; none, an Unsupported Request, until the part handles dictionary requests
(R356). While domain 80 is off its outputs are zero (R396). Writes change nothing: no command stands for one. DEDUCED, log entry 130. -/
def bar2Read (s : State) (off : Nat) : Option Byte :=
  if !s.serving then none else if off < 33554432 ∧ s.num (K.pdState 80) = 3 then some (galOctet s off) else some 0

/-! ### BAR0 (R358, R362) -/

/-- Octet off of the status mirror, as it was last written (Table 17-5). -/
def mirrorOctet (s : State) (off : Nat) : Byte :=
  let v (k : Nat) : Int := Tab.get (fun _ => 0) s.host.mirror k
  let oct (x : Int) (i : Nat) : Byte := BitVec.ofInt 8 (x / (256 ^ i : Nat))
  if off < 0x08 then oct (s.host.mirrorTb : Int) off
  else if off < 0x0C then oct (v ([K.tbState, K.tbTrace, K.thLevel, K.fltStopped].getD (off - 0x08) 0)) 0
  else if off < 0x10 then oct (v K.fltSticky) (off - 0x0C)
  else if off < 0x18 then oct (v K.recNext) (off - 0x10)
  else if off < 0x20 then oct (s.host.mirrorOt : Int) (off - 0x18)
  else if off < 0x40 then oct (v (K.portState (off - 0x20))) 0
  else if off < 0x80 then oct (v (K.portMutes ((off - 0x40) / 2))) (off % 2)
  else if off < 0x280 then oct (v (K.chState (off - 0x80))) 0
  else if off < 0x680 then oct (v (K.chMutes ((off - 0x280) / 2))) (off % 2)
  else if off < 0xE80 then oct (v (K.geApplied ((off - 0x680) / 4))) (off % 4)
  else if off < 0xEA0 then oct (v (K.fdState (off - 0xE80))) 0
  else if off < 0xEB8 then oct (v (K.rlState (off - 0xEA0))) 0
  else if off = 0xEB8 then oct (v K.galState) 0
  else if off = 0xEB9 then oct (v K.galDriveState) 0
  else 0

/-- A register of Table 17-3 at a word offset; 0 at the others. -/
def bar0Reg (s : State) (off : Nat) : Nat :=
  let h := s.host
  if off = 0x00 then h.reqProd else if off = 0x04 then h.reqCons else if off = 0x08 then h.rspProd % 65536 else if off = 0x0C then h.rspCons % 65536
  else if off = 0x10 then h.ntfProd % 65536 else if off = 0x14 then h.ntfCons % 65536 else if off = 0x18 then h.ntfDropped
  else if 0x20 ≤ off ∧ off < 0x30 then h.irq / 2 ^ (8 * (off - 0x20)) % 2 ^ 32 else if off = 0x40 then h.mirrorSeq % 2 ^ 32 else 0

/-- Octet i of a frame in a slot of a ring. -/
def slotOctet (ring : Tab (List Byte)) (off : Nat) : Byte := ((Tab.get (fun _ => []) ring (off / 64))[off % 64]?).getD 0

/-- What a read of octet off of BAR0 gives (Table 17-2); none, an Unsupported Request, until the part handles dictionary requests (R356). The MSI-X
structures are the host's own. DEDUCED, log entry 130. -/
def bar0Read (s : State) (off : Nat) : Option Byte :=
  let word (v off : Nat) : Byte := BitVec.ofNat 8 (v / 256 ^ (off % 4))
  if !s.serving then none
  else if off < 0x1000 then some (word (bar0Reg s (off / 4 * 4)) off)
  else if 0x10000 ≤ off ∧ off < 0x30000 then some (slotOctet s.host.reqRing (off - 0x10000))
  else if 0x30000 ≤ off ∧ off < 0x50000 then some (slotOctet s.host.rspRing (off - 0x30000))
  else if 0x50000 ≤ off ∧ off < 0x60000 then some (slotOctet s.host.ntfRing (off - 0x50000))
  else if 0x100000 ≤ off ∧ off < 0x200000 then some (mirrorOctet s (off - 0x100000))
  else if 0x200000 ≤ off ∧ off < 0x200800 then
    (let e := (off - 0x200000) / 64
     if off % 64 < 4 then some (word (Tab.get (fun _ => 0) s.host.wptr e) off)
     else if off % 64 < 8 then some (word (Tab.get (fun _ => 0) s.host.rptr e) off) else some 0)
  else if 0x3F0000 ≤ off ∧ off < 0x3F0800 ∨ 0x3F8000 ≤ off ∧ off < 0x3F8010 then some (Config.msixByte off)
  else some 0

/-! ### DMA engines (R365 to R368) -/

/-- Ticks between two samples of a source: one, or D of its channel. -/
def sourceStep (s : State) (w : Nat) : Nat := if w / 4096 = 3 ∨ w / 4096 = 4 then max 1 (s.nat (K.chD (w % 1024))) else 1

/-- The byte rate of engine e in MB/s: sample rate / decim x 4,096 / 1,016. -/
def dmaRateOf (s : State) (e : Nat) : Rat :=
  (12288 * 4096 : Rat) / ((10 * 1016 * sourceStep s (s.nat (K.dmaSource e)) * max 1 (s.nat (K.dmaDecim e)) : Nat) : Rat)

/-- Lane rate x line-code efficiency in MB/s of one lane of a generation: 8b/10b, then 128b/130b. -/
def laneRate (gen : Nat) : Rat :=
  if gen = 1 then 250 else if gen = 2 then 500 else if gen = 3 then (1000 * 128 : Rat) / 130 else if gen = 4 then (2000 * 128 : Rat) / 130 else 0

/-- The cap of R368 for a link byte (generation, width). -/
def dmaCap (link : Nat) : Rat := (3 : Rat) / 4 * laneRate (link / 16) * (link % 16 : Nat)

/-- Engines that run. -/
def dmaRunning (s : State) : List Nat := (List.range 32).filter (fun e => decide (s.num (K.dmaState e) = 1))

/-- The rate of the running engines. -/
def dmaLoad (s : State) : Rat := ((dmaRunning s).map (dmaRateOf s)).sum

/-- A whole number of MB/s of a rate (DEDUCED, log entry 5). -/
def wholeRate (r : Rat) : Int := qdiv r.num r.den

/-- Show the load of the running engines. -/
def showLoad (s : State) : State := s.set K.hostDmaLoad (wholeRate (dmaLoad s))

/-- Put a pointer or mark of engine e. -/
def putWptr (e v : Nat) (s : State) : State := { s with host := { s.host with wptr := Tab.put (fun _ => 0) e v s.host.wptr } }

def putRptr (e v : Nat) (s : State) : State := { s with host := { s.host with rptr := Tab.put (fun _ => 0) e v s.host.rptr } }

def putMark (e v : Nat) (s : State) : State := { s with host := { s.host with dmaMark := Tab.put (fun _ => 0) e v s.host.dmaMark } }

def wptrOf (s : State) (e : Nat) : Nat := Tab.get (fun _ => 0) s.host.wptr e

def rptrOf (s : State) (e : Nat) : Nat := Tab.get (fun _ => 0) s.host.rptr e

def markOf (s : State) (e : Nat) : Nat := Tab.get (fun _ => 0) s.host.dmaMark e

/-- The block that engine e fills, and the full ones it has not written. -/
def fillOf (s : State) (e : Nat) : DmaBlock := Tab.get (fun _ => DmaBlock.fresh) s.host.dmaFill e

def fullOf (s : State) (e : Nat) : List DmaBlock := Tab.get (fun _ => []) s.host.dmaFull e

def putFill (e : Nat) (b : DmaBlock) (s : State) : State := { s with host := { s.host with dmaFill := Tab.put (fun _ => DmaBlock.fresh) e b s.host.dmaFill } }

def putFull (e : Nat) (l : List DmaBlock) (s : State) : State := { s with host := { s.host with dmaFull := Tab.put (fun _ => []) e l s.host.dmaFull } }

/-- Samples that the source of engine e has given since the start. -/
def seenOf (s : State) (e : Nat) : Nat := Tab.get (fun _ => 0) s.host.dmaSeen e

def putSeen (e v : Nat) (s : State) : State := { s with host := { s.host with dmaSeen := Tab.put (fun _ => 0) e v s.host.dmaSeen } }

/-- A running engine takes the sample of its source in this tick: every dma.decim-th is kept, and a block is full with 1,016 (R365, R366). -/
def dmaSample (e : Nat) (s : State) : State :=
  if s.num (K.dmaState e) ≠ 1 then s
  else match captured s (s.nat (K.dmaSource e)) with
    | none => s
    | some x =>
      let s1 := putSeen e (seenOf s e + 1) s
      if seenOf s e % max 1 (s.nat (K.dmaDecim e)) ≠ 0 then s1
      else
        let b := fillOf s e
        let b1 : DmaBlock := ⟨if b.words = [] then tbWord s.time.tb else b.first, b.inv || s.tbInvalid, b.step, sampleWord x :: b.words⟩
        if b1.words.length < 1016 then putFill e b1 s1 else putFill e DmaBlock.fresh (putFull e (fullOf s e ++ [b1]) s1)

/-- Every engine in a tick. -/
def dmaTick (s : State) : State := forN 32 dmaSample s

/-- The ring of engine e is full (R366). -/
def ringFull (s : State) (e : Nat) : Bool := decide (rptrOf s e + s.nat (K.dmaRingBlocks e) ≤ wptrOf s e)

/-- Write a block with its header (Table 17-7), its samples oldest first and the rest zero, and advance DMA_WPTR; every dma.irq_blocks blocks the
engine's cause sets (R366, R367). -/
def writeBlock (e : Nat) (b : DmaBlock) (s : State) : State :=
  let n := wptrOf s e
  let m := markOf s e
  let flags := (if m.testBit 1 then 1 else 0) + (if m.testBit 0 then 2 else 0) + (if b.inv then 4 else 0) + (if b.step then 8 else 0)
  let data : List Int := b.words.reverse.map (fun w => (w : Int)) ++ List.replicate (1016 - b.words.length) 0
  let s1 := s.emit (.pcie "dma" ([s.num (K.dmaSource e), (e : Int), (flags : Int), (n : Int), (b.first : Int), (b.words.length : Int), s.num (K.dmaDecim e)] ++
    data))
  let s2 := (putMark e 0 (putWptr e (n + 1) s1)).inc (K.dmaBlocks e) 64
  if (n + 1) % max 1 (s.nat (K.dmaIrqBlocks e)) = 0 then irq (8 + e) s2 else s2

/-- Stop engine e with a state: its cause sets (R367). -/
def dmaStop (e : Nat) (v : Int) (s : State) : State := showLoad ((irq (8 + e) s).set (K.dmaState e) v)

/-- A stop writes the blocks that are full and a last one with what samples are left (R365). -/
def lastBlock (e : Nat) (s : State) : State :=
  let l := fullOf s e ++ (if (fillOf s e).words = [] then [] else [fillOf s e])
  putFill e DmaBlock.fresh (putFull e [] (forL l (fun b s => if ringFull s e then s else writeBlock e b s) s))

/-- DMA_BLOCK_WRITE (R366): the oldest block whose samples are all taken is written, or stops the engine or is dropped; rptr is the value the host has
left in DMA_RPTR. DESIGN CHOICE, log entry 62. -/
def execDmaBlockWrite (e : Nat) (_ : Report) (rptr : Nat) (_ _ : Report) (s : State) : Host.Outcome State Fault Refusal :=
  .next (match fullOf s e with
    | [] => s
    | b :: rest =>
      if s.num (K.dmaState e) ≠ 1 then s
      else
        let s0 := putFull e rest s
        let s1 := if rptrOf s e ≤ rptr ∧ rptr ≤ wptrOf s e then putRptr e rptr s0 else s0
        if !ringFull s1 e then writeBlock e b s1
        else if s1.num (K.dmaOverflow e) = 0 then dmaStop e 2 s1
        else irq (8 + e) (putMark e (bitSet (markOf s1 e) 1) (s1.inc (K.dmaDropped e) 32)))

/-- Start engine e with the sample of this tick. DEDUCED, log entry 63. -/
def dmaStart (e : Nat) (s : State) : State :=
  let s1 := putMark e 1 (putRptr e 0 (putWptr e 0 s))
  let s2 := putSeen e 0 (putFill e DmaBlock.fresh (putFull e [] s1))
  let s3 := ((s2.set (K.dmaBlocks e) 0).set (K.dmaDropped e) 0).set (K.dmaRate e) (wholeRate (dmaRateOf s e))
  dmaSample e (showLoad (s3.set (K.dmaState e) 1))

/-- A start is accepted (R368). -/
def dmaMayStart (s : State) (e : Nat) : Bool :=
  let others := (((dmaRunning s).filter (fun x => decide (x ≠ e))).map (dmaRateOf s)).sum
  let w := s.nat (K.dmaSource e)
  decide (others + dmaRateOf s e ≤ dmaCap (s.nat K.hostLink)) && decide (1 ≤ w / 4096) && decide (w / 4096 ≤ 4) &&
    decide (s.nat (K.dmaRingBase e) % 4096 = 0) && decide (s.num (K.dmaRingBlocks e) ≠ 0) && s.host.busMaster

/-- The effect of dma.run: 1 starts, 0 stops with a short last block (R365); RANGE while domain 82 is off (R396). DEDUCED, log entry 100. -/
def dmaRunEffect (e : Nat) (_ : Who) (v : Val) (s : State) : Reply :=
  if s.num (K.pdState 82) ≠ 3 then .no s stRange
  else if v.int = 1 then (if dmaMayStart s e then .ok (dmaStart e s) else .no s stRange)
  else .ok (if s.num (K.dmaState e) = 1 then dmaStop e 0 (lastBlock e s) else s)

/-- DMA_RUN_START (R368). -/
def execDmaRunStart (e : Nat) (f : Frame) (s : State) : Host.Outcome State Fault Refusal :=
  .next (requestWrite (K.dmaRun e) f s (dmaRunEffect e))

/-- DMA_RUN_STOP (R365). -/
def execDmaRunStop (e : Nat) (f : Frame) (s : State) : Host.Outcome State Fault Refusal :=
  .next (requestWrite (K.dmaRun e) f s (dmaRunEffect e))

/-- Stop engines in descending number until the rest fits the cap. -/
def fitCap (s : State) : List Nat → State
  | [] => s
  | e :: l => if dmaLoad s ≤ dmaCap (s.nat K.hostLink) then s else fitCap (dmaStop e 3 (lastBlock e s)) l

/-- PCIE_LINK_RETRAIN (R368): the link trains to a generation and width. DEDUCED, log entry 63. -/
def execPcieLinkRetrain (link : Nat) (s : State) : Host.Outcome State Fault Refusal :=
  .next (
    let s1 := if s.num K.hostLink = 0 then s else s.inc K.hostRetrains 32
    let s2 := (s1.set K.hostLink (link : Nat)).set K.hostDmaCap (wholeRate (dmaCap link))
    let s3 := fitCap s2 (dmaRunning s2).reverse
    if dmaRunning s3 = dmaRunning s2 then s3 else fault 0x16 0 1 (evCode 0x10 0) link 0 0 0 s3)

/-- Stop every running engine with state 4. -/
def dmaStopAll (s : State) : State := forL (dmaRunning s) (fun e s => dmaStop e 4 s) s

/-- BUS_MASTER_DISABLE (R368). -/
def execBusMasterDisable (s : State) : Host.Outcome State Fault Refusal :=
  .next (let s1 := dmaStopAll s
    { s1 with host := { s1.host with busMaster := false } })

/-! ### The function (R356, R357) -/

/-- The values of Table 17-1: vendor, device, revision, class code, the sizes of BAR0 and BAR2, the largest payload, and the MSI-X vectors (R355). -/
def pcieIdentity : List Int := [0x1F3A, 0x8512, 0x00, 0x118000, 4194304, 67108864, 512, 128]

/-- PCIE_CONFIG_REQUEST (R356): before the part handles requests, Configuration Request Retry Status; then it completes, and a
write of the command register sets or clears Bus Master Enable. -/
def execPcieConfigRequest (bme : Option Bool) (s : State) : Host.Outcome State Fault Refusal :=
  .next (if !s.serving then s.emit (.pcie "crs" [])
    else
      let s1 := s.emit (.pcie "cfg" pcieIdentity)
      match bme with
      | some true => { s1 with host := { s1.host with busMaster := true } }
      | some false => let s2 := dmaStopAll s1
        { s2 with host := { s2.host with busMaster := false } }
      | none => s1)

/-- What an interface reset of master 1 does (R357). DEDUCED, log entry 63. -/
def hostReset (s : State) : State :=
  let s1 := resetMaster 1 (dmaStopAll s)
  let h := { s1.host with reqRing := [], rspRing := [], ntfRing := [], reqProd := 0, reqCons := 0, rspProd := 0, rspCons := 0, ntfProd := 0, ntfCons := 0, held := [], irq := 0,
                          busMaster := false }
  ({ s1 with host := h }).inc K.hostIfResets 32

/-- PCIE_INTERFACE_RESET (R357): function-level reset, hot reset, PERST_N, link down (down is true) or a return from D3hot. -/
def execPcieInterfaceReset (down : Bool) (s : State) : Host.Outcome State Fault Refusal :=
  .next (
    let s1 := hostReset s
    if down then (s1.set K.hostDmaCap 0).set K.hostLink 0 else s1)

/-! ### Rings and causes (R360 to R363) -/

/-- Write held responses while the ring has room. -/
def releaseHeld : List Out → State → State
  | [], s => { s with host := { s.host with held := [] } }
  | o :: l, s =>
    if s.host.rspProd < s.host.rspCons + 2048 then
      releaseHeld l (putResponse o s)
    else { s with host := { s.host with held := o :: l } }

/-- How far a 16-bit index written by the host moves a count. -/
def indexStep (count v : Nat) : Nat := (((v : Int) - count) % 65536).toNat

/-- MB_RSP_CONS (R360): the host advances its response index, and its NOTIFY index with it. An index beyond what the part
has written is not an advance. DESIGN CHOICE, log entry 62. -/
def execMbRspCons (rsp ntf : Nat) (s : State) : Host.Outcome State Fault Refusal :=
  .next (if !s.serving then s
    else
      let h := s.host
      let r := indexStep h.rspCons rsp
      let n := indexStep h.ntfCons ntf
      let h1 := { h with rspCons := if h.rspCons + r ≤ h.rspProd then h.rspCons + r else h.rspCons,
                         ntfCons := if h.ntfCons + n ≤ h.ntfProd then h.ntfCons + n else h.ntfCons }
      releaseHeld h.held { s with host := h1 })

/-- IRQ_CAUSE (R363): a write of mask v to IRQ_CAUSE register i clears its bits. -/
def execIrqCause (i v : Nat) (s : State) : Host.Outcome State Fault Refusal :=
  .next { s with host := { s.host with irq := maskOff s.host.irq ((v % 2 ^ 32) * 2 ^ (32 * i)) } }

/-- The objects of the mirror with their present values (Table 17-5). -/
def mirrorValues (s : State) : Tab Int :=
  let put (k : Nat) (v : Int) (t : Tab Int) : Tab Int := Tab.put (fun _ => 0) k v t
  let one (t : Tab Int) (k : Nat) : Tab Int := put k (s.num k) t
  let t0 := [K.tbState, K.tbTrace, K.thLevel, K.fltStopped, K.fltSticky, K.recNext, K.galState, K.galDriveState].foldl one []
  let t1 := (List.range 32).foldl (fun t p => put (K.portMutes p) (portMutesNow s p : Int) (one (one t (K.portState p)) (K.fdState p))) t0
  let t2 := (List.range 24).foldl (fun t r => one t (K.rlState r)) t1
  (List.range 512).foldl (fun t c => put (K.chMutes c) (chMutesNow s c : Int) (put (K.chState c) (chStateNow s c) (one t (K.geApplied c)))) t2

/-- MIRROR_REFRESH (R362): the mirror is rewritten from this tick's values between an odd and an even MIRROR_SEQ. DESIGN CHOICE, log entry 14. -/
def execMirrorRefresh (s : State) : Host.Outcome State Fault Refusal :=
  .next { s with host := { s.host with mirror := mirrorValues s, mirrorTb := s.tbNow, mirrorOt := s.time.ot, mirrorSeq := s.host.mirrorSeq + 2 } }

end Sys2Proof.Machine
end

