-- ==== Sys2Proof/Machine/Cloister.lean ====
section
/-! DEFINITION. The Cloister (R370 to R387): signed records, access levels, band permits, firmware, tamper, and boundary
scan. -/

namespace Sys2Proof.Machine

/-! ### Signed records (R373) -/

/-- Why a record is rejected (Table 18-5, RECORD_REJECTED p1). -/
abbrev rjFormat : Nat := 1
abbrev rjSerial : Nat := 2
abbrev rjSignature : Nat := 3
abbrev rjSequence : Nat := 4
abbrev rjRevoked : Nat := 5
abbrev rjNoSlot : Nat := 6
abbrev rjEnrolment : Nat := 7
abbrev rjKind : Nat := 8

/-- Reject a record written to sub-index sub of 0x7900: RANGE, and a RECORD_REJECTED record. -/
def reject (sub why : Nat) (s : State) : Reply := ⟨fault 0x19 0 0 0x1109 sub why 0 0 s, some stRange, []⟩

/-- An event of a code the Cloister marks permanent. -/
def eventPerm (code p0 p1 p2 p3 : Nat) (s : State) : State :=
  enterRec ⟨code, 0, s.nat K.recPowerCycles, s.time.ot, 7 + 16, p0, p1, p2, p3⟩ s

/-- The octets of an ASCII word of four characters. -/
def magic4 (a b c d : Nat) : Nat := a + 256 * b + 65536 * c + 16777216 * d

/-- Octets from o to the end of n are 0. -/
def zeros (b : List Byte) (o n : Nat) : Bool := decide (leAt b o n = 0)

/-- Slot r holds a root key. -/
def rootHeld (s : State) (r : Nat) : Bool := decide (r < 8) && s.bit K.secRoots r

/-- A signature of root slot r over a message. DEDUCED, log entry 4. -/
def signedBy (s : State) (r : Nat) (msg sig : List Byte) : Bool := rootHeld s r && Config.ecdsaOk (s.oct (K.secRootPubN r)) msg sig

/-- The part's own serial. -/
def ownSerial (v : Nat) : Bool := decide (v = Config.serial.toNat)

/-- The common tests of a signed record: serial, signature and sequence, in that order; none when it passes. -/
def recordFault (s : State) (serialOk : Bool) (root seq : Nat) (msg sig : List Byte) : Option Nat :=
  if !serialOk then some rjSerial
  else if !signedBy s root msg sig then some rjSignature
  else if seq ≤ s.nat (K.secRevSeqN root) then some rjSequence
  else none

/-- The counter of the signing slot takes the sequence of an accepted record. -/
def takeSequence (root seq : Nat) (s : State) : State := s.set (K.secRevSeqN root) (seq : Nat)

/-- Every started channel takes its permit afresh (R381). -/
def reviewPermits (s : State) : State := forL s.started reviewPermit s

/-- Revoke the permits of a set of slots. -/
def revokeSlots (l : List Nat) (s : State) : State := forL l (fun n s => s.set (K.secPermitState n) 2) s

/-- Valid permits of root r. -/
def permitsOf (s : State) (r : Nat) : List Nat :=
  (List.range 64).filter (fun n => decide (s.num (K.secPermitState n) = 1) && decide (pmRoot (s.oct (K.secPermit n)) = r))

/-! ### Root records (R374) -/

def rootFormat (b : List Byte) : Bool :=
  decide (b.length = 148) && decide (leAt b 0 4 = magic4 0x4D 0x59 0x52 0x4B) && decide (leAt b 4 1 = 1) && decide (leAt b 5 1 < 2) &&
    decide (leAt b 6 1 < 8) && (decide (leAt b 7 1 < 8) || decide (leAt b 7 1 = 0xFF)) && (decide (leAt b 5 1 = 0) || zeros b 20 64)

/-- An accepted root record adds or removes the key of its target slot. DEDUCED, log entry 66. -/
def applyRoot (b : List Byte) (s : State) : State :=
  let t := leAt b 6 1
  let s0 := eventPerm 0x1103 t (leAt b 5 1) (leAt b 7 1) (leAt b 16 4) s
  if leAt b 5 1 = 0 then (s0.setOct (K.secRootPubN t) ((b.drop 20).take 64)).setBit K.secRoots t
  else reviewPermits (revokeSlots (permitsOf s0 t) ((s0.setOct (K.secRootPubN t) []).clrBit K.secRoots t))

/-- The effect of sec.root_install. -/
def rootInstallEffect (w : Who) (v : Val) (s : State) : Reply :=
  let b := v.octs
  if !rootFormat b then reject 0x04 rjFormat s
  else if leAt b 7 1 = 0xFF then
    if !ownSerial (leAt b 8 8) then reject 0x04 rjSerial s
    else if s.num K.secState ≠ 0 ∨ leAt b 5 1 ≠ 0 ∨ w.tunnel ∨ (w.flow ≠ 1 ∧ w.flow ≠ 2) then reject 0x04 rjEnrolment s
    else .ok ({ applyRoot b s with sec := { s.sec with enrolled := true } }.set K.secState 1)
  else match recordFault s (ownSerial (leAt b 8 8)) (leAt b 7 1) (leAt b 16 4) (b.take 84) (b.drop 84) with
    | some why => reject 0x04 why s
    | none => .ok (applyRoot b (takeSequence (leAt b 7 1) (leAt b 16 4) s))

/-- SEC_ROOT_INSTALL (R374). -/
def execSecRootInstall (f : Frame) (s : State) : Host.Outcome State Fault Refusal :=
  .next (requestWrite K.secRootInstall f s rootInstallEffect)

/-! ### Credential records (R375) -/

def credFormat (b : List Byte) : Bool :=
  decide (b.length = 200) && decide (leAt b 0 4 = magic4 0x4D 0x59 0x43 0x52) && decide (1 ≤ leAt b 4 1) && decide (leAt b 4 1 < 4) &&
    decide (leAt b 5 1 < 8) && zeros b 6 2 && zeros b 85 3

/-- The effect of sec.cred_install: the unwrapped key replaces the key of its level. DEDUCED, log entry 4. DEDUCED, log entry 65. -/
def credInstallEffect (_ : Who) (v : Val) (s : State) : Reply :=
  let b := v.octs
  let root := leAt b 5 1
  if !credFormat b then reject 0x05 rjFormat s
  else match recordFault s (ownSerial (leAt b 8 8)) root (leAt b 16 4) (b.take 136) (b.drop 136) with
    | some why => reject 0x05 why s
    | none =>
      if !Config.unwrapOk b then reject 0x05 rjSignature s
      else
        let s1 := takeSequence root (leAt b 16 4) s
        let s2 := { s1 with sec := { s1.sec with creds := Tab.put (fun _ => []) (leAt b 4 1) (Config.unwrapKey b) s1.sec.creds } }
        .ok (s2.setBit K.secCredLevels (leAt b 4 1))

/-- SEC_CRED_INSTALL (R375). -/
def execSecCredInstall (f : Frame) (s : State) : Host.Outcome State Fault Refusal :=
  .next (requestWrite K.secCredInstall f s credInstallEffect)

/-! ### Access levels (R376, R377) -/

/-- A lockout runs. -/
def lockedOut (s : State) : Bool := decide (s.time.ot < s.nat K.secLockoutEnd)

/-- sec.auth_status of a master. -/
def authStatusNow (s : State) (m : Nat) : Nat := if lockedOut s then 5 else (s.master m).auth

/-- The effect of sec.unlock: a fresh challenge of 16 random octets, drawn as a free value. DEDUCED, log entry 65. -/
def unlockEffect (w : Who) (v : Val) (s : State) : Reply :=
  let l := v.int.toNat
  if s.num K.secState = 2 ∨ lockedOut s ∨ !s.bit K.secCredLevels l ∨ w.tunnel then .no s stRange
  else .ok (s.drawn.setMaster w.flow { s.master w.flow with challenge := some (l, leBytes 16 s.fresh, s.time.now + 10 * secTicks), auth := 1 })

/-- SEC_UNLOCK (R376). -/
def execSecUnlock (f : Frame) (s : State) : Host.Outcome State Fault Refusal :=
  .next (requestWrite K.secUnlock f s unlockEffect)

/-- What a response has to be: HMAC over challenge, serial, master ID and level. DEDUCED, log entry 4. -/
def expectedResponse (s : State) (m l : Nat) (challenge : List Byte) : List Byte :=
  Config.hmac (Tab.get (fun _ => []) s.sec.creds l)
    (challenge ++ leBytes 8 (Config.serial.toNat : Int) ++ leBytes 1 (m : Int) ++ leBytes 1 (l : Int))

/-- The lockout after k failures, in units of operating time: 2^(k-3) s, at most 1,024 s. -/
def lockoutFor (k : Nat) : Nat := 1024 * min 1024 (2 ^ (k - 3))

/-- A failed response: counted, recorded, and from the third on a lockout. -/
def authFailed (m l : Nat) (status : Nat) (s : State) : State :=
  let k := min (s.nat K.secAuthFails + 1) 255
  let s1 := (fault 0x19 0 0 0x1108 m l k 0 s).set K.secAuthFails (k : Nat)
  let s2 := if 3 ≤ k then s1.set K.secLockoutEnd (s.time.ot + lockoutFor k : Nat) else s1
  s2.setMaster m { s2.master m with challenge := none, auth := status }

/-- A matching response: the master's level becomes L in this tick. -/
def authPassed (m l : Nat) (s : State) : State :=
  let s1 := event 0x1107 m l 0 0 (s.setMaster m { s.master m with challenge := none, auth := 2 })
  (s1.set K.secAuthFails 0).set (K.mrLevel m) (l : Nat)

/-- The effect of a write of sec.response: answered OK either way (R376). DEDUCED, log entry 65. -/
def responseEffect (w : Who) (v : Val) (s : State) : Reply :=
  .ok (match (s.master w.flow).challenge with
    | some (l, c, due) =>
      if due ≤ s.time.now then authFailed w.flow l 4 s
      else if v.octs = expectedResponse s w.flow l c then authPassed w.flow l s
      else authFailed w.flow l 3 s
    | none => authFailed w.flow 0 3 s)

/-- SEC_RESPONSE (R376). -/
def execSecResponse (f : Frame) (s : State) : Host.Outcome State Fault Refusal :=
  .next (requestWrite K.secResponse f s responseEffect)

/-- CHALLENGE_EXPIRE (R376): 10 s without an answer. -/
def execChallengeExpire (m : Nat) (s : State) : Host.Outcome State Fault Refusal :=
  .next (match (s.master m).challenge with
    | some (_, _, due) => if due ≤ s.time.now then s.setMaster m { s.master m with challenge := none, auth := 4 } else s
    | none => s)

/-- LOCKOUT_END (R377). -/
def execLockoutEnd (s : State) : Host.Outcome State Fault Refusal :=
  .next (if s.num K.secLockoutEnd ≠ 0 ∧ !lockedOut s then s.set K.secLockoutEnd 0 else s)

/-! ### Permits (R378 to R382) -/

def permitFormat (b : List Byte) : Bool :=
  decide (b.length = 128) && decide (leAt b 0 4 = magic4 0x4D 0x59 0x50 0x4D) && decide (leAt b 4 1 = 1) && decide (pmRoot b < 8) &&
    decide (pmDir b < 3) && decide (pmKind b < 2) && decide (pmId b ≠ 0) && decide (600000 ≤ leAt b 20 4) && decide (leAt b 24 4 ≤ 7125000) &&
    decide (leAt b 20 4 < leAt b 24 4) && zeros b 30 34

/-- The permit's ID is revoked by its root's list: below the floor, or listed. -/
def idRevoked (s : State) (root id : Nat) : Bool :=
  let l := Tab.get (fun _ => (0, [])) s.sec.lists root
  decide (id < l.1) || decide (id ∈ l.2)

/-- Two permits of different kinds overlap in band and direction. -/
def kindClash (a b : List Byte) : Bool :=
  decide (pmKind a ≠ pmKind b) && (pmBand a).overlaps (pmBand b) && (decide (pmDir a = 2) || decide (pmDir b = 2) || decide (pmDir a = pmDir b))

/-- The slot an accepted permit takes: the lowest empty, else the lowest revoked. -/
def permitSlot (s : State) : Option Nat :=
  ((List.range 64).find? (fun n => decide (s.num (K.secPermitState n) = 0))).orElse
    (fun _ => (List.range 64).find? (fun n => decide (s.num (K.secPermitState n) = 2)))

/-- Slots with a valid permit. -/
def heldPermits (s : State) : List Nat := (List.range 64).filter (fun n => decide (s.num (K.secPermitState n) = 1))

/-- A permit takes slot n, and the started channels take theirs afresh. DEDUCED, log entry 65. -/
def installPermit (n : Nat) (b : List Byte) (s : State) : State :=
  let s1 := (s.setOct (K.secPermit n) b).set (K.secPermitState n) 1
  reviewPermits (eventPerm 0x1104 n (pmId b) (pmRoot b) 0 s1)

/-- The effect of sec.permit_install (R379). The reason shown for contents that differ is not stated: a free value. -/
def permitInstallEffect (_ : Who) (v : Val) (s : State) : Reply :=
  let b := v.octs
  if !permitFormat b then reject 0x0D rjFormat s
  else if !ownSerial (leAt b 8 8) then reject 0x0D rjSerial s
  else if !signedBy s (pmRoot b) (b.take 64) (b.drop 64) then reject 0x0D rjSignature s
  else if idRevoked s (pmRoot b) (pmId b) then reject 0x0D rjRevoked s
  else if (heldPermits s).any (fun n => decide (s.oct (K.secPermit n) = b)) then .ok s
  else if (heldPermits s).any (fun n => kindClash (s.oct (K.secPermit n)) b) then reject 0x0D rjKind s
  else if (heldPermits s).any (fun n => decide (pmRoot (s.oct (K.secPermit n)) = pmRoot b) && decide (pmId (s.oct (K.secPermit n)) = pmId b)) then
    reject 0x0D (s.fresh % 4294967296).toNat s.drawn
  else match permitSlot s with
    | some n => .ok (installPermit n b s)
    | none => reject 0x0D rjNoSlot s

/-- SEC_PERMIT_INSTALL (R379). -/
def execSecPermitInstall (f : Frame) (s : State) : Host.Outcome State Fault Refusal :=
  .next (requestWrite K.secPermitInstall f s permitInstallEffect)

/-- IDs of a revocation list. -/
def listIds (b : List Byte) : List Nat := (List.range (leAt b 6 2)).map (fun i => leAt b (24 + 4 * i) 4)

def revokeFormat (b : List Byte) : Bool :=
  decide (88 ≤ b.length) && decide (leAt b 0 4 = magic4 0x4D 0x59 0x52 0x56) && decide (leAt b 4 1 = 1) && decide (leAt b 5 1 < 8) &&
    decide (leAt b 6 2 ≤ 240) && decide (b.length = 88 + 4 * leAt b 6 2)

/-- An accepted list replaces its root's list and revokes what it names. -/
def applyList (b : List Byte) (s : State) : State :=
  let r := leAt b 5 1
  let s1 := { s with sec := { s.sec with lists := Tab.put (fun _ => (0, [])) r (leAt b 20 4, listIds b) s.sec.lists } }
  let hit := (permitsOf s1 r).filter (fun n => idRevoked s1 r (pmId (s1.oct (K.secPermit n))))
  let s2 := revokeSlots hit (takeSequence r (leAt b 16 4) s1)
  let lost := s2.started.filter (fun c => decide (permitFor s2 c = none) && !s2.bit (K.chMutes c) cmPermit)
  reviewPermits (eventPerm 0x1105 r (leAt b 16 4) hit.length lost.length s2)

/-- The effect of sec.revoke (R382). -/
def revokeEffect (_ : Who) (v : Val) (s : State) : Reply :=
  let b := v.octs
  if !revokeFormat b then reject 0x0E rjFormat s
  else match recordFault s (ownSerial (leAt b 8 8) || decide (leAt b 8 8 = 0)) (leAt b 5 1) (leAt b 16 4)
      (b.take (b.length - 64)) (b.drop (b.length - 64)) with
    | some why => reject 0x0E why s
    | none => .ok (applyList b s)

/-- SEC_REVOKE (R382). -/
def execSecRevoke (f : Frame) (s : State) : Host.Outcome State Fault Refusal :=
  .next (requestWrite K.secRevoke f s revokeEffect)

/-! ### Tamper (R372) -/

/-- TAMPER (R372): a failed MAC (1) at a store offset, or a supply (2) or clock (3) glitch. -/
def execTamper (cause offset : Nat) (s : State) : Host.Outcome State Fault Refusal :=
  .next (
    let s1 := fault 0x19 0 4 0x1106 cause offset 0 0 s
    let s2 := forN 72 (fun m s => if m = 0 then s else s.set (K.mrLevel m) 0) s1
    reviewPermits (s2.set K.secState 2))

/-! ### Firmware (R383, R384) -/

/-- Octet a of firmware slot n. DEDUCED, log entry 3. -/
def norOct (s : State) (n a : Nat) : Byte := (Tab.get (fun _ => none) s.sec.nor (n * 2 ^ 24 + a)).getD (Config.norByte (n * 2 ^ 24 + a))

/-- A little-endian field of the image header in slot n. -/
def fwField (s : State) (n o len : Nat) : Nat := ofLe ((List.range len).map (fun i => norOct s n (o + i)))

/-- The slot that runs. -/
def fwRunning (s : State) : Nat := if s.bit K.secFwSlot 0 then 1 else 0

/-- The header of the image in slot n holds what R383 asks of it. -/
def imageHeader (s : State) (n : Nat) : Bool :=
  decide (fwField s n 0 4 = magic4 0x4D 0x59 0x46 0x57) && decide (fwField s n 14 2 = 0) && decide (fwField s n 16 4 ≤ 16773120) &&
    (List.range 3932).all (fun i => decide (norOct s n (164 + i) = 0))

/-- Why the image in slot n fails the checks of step 3 of R383, by the reasons of R393; 0 for an image that passes. DEDUCED, log entry 4. -/
def imageFault (s : State) (n : Nat) : Nat :=
  if !imageHeader s n then 1
  else if !Config.fwDigestOk (fun a => norOct s n a) then 2
  else if !Config.fwSignOk (fun a => norOct s n a) then 3
  else if fwField s n 12 2 < s.nat K.secFwSvn then 4
  else 0

/-- The image in slot n passes the checks of step 3 of R383. -/
def imageOk (s : State) (n : Nat) : Bool := decide (imageFault s n = 0)

/-- Write octets to a firmware slot from an address. -/
def norWrite (a : Nat) : List Byte → Tab (Option Byte) → Tab (Option Byte)
  | [], t => t
  | b :: l, t => norWrite (a + 1) l (Tab.put (fun _ => none) a (some b) t)

/-- The effect of sec.fw_write: the piece goes to the slot not running and the offset advances; a piece that would not fit the
slot is answered RANGE. DEDUCED, log entry 66. -/
def fwWriteEffect (_ : Who) (v : Val) (s : State) : Reply :=
  let o := s.nat K.secFwOffset
  if 2 ^ 24 < o + v.octs.length then .no s stRange
  else
    let s1 := { s with sec := { s.sec with nor := norWrite ((1 - fwRunning s) * 2 ^ 24 + o) v.octs s.sec.nor } }
    .ok ((s1.set K.secFwStatus 1).set K.secFwOffset (o + v.octs.length : Nat))

/-- SEC_FW_WRITE (R383). -/
def execSecFwWrite (f : Frame) (s : State) : Host.Outcome State Fault Refusal :=
  .next (requestWrite K.secFwWrite f s fwWriteEffect)

/-- The effect of sec.fw_commit: the image is staged and its slot preferred, or sec.fw_status reads 5. FW_STAGED is recorded. -/
def fwCommitEffect (_ : Who) (_ : Val) (s : State) : Reply :=
  let n := 1 - fwRunning s
  if imageOk s n then
    let s1 := { s with sec := { s.sec with preferred := n, boots := 0 } }
    .ok ((eventPerm 0x1101 (fwField s n 4 4) (fwField s n 8 4) n (fwField s n 12 2) s1).set K.secFwStatus 3)
  else .ok (s.set K.secFwStatus 5)

/-- SEC_FW_COMMIT (R383). -/
def execSecFwCommit (f : Frame) (s : State) : Host.Outcome State Fault Refusal :=
  .next (requestWrite K.secFwCommit f s fwCommitEffect)

/-- The effect of sec.fw_confirm: sec.fw_svn takes the running image's security version. DEDUCED, log entry 66. -/
def fwConfirmEffect (_ : Who) (_ : Val) (s : State) : Reply :=
  let n := fwRunning s
  let s1 := { s with sec := { s.sec with confirmed := true, boots := 0, preferred := n } }
  .ok ((eventPerm 0x1102 (s.nat K.idFwVersion) (s.nat K.secFwSvn) (fwField s n 12 2) 0 s1).set K.secFwSvn (fwField s n 12 2 : Nat))

/-- SEC_FW_CONFIRM (R383). -/
def execSecFwConfirm (f : Frame) (s : State) : Host.Outcome State Fault Refusal :=
  .next (requestWrite K.secFwConfirm f s fwConfirmEffect)

end Sys2Proof.Machine
end

