-- ==== Sys2Proof/Machine/Read.lean ====
section
/-! DEFINITION. What a read returns (R24, R34, R38): the objects whose values follow from other state, those measured on
signals (free values, DESIGN CHOICE, log entry 2), and those kept per master. -/

namespace Sys2Proof.Machine

/-! ### The Vestibule and the journal (Table 5-9) -/

/-- Vestibule slots in use, with their transactions. -/
def slotsInUse (s : State) : List (Nat × Tx) := s.tx.slots.filterMap (fun e => e.2.map (fun t => (e.1, t)))

/-- Values staged device-wide. -/
def stagedCount (s : State) : Nat := ((slotsInUse s).map (fun e => e.2.staged.length)).sum

/-- The kind that tx.open reads for a flow: 0 local, 1 system, 0xFF none. -/
def openKind (s : State) (flow : Nat) : Int :=
  match txOf s flow [1, 2] with
  | some (_, t) => if t.kind = 1 then 0 else 1
  | none => 0xFF

/-- The objects of Vestibule slot i. -/
def slotNum (s : State) (row i : Nat) : Int :=
  match s.slot i with
  | none => if row = 4 then noTime else 0
  | some t =>
    if row = 0 then (t.origin * 65536 + t.om * 256 + t.kind : Nat)
    else if row = 1 then (t.number : Nat)
    else if row = 2 then (t.state : Nat)
    else if row = 3 then (t.staged.length : Nat)
    else if row = 4 then (if t.launch = unbounded then (noTime : Nat) else (tbWord t.launch : Nat))
    else (t.sysId : Nat)

/-- Branches In doubt. -/
def inDoubt (s : State) : Nat := ((slotsInUse s).filter (fun e => decide (e.2.state = 7))).length

/-! ### Derived numbers -/

/-- A rational in Q16.16 (DEDUCED, log entry 5). -/
def q16 (r : Rat) : Int := qdiv (r.num * 65536) r.den

/-- The load of the canceller of channel c (R201): nothing while its channel is not started. -/
def cancellerLoad (s : State) (c : Nat) : Rat :=
  if s.num (K.chRun c) = 0 then 0 else ((usedBranches s c).length : Rat) * branchLoad s c

/-- Slots a slice's started channels hold. -/
def slotsUsed (s : State) (sl : Nat) : Nat := ((startedIn s sl).map (fun c => slotsOf (s.nat (K.chD c)))).sum

/-- ge.holds: the launch hold, the pattern and the mutes (R228). -/
def holdsNow (s : State) (c : Nat) : Int :=
  let w := s.nat (K.chMutes c)
  let b0 := if s.bit (K.geHolds c) 0 then 1 else 0
  let b1 := if w.testBit cmPattern then 2 else 0
  let b2 := if s.flag K.fltStopped ∨ holdingBits w ≠ 0 then 4 else 0
  (b0 + b1 + b2 : Nat)

/-- The segment the walker of pattern p is in; 0 while it stands still. In the second half of a chained pair the numbers go on from pat.nseg of
the first pattern (DESIGN CHOICE, log entry 125). -/
def segmentNow (s : State) (p : Nat) : Int :=
  if s.flag (K.patEnable p) ∧ s.time.running then
    match segAt s p (positionAt s p s.time.tb) with
    | some g => if g.pat = p then (g.num : Nat) else (g.num + s.nat (K.patNseg p) : Nat)
    | none => 0
  else 0

/-- Objects of one channel that follow from other state: sub-index of block 4. -/
def channelNum (s : State) (c sub : Nat) : Option Int :=
  match sub with
  | 1 => some (chStateNow s c)
  | 2 => some (chMutesNow s c : Nat)
  | 3 => some (if s.num (K.chRun c) = 0 then 0 else (slotsOf (s.nat (K.chD c)) : Nat))
  | 4 => some (settleLeft s c : Nat)
  | 5 => some (delayNow s c 0 : Nat)
  | 6 => some (delayNow s c 1 : Nat)
  | 7 => some (delayNow s c 2 : Nat)
  | 8 => some (delayNow s c 3 : Nat)
  | _ => none

/-- Objects of one canceller. Of a channel that is not started cx.freezes reads its stored bits and cx.margin its default 0.
DEDUCED, log entry 105. -/
def cancellerNum (s : State) (c sub : Nat) : Option Int :=
  if sub = 2 then (if s.num (K.chRun c) = 0 then none else some (freezesNow s c : Nat))
  else if sub = 3 then some (if s.num (K.chRun c) = 0 then 0 else marginNow s c)
  else if sub = 8 then some (reconvOf s c : Nat)
  else if sub = 0x0B then some (q16 (cancellerLoad s c))
  else if c = 0 ∧ 0x40 ≤ sub ∧ sub < 0x50 then some (q16 (poolLoad s (sub - 0x40)))
  else if c = 0 ∧ sub = 0x50 then some (q16 ((List.range 16).map (poolLoad s)).sum)
  else none

/-- Objects of one gain engine. No loop acts on a channel that is not started: ge.cost then reads its default 1. DEDUCED,
log entry 105. -/
def engineNum (s : State) (c sub : Nat) : Option Int :=
  match sub with
  | 0x08 => some (holdsNow s c)
  | 0x12 => some (applyOffset s c : Nat)
  | 0x16 => some (if s.num (K.chRun c) = 0 then 1 else (costOf s c : Nat))
  | _ => none

/-- Objects of one port: sub-index of block 1. -/
def portNum (s : State) (p sub : Nat) : Option Int :=
  match sub with
  | 5 => some (if paenNow s p then 1 else 0)
  | 7 => some (portMutesNow s p : Nat)
  | 8 => some (portTemp s p)
  | _ => none

/-- The earliest armed due value, as a TB64 word. -/
def nextDue (s : State) : Int :=
  match earliest ((armedEntries s).map (dueOf s)) with
  | some t => (tbWord t : Nat)
  | none => (noTime : Nat)

/-- The value of an object that follows from other state; none for those held in the dictionary. -/
def derivedNum (s : State) (k : Nat) : Option Int :=
  let i := k / 256
  let sub := k % 256
  if 0x4000 ≤ i ∧ i < 0x6000 then
    (let c := (i - 0x4000) / 16
     if i % 16 = 4 then channelNum s c sub
     else if i % 128 = 15 ∧ sub = 5 then some (slotsUsed s (c / 8) : Nat)
     else none)
  else if 0x6000 ≤ i ∧ i < 0x6800 then
    (let c := (i - 0x6000) / 4
     if i % 4 = 1 then engineNum s c sub
     else if i = 0x6002 ∧ sub = 0x41 then some (loadAt s s.time.now : Nat)
     else if i = 0x6002 ∧ sub = 0x42 then some (q16 (100 * admittedLoad s))
     else none)
  else if 0x6800 ≤ i ∧ i < 0x7000 then (if i % 4 = 2 then cancellerNum s ((i - 0x6800) / 4) sub else none)
  else if 0x3000 ≤ i ∧ i < 0x3400 then (if i % 32 = 1 then portNum s ((i - 0x3000) / 32) sub else none)
  else if k = K.idSerial then some (Config.serial.toNat : Nat)
  else if k = K.tbNow then some (s.tbNow : Nat)
  else if k = K.tbAdjust then some (match s.time.step with | some p => if p.cause = 4 then p.delta else 0 | none => 0)
  else if k = K.stwDepth then some (if isNewel s then 0 else s.num K.stwDepth)
  else if k = K.stwNewel then some (if isNewel s then s.num K.stwAddr else s.num K.stwNewel)
  else if 0x2180 ≤ i ∧ i < 0x2188 ∧ sub = 0x0A then some (if s.flag (K.patEnable (i - 0x2180)) then (positionAt s (i - 0x2180) s.time.tb : Nat) else 0)
  else if 0x2180 ≤ i ∧ i < 0x2188 ∧ sub = 0x0B then some (segmentNow s (i - 0x2180))
  else if k = K.ltArmed then some ((armedEntries s).length : Nat)
  else if k = K.ltNextDue then some (nextDue s)
  else if k = K.txOpenCount then some ((slotsInUse s).length : Nat)
  else if k = K.txStagedCount then some (stagedCount s : Nat)
  else if k = K.txPending then some (s.tx.accepted.length : Nat)
  else if 0x2210 ≤ i ∧ i < 0x2216 then some (slotNum s (i - 0x2210) (sub - 1))
  else if k = K.jrRingUsed then some (ringUsed s : Nat)
  else if k = K.txSysInDoubt then some (inDoubt s : Nat)
  else if k = K.txSysQueue then some ((s.tx.sys.filter (fun t => decide (t.state = 0))).length : Nat)
  else if i = 0x7040 ∨ i = 0x7041 then some (oscStateNow s ((i - 0x7040) * 256 + sub))
  else if 0x7060 ≤ i ∧ i < 0x7080 ∧ sub = 8 then some (emStatusNow s (i - 0x7060))
  else if i = 0x71A4 ∨ i = 0x71A5 then some (accMean s ((i - 0x71A4) * 128 + sub))
  else if 0x7240 ≤ i ∧ i < 0x7258 ∧ sub = 4 then some (vrefNow s (i - 0x7240) : Nat)
  else if i = 0x7A11 ∧ 0x55 ≤ sub then some (portDomainState s (sub - 1))
  else if k = K.recOldest then some (recOldestNow s : Nat)
  else if k = K.recOpTime then some (s.time.ot : Nat)
  else none

/-- Objects kept per master (R343, R376): the value a flow reads. -/
def perMaster (s : State) (flow k : Nat) : Option Int :=
  if k = K.txOpen then some (openKind s flow)
  else if k = K.recCursor then some ((s.master flow).cursor : Nat)
  else if k = K.recPermCursor then some ((s.master flow).permCursor : Nat)
  else if k = K.secAuthStatus then some (authStatusNow s flow : Nat)
  else none

/-! ### Measured values -/

/-- Channel c has run on since its last synchronising reset, so that its powers are measured (R173). DEDUCED, log entry 44. -/
def tracks (s : State) (c : Nat) : Bool := decide (s.num (K.chRun c) = 1) && decide ((s.chan c).grid < s.time.now)

/-- Objects measured on signals that no command of the table carries: their values are free (DESIGN CHOICE, log entry 2). -/
def measuredLive (s : State) (k : Nat) : Bool :=
  let i := k / 256
  let sub := k % 256
  if 0x3000 ≤ i ∧ i < 0x3400 then
    (let p := (i - 0x3000) / 32
     let on := decide (s.num (K.portState p) ≠ psOff)
     if i % 32 = 2 ∨ i % 32 = 3 then decide (sub = 7) && on
     else decide (i % 32 = 5) && decide (sub = 6) && on)
  else if 0x4000 ≤ i ∧ i < 0x6000 then decide (i % 16 = 4) && decide (sub = 11 ∨ sub = 12) && tracks s ((i - 0x4000) / 16)
  else decide (k = K.hostAerCorr ∨ k = K.hostAerUncorr)

/-- A free value of an object's type. DESIGN CHOICE, log entry 2. -/
def freeOf (r : ObjRow) (v : Int) : Int :=
  if r.ty.signed then toSigned r.ty.size ((v % 2 ^ (8 * r.ty.size)).toNat) else v % 2 ^ (8 * r.ty.size)

/-! ### Reads -/

/-- The number an object reads as, where nothing measured enters. -/
def State.readNum (s : State) (flow k : Nat) : Int :=
  match perMaster s flow k with
  | some v => v
  | none => (derivedNum s k).getD (s.num k)

/-- Octets a BLOB or STR reads as. -/
def readOct (s : State) (flow k : Nat) : List Byte :=
  if k = K.secIdPub then (List.range 64).map Config.idPub
  else if k = K.secChallenge then (match (s.master flow).challenge with | some c => c.2.1 | none => (List.range 16).map Config.noChallenge)
  else s.oct k

/-- A read of the value in effect of an object at key k by a flow (R24, R43): rec.record and rec.perm_record advance their cursor. -/
def readLive (flow : Nat) (r : ObjRow) (k : Nat) (s : State) : Reply :=
  if k = K.recRecord then recRecordReply flow s
  else if k = K.recPermRecord then recPermReply flow s
  else if r.ty.octets then ⟨s, some stOk, readOct s flow k⟩
  else if measuredLive s k then ⟨s.drawn, some stOk, encodeVal r.ty (.num (freeOf r s.fresh))⟩
  else ⟨s, some stOk, encodeVal r.ty (.num (s.readNum flow k))⟩

/-- Measured objects whose copy in the snapshot bank is free too. -/
def measuredCopy (k : Nat) : Bool :=
  let i := k / 256
  let sub := k % 256
  if 0x3000 ≤ i ∧ i < 0x3400 then decide (i % 32 = 5) && decide (sub = 6)
  else if 0x4000 ≤ i ∧ i < 0x6000 then decide (i % 16 = 4) && decide (sub = 11 ∨ sub = 12)
  else decide (k = K.hostAerCorr ∨ k = K.hostAerUncorr)

/-- The copy of an object in the snapshot bank (R80). The copy of a measured object is one free value per snapshot. DESIGN CHOICE, log entry 43. -/
def readCopy (r : ObjRow) (k : Nat) (s : State) : List Byte :=
  if measuredCopy k ∧ s.num K.snapTick ≠ noTime then
    encodeVal r.ty (.num (freeOf r (Config.freeVal (2 ^ 64 * (k + 1) + s.nat K.snapSeq))))
  else encodeVal r.ty (.num (Tab.get Dict.default s.snap k))

/-- What a READ of a log object is to a frame (R43): the level and existence tests pass for these RO objects. -/
def requestRead (k : Nat) (f : Frame) (s : State) (act : Who → State → Reply) : State :=
  request kRead { f with index := k / 256, sub := k % 256, describe := false, staged := false } s (fun w _ s => act w s)

/-- REC_RECORD (R343). -/
def execRecRecord (f : Frame) (s : State) : Host.Outcome State Fault Refusal :=
  .next (requestRead K.recRecord f s (fun w s => recRecordReply w.flow s))

/-- REC_PERM_RECORD (R343). -/
def execRecPermRecord (f : Frame) (s : State) : Host.Outcome State Fault Refusal :=
  .next (requestRead K.recPermRecord f s (fun w s => recPermReply w.flow s))

end Sys2Proof.Machine
end

