-- ==== Sys2Proof/Machine/Snapshot.lean ====
section
/-! DEFINITION. Snapshots (R80, R81). -/

namespace Sys2Proof.Machine

/-- Accumulators, and trackers, that empty after a snapshot. -/
def accsOnSnap (s : State) : List Nat := (List.range 256).filter (fun a => s.flag (K.accClearOnSnap a))

def trsOnSnap (s : State) : List Nat := (List.range 256).filter (fun a => s.flag (K.trClearOnSnap a))

/-- The values a snapshot copies: the objects and the channels as they stood before the present tick, with those that follow from other state. DESIGN CHOICE, log entry 43. -/
def snapValues (s : State) : Tab Int :=
  let o : State := { s with obj := s.before, chans := s.chansBefore }
  let put (t : Tab Int) (k : Nat) : Tab Int := Tab.put Dict.default k (o.readNum 0 k) t
  let t1 := o.started.foldl (fun t c => put t (K.cxMargin c)) s.before
  let t2 := ((List.range 256).filter (fun a => decide (o.num (K.accCount a) ≠ 0))).foldl (fun t a => put t (K.accMean a)) t1
  put t2 K.geLoad

/-- Empty accumulator a but for the outputs of the present tick (R270). -/
def restartAcc (a : Nat) (s : State) : State :=
  let n := Tab.get Dict.default s.before (K.accCount a)
  let v := Tab.get Dict.default s.before (K.accSum a)
  if n ≤ s.num (K.accCount a) then
    ((s.set (K.accFull a) 0).set (K.accSum a) (s.num (K.accSum a) - v)).set (K.accCount a) (s.num (K.accCount a) - n)
  else s

/-- A snapshot in this tick. -/
def takeSnapshot (late : Bool) (s : State) : State :=
  let s1 := forL (accsOnSnap s) restartAcc { s with snap := snapValues s }
  let s2 := forL (trsOnSnap s) clearTr s1
  ((s2.setFlag K.snapLate late).set K.snapSeq ((s2.num K.snapSeq + 1) % 4294967296)).set K.snapTick (s.tbNow : Nat)

/-- Hold a snapshot against a tick. -/
def dueSnapshot (t : Nat) (s : State) : State := { s with time := { s.time with snapDue := s.time.snapDue ++ [t] } }

/-- SNAP_LOCAL (R81): a snapshot of this part at a tick; all ones is the first tick after this one. -/
def snapLocalEffect (_ : Who) (v : Val) (s : State) : Reply :=
  .ok (if v.int = noTime then { s with time := { s.time with snapNext := s.time.snapNext ++ [s.time.now + 1] } }
    else dueSnapshot (tbTicks v.int.toNat) s)

def execSnapLocal (f : Frame) (s : State) : Host.Outcome State Fault Refusal :=
  .next (requestWrite K.snapLocal f s snapLocalEffect)

/-- SNAP_SYSTEM (R81): on the Newel, at least 10 ms ahead: broadcast, and held here. -/
def snapSystemEffect (_ : Who) (v : Val) (s : State) : Reply :=
  let t := tbTicks v.int.toNat
  if !isNewel s ∨ v.int = noTime ∨ t < s.time.tb + 12288000 then .no s stRange
  else .ok (dueSnapshot t (sendDown 0x21 [(t : Int)] s))

def execSnapSystem (f : Frame) (s : State) : Host.Outcome State Fault Refusal :=
  .next (requestWrite K.snapSystem f s snapSystemEffect)

/-- SNAPSHOT_TRIGGER (R81): the broadcast trigger for tick at_, passed on downstream; received after its tick, the
snapshot is taken now and marked late. -/
def execSnapshotTrigger (at_ : Nat) (s : State) : Host.Outcome State Fault Refusal :=
  .next (
    let s1 := sendDown 0x21 [(at_ : Int)] s
    if at_ < s.time.tb then takeSnapshot true s1 else dueSnapshot at_ s1)

/-- SNAPSHOT_DUE (R57, R80): every snapshot whose tick has come is taken, each once. DESIGN CHOICE, log entry 36. -/
def execSnapshotDue (s : State) : Host.Outcome State Fault Refusal :=
  .next (
    let due := s.time.snapDue.filter (fun t => decide (t ≤ s.time.tb))
    let rest := s.time.snapDue.filter (fun t => decide (s.time.tb < t))
    let now := s.time.snapNext.filter (fun t => decide (t ≤ s.time.now))
    let later := s.time.snapNext.filter (fun t => decide (s.time.now < t))
    forL (due ++ now) (fun _ s => takeSnapshot false s) { s with time := { s.time with snapDue := rest, snapNext := later } })

end Sys2Proof.Machine
end

