-- ==== Sys2Proof/Machine/Launch.lean ====
section
/-! DEFINITION. Pattern walkers (R97 to R100) and the launch actions of Table 4-2, run by launch entries and pattern actions
(R88 to R91, R99). -/

namespace Sys2Proof.Machine

/-! ### Walkers (R97, R98) -/

/-- The record of the walker of pattern p. -/
def State.walker (s : State) (p : Nat) : Walker := Tab.get (fun _ => Walker.fresh) s.walkers p

def State.setWalker (s : State) (p : Nat) (w : Walker) : State :=
  { s with walkers := Tab.put (fun _ => Walker.fresh) p w s.walkers }

/-- Walkers that run. DEDUCED, log entry 21. -/
def walkersOn (s : State) : List Nat := (s.walkers.filter (fun e => e.2.on)).map Prod.fst

/-- A segment boundary of walker p has come and has not been walked. -/
def boundaryDue (s : State) (p : Nat) : Bool := (s.walker p).on && decide ((s.walker p).due ≤ s.time.tb)

/-- Actions of walker p whose points have come, ascending. -/
def actionsDue (s : State) (p : Nat) : List Nat :=
  if (s.walker p).on then ((s.walker p).acts.filter (fun e => decide (e.2 ≤ s.time.tb))).map Prod.fst else []

/-- No walker has a boundary to walk. DEDUCED, log entry 46. -/
def boundariesWalked (s : State) : Bool := (walkersOn s).all (fun p => !boundaryDue s p)

/-- No walker has work in this tick. -/
def walkersIdle (s : State) : Bool := boundariesWalked s && (walkersOn s).all (fun p => decide (actionsDue s p = []))

/-- Ports that pattern p drives, ascending. -/
def portsOf (s : State) (p : Nat) : List Nat := (List.range 32).filter (fun q => s.bit (K.patPorts p) q)

/-- Started channels that stand on walker p. -/
def channelsOn (s : State) (p : Nat) : List Nat := s.started.filter (fun c => decide (chanWalker s c = some p))

/-- The walker wants port q in a state. -/
def wantPort (q : Nat) (v : Int) (s : State) : State := moveOn q (s.setPort q { s.port q with wanted := v })

/-- The segment after segment i of the cycle. -/
def segAfter (s : State) (p i : Nat) : Option Seg :=
  let l := segsOf s p
  l[(i + 1) % max 1 l.length]?

/-- A port at the boundary from segment cur to segment nxt, with the segment after that (R97): a port that transmitted goes to Listen
when it receives next, stays when it transmits next, and else takes its rest state; every other port stands in Listen; a port that
transmits is in Relay; and one that transmits after a guard that is no Landing begins its change with the guard. DEDUCED, log entry 38. -/
def drivePort (cur nxt : Seg) (later : Option Seg) (q : Nat) (s : State) : State :=
  let v := if transmitsIn s q nxt.dir then psRelay
    else if transmitsIn s q cur.dir ∧ !receivesIn s q nxt.dir then s.num (K.portRest q)
    else psListen
  let s0 := if transmitsIn s q nxt.dir then openTxWindow q s else if (s.port q).window then windowEnd q s else s
  let s1 := wantPort q v s0
  match later with
  | some g => if nxt.dir = 2 ∧ !nxt.landing ∧ transmitsIn s q g.dir then wantPort q psRelay s1 else s1
  | none => s1

/-- Freeze what R98 freezes of channel c until the transient is over: n ticks from now, or none while no segment of its own runs. -/
def patternFreeze (c : Nat) (n : Option Nat) (s : State) : State :=
  match n with
  | some 0 => (s.setChan c { s.chan c with transientDue := none, dcPattern := false }).clrBit (K.cxFreezes c) 1
  | some n => (s.setChan c { s.chan c with transientDue := some (s.time.now + n), dcPattern := true }).setBit (K.cxFreezes c) 1
  | none => (s.setChan c { s.chan c with transientDue := none, dcPattern := true }).setBit (K.cxFreezes c) 1

/-- Channel c of walker p at a boundary from direction a to direction b (R98). DEDUCED, log entry 38. -/
def walkChannel (p a b c : Nat) (s : State) : State :=
  let d := s.nat (K.chDir c)
  if b = d then releaseCh c cmPattern (patternFreeze c (some (s.nat (K.patTransient p))) s)
  else if a = d then raiseCh c cmPattern (patternFreeze c none s)
  else s

/-- Walker p walks its next boundary. -/
def walkBoundary (p : Nat) (s : State) : State :=
  let w := s.walker p
  let l := segsOf s p
  let i := (w.seg + 1) % max 1 l.length
  match l[w.seg]?, l[i]? with
  | some cur, some nxt =>
    let s1 := s.setWalker p { w with due := w.due + nxt.len, seg := i }
    let s2 := if i = 0 then (irq (72 + p) s1).inc (K.patCycles p) 64 else s1
    let s3 := forL (channelsOn s2 p) (walkChannel p cur.dir nxt.dir) s2
    forL (portsOf s3 p) (drivePort cur nxt (segAfter s p i)) s3
  | _, _ => s

/-- SEGMENT_BOUNDARY (R97, R98): in ascending pattern number within a tick (R89). -/
def execSegmentBoundary (p : Nat) (s : State) : Host.Outcome State Fault Refusal :=
  .next (if launchRuns s && noCommitDue s && boundaryDue s p && (List.range p).all (fun q => !boundaryDue s q) then walkBoundary p s else s)

/-- PATTERN_TRANSIENT_END (R98): adaptation and DC tracking of channel c resume. -/
def execPatternTransientEnd (c : Nat) (s : State) : Host.Outcome State Fault Refusal :=
  .next (match (s.chan c).transientDue with
    | some t => if t ≤ s.time.now then patternFreeze c (some 0) s else s
    | none => s)

/-- The changes that begin before a boundary (R97): a port that transmits in the next segment begins its change to Relay its charged
change before the start, and one at rest in Standby that receives begins its change to Listen. -/
def walkLeads (p : Nat) (s : State) : State :=
  let w := s.walker p
  match segAfter s p w.seg with
  | some g =>
    forL (portsOf s p) (fun q s =>
      let v := (s.port q).wanted
      if transmitsIn s q g.dir ∧ v ≠ psRelay ∧ w.due ≤ s.time.tb + portToRelay s q then wantPort q psRelay s
      else if receivesIn s q g.dir ∧ v = psStandby ∧ w.due ≤ s.time.tb + 4916 then wantPort q psListen s
      else s) s
  | none => s

/-- The leads of every walker in this tick. DEDUCED, log entry 46. -/
def leadsTick (s : State) : State := if launchRuns s then forL (walkersOn s) walkLeads s else s

/-! ### Placing walkers (R69, R100) -/

/-- The points of the actions of pattern p from timebase tick t on. -/
def actionPoints (s : State) (p t : Nat) : Tab Nat :=
  (List.range 16).filterMap (fun i =>
    if (actAction (s.oct (K.patAction p (i + 1)))).kind = 0 then none else some (i + 1, nextAt s p (actionPos s p (i + 1)) t))

/-- The number of the segment that holds a position. -/
def segNo (s : State) (p pos : Nat) : Nat := ((segsOf s p).filter (fun g => decide (g.start + g.len ≤ pos))).length

/-- Walker p takes its position in this tick. -/
def placeWalker (p : Nat) (s : State) : State :=
  let pos := positionAt s p s.time.tb
  let i := segNo s p pos
  let left := match (segsOf s p)[i]? with | some g => g.start + g.len - pos | none => 0
  s.setWalker p ⟨true, s.time.tb + left, i, actionPoints s p s.time.tb⟩

/-- Pattern mute and freezes of channel c as the position of its walker implies. -/
def implyChannel (c : Nat) (s : State) : State :=
  match chanWalker s c with
  | some w =>
    let pos := positionAt s w s.time.tb
    (match segAt s w pos with
     | some g =>
       if g.dir = s.nat (K.chDir c) then
         releaseCh c cmPattern (patternFreeze c (some (s.nat (K.patTransient w) - (pos - g.start))) s)
       else (if s.bit (K.chMutes c) cmPattern then patternFreeze c none s else raiseCh c cmPattern (patternFreeze c none s))
     | none => s)
  | none => releaseCh c cmPattern (patternFreeze c (some 0) s)

/-- The state a driven port takes when its walker starts in a segment. -/
def implyPort (p q : Nat) (s : State) : State :=
  match (segsOf s p)[(s.walker p).seg]? with
  | some g => wantPort q (if transmitsIn s q g.dir then psRelay else psListen) s
  | none => s

/-- The last launch-free hold or freeze that the cycle of walker p leaves on a target at a position: the parameter of the latest
action of the kind on it. -/
def impliedParam (s : State) (p kind target pos : Nat) : Option Nat :=
  heldAt ((List.range 16).filterMap (fun i =>
    let b := s.oct (K.patAction p (i + 1))
    let a := actAction b
    if a.kind = kind ∧ a.target = target then some (actionPos s p (i + 1), a.param) else none)) pos

/-! ### Effects of the kinds (Table 4-2) -/

/-- Kind 0x01: the port's target. -/
def actPort (a : Action) (opener : Option Nat) (s : State) : State :=
  let s1 := if a.param = 4 then s.setPort a.target { s.port a.target with opener := opener } else s
  retarget a.target (s1.set (K.portTarget a.target) (a.param : Nat))

/-- Kind 0x04: the launch hold of the gain. -/
def actHold (a : Action) (s : State) : State :=
  if s.bit (K.geHolds a.target) 0 = decide (a.param = 1) then s
  else markWindow a.target (s.putBit (K.geHolds a.target) 0 (decide (a.param = 1)))

/-- The banks of channel c differ in centre or bandwidth (R205); those of a whole-port channel are ignored (R188). -/
def banksDiffer (s : State) (c : Nat) : Bool :=
  decide (s.num (K.chD c) ≠ 1) &&
    (decide (s.num (K.bkCentre 0 c) ≠ s.num (K.bkCentre 1 c)) || decide (s.num (K.bkBw 0 c) ≠ s.num (K.bkBw 1 c)))

/-- Kind 0x06: a swap (R184, R185). Naming the active bank it is only counted. -/
def actSwap (a : Action) (s : State) : State :=
  let sl := a.target
  let b := a.param / 65536
  let s1 := s.inc (K.slSwaps sl) 32
  if s1.nat (K.slBankActive sl) = b then s1
  else
    let s2 := if s1.flag (K.slFading sl) then endFade sl s1 else s1
    let s3 := beginFade sl (a.param % 65536) (s2.set (K.slBankActive sl) (b : Nat))
    forL (startedIn s3 sl) (fun c s => takePermit c (if banksDiffer s c then tapReset c s else s)) s3

/-- Kind 0x07: the launch freeze of a canceller. -/
def actFreeze (a : Action) (s : State) : State := s.putBit (K.cxFreezes a.target) 0 (decide (a.param = 1))

/-- Kind 0x08: the launch freeze of a DC-blocking stage. -/
def actDc (a : Action) (s : State) : State := s.setChan a.target { s.chan a.target with dcFreeze := decide (a.param = 1) }

/-- Kind 0x0A: a calibration, at once on a port that can go to Cal. DEDUCED, log entry 47. -/
def actCal (a : Action) (s : State) : State :=
  if calHolds s a.target ∨ s.num (K.portState a.target) < psStandby then addPending a.target a.param s else calBegin a.target a.param s

/-- The effect of an action, opened by a launch entry or by a pattern action (none). -/
def runAction (a : Action) (opener : Option Nat) (s : State) : State :=
  match a.kind with
  | 0x01 => actPort a opener s
  | 0x02 => releaseCh a.target cmLaunch s
  | 0x03 => raiseCh a.target cmLaunch s
  | 0x04 => actHold a s
  | 0x05 => railSelect a.target a.param s
  | 0x06 => actSwap a s
  | 0x07 => actFreeze a s
  | 0x08 => actDc a s
  | 0x09 => takeSnapshot false s
  | 0x0A => actCal a s
  | 0x0B => galLaunchTrigger a.param s
  | 0x0C => feedSwitch a.target a.param s
  | _ => s

/-- The resource of an action is in Chrysalis or Sealed (Table 4-3). -/
def actionHeld (s : State) (a : Action) : Bool :=
  if a.kind = 0x01 ∨ a.kind = 0x0A then decide (s.num (K.portState a.target) = psChrysalis)
  else if a.kind = 0x02 ∨ a.kind = 0x03 ∨ a.kind = 0x04 ∨ a.kind = 0x07 ∨ a.kind = 0x08 then
    decide (chStateNow s a.target = 3) || decide (chStateNow s a.target = 4)
  else if a.kind = 0x0C then decide (s.num (K.fdState a.target) = fsSealed)
  else false

/-! ### Execution (R57, R89, R91, R122) -/

/-- Each execution leaves a mark in the mark buffer (R122). -/
def leaveMark (n : Nat) (s : State) : State :=
  let g := Tab.get (fun _ => 0) s.tx.gen n
  { s with jr := { s.jr with marks := s.jr.marks ++ [(n, g)], markSince := some (s.jr.markSince.getD s.time.now) } }

/-- Execute armed entry n in this tick. -/
def runEntry (n : Nat) (s : State) : State :=
  let a := entryAction (entryOct s n)
  let held := actionHeld s a
  entryDone n held (leaveMark n (runAction a (some n) s))

/-- Action a of pattern p is the next to run in this tick. -/
def actionReady (s : State) (p a : Nat) : Bool :=
  launchRuns s && noCommitDue s && boundariesWalked s && decide (a ∈ actionsDue s p) &&
    (actionsDue s p).all (fun b => decide (a ≤ b)) && (List.range p).all (fun q => decide (actionsDue s q = []))

/-- Execute action a of pattern p: once in each cycle. -/
def runPatternAction (p a : Nat) (s : State) : State :=
  let w := s.walker p
  let s1 := s.setWalker p { w with acts := Tab.insert a (Tab.get (fun _ => 0) w.acts a + cycleTicks s p) w.acts }
  runAction (actAction (s.oct (K.patAction p a))) none s1

/-- What a command of a launch kind does: the entry or action runs when it is of that kind and its turn has come. DEDUCED, log entry 46. -/
def launchStep (kind : Nat) (l : LaunchSrc) (s : State) : State :=
  match l with
  | .entry n =>
    if entryReady s n && walkersIdle s && decide ((entryAction (entryOct s n)).kind = kind) then runEntry n s else s
  | .action p a =>
    if actionReady s p a && decide ((actAction (s.oct (K.patAction p a))).kind = kind) then runPatternAction p a s else s

/-- PORT_STATE_CHANGE (R88). -/
def execPortStateChange (l : LaunchSrc) (s : State) : Host.Outcome State Fault Refusal := .next (launchStep 0x01 l s)

/-- CHANNEL_ENABLE (R88). -/
def execChannelEnable (l : LaunchSrc) (s : State) : Host.Outcome State Fault Refusal := .next (launchStep 0x02 l s)

/-- CHANNEL_MUTE (R88). -/
def execChannelMute (l : LaunchSrc) (s : State) : Host.Outcome State Fault Refusal := .next (launchStep 0x03 l s)

/-- GAIN_HOLD (R88). -/
def execGainHold (l : LaunchSrc) (s : State) : Host.Outcome State Fault Refusal := .next (launchStep 0x04 l s)

/-- RAIL_SET_POINT_SELECT (R280). -/
def execRailSetPointSelect (l : LaunchSrc) (s : State) : Host.Outcome State Fault Refusal := .next (launchStep 0x05 l s)

/-- FILTER_BANK_SWAP (R184). -/
def execFilterBankSwap (l : LaunchSrc) (s : State) : Host.Outcome State Fault Refusal := .next (launchStep 0x06 l s)

/-- CANCELLER_FREEZE (R88). -/
def execCancellerFreeze (l : LaunchSrc) (s : State) : Host.Outcome State Fault Refusal := .next (launchStep 0x07 l s)

/-- DC_BLOCK_FREEZE (R182). -/
def execDcBlockFreeze (l : LaunchSrc) (s : State) : Host.Outcome State Fault Refusal := .next (launchStep 0x08 l s)

/-- SNAPSHOT (R88). -/
def execSnapshot (l : LaunchSrc) (s : State) : Host.Outcome State Fault Refusal := .next (launchStep 0x09 l s)

/-- CALIBRATION_START (R152). -/
def execCalibrationStart (l : LaunchSrc) (s : State) : Host.Outcome State Fault Refusal := .next (launchStep 0x0A l s)

/-- GALLERY_TRIGGER (R347). -/
def execGalleryTrigger (l : LaunchSrc) (s : State) : Host.Outcome State Fault Refusal := .next (launchStep 0x0B l s)

/-- FEED_ENABLE (R88). -/
def execFeedEnable (l : LaunchSrc) (s : State) : Host.Outcome State Fault Refusal := .next (launchStep 0x0C l s)

end Sys2Proof.Machine
end

