-- ==== Sys2Proof/Machine/Commit.lean ====
section
/-! DEFINITION. Staged values coming into effect (R24, R86, R115): what a transaction changes beside its objects, in the class A step of
its launch tick. -/

namespace Sys2Proof.Machine

/-! ### Latest placement (R99) -/

/-- Whether port q, in the guard before segment i of the cycle of walker w, stands in its rest state: it transmitted in the last segment
that is no guard. -/
def restsBefore (s : State) (w q i : Nat) : Bool :=
  let l := segsOf s w
  let back := (List.range l.length).map (fun j => l[(i + 2 * l.length - 1 - j) % max 1 l.length]?)
  match back.find? (fun g => match g with | some g => decide (g.dir ≠ 2) | none => false) with
  | some (some g) => transmitsIn s q g.dir
  | _ => false

/-- The place in the cycle of walker w at which port q begins its change to Relay for segment i: with the guard before it that is no
Landing, else its charged change before the segment (R97). -/
def txStart (s : State) (w q i : Nat) : Nat :=
  let l := segsOf s w
  let c := cycleTicks s w
  match l[i]?, l[(i + l.length - 1) % max 1 l.length]? with
  | some g, some b =>
    if transmitsIn s q b.dir then g.start
    else if b.dir = 2 ∧ !b.landing then b.start
    else
      let charge := if restsBefore s w q i ∧ s.num (K.portRest q) = psStandby then toRelay psStandby else toRelay psListen
      (g.start + c - charge) % max 1 c
  | _, _ => 0

/-- The spans of the cycle in which port q is out of quiet: first place and length, from the start of its change to Relay to its leaving
Relay. -/
def busySpans (s : State) (w q : Nat) : List (Nat × Nat) :=
  let l := segsOf s w
  let c := cycleTicks s w
  (List.range l.length).filterMap (fun i => match l[i]? with
    | some g =>
      if transmitsIn s q g.dir then
        let a := txStart s w q i
        let tail := match l[(i + 1) % max 1 l.length]? with | some n => if transmitsIn s q n.dir then 0 else 1475 | none => 0
        some (a, (((g.start : Int) - a) % (max 1 c : Nat)).toNat + g.len + tail)
      else none
    | none => none)

/-- Forward distance from a to b in a cycle of c ticks. -/
def cyc (c a b : Nat) : Nat := (((b : Int) - a) % (max 1 c : Nat)).toNat

/-- A move of m ticks that starts at place t meets none of the spans. -/
def clearOf (c m t : Nat) (spans : List (Nat × Nat)) : Bool :=
  spans.all (fun b => decide (m ≤ cyc c t b.1) && decide (b.2 ≤ cyc c b.1 t))

/-- Spans of the ports of walker w that rail r feeds. -/
def railSpans (s : State) (w r : Nat) : List (Nat × Nat) :=
  ((portsFed s r).filter (fun q => s.bit (K.patPorts w) q)).flatMap (busySpans s w)

/-- The set-point that the actions of walker p other than action a hold for rail r at a place. -/
def setpointBut (s : State) (p a r pos : Nat) : Nat :=
  (heldAt ((List.range 16).filterMap (fun i =>
    let b := s.oct (K.patAction p (i + 1))
    if i + 1 ≠ a ∧ leAt b 6 1 = 0x05 ∧ leAt b 8 2 = r then some (actionPos s p (i + 1), leAt b 12 4) else none)) pos).getD (s.nat (K.rlSetpoint r))

/-- The charged move of rail action a of pattern p at its place. -/
def actionMove (s : State) (p a pos : Nat) : Nat :=
  let x := actAction (s.oct (K.patAction p a))
  let v := spMv s x.target (setpointBut s p a x.target pos)
  if v = spMv s x.target x.param then 0 else moveTicks s x.target (absDiff v (spMv s x.target x.param))

/-- The anchor point of action a. -/
def anchorPoint (s : State) (p a : Nat) : Nat :=
  let b := s.oct (K.patAction p a)
  match (segsOf s p).find? (fun g => decide (g.pat = p) && decide (g.num = actSegment b)) with
  | some g => (if actAtEnd b then g.start + g.len else g.start) % max 1 (cycleTicks s p)
  | none => 0

/-- The latest place, not later than its anchor point, at which action a meets the durations it charges. DEDUCED, log entry 48. -/
def latestPlace (s : State) (p a : Nat) : Nat :=
  let x := actAction (s.oct (K.patAction p a))
  let c := cycleTicks s p
  let point := anchorPoint s p a
  if x.kind ≠ 0x05 then point
  else
    let m := actionMove s p a point
    let spans := railSpans s p x.target
    let places := (point :: spans.map (fun b => (b.1 + c - m % max 1 c) % max 1 c)).filter (fun t => clearOf c m t spans)
    places.foldl (fun best t => if cyc c t point < cyc c best point ∨ !clearOf c m best spans then t else best) point

/-- Place action a of pattern p when it asks for it, and report the tick: the anchor plus the place. DEDUCED, log entry 21. DEDUCED, log entry 48. -/
def placeAction (p a : Nat) (s : State) : State :=
  let b := s.oct (K.patAction p a)
  if (actAction b).kind ≠ 0 ∧ actOffset b = latestPlacement then
    s.set (K.patPlaced p a) (tbWord (anchorTicks s p + latestPlace s p a) : Nat)
  else s.set (K.patPlaced p a) (noTime : Nat)

/-! ### The values themselves -/

/-- The launch entry of a key, if it is one. -/
def entryOf (k : Nat) : Option Nat := if 0x2110 * 256 ≤ k ∧ k < 0x2120 * 256 then some (k - 0x2110 * 256) else none

/-- Arm or free the launch entry that a staged value names (R86). -/
def armStaged (e : Nat × Val) (s : State) : State :=
  match entryOf e.1, e.2 with
  | some n, .oct b =>
    if leAt b 8 1 = 0 then s.set (K.ltStatus n) leFree
    else
      let g := Tab.get (fun _ => 0) s.tx.gen n + 1
      ({ s with tx := { s.tx with gen := Tab.put (fun _ => 0) n g s.tx.gen } }).set (K.ltStatus n) leArmed
  | _, _ => s

/-- The pattern of a key. -/
def patOf (k : Nat) : Option Nat :=
  let i := k / 256
  if 0x2180 ≤ i ∧ i < 0x2188 then some (i - 0x2180) else if 0x2190 ≤ i ∧ i < 0x2198 then some (i - 0x2190)
  else if 0x21A0 ≤ i ∧ i < 0x21A8 then some (i - 0x21A0) else none

/-- Patterns whose objects, or those of the pattern they chain to, a set of keys names. -/
def patsTouched (s : State) (ks : List Nat) : List Nat :=
  let own := ks.filterMap patOf
  (List.range 8).filter (fun p => decide (p ∈ own) || (match chainOf s p with | some q => decide (q ∈ own) | none => false))

/-- The values of a transaction stand in their objects, its entries are armed, and its pattern actions placed. -/
def writeStaged (vals : List (Nat × Val)) (s : State) : State :=
  let s1 := forL vals (fun e s => armStaged e (s.setVal e.1 e.2)) s
  forL (patsTouched s1 (vals.map Prod.fst)) (fun p s => forN 16 (fun a s => placeAction p (a + 1) s) s) s1

/-! ### What follows from a change -/

/-- A setting differs between two states. -/
def differs (a b : State) (k : Nat) : Bool := decide (a.num k ≠ b.num k)

/-- The channel of a key: its configuration, engine or canceller. -/
def chanOf (k : Nat) : Option Nat :=
  let i := k / 256
  if 0x4000 ≤ i ∧ i < 0x6000 then some ((i - 0x4000) / 16) else if 0x6000 ≤ i ∧ i < 0x6800 then some ((i - 0x6000) / 4)
  else if 0x6800 ≤ i ∧ i < 0x7000 then some ((i - 0x6800) / 4) else none

/-- The port of a key. -/
def portKey (k : Nat) : Option Nat :=
  let i := k / 256
  if 0x3000 ≤ i ∧ i < 0x3400 ∧ (i - 0x3000) % 32 < 0x1C then some ((i - 0x3000) / 32) else none

/-- Numbers below n that a map of keys yields, ascending. -/
def touched (n : Nat) (f : Nat → Option Nat) (ks : List Nat) : List Nat :=
  let l := ks.filterMap f
  if l = [] then [] else (List.range n).filter (fun c => decide (c ∈ l))

/-- A bank setting of channel c under bank b differs; the banks of a whole-port channel are ignored (R188). DEDUCED, log entry 53. -/
def bankChanged (o s : State) (b c : Nat) : Bool := decide (s.num (K.chD c) ≠ 1) && (List.range 7).any (fun i => differs o s (K.bkClass b c + i))

/-- An output port of channel c differs. -/
def outsChanged (o s : State) (c : Nat) : Bool := (List.range 4).any (fun i => differs o s (outPortKey c i))

/-- The values load bank b of channel c's slice (R180, R181, R185): a bank setting of the channel, or of the active bank also an output port. -/
def bankLoaded (o s : State) (b c : Nat) : Bool :=
  bankChanged o s b c || (decide (s.num (K.chD c) ≠ 1) && decide (b = activeBank s c) && outsChanged o s c)

/-- Remember this tick as the last load of each bank that the values load. -/
def noteLoads (o : State) (c : Nat) (s : State) : State :=
  forN 2 (fun b s => if bankLoaded o s b c then
    { s with loads := Tab.put (fun _ => none) (2 * (c / 8) + b) (some s.time.now) s.loads } else s) s

/-- What resets the filters of a started channel (R180). -/
def syncCause (o s : State) (c : Nat) : Bool :=
  differs o s (K.chD c) || differs o s (K.chInPort c) || bankChanged o s (activeBank s c) c || outsChanged o s c

/-- What resets the taps of a started channel (R205). -/
def tapCause (o s : State) (c : Nat) : Bool :=
  let b := activeBank s c
  differs o s (K.chInPort c) || differs o s (K.chD c) || differs o s (K.cxEnable c) || differs o s (K.cxTaps c) ||
    differs o s (K.cxBulkDelay c) || (List.range 4).any (fun n => differs o s (K.cxRefN c n)) || differs o s (K.cxSubpool c) ||
    decide (branchPorts o c ≠ branchPorts s c) || (decide (s.num (K.chD c) ≠ 1) && (differs o s (K.bkCentre b c) || differs o s (K.bkBw b c)))

/-- The records of channel c that a change of its input port or of a reference port clears (R211). -/
def reviewRecords (o : State) (c : Nat) (s : State) : State :=
  if s.num (K.cxRecords c) = 0 then s
  else forN 4 (fun n s =>
    if differs o s (K.chInPort c) ∨ (branchPorts o c)[n]? ≠ (branchPorts s c)[n]? then clearRecord c n s else s) s

/-- The state of a canceller whose settings have changed (Table 8-1). -/
def retap (c : Nat) (s : State) : State :=
  let s1 := tapReset c s
  if cancellerState s1 c = 4 then
    let s2 := if s1.num (K.cxState c) = 3 ∧ s1.num (K.pdState (c / 8)) ≠ 5 then releaseCh c cmThermal (s1.clrBit (K.cxFreezes c) 8) else s1
    s2.set (K.cxState c) 4
  else if s1.num (K.cxState c) = 4 then s1.set (K.cxState c) 1
  else s1

/-- New delay trims: the delay line of each such output is emptied, and the output alone is suppressed until its line has filled (R181); one that
still settles settles with its new trim (R179). DEDUCED, log entry 37. -/
def trimChannel (o : State) (c : Nat) (s : State) : State :=
  if (List.range 4).any (fun i => differs o s (outDelayKey c i)) then
    let x := s.chan c
    let s1 := s.setChan c { x with
      trim := (List.range 4).map (fun i =>
        if differs o s (outDelayKey c i) then s.time.now + s.nat (outDelayKey c i) else (x.trim[i]?).getD 0),
      settle := x.settle.zipIdx.map (fun e => if s.time.now < e.1 then e.1 + s.nat (outDelayKey c e.2) - o.nat (outDelayKey c e.2) else e.1) }
    s1.setPath c { s1.pathOf c with trims := (s1.pathOf c).trims.filter (fun e => !differs o s (outDelayKey c e.1)) }
  else s

/-- The counting of update instants restarts on the channel's grid (R231). -/
def restartGrid (c : Nat) (s : State) : State :=
  s.setChan c { s.chan c with nextInst := none, lockFrom := s.time.tb, restarted := true }

/-- The timebase mute of a channel that has come onto a pattern or left one, or whose segments have moved: its release is planned anew
(R60). -/
def reviewTrace (c : Nat) (s : State) : State :=
  if isTdd s c ∧ !s.flag K.tbTrace then (if s.bit (K.chMutes c) cmTimebase then s else raiseCh c cmTimebase s)
  else if isTdd s c then (if s.bit (K.chMutes c) cmTimebase then planRelease c s else s)
  else releaseCh c cmTimebase s

/-- Channel c has other segments of its own: another walker, one placed afresh, another direction, or another transient. DEDUCED, log entry 54. -/
def ownSegmentsMoved (o s : State) (moved : List Nat) (c : Nat) : Bool :=
  decide (chanWalker o c ≠ chanWalker s c) || differs o s (K.chDir c) || (match chanWalker s c with
    | some w => decide (w ∈ moved) || differs o s (K.patTransient w)
    | none => false)

/-- A running channel whose settings have changed. -/
def changeChannel (o : State) (moved : List Nat) (c : Nat) (s : State) : State :=
  let s1 := if syncCause o s c then syncReset c s else s
  let s2 := if tapCause o s1 c then retap c s1 else s1
  let s3 := trimChannel o c s2
  let s4 := if differs o s3 (K.geGmin c) ∨ differs o s3 (K.geGmax c) then setGain c (s3.num (K.geIntegrator c)) s3 else s3
  let s5 := if differs o s4 (K.chPattern c) ∨ ownSegmentsMoved o s4 moved c then reviewTrace c s4 else s4
  if ownSegmentsMoved o s5 moved c then implyChannel c (restartGrid c s5) else s5

/-- Channel c after the values have been written: it stops, starts, or runs on changed. -/
def takeChannel (o : State) (moved : List Nat) (c : Nat) (s : State) : State :=
  let was := decide (o.num (K.chRun c) = 1)
  let runs := decide (s.num (K.chRun c) = 1)
  let s1 := reviewRecords o c (noteLoads o c s)
  let s2 := if bankChanged o s1 (1 - activeBank s1 c) c then s1.set (K.slInactiveLoad (c / 8)) (s1.tbNow : Nat) else s1
  let s3 := if was && !runs then stopChannel c s2
    else if runs && !was then implyChannel c (startChannel c s2)
    else if runs then changeChannel o moved c s2 else s2
  showRefs c s3

/-- Place the branches of the channels that have taken a tap reset in this tick; one that Shed holds comes back where its new place is
powered. -/
def placeReset (cs : List Nat) (s : State) : State :=
  let reset := cs.filter (fun c => decide (s.num (K.chRun c) = 1) && decide ((s.chan c).tapAt = some s.time.now))
  let s1 := placeAll reset s
  forL (reset.filter (fun c => decide (s1.num (K.cxState c) = 3) && poolsPowered s1 c)) unshedCanceller s1

/-! ### Patterns -/

/-- The cycle of walker p differs: its header, but for ports and transient, or a segment word. -/
def cycleChanged (o s : State) (p : Nat) : Bool :=
  decide (segsOf o p ≠ segsOf s p) || decide (cycleTicks o p ≠ cycleTicks s p) || differs o s (K.patAnchor p)

/-- Walkers that take their position afresh. -/
def movedWalkers (o s : State) : List Nat := (enabledPats s).filter (fun p => !(o.walker p).on || cycleChanged o s p)

/-- The walker of pattern p after a change: it stops, takes its position afresh, or takes the points of its actions afresh. -/
def takeWalker (o : State) (ks : List Nat) (p : Nat) (s : State) : State :=
  if !s.flag (K.patEnable p) then (if (s.walker p).on then s.setWalker p Walker.fresh else s)
  else if p ∈ movedWalkers o s then placeWalker p s
  else if p ∈ patsTouched s ks then s.setWalker p { s.walker p with acts := actionPoints s p s.time.tb }
  else s

/-- Port q after a change of patterns: newly driven, driven otherwise, or driven no more. -/
def takeDriven (o : State) (moved : List Nat) (q : Nat) (s : State) : State :=
  match portWalker s q with
  | some p => if portWalker o q ≠ some p ∨ p ∈ moved ∨ differs o s (K.portRole q) then implyPort p q s else s
  | none => if (portWalker o q).isSome then moveOn q (if (s.port q).window then windowEnd q s else s) else s

/-! ### Ports, rails, feeds and the rest -/

/-- Port p after a change of its target or its synthesisers. -/
def takePort (o : State) (ks : List Nat) (p : Nat) (s : State) : State :=
  let s1 := retune true p (o.num (K.synFreq true p)) (s.num (K.synFreq true p))
    (retune false p (o.num (K.synFreq false p)) (s.num (K.synFreq false p)) s)
  if K.portTarget p ∈ ks then retarget p s1 else s1

/-- The rail of a key. -/
def railKey (k : Nat) : Option Nat :=
  let i := k / 256
  if 0x7200 ≤ i ∧ i < 0x7218 then some (i - 0x7200) else if 0x7220 ≤ i ∧ i < 0x7238 then some (i - 0x7220) else none

/-- The reference of a rail that is on follows a changed voltage of its set-point, as in a move. DEDUCED, log entry 52. -/
def reselect (o : State) (r : Nat) (s : State) : State :=
  let n := s.nat (K.rlSetpoint r)
  if !railOn s r then s
  else
    let s1 := if spMv o r n = spMv s r n then s
      else
        let v := vrefNow s r
        let s2 := moveRef r (nsTicks (s.nat (K.rlMoveDelay r))) (s.nat (K.rlMoveRamp r)) (spMv s r n) s
        s2.setRail r { s2.rail r with moveDue := some (s.time.now + moveTicks s r (absDiff v (spMv s r n))) }
    if differs o s1 (K.rlSpNPhases r n) then schedulePhases r n s1 else s1

/-- Rail r after a change of its settings. DEDUCED, log entry 52. -/
def takeRail (o : State) (r : Nat) (s : State) : State :=
  let s1 := if differs o s (K.rlEnable r) ∧ s.num (K.rlEnable r) = 0 then railDisabled r s else reselect o r s
  let s2 := if railOn s1 r then s1.set (K.rlIlimit r) (railLimit s1 r) else s1
  if differs o s2 (K.rlSelSource r) ∧ s2.num (K.rlSelSource r) = 1 then takeVsel r (s2.nat K.rlVselPins) s2 else s2

/-- The feed of a key. -/
def feedKey (k : Nat) : Option Nat :=
  let i := k / 256
  if 0x7300 ≤ i ∧ i < 0x7320 then some (i - 0x7300) else none

/-- Feed f after a change of its settings. -/
def takeFeed (o : State) (f : Nat) (s : State) : State :=
  let s1 := if !differs o s (K.fdEnable f) then s else if s.flag (K.fdEnable f) then feedEnabled f s else feedDisabled f s
  if differs o s1 (K.fdRequired f) then reviewRequired f s1 else s1

/-- The modulator of a key. -/
def tmKey (k : Nat) : Option Nat :=
  let i := k / 256
  if 0x7110 ≤ i ∧ i < 0x7128 ∧ k % 256 < 3 then some (i - 0x7110)
  else if 0x7130 ≤ i ∧ i < 0x7148 ∧ k % 256 < 0x11 then some (i - 0x7130) else none

/-- A change that touches modulator m, or the pairing with its neighbour, restarts its sequence (R268). -/
def tmTouched (ks : List Nat) : List Nat :=
  let l := touched 24 tmKey ks
  if l = [] then []
  else (List.range 24).filter (fun m => decide (m ∈ l) || decide (K.tmInterleave (m / 2 * 2) ∈ ks))

/-- The emission entry of a key; the domain of a pd.hold; the receiver of a visit list; the port of hm.mute_pin. -/
def emKey (k : Nat) : Option Nat := if 0x7060 ≤ k / 256 ∧ k / 256 < 0x70A0 then some (k / 256 - 0x7060) else none

def holdKey (k : Nat) : Option Nat := if k / 256 = 0x7A10 ∧ 1 ≤ k % 256 then some (k % 256 - 1) else none

def obsKey (k : Nat) : Option Nat := (List.range 8).find? (fun r => decide (k = K.obsList r))

def pinKey (k : Nat) : Option Nat := (List.range 32).find? (fun p => decide (k = K.hmMutePin p))

/-- A change of hm.mute_pin while the pin is asserted (R248). -/
def takePin (p : Nat) (s : State) : State :=
  if s.flag K.prMutepin ∧ s.flag (K.hmMutePin p) then raisePort p pmPin s else releasePort p pmPin s

/-- Started channels whose permit may have changed: those touched, and whole-port channels of a port whose receiver is retuned. DEDUCED, log entry 51. -/
def permitsTouched (o s : State) (cs : List Nat) : List Nat :=
  s.started.filter (fun c => decide (c ∈ cs) || (decide (s.num (K.chD c) = 1) && differs o s (K.synFreq false (s.nat (K.chInPort c)))))

/-- Every value of a transaction takes effect in this tick. DEDUCED, log entry 53. -/
def applyStaged (vals : List (Nat × Val)) (o : State) : State :=
  let ks := vals.map Prod.fst
  let s1 := writeStaged vals o
  let moved := if touched 8 patOf ks = [] then [] else movedWalkers o s1
  let s2 := if touched 8 patOf ks = [] then s1 else forN 8 (takeWalker o ks) s1
  let cs := touched 512 chanOf ks
  let rest := if touched 8 patOf ks = [] then [] else s2.started.filter (fun c => decide (c ∉ cs) && isTdd s2 c)
  let s3 := forL rest (fun c s => if ownSegmentsMoved o s moved c then implyChannel c (restartGrid c s) else s) s2
  let s4 := placeReset cs (forL cs (takeChannel o moved) s3)
  let ps := touched 32 portKey ks
  let s5 := forL ps (takePort o ks) (if touched 8 patOf ks = [] ∧ ps = [] then s4 else forN 32 (takeDriven o moved) s4)
  let s6 := forL (touched 32 feedKey ks) (takeFeed o) (forL (touched 24 railKey ks) (takeRail o) s5)
  let s7 := forL (touched 84 holdKey ks) reviewDomain (forL (tmTouched ks) tmRestart s6)
  let s8 := forL ((touched 8 obsKey ks).filter (fun r => differs o s7 (K.obsList r))) (fun r s => dropFactors (restartObs r s)) (forL (touched 32 pinKey ks) takePin s7)
  let s9 := forL (touched 64 emKey ks) (fun m s => if Tab.get (fun _ => some 0) s.emRun m = none then s else putEmRun m (some 0) s) s8
  forL (permitsTouched o s9 cs) takePermit s9

/-! ### The commit of a transaction (R87, R91, R115) -/

/-- A resource of the staged values is in Chrysalis or Sealed: a port, a channel, a feed, or a port that a pattern among them drives.
DEDUCED, log entry 39. -/
def resourcesHeld (s : State) (ks : List Nat) : Bool :=
  (patsTouched s ks).any (fun w => (portsOf s w).any (fun p => decide (s.num (K.portState p) = psChrysalis))) ||
  (touched 32 portKey ks).any (fun p => decide (s.num (K.portState p) = psChrysalis)) ||
    (touched 512 chanOf ks).any (fun c => decide (chStateNow s c = 3) || decide (chStateNow s c = 4)) ||
    (touched 32 feedKey ks).any (fun f => decide (s.num (K.fdState f) = fsSealed))

/-- Show the new state of a transaction in the history. -/
def histState (number : Nat) (v : Int) (s : State) : State :=
  match (List.range 64).find? (fun k => decide (s.nat (K.txHistNumber k) = number)) with
  | some k => s.set (K.txHistState k) v
  | none => s

/-- Count the execution of a kind 0x0D entry, leave its mark and free it. -/
def freeCommit (t : Accepted) (held : Bool) (s : State) : State :=
  let late := decide (t.launch < s.time.tb)
  let s1 := leaveMark t.entry (s.inc K.ltExecuted 64)
  let s2 := if late then s1.inc K.ltLate 32 else s1
  let s3 := if late ∧ t.sysId ≠ 0 then s2.inc K.txSysLate 32 else s2
  let s4 := s3.setOct (K.ltEntry t.entry) (List.replicate 16 0)
  s4.set (K.ltStatus t.entry) (if held then leHeld else if late then leLate else leDone)

/-- An accepted transaction launches in this tick. -/
def launchTx (t : Accepted) (s : State) : State :=
  let s1 := { s with tx := { s.tx with accepted := s.tx.accepted.filter (fun x => decide (x.seq ≠ t.seq)) } }
  let s2 := applyStaged t.staged s1
  let s3 := freeCommit t (resourcesHeld s2 (t.staged.map Prod.fst)) s2
  let s4 := { s3 with jr := { s3.jr with launchAt := some (s3.jr.launchAt.getD s3.time.now) } }
  let s5 := if t.flow = 1 then irq 6 s4 else s4
  histState t.number (if t.launch < s.time.tb then 5 else 4) s5

/-- The accepted transaction that commits next: of those that are due, the one with the lowest sequence number. -/
def nextCommit (s : State) : Option Accepted :=
  (s.tx.accepted.filter (fun t => decide (t.launch ≤ s.time.tb))).foldl (fun b t => match b with
    | none => some t
    | some x => if t.seq < x.seq then some t else some x) none

/-- TRANSACTION_COMMIT (R89, R115): the kind 0x0D entry of an accepted transaction executes. -/
def execTransactionCommit (number : Nat) (s : State) : Host.Outcome State Fault Refusal :=
  .next (match nextCommit s with
    | some t => if launchRuns s ∧ t.number = number then launchTx t s else s
    | none => s)

end Sys2Proof.Machine
end

