-- ==== Sys2Proof/Machine/Instant.lean ====
section
/-! DEFINITION. The step instant (R69, R70, R100), the loss of the clocks (R22) and the resumption from it (R23, R58). -/

namespace Sys2Proof.Machine

/-! ### Work that comes due in one tick (R57, R89) -/

/-- Class A: accepted transactions that are due, in ascending sequence number, at most n of them. -/
def commitDue : Nat → State → State
  | 0, s => s
  | n + 1, s => match nextCommit s with
    | some t => commitDue n (launchTx t s)
    | none => s

/-- The due entry that runs next. -/
def firstEntry (s : State) : Option Nat := (dueEntries s).find? (fun n => (dueEntries s).all (fun m => decide (m = n) || entryBefore s n m))

/-- Classes B to E: launch entries that are due, in the order of R89, at most n of them. -/
def entriesDue : Nat → State → State
  | 0, s => s
  | n + 1, s => match firstEntry s with
    | some e => entriesDue n (runEntry e s)
    | none => s

/-! ### Walkers that take a new position (R69, R100) -/

/-- A TDD channel of walker p: step mute, frozen adaptation, filters reset on the pattern's grid, and the tick at which it may resume. DEDUCED, log entry 54. -/
def stepChannel (p c : Nat) (s : State) : State :=
  let s1 := (raiseCh c cmStep s).setBit (K.cxFreezes c) 9
  let s2 := implyChannel c (syncReset c s1)
  let pos := positionAt s2 p s2.time.tb
  s2.setChan c { s2.chan c with grid := s2.time.now - pos % max 1 (s2.nat (K.chD c)), resume := (resumeAt s2 c s2.time.tb true).getD unbounded }

/-- Each rail that a pattern action of walker p names is driven to the set-point that the cycle holds at the new position. -/
def stepRails (p : Nat) (s : State) : State :=
  forN 24 (fun r s => match cycleSetpoint s p r (positionAt s p s.time.tb) with
    | some n => railSelect r n s
    | none => s) s

/-- The holds and freezes of channel c as the actions of walker p leave them at the new position. -/
def stepHolds (p c : Nat) (s : State) : State :=
  let pos := positionAt s p s.time.tb
  let s1 := match impliedParam s p 0x04 c pos with | some v => actHold ⟨4, c, v⟩ s | none => s
  let s2 := match impliedParam s1 p 0x07 c pos with | some v => actFreeze ⟨7, c, v⟩ s1 | none => s1
  match impliedParam s2 p 0x08 c pos with | some v => actDc ⟨8, c, v⟩ s2 | none => s2

/-- The targets of the hold and freeze actions of walker p. -/
def holdTargets (s : State) (p : Nat) : List Nat :=
  firsts ((List.range 16).filterMap (fun i =>
    let a := actAction (s.oct (K.patAction p (i + 1)))
    if a.kind = 0x04 ∨ a.kind = 0x07 ∨ a.kind = 0x08 then some a.target else none))

/-- Walker p takes its position in this tick after a step or a resumption. DEDUCED, log entry 54. -/
def stepWalker (p : Nat) (s : State) : State :=
  let s1 := placeWalker p s
  let s2 := forL (portsOf s1 p) (fun q s => wantPort q (s.num (K.portRest q)) s) s1
  let s3 := forL (channelsOn s2 p) (stepChannel p) s2
  forL (holdTargets s3 p) (stepHolds p) (stepRails p s3)

/-- A lockstep channel counts its instants afresh from the new time; a rate that waits is due at the next one. DEDUCED, log entry 33. -/
def stepGrid (c : Nat) (s : State) : State :=
  let s1 := restartGrid c s
  match (s1.chan c).pendingRate with
  | some x => if x.lock then s1.setChan c { s1.chan c with pendingRate := some { x with due := instantOf s1 c } } else s1
  | none => s1

/-- A block of a DMA engine that holds samples has a timebase step between two of them (Table 17-7). -/
def stepSeen (s : State) : State :=
  { s with host := { s.host with dmaFill := s.host.dmaFill.map (fun e => if e.2.words = [] then e else (e.1, { e.2 with step := true })) } }

/-! ### The step instant (R69, R70) -/

/-- The step p takes effect. -/
def takeStep (p : StepPlan) (s : State) : State :=
  let s1 := stepSeen (stepCounter p { s with time := { s.time with excessSince := none } })
  let run := launchRuns s1
  let s2 := if run then commitDue s1.tx.accepted.length s1 else s1
  let s3 := forL s2.started stepGrid (forL (walkersOn s2) stepWalker s2)
  let s4 := if run then entriesDue (dueEntries s3).length s3 else s3
  let s5 := lockAfterStep p (recordStep p s4)
  if s5.flag K.tbTrace then planTraceRelease s5 else s5

/-- STEP_INSTANT (R69). -/
def execStepInstant (s : State) : Host.Outcome State Fault Refusal :=
  .next (match s.time.step with
    | some p => if s.time.running ∧ p.at_ ≤ s.time.tb then takeStep p s else s
    | none => s)

/-! ### The clocks (R22, R23) -/

/-- The bit of clk.status that a loss clears. -/
def lossBit : ClkLoss → Nat
  | .refclk => 0
  | .tickPll => 1
  | .wingPll w => 2 + w % 4

/-- The timebase is marked invalid: the counter holds, nothing is traced, and no step waits. DEDUCED, log entry 45. -/
def invalidate (s : State) : State :=
  let s1 := setTbState tsInvalid (setTrace false (cancelStep s))
  { s1 with time := { s1.time with running := false } }

/-- A channel is muted while the clocks are lost: bit 2 of ch.mutes (Table 7-8). DEDUCED, log entry 45. -/
def clockMute (c : Nat) (s : State) : State := raiseCh c cmTimebase (s.setChan c { s.chan c with resumeTrace := none })

/-- REFCLK_LOSS (R22): what was lost is shown, the management cores move to the hold oscillator, every port and every channel is
silenced, the timebase is invalid, and a Severe fault is recorded. DEDUCED, log entry 45. -/
def execRefclkLoss (src : ClkLoss) (s : State) : Host.Outcome State Fault Refusal :=
  .next (
    let s1 := ((s.clrBit K.clkStatus (lossBit src)).clrBit K.clkStatus 7).setBit K.clkStatus 6
    let s2 := if src = .refclk then s1.inc K.clkRefclkLossCount 32 else s1
    if !s.time.running then s2
    else
      let s3 := forN 32 (fun p s => raisePort p pmClock s) (forL s2.started clockMute (invalidate s2))
      fault 0x02 0 3 (evCode 0x02 7) (lossBit src) 0 0 0 (s3.sticky skRefclk))

/-- Port p when the clocks return (R23): one that is powered takes its return check as from Off, and so enters Chrysalis, at once or
when its running transition ends; one in Off or Sleep does so when it next reaches Standby. DEDUCED, log entry 45. -/
def resumePort (p : Nat) (s : State) : State :=
  if psStandby ≤ s.num (K.portState p) then returnCheck p true s else s.setPort p { s.port p with fromOff := true }

/-- The clock mute of a channel that is on no pattern falls with the loss; one on a pattern keeps it as its timebase mute (R60). -/
def clockUnmute (c : Nat) (s : State) : State := if isTdd s c then s else releaseCh c cmTimebase s

/-- The timebase reacquires: the best qualified source by a step, else Free-run. Invalid is over with the resumption, so a source
lost before the step leads back to Free-run, not to Invalid as Table 3-1 puts it. DESIGN CHOICE, log entry 109. -/
def reacquire (s : State) : State :=
  match bestSource s with
  | some src =>
    let d := sourceDelta s src
    let s1 := (s.set K.tbSourceSelected (src : Int)).set K.tbPhaseError (frameError d)
    schedule d 1 1 true (setTbState tsAcquiring s1)
  | none => setTbState tsFree (s.set K.tbSourceSelected 4)

/-- REFCLK_RESUME (R23): REFCLK has been present and every PLL locked for 10 ms. What the buckets hold stays as
it is when the hold oscillator is left (R48). -/
def execRefclkResume (_ : Report) (s : State) : Host.Outcome State Fault Refusal :=
  .next (if s.time.running ∨ !s.holdOsc then s
    else
      let s0 := keepTokens (List.range 72) s
      let s1 := ({ s0 with time := { s0.time with running := true } }).set K.clkStatus 0x3F
      let s2 := forN 32 (fun p s => freeClock p (resumePort p s)) s1
      let s3 := reacquire (forL s2.started clockUnmute s2)
      let s4 := forL s3.started stepGrid (forL (walkersOn s3) stepWalker s3)
      event (evCode 0x02 8) 0 0 0 0 s4)

end Sys2Proof.Machine
end

