-- ==== Sys2Proof/Machine/Project.lean ====
section
/-! DEFINITION. The projected state of the part (R104): the present state, every accepted transaction and every armed entry in
their order, and the committing transaction at its launch tick; and the path of each port through it. -/

namespace Sys2Proof.Machine

/-! ### The moments at which the projected state changes -/

/-- A transaction to launch: its tick, sequence number, kind 0x0D entry and values; own marks the committing one. -/
structure Work where
  launch : Nat
  seq : Nat
  entry : Option Nat
  vals : List (Nat × Val)
  own : Bool
  deriving DecidableEq, Repr

/-- What happens at a moment: a launch, the execution of an entry, or a sub-pool that is powered again (R396). -/
inductive What where
  | launch (w : Work)
  | entry (n : Nat)
  | power (sp : Nat)
  deriving DecidableEq, Repr

/-- A moment: its tick, what happens, and the states around it. -/
structure Moment where
  tick : Nat
  what : What
  before : State
  after : State

/-- The state brought forward to timebase tick t, nothing else changing. -/
def atTick (s : State) (t : Nat) : State :=
  { s with time := { s.time with now := s.time.now + (t - s.time.tb), tb := max t s.time.tb } }

/-- Place the branches of channel c as a launch does (R202). -/
def seatChannel (c : Nat) (s : State) : State :=
  if !hasTaps s c then s else forL (usedBranches s c) (fun e s => placeBranch c e.1 s) s

/-- Place the cancellers reset by one launch: named placements first, then automatic ones. -/
def seatAll (cs : List Nat) (s : State) : State :=
  let named := cs.filter (fun c => decide (s.num (K.cxSubpool c) ≠ 0xFF))
  let auto := cs.filter (fun c => decide (s.num (K.cxSubpool c) = 0xFF))
  forL auto seatChannel (forL named seatChannel (forL cs unplace s))

/-- The launch of channel c as admission projects it: a channel that starts takes its launch mute, and a canceller whose taps reset is
Acquiring (R214). -/
def projectChannel (o : State) (c : Nat) (s : State) : State :=
  let s1 := if bankChanged o s (1 - activeBank s c) c then s.set (K.slInactiveLoad (c / 8)) (s.tbNow : Nat) else s
  if s1.num (K.chRun c) = 0 then (unplace c s1).set (K.cxState c) 0
  else if o.num (K.chRun c) = 0 then
    let s2 := s1.set (K.chMutes c) (bitPut 0 cmLaunch (s1.flag (K.chStartMuted c)) : Nat)
    (s2.set (K.geModeNow c) (s2.num (K.geMode c))).set (K.cxState c) (cancellerState s2 c)
  else if tapCause o s1 c then s1.set (K.cxState c) (cancellerState s1 c)
  else s1

/-- A launch of values as admission projects it. -/
def projectLaunch (vals : List (Nat × Val)) (o : State) : State :=
  let ks := vals.map Prod.fst
  let s1 := writeStaged vals o
  let cs := touched 512 chanOf ks
  let s2 := forL cs (projectChannel o) s1
  let reset := cs.filter (fun c => decide (s2.num (K.chRun c) = 1) && (decide (o.num (K.chRun c) = 0) || tapCause o s2 c))
  let s3 := forN 16 (fun sp s => if heldOff s (64 + sp) then s.clrBit K.cxPoolPowered sp else s) s2
  seatAll reset s3

/-- An entry as admission projects it: the state it sets in its object. -/
def projectEntry (n : Nat) (s : State) : State :=
  let a := entryAction (entryOct s n)
  let s1 := s.set (K.ltStatus n) leDone
  match a.kind with
  | 0x01 => s1.set (K.portTarget a.target) (a.param : Nat)
  | 0x02 => s1.clrBit (K.chMutes a.target) cmLaunch
  | 0x03 => s1.setBit (K.chMutes a.target) cmLaunch
  | 0x05 => if s1.num (K.rlSelSource a.target) = 1 then s1 else s1.set (K.rlSetpoint a.target) (a.param : Nat)
  | 0x06 =>
    if s1.nat (K.slBankActive a.target) = a.param / 65536 then s1
    else
      forL (startedIn s1 a.target) (fun c s => if banksDiffer s c then s.set (K.cxState c) (cancellerState s c) else s)
        (s1.set (K.slBankActive a.target) ((a.param / 65536 : Nat) : Int))
  | 0x0C => s1.set (K.fdEnable a.target) (a.param : Nat)
  | _ => s1

/-- The first work, by launch tick and then sequence number. -/
def firstWork (l : List Work) : Option Work :=
  l.foldl (fun b w => match b with
    | none => some w
    | some x => if w.launch < x.launch ∨ (w.launch = x.launch ∧ w.seq < x.seq) then some w else some x) none

/-- The entry that executes first, and its tick. -/
def firstDue (s : State) : Option (Nat × Nat) :=
  ((armedEntries s).filter (fun n => decide ((entryAction (entryOct s n)).kind ≠ 0x0D))).foldl (fun b n =>
    let t := max (dueOf s n) s.time.tb
    match b with
    | none => some (t, n)
    | some (u, m) => if t < u ∨ (t = u ∧ entryBefore s n m) then some (t, n) else some (u, m)) none

/-- Sub-pools that a launch releases: each is powered 12,288 ticks later (R396). -/
def poolsReleased (o s : State) (t : Nat) : List (Nat × Nat) :=
  (List.range 16).filterMap (fun sp => if heldOff o (64 + sp) ∧ !heldOff s (64 + sp) then some (t + powerTicks 64, sp) else none)

/-- The first of the sub-pools to be powered. -/
def firstUp (l : List (Nat × Nat)) : Option (Nat × Nat) :=
  l.foldl (fun b e => match b with
    | none => some e
    | some x => if e.1 < x.1 then some e else some x) none

/-- The next moment: launches before power, power before entries, in one tick. -/
def nextMoment (works : List Work) (ups : List (Nat × Nat)) (s : State) : Option (Nat × What) :=
  let l := [(firstWork works).map (fun w => (max w.launch s.time.tb, What.launch w)), (firstUp ups).map (fun e => (max e.1 s.time.tb, What.power e.2)),
    (firstDue s).map (fun e => (e.1, What.entry e.2))]
  (l.filterMap id).foldl (fun b e => match b with
    | none => some e
    | some x => if e.1 < x.1 then some e else some x) none

/-- The moments from a state on, up to tick stop, at most n of them. -/
def moments : Nat → Nat → List Work → List (Nat × Nat) → State → List Moment
  | 0, _, _, _, _ => []
  | n + 1, stop, works, ups, s =>
    match nextMoment works ups s with
    | none => []
    | some (t, x) =>
      if stop < t then []
      else
        let b := atTick s t
        match x with
        | .launch w =>
          let a := projectLaunch w.vals b
          let a1 := match w.entry with | some e => a.set (K.ltStatus e) leDone | none => a
          ⟨t, x, b, a1⟩ :: moments n stop (works.filter (fun v => decide (v ≠ w))) (ups ++ poolsReleased b a1 t) a1
        | .entry m =>
          let a := projectEntry m b
          ⟨t, x, b, a⟩ :: moments n stop works ups a
        | .power sp =>
          let a := if heldOff b (64 + sp) then b else b.setBit K.cxPoolPowered sp
          ⟨t, x, b, a⟩ :: moments n stop works (ups.filter (fun e => decide (e.2 ≠ sp))) a

/-- The accepted transactions, those that have passed admission and whose record is being written, and the branches this part has voted
yes on (R129). DEDUCED, log entry 70. -/
def acceptedWork (s : State) : List Work :=
  s.tx.accepted.map (fun t => ⟨t.launch, t.seq, some t.entry, t.staged, false⟩) ++
    (s.jr.writing.filter (fun r => decide (r.kind = 1))).zipIdx.map (fun (r, i) => ⟨r.launch, s.nat K.txNextSeq + i, some r.entry, r.staged, false⟩) ++
    s.tx.slots.filterMap (fun e => match e.2 with
      | some t => if t.state = 6 ∨ t.state = 7 then some ⟨t.launch, 2 ^ 32 + t.sysSeq, none, t.staged, false⟩ else none
      | none => none)

/-- Sub-pools that are powering up now. DEDUCED, log entry 69. -/
def poolsPowering (s : State) : List (Nat × Nat) :=
  (List.range 16).filterMap (fun sp => match Tab.get (fun _ => none) s.domDue (64 + sp) with
    | some t => some (s.time.tb + (t - s.time.now), sp)
    | none => none)

/-- The projection of state s with a committing transaction, over the ticks to stop. -/
def project (s : State) (own : Option Work) (stop : Nat) : List Moment :=
  let works := acceptedWork s ++ own.toList
  moments (2 * works.length + (armedEntries s).length + (works.map (fun w => w.vals.length)).sum + 33) stop works (poolsPowering s) s

/-! ### States of the projection -/

/-- The state that holds at tick t: after the last moment at or before it. -/
def stateAt (o : State) (ms : List Moment) (t : Nat) : State :=
  match (ms.filter (fun m => decide (m.tick ≤ t))).getLast? with
  | some m => atTick m.after t
  | none => atTick o t

/-- The state in the tick before t. -/
def stateBefore (o : State) (ms : List Moment) (t : Nat) : State :=
  match (ms.filter (fun m => decide (m.tick < t))).getLast? with
  | some m => m.after
  | none => o

/-- A spell: the ticks from start up to stop, in which the state is st. -/
structure Spell where
  start : Nat
  stop : Nat
  st : State

/-- The spells that the ticks of the moments divide the time from tick t into. -/
def spellsFrom (o : State) (ms : List Moment) (t : Nat) : List Spell :=
  let ticks := t :: firsts ((ms.map (fun m => m.tick)).filter (fun u => decide (t < u)))
  (List.range ticks.length).filterMap (fun i => match ticks[i]? with
    | some a => some ⟨a, (ticks[i + 1]?).getD unbounded, stateAt o ms a⟩
    | none => none)

/-! ### Ports -/

/-- A stretch of the path of a port that no walker drives: standing in a state (a = b), or in the transition from a to b. -/
structure Leg where
  start : Nat
  stop : Nat
  a : Int
  b : Int
  deriving DecidableEq, Repr

/-- The path of a port from tick t, in state a with target g and targets to come (R139, R141): win gives tx_window and rest state. -/
def portLegs (win : Nat → Nat × Int) : Nat → Nat → Int → Int → List (Nat × Int) → List Leg
  | 0, _, _, _, _ => []
  | n + 1, t, a, g, cmds =>
    if a = g then
      let (w, r) := win t
      let ends := decide (a = psRelay) && decide (w ≠ 0)
      match cmds with
      | [] => if ends then ⟨t, t + w, a, a⟩ :: portLegs win n (t + w) a r [] else [⟨t, unbounded, a, a⟩]
      | (u, v) :: l =>
        if ends ∧ t + w ≤ u then ⟨t, t + w, a, a⟩ :: portLegs win n (t + w) a r cmds
        else if v = a then portLegs win n t a a l
        else ⟨t, max t u, a, a⟩ :: portLegs win n (max t u) a v l
    else
      let b := nextState a g
      let e := t + transTicks a b
      let past := cmds.filter (fun x => decide (x.1 ≤ e))
      ⟨t, e, a, b⟩ :: portLegs win n e b ((past.getLast?.map Prod.snd).getD g) (cmds.filter (fun x => decide (e < x.1)))

/-- Targets that the moments set on port p from tick t on. -/
def portTargets (ms : List Moment) (p t : Nat) : List (Nat × Int) :=
  (ms.filter (fun m => decide (t ≤ m.tick))).filterMap (fun m =>
    let sets : Bool := match m.what with
      | .launch w => decide (K.portTarget p ∈ w.vals.map Prod.fst)
      | .entry n => decide (entryAction (entryOct m.before n) = ⟨0x01, p, m.after.nat (K.portTarget p)⟩)
      | .power _ => false
    if sets then some (m.tick, m.after.num (K.portTarget p)) else none)

/-- A port's state as admission charges it: Chrysalis as Listen (R139). -/
def chargedState (v : Int) : Int := if v = psChrysalis then psListen else v

/-- The paths of port p through the stretches in which no walker drives it: from the present, and from each moment that takes it out of a
pattern. -/
def portPath (o : State) (ms : List Moment) (p : Nat) : List Leg :=
  let win := fun t => let s := stateAt o ms t; (s.nat (K.portTxWindow p), s.num (K.portRest p))
  let fuel := 8 * (ms.length + 2)
  let present := if (portWalker o p).isSome then []
    else
      let cmds := portTargets ms p o.time.tb
      let goal := o.num (K.portTarget p)
      if o.num (K.portState p) = psCal then
        let e := o.time.tb + ((o.port p).calDue - o.time.now) + 2458
        ⟨o.time.tb, e, psCal, psListen⟩ :: portLegs win fuel e psListen goal cmds
      else if changing o p then
        let e := o.time.tb + ((o.port p).due - o.time.now)
        ⟨o.time.tb, e, o.num (K.portState p), o.num (K.portChangingTo p)⟩ ::
          portLegs win fuel e (chargedState (if o.num (K.portChangingTo p) = psCal then psListen else o.num (K.portChangingTo p))) goal cmds
      else portLegs win fuel o.time.tb (chargedState (o.num (K.portState p))) goal cmds
  let freed := (ms.filter (fun m => (portWalker m.before p).isSome && (portWalker m.after p).isNone)).map (fun m =>
    portLegs win fuel m.tick psListen (m.after.num (K.portTarget p)) (portTargets ms p (m.tick + 1)))
  (present ++ freed.flatten).filter (fun l => (portWalker (stateAt o ms l.start) p).isNone)

/-- The first tick at or after x, before stop, at which a walker holds port p busy: from the start of its change to Relay until it leaves
Relay. -/
def walkerBusy (s : State) (w p x : Nat) : Option Nat :=
  let c := cycleTicks s w
  ((busySpans s w p).map (fun b => if cyc c b.1 (positionAt s w x) < b.2 then x else nextAt s w b.1 x)).min?

/-- The first busy tick of port p at or after x. -/
def nextBusy (o : State) (ms : List Moment) (p x : Nat) : Option Nat :=
  let legs := portPath o ms p
  (spellsFrom o ms x).findSome? (fun e =>
    let t : Option Nat := match portWalker e.st p with
      | some w => walkerBusy e.st w p e.start
      | none => ((legs.filter (fun l => (decide (l.a = psRelay) || decide (l.b = psRelay)) && decide (e.start < l.stop))).map
          (fun l => max e.start l.start)).min?
    t.filter (fun v => decide (v < e.stop)))

/-- The first tick at or after x in which port p is due in Relay: a segment in which it transmits, or its standing in Relay. -/
def nextRelay (o : State) (ms : List Moment) (p x : Nat) : Option Nat :=
  let legs := portPath o ms p
  (spellsFrom o ms x).findSome? (fun e =>
    let t : Option Nat := match portWalker e.st p with
      | some w => (((segsOf e.st w).filter (fun g => transmitsIn e.st p g.dir)).map (fun g =>
          if cyc (cycleTicks e.st w) g.start (positionAt e.st w e.start) < g.len then e.start else nextAt e.st w g.start e.start)).min?
      | none => ((legs.filter (fun l => decide (l.a = psRelay) && decide (l.b = psRelay) && decide (e.start < l.stop))).map
          (fun l => max e.start l.start)).min?
    t.filter (fun v => decide (v < e.stop)))

/-- Port p just before tick t: the state it stands in or changes to, the rest of the running transition, and the state it changes from. -/
def portAt (o : State) (ms : List Moment) (p t : Nat) : Int × Nat × Int :=
  let s := stateBefore o ms t
  match portWalker s p with
  | some w => (match walkerBusy s w p t with
      | some u => if u = t then (psRelay, 0, psRelay) else (psListen, 0, psListen)
      | none => (psListen, 0, psListen))
  | none =>
    let legs := portPath o ms p
    match legs.find? (fun l => decide (l.start ≤ t) && decide (t < l.stop)) with
    | some l => if l.a = l.b then (l.a, 0, l.a) else (l.b, l.stop - t, l.a)
    | none => (match legs.find? (fun l => decide (l.stop = t)) with
      | some l => (l.b, 0, l.b)
      | none => (psListen, 0, psListen))

/-- Channel c carries traffic in tick t of a state: started, with no launch mute, and in a segment of its own direction when it is on a
pattern; else the first later tick in which it does. -/
def channelNeeds (s : State) (c t : Nat) : Option Nat :=
  if s.num (K.chRun c) = 0 ∨ s.bit (K.chMutes c) cmLaunch then none
  else if !isTdd s c then some t
  else match chanWalker s c with
    | none => none
    | some w => (((segsOf s w).filter (fun g => decide (g.dir = s.nat (K.chDir c)))).map (fun g =>
        if cyc (cycleTicks s w) g.start (positionAt s w t) < g.len then t else nextAt s w g.start t)).min?

/-- The first tick at or after x in which a channel of port p takes input from it. -/
def nextInput (o : State) (ms : List Moment) (p x : Nat) : Option Nat :=
  (spellsFrom o ms x).findSome? (fun e =>
    (((channelsIn e.st p).filterMap (fun c => channelNeeds e.st c e.start)).min?).filter (fun v => decide (v < e.stop)))

/-- Every channel that uses port p holds its launch mute throughout the ticks from x up to y. -/
def mutedThrough (o : State) (ms : List Moment) (p x y : Nat) : Bool :=
  (spellsFrom o ms x).all (fun e => decide (y ≤ e.start) || (portChannels e.st p).all (fun c => e.st.bit (K.chMutes c) cmLaunch))

/-- Every channel that takes input from port p holds its launch mute throughout the ticks from x up to y. -/
def inputsMuted (o : State) (ms : List Moment) (p x y : Nat) : Bool :=
  (spellsFrom o ms x).all (fun e => decide (y ≤ e.start) || (channelsIn e.st p).all (fun c => e.st.bit (K.chMutes c) cmLaunch))

/-- The quiet interval of port p inside a Landing of walker w, at position pos of the cycle: how many ticks it still lasts (R102). -/
def landingLeft (s : State) (w p pos : Nat) : Nat :=
  let l := segsOf s w
  let i := segNo s w pos
  match l[i]?, l[(i + l.length - 1) % max 1 l.length]?, l[(i + 1) % max 1 l.length]? with
  | some g, some b, some n =>
    if !g.landing then 0
    else if s.num (K.portState p) = psChrysalis then g.start + g.len - pos
    else if transmitsIn s p b.dir ∧ pos < g.start + 1475 then 0
    else if transmitsIn s p n.dir then cyc (cycleTicks s w) pos (txStart s w p ((i + 1) % max 1 l.length))
    else g.start + g.len - pos
  | _, _, _ => 0

end Sys2Proof.Machine
end

