-- ==== Sys2Proof/Machine/Admission.lean ====
section
/-! DEFINITION. Admission (R104 to R110): the checks of Table 4-11 over the projected state, the candidates for the earliest acceptable
tick, and the reports. -/

namespace Sys2Proof.Machine

/-- A failing object of a check: the tick of its deadline, and its key (index, sub); 0 names no object. -/
structure Fail where
  tick : Nat
  key : Nat
  deriving DecidableEq, Repr

/-- What a check looks at: the state at the commit, the launch tick asked for and the one projected, the values, the moments from the
commit on, the states in the tick before the launch and just after the values have been taken, the spells from the launch on, and
the last tick checked. -/
structure Plan where
  now : State
  asked : Nat
  t : Nat
  vals : List (Nat × Val)
  ms : List Moment
  pre : State
  q : State
  spells : List Spell
  stop : Nat

/-- Keys the transaction stages. -/
def Plan.keys (x : Plan) : List Nat := x.vals.map Prod.fst

/-- Moments from the launch tick on. -/
def Plan.later (x : Plan) : List Moment := x.ms.filter (fun m => decide (x.t ≤ m.tick))

/-- Entries that execute from the launch tick on: moment, number and action. -/
def Plan.entries (x : Plan) : List (Moment × Nat × Action) :=
  x.later.filterMap (fun m => match m.what with
    | .entry n => some (m, n, entryAction (entryOct m.before n))
    | _ => none)

/-- Launches among moments: moment and keys. -/
def launchesIn (l : List Moment) : List (Moment × List Nat) :=
  l.filterMap (fun m => match m.what with
    | .launch w => some (m, w.vals.map Prod.fst)
    | _ => none)

/-- Launches from the launch tick on, and all from the commit on. -/
def Plan.launches (x : Plan) : List (Moment × List Nat) := launchesIn x.later

def Plan.allLaunches (x : Plan) : List (Moment × List Nat) := launchesIn x.ms

/-- What a check finds in each state of the checked interval. -/
def Plan.each (x : Plan) (f : State → List Nat) : List Fail := x.spells.flatMap (fun e => (f e.st).map (fun k => ⟨e.start, k⟩))

/-- What a check finds in the ticks of each spell of the checked interval. -/
def Plan.eachSpell (x : Plan) (f : Spell → List Nat) : List Fail :=
  x.spells.flatMap (fun e => (f { e with stop := min e.stop (x.stop + 1) }).map (fun k => ⟨e.start, k⟩))

/-! ### Capacity: 0x0101 to 0x0109 -/

/-- Started channels whose slots are unavailable: their slice is held off, or the slots used up to them pass 512 (R172, R396). -/
def slotsBad (s : State) : List Nat :=
  let upTo := fun c => ((s.started.filter (fun d => decide (d ≤ c))).map (fun d => slotsOf (s.nat (K.chD d)))).sum
  (s.started.filter (fun c => heldOff s (c / 8) || decide (512 < upTo c))).map K.chRun

/-- Channels out of place, and channels enabled on a slot that another holds (R15). -/
def slotAlignBad (s : State) : List Nat :=
  s.started.flatMap (fun c =>
    let k := slotsOf (s.nat (K.chD c))
    (if 8 - k < c % 8 then [K.chD c] else []) ++
      (s.started.filter (fun d => decide (c < d) && decide (d < c + k) && decide (d / 8 = c / 8))).map K.chRun)

/-- Cancellers with a branch in an overloaded sub-pool (R202). -/
def tapsBad (s : State) : List Nat :=
  let full := (List.range 16).filter (fun sp => decide (poolCapacity < poolLoad s sp))
  (s.started.filter (fun c => (List.range 4).any (fun n => decide (s.nat (K.cxBranchSubpoolN c n) ∈ full)))).map K.cxTaps

/-- Cancellers that a launch places and whose automatic branch finds no room. DEDUCED, log entry 69. -/
def unplacedBad (m : Moment) (ks : List Nat) : List Nat :=
  ((touched 512 chanOf ks).filter (fun c => decide (m.after.num (K.chRun c) = 1) && hasTaps m.after c &&
    (decide (m.before.num (K.chRun c) = 0) || tapCause m.before m.after c) &&
    (usedBranches m.after c).any (fun e => decide (m.after.num (K.cxBranchSubpoolN c e.1) = 0xFF)))).map K.cxTaps

/-- Named placements in a sub-pool that is powered off. -/
def subpoolBad (s : State) : List Nat :=
  (s.started.filter (fun c => hasTaps s c && decide (s.num (K.cxSubpool c) ≠ 0xFF) && !poolPowered s (s.nat (K.cxSubpool c)))).map K.cxSubpool

/-- The highest channel counted, when the admitted load exceeds 100 % (R234). -/
def engineBad (s : State) : List Nat :=
  if 1 < admittedLoad s then (s.started.max?.toList).map K.gePeriod else []

/-- The launch entries kept for branches of this part that have voted yes, or are about to (R129). -/
def keptEntries (s : State) : List Nat :=
  (slotsInUse s).filterMap (fun e => if e.2.kind ≠ 1 ∧ e.2.sysSeq ≠ 0 ∧ (e.2.state = 2 ∨ e.2.state = 6 ∨ e.2.state = 7) then some e.2.entry else none)

/-- The entry that the part would allocate for a commit: the highest that is not armed, that no waiting transaction stages, and that is kept for
no branch (R87, R129). DEDUCED, log entry 49. -/
def commitEntry (s : State) (ks : List Nat) : Option Nat :=
  let staged := (ks ++ (acceptedWork s).flatMap (fun w => w.vals.map Prod.fst)).filterMap entryOf ++ keptEntries s
  ((List.range 4096).reverse).find? (fun n => decide (s.num (K.ltStatus n) ≠ leArmed) && decide (n ∉ staged))

/-- Staged entries whose number a kind 0x0D entry holds, or that is kept for one (R129). -/
def launchBusyBad (s : State) (ks : List Nat) : List Nat :=
  ks.filter (fun k => match entryOf k with
    | some n => (decide (s.num (K.ltStatus n) = leArmed) && decide ((entryAction (entryOct s n)).kind = 0x0D)) || decide (n ∈ keptEntries s)
    | none => false)

/-- Contributions to a port beyond the 32nd, in ascending order of their objects (R187). -/
def txSumBad (s : State) : List Nat :=
  let all := s.started.flatMap (fun c => (outputsOf s c).map (fun e => (e.2, outPortKey c e.1)))
  (List.range 32).flatMap (fun p => ((all.filter (fun e => decide (e.1 = p))).map Prod.snd).drop 32)

/-- Fan-outs that R186 and R188 refuse. -/
def fanoutBad (s : State) : List Nat :=
  s.started.flatMap (fun c =>
    (if s.num (K.foPort0 c) = 0xFF then [K.foPort0 c] else []) ++
      (if s.num (K.chD c) = 1 then
        ((outputsOf s c).filter (fun e => decide (e.1 ≠ 0))).map (fun e => outPortKey c e.1) ++
          (if s.num (outDelayKey c 0) ≠ 0 then [outDelayKey c 0] else [])
      else []))

/-! ### Deadlines: 0x0201 to 0x020A -/

/-- PAST: a launch tick too close, and staged entries due before it (R86). -/
def pastFails (x : Plan) : List Fail :=
  (if x.asked < x.now.time.tb + x.now.nat K.admMinLead then [⟨x.asked, 0⟩] else []) ++
    x.vals.filterMap (fun e => match entryOf e.1, e.2 with
      | some _, .oct b => if leAt b 8 1 ≠ 0 ∧ entryDue b < x.asked then some ⟨entryDue b, e.1⟩ else none
      | _, _ => none)

/-- Ports that come onto a walker, or whose walker's cycle is set afresh, with a launch: moment, port, walker (R97). -/
def newlyDriven (x : Plan) : List (Moment × Nat × Nat) :=
  x.launches.flatMap (fun (m, ks) => (List.range 32).filterMap (fun p => match portWalker m.after p with
    | some w => if portWalker m.before p ≠ some w ∨ w ∈ patsTouched m.after ks then some (m, p, w) else none
    | none => none))

/-- PORT_TIME: a port newly driven, by this launch or by one accepted that follows it (R104), that cannot be in Relay, or in Listen, by a
segment's start; and an armed calibration of a port that no walker drives and that does not stand in a state from which it can start.
DEDUCED, log entry 67. DEDUCED, log entry 68. -/
def portFails (x : Plan) : List Fail :=
  (newlyDriven x).flatMap (fun (m, p, w) =>
    let (a, rest, from_) := portAt x.now x.ms p m.tick
    (segsOf m.after w).filterMap (fun g =>
      let start := nextAt m.after w g.start m.tick
      let late : Bool :=
        if transmitsIn m.after p g.dir then decide (start < m.tick + rest + toRelay (chargedState a))
        else if receivesIn m.after p g.dir then (decide (a < psListen) || decide (from_ < psListen)) && decide (start < m.tick + rest + toListen a)
        else false
      if late ∧ portWalker (stateAt x.now x.ms start) p = some w then some ⟨start, K.patSeg g.pat g.num⟩ else none)) ++
  x.entries.filterMap (fun (m, n, a) =>
    let st := portAt x.now x.ms a.target m.tick
    if a.kind = 0x0A ∧ (portWalker m.before a.target).isNone ∧ (st.1 < psStandby ∨ st.2.1 ≠ 0) then some ⟨m.tick, K.ltEntry n⟩ else none)

/-- Retunes that launches begin: moment, port, whether TX, key, and the tick each ends (R148). -/
def retunesOf (x : Plan) (l : List (Moment × List Nat)) : List (Moment × Nat × Bool × Nat × Nat) :=
  l.flatMap (fun (m, _) => (List.range 32).flatMap (fun p => [false, true].filterMap (fun tx =>
    let a := m.before.num (K.synFreq tx p)
    let b := m.after.num (K.synFreq tx p)
    if a = b ∨ (portAt x.now x.ms p m.tick).1 < psStandby then none
    else some (m, p, tx, K.synFreq tx p, m.tick + (if (b - a).natAbs < 50000 then 14746 else 55296)))))

/-- The retunes that launches of the checked interval begin. -/
def retunes (x : Plan) : List (Moment × Nat × Bool × Nat × Nat) := retunesOf x x.launches

/-- The first tick at or after t in which the port of a retune is needed. -/
def retuneNeed (x : Plan) (p : Nat) (tx : Bool) (t : Nat) : Option Nat :=
  if tx then nextBusy x.now x.ms p t else nextInput x.now x.ms p t

/-- SYNTH_TIME: a retune that does not end before its port is needed. DEDUCED, log entry 67. -/
def synthFails (x : Plan) : List Fail :=
  (retunes x).filterMap (fun (m, p, tx, k, e) => match retuneNeed x p tx m.tick with
    | some u => if u < e then some ⟨u, k⟩ else none
    | none => none)

/-- A selection of a rail's set-point: its tick, the rail, the set-points before and after it, its key. -/
structure Pick where
  tick : Nat
  rail : Nat
  old : Nat
  new : Nat
  key : Nat
  st : State

/-- The set-point in effect for rail r: that of the cycle of a walker whose actions name it, else the selected one. -/
def projectedSetpoint (s : State) (r t : Nat) : Nat :=
  ((enabledPats s).findSome? (fun w => cycleSetpoint s w r (positionAt s w t))).getD (s.nat (K.rlSetpoint r))

/-- Selections by launch entries. -/
def entryPicks (x : Plan) : List Pick :=
  x.entries.filterMap (fun (m, n, a) =>
    if a.kind = 0x05 then some ⟨m.tick, a.target, projectedSetpoint m.before a.target m.tick, a.param, K.ltEntry n, m.before⟩ else none)

/-- The actions of a pattern that select set-points: number and action. -/
def railActs (s : State) (p : Nat) : List (Nat × Action) :=
  (List.range 16).filterMap (fun i =>
    let a := actAction (s.oct (K.patAction p (i + 1)))
    if a.kind = 0x05 then some (i + 1, a) else none)

/-- Selections by pattern actions: of each spell, those of the first 20 ms, in which every cycle repeats whole, and those about each path to
Relay of a port that the rail feeds and no walker drives. -/
def actionPicks (x : Plan) : List Pick :=
  x.spells.flatMap (fun e => (enabledPats e.st).flatMap (fun p => (railActs e.st p).flatMap (fun (i, a) =>
    let c := cycleTicks e.st p
    let pos := actionPos e.st p i
    let first := nextAt e.st p pos e.start
    let whole := if c = 0 then [] else (List.range (24576000 / c)).map (fun j => first + j * c)
    let about := (portsFed e.st a.target).flatMap (fun q => if (portWalker e.st q).isSome then [] else
      ((portPath x.now x.ms q).filter (fun l => decide (l.b = psRelay) && decide (l.a ≠ psRelay))).flatMap (fun l =>
        let u := nextAt e.st p pos l.start
        [u - c, u, u + c]))
    ((whole ++ about).filter (fun u => decide (e.start ≤ u) && decide (u < min e.stop x.stop))).map (fun u =>
      ⟨u, a.target, setpointBut e.st p i a.target (positionAt e.st p u), a.param, K.patAction p i, e.st⟩))))

/-- The charged move of a selection; 0 when the voltage does not change. -/
def Pick.move (k : Pick) : Nat :=
  let a := spMv k.st k.rail k.old
  let b := spMv k.st k.rail k.new
  if a = b ∨ k.st.num (K.rlSelSource k.rail) = 1 then 0 else moveTicks k.st k.rail (absDiff a b)

/-- The first busy tick at or after t of the ports that rail r feeds in a state. -/
def railBusy (x : Plan) (s : State) (r t : Nat) : Option Nat := ((portsFed s r).filterMap (fun p => nextBusy x.now x.ms p t)).min?

/-- RAIL_TIME: the four cases of R281. DEDUCED, log entry 67. DEDUCED, log entry 68. -/
def railFails (x : Plan) (picks : List Pick) : List Fail :=
  picks.filterMap (fun k =>
    if k.st.num (K.rlSelSource k.rail) = (1 : Int) then some ⟨k.tick, k.key⟩
    else match railBusy x k.st k.rail (k.tick + 1) with
      | some u => if k.move ≠ 0 ∧ u < k.tick + k.move ∧ railBusy x k.st k.rail k.tick ≠ some k.tick then some ⟨u, k.key⟩ else none
      | none => none) ++
  x.each (fun s => (List.range 8).filterMap (fun r =>
    if s.num (K.rlSelSource r) = 1 ∧ (portsFed s r).any (fun p => (portWalker s p).isSome) then some (K.rlSelSource r) else none)) ++
  x.each (fun s => (List.range 24).filterMap (fun r =>
    if s.nat (K.rlSettle r) * 12288 < switchPeriod s r * 10000 then some (K.rlSettle r) else none))

/-- What resets the filters of channel c in a launch: the lowest of its changed settings (R180). -/
def resetKey (m : Moment) (ks : List Nat) (c : Nat) : Option Nat :=
  if m.after.num (K.chRun c) = 0 then none
  else if m.before.num (K.chRun c) = 0 then some (K.chRun c)
  else
    let b := activeBank m.after c
    let bank := if m.after.num (K.chD c) = 1 then [] else (List.range 7).map (fun i => K.bkClass b c + i)
    let all := [K.chD c, K.chInPort c] ++ bank ++ (List.range 4).map (fun i => outPortKey c i)
    (ks.filter (fun k => decide (k ∈ all) && differs m.before m.after k)).min?

/-- The last load of bank b of slice sl before tick t, in the projected state: carried by a transaction, or launched (R185). DEDUCED, log entry 69. -/
def lastLoad (x : Plan) (sl b t : Nat) : Option Int :=
  let loads := x.ms.filter (fun m => decide (m.tick ≤ t) && (List.range 8).any (fun i => bankLoaded m.before m.after b (8 * sl + i)))
  match loads.getLast? with
  | some m => some m.tick
  | none => (Tab.get (fun _ => none) x.now.loads (2 * sl + b)).map (fun u => (x.now.time.tb : Int) - ((x.now.time.now : Int) - u))

/-- The channels of a slice that a swap concerns. -/
def swapChannels (s : State) (sl : Nat) : List Nat := (startedIn s sl).filter (fun c => decide (s.num (K.chD c) ≠ 1))

/-- A span in which channel c settles: from a reset to its end, with the object that brings the reset. -/
structure Settling where
  chan : Nat
  start : Nat
  stop : Nat
  key : Nat
  deriving DecidableEq, Repr

/-- The settling spans that launches bring, and those that run at the commit; a later reset of the channel starts the count again (R179). -/
def settlings (x : Plan) : List Settling :=
  let launched := x.allLaunches.flatMap (fun (m, ks) => (touched 512 chanOf ks).filterMap (fun c =>
    (resetKey m ks c).map (fun k => Settling.mk c m.tick (m.tick + settleOf m.after c) k)))
  let running := x.now.started.filterMap (fun c =>
    let left := ((outputsOf x.now c).map (fun e => (((x.now.chan c).settle[e.1]?).getD 0) - x.now.time.now)).foldl max 0
    if left = 0 then none else some (Settling.mk c x.now.time.tb (x.now.time.tb + left) (K.chRun c)))
  (running ++ launched).map (fun a => { a with
    stop := (((launched.filter (fun b => decide (b.chan = a.chan) && decide (a.start < b.start))).map (fun b => b.start)).min?).elim a.stop (min a.stop) })

/-- The first start of a segment of channel c's own direction, in the checked interval, that lies in ticks a up to b with no launch mute. -/
def ownStartIn (x : Plan) (c a b : Nat) : Option Nat :=
  x.spells.findSome? (fun e =>
    if e.st.num (K.chRun c) = 0 ∨ e.st.bit (K.chMutes c) cmLaunch then none
    else (chanWalker e.st c).bind (fun w => (nextOwnStart e.st w (e.st.nat (K.chDir c)) (max a e.start)).filter (fun u => decide (u < min b e.stop))))

/-- The transaction moves the segments of channel c: its pattern, its direction, or a pattern. -/
def movesSegments (x : Plan) (c : Nat) : Bool := x.keys.any (fun k => decide (k = K.chPattern c) || decide (k = K.chDir c) || (patOf k).isSome)

/-- A swap due too soon after a load of the bank that it brings in (R185). -/
def swapFails (x : Plan) : List Fail :=
  x.entries.filterMap (fun (m, n, a) =>
    let b := a.param / 65536
    if a.kind ≠ 0x06 ∨ m.before.nat (K.slBankActive a.target) = b then none
    else match lastLoad x a.target b m.tick with
      | some u =>
        let len := ((swapChannels m.before a.target).map (fun c => settlingTicks (m.before.nat (K.chD c)) (m.before.nat (K.bkClass b c)))).foldl max 0
        if (m.tick : Int) < u + len then some ⟨m.tick, K.ltEntry n⟩ else none
      | none => none)

/-- SETTLE_TIME: a channel due to radiate while it settles (R179), and a swap too soon after a load (R185). What already runs at the commit is
charged against what the transaction itself brings. DEDUCED, log entry 67. -/
def settleFails (x : Plan) : List Fail :=
  (settlings x).flatMap (fun a =>
    let runs := decide (a.start ≤ x.now.time.tb) && decide (a.key = K.chRun a.chan)
    let own := if runs && !movesSegments x a.chan then none else ownStartIn x a.chan (max a.start x.t) a.stop
    (own.map (fun u => Fail.mk u a.key)).toList ++ x.entries.filterMap (fun (n, i, e) =>
      if e.kind = 0x02 ∧ e.target = a.chan ∧ a.start ≤ n.tick ∧ n.tick < a.stop ∧ (!runs ∨ K.ltEntry i ∈ x.keys) then
        some ⟨n.tick, K.ltEntry i⟩ else none)) ++ swapFails x

/-- Fades of the projected state: slice, first tick and end, and the entry that swaps; a swap that names the active bank makes none. DEDUCED, log entry 69. -/
def fades (x : Plan) : List (Nat × Nat × Nat × Option Nat) :=
  x.now.fades.filterMap (fun e => if x.now.time.now < e.2 then some (e.1, x.now.time.tb, x.now.time.tb + (e.2 - x.now.time.now), none) else none) ++
    x.ms.filterMap (fun m => match m.what with
      | .entry n =>
        let a := entryAction (entryOct m.before n)
        if a.kind = 0x06 ∧ m.before.nat (K.slBankActive a.target) ≠ a.param / 65536 then
          some (a.target, m.tick, m.tick + fadeCharge m.before a.target (a.param % 65536), some n)
        else none
      | _ => none)

/-- A bank setting of slice sl that a launch changes, or an output port of one of its channels; whole-port channels have no banks (R181, R188). -/
def loadKey (m : Moment) (ks : List Nat) (sl : Nat) : Option Nat :=
  (ks.filter (fun k => (List.range 8).any (fun i =>
    let c := 8 * sl + i
    decide (m.after.num (K.chD c) ≠ 1) && ((List.range 2).any (fun b => decide (K.bkClass b c ≤ k) && decide (k < K.bkClass b c + 7)) ||
      decide (outPortKey c 0 ≤ k ∧ k < outPortKey c 0 + 4))) && differs m.before m.after k)).min?

/-- FADE_OVERLAP: a load or a swap inside a charged fade, a second swap in the tick of the first included (R185). -/
def fadeFails (x : Plan) : List Fail :=
  (fades x).flatMap (fun (sl, a, e, by_) =>
    x.launches.filterMap (fun (m, ks) => if a ≤ m.tick ∧ m.tick < e then (loadKey m ks sl).map (fun k => ⟨m.tick, k⟩) else none) ++
    x.entries.filterMap (fun (m, n, act) =>
      let after := decide (a < m.tick) || (decide (a = m.tick) && by_.any (fun k => decide (k ≠ n) && entryBefore m.before k n))
      if act.kind = 0x06 ∧ act.target = sl ∧ m.before.nat (K.slBankActive sl) ≠ act.param / 65536 ∧ after ∧ m.tick < e then
        some ⟨m.tick, K.ltEntry n⟩ else none))

/-- The outputs of channel c with a branch: output, branch, port. -/
def branchedOutputs (s : State) (c : Nat) : List (Nat × Nat × Nat) :=
  (outputsOf s c).filterMap (fun e => (branchOfPort s c e.2).map (fun n => (e.1, n, e.2)))

/-- The record of branch n is measured for the band of channel c (R211). -/
def recordCovers (s : State) (c n : Nat) : Bool :=
  s.bit (K.cxRecords c) n &&
    (inBand s (activeBank s c) c).inside ⟨2 * s.num (K.cxBandLoN c n), 2 * s.num (K.cxBandHiN c n)⟩

/-- i of R213, in 1/6,553,600 dB. -/
def isoNow (s : State) (c n p : Nat) : Int :=
  s.num (K.cxIsoN c n) * 100 + (s.num (K.portRxAtten (s.nat (K.chInPort c))) + s.num (K.portTxAtten p)) * 65536

/-- g of R213 at output o, in the same unit. -/
def gainAt (s : State) (c o : Nat) : Int := (s.num (K.geGmax c) + s.num (outGainKey c o)) * 65536

/-- Channel c relies on cancellation (R214). -/
def relies (s : State) (c : Nat) : Bool :=
  decide (s.num (K.chRun c) = 1) && (branchedOutputs s c).any (fun (o, n, p) =>
    recordCovers s c n && decide (isoNow s c n p - s.num (K.cxMinMargin c) * 65536 < gainAt s c o))

/-- The retunes and relocks that run at the commit or that launches begin: port, whether TX, and the tick each ends. -/
def retuneEnds (x : Plan) : List (Nat × Bool × Nat) :=
  (List.range 32).flatMap (fun p => [false, true].filterMap (fun tx =>
    if x.now.num (K.synState tx p) = 2 ∨ x.now.num (K.synState tx p) = 5 then
      some (p, tx, x.now.time.tb + (synDue x.now tx p - x.now.time.now)) else none)) ++
    (retunesOf x x.allLaunches).map (fun (_, p, tx, _, e) => (p, tx, e))

/-- A retune of a synthesiser that channel c's canceller rests on ends at or before tick t: a tap reset (R205). -/
def retuneResets (x : Plan) (c t : Nat) : Bool :=
  (retuneEnds x).any (fun (p, tx, e) => decide (e ≤ t) && (
    let s := stateAt x.now x.ms e
    if tx then decide (p ∈ (usedBranches s c).map Prod.snd) else decide (s.nat (K.chInPort c) = p)))

/-- RECONVERGE (R214): a channel that this launch, or one accepted that follows it (R104), makes rely on cancellation whose canceller has not
been converged for its reconvergence time. -/
def reconvergeFails (x : Plan) : List Fail :=
  x.launches.flatMap (fun (m, _) =>
    (m.after.started.filter (fun c => relies m.after c && !relies m.before c &&
      !(decide (x.now.num (K.cxState c) = 2) && decide (m.after.num (K.cxState c) = 2) && !retuneResets x c m.tick &&
        decide (tbTicks (x.now.nat (K.cxConvergedAt c)) + reconvOf m.after c ≤ m.tick)))).map (fun c => ⟨m.tick, K.geGmax c⟩))

/-- A receive retune of port p in a launch runs in quiet: every channel that takes input from the port is muted by its launch mute, or the
port lies inside a Landing; pattern mutes alone do not make it quiet (R102). -/
def retuneQuiet (x : Plan) (m : Moment) (p e : Nat) : Bool :=
  inputsMuted x.now x.ms p m.tick e || (match portWalker m.after p with
    | some w => decide (e - m.tick ≤ landingLeft m.after w p (positionAt m.after w m.tick))
    | none => false)

/-- NO_QUIET: retunes, calibrations and rail selections outside a quiet interval (R102, R103). DEDUCED, log entry 67. -/
def quietFails (x : Plan) (picks : List Pick) : List Fail :=
  (retunes x).filterMap (fun (m, p, tx, k, e) =>
    let quiet : Bool := if tx then (match nextBusy x.now x.ms p m.tick with | some u => decide (e ≤ u) | none => true) else retuneQuiet x m p e
    if quiet then none else some ⟨m.tick, k⟩) ++
  x.entries.filterMap (fun (m, n, a) =>
    if a.kind ≠ 0x0A then none
    else
      let p := a.target
      let st := portAt x.now x.ms p m.tick
      let need := toCal st.1 + calTicks a.param + 2458
      let quiet := ((portWalker m.before p).isNone && decide (x.now.num (K.portState p) = psChrysalis)) ||
        mutedThrough x.now x.ms p m.tick (m.tick + need) ||
        (match portWalker m.before p with
         | some w => decide (need ≤ landingLeft m.before w p (positionAt m.before w m.tick))
         | none => false)
      if quiet then none else some ⟨m.tick, K.ltEntry n⟩) ++
  picks.filterMap (fun k =>
    let acts := decide (k.move ≠ 0) || decide (wantedCount k.st k.rail k.new < wantedCount k.st k.rail k.old)
    if acts ∧ railBusy x k.st k.rail k.tick = some k.tick then some ⟨k.tick, k.key⟩ else none)

/-- KEEPOUT: a selection that lowers the phase count inside the keep-out (R282). -/
def keepoutFails (x : Plan) (picks : List Pick) : List Fail :=
  picks.filterMap (fun k =>
    if wantedCount k.st k.rail k.new < wantedCount k.st k.rail k.old then
      (match railBusy x k.st k.rail k.tick with
       | some u => if u < k.tick + nsTicks (k.st.nat (K.rlKeepout k.rail)) then some ⟨k.tick, k.key⟩ else none
       | none => none)
    else none)

/-- The starts of feeds that the moments begin: feed, tick, key (R304). -/
def feedStarts (x : Plan) : List (Nat × Nat × Nat × State) :=
  x.launches.flatMap (fun (m, _) => (List.range 32).filterMap (fun f =>
    if differs m.before m.after (K.fdEnable f) ∧ m.after.flag (K.fdEnable f) then some (f, m.tick, K.fdEnable f, m.after)
    else if differs m.before m.after (K.fdRequired f) ∧ m.after.flag (K.fdRequired f) ∧ x.now.num (K.fdState f) ≠ fsOn then
      some (f, m.tick, K.fdRequired f, m.after)
    else none)) ++
  x.entries.filterMap (fun (m, n, a) =>
    if a.kind = 0x0C ∧ a.param = 1 ∧ !m.before.flag (K.fdEnable a.target) then some (a.target, m.tick, K.ltEntry n, m.after) else none)

/-- What makes port p due in Relay at tick u: the segment word of its walker, or the entry or port.target that took it there; else the feed's
own key k. -/
def relayKey (x : Plan) (p u k : Nat) : Nat :=
  let s := stateAt x.now x.ms u
  match portWalker s p with
  | some w => ((segAt s w (positionAt s w u)).map (fun g => K.patSeg g.pat g.num)).getD k
  | none =>
    let sets := x.ms.filterMap (fun m =>
      if u < m.tick ∨ m.after.num (K.portTarget p) ≠ psRelay then none
      else match m.what with
        | .launch v => if K.portTarget p ∈ v.vals.map Prod.fst then some (K.portTarget p) else none
        | .entry n => if entryAction (entryOct m.before n) = ⟨0x01, p, 4⟩ then some (K.ltEntry n) else none
        | .power _ => none)
    (sets.getLast?).getD k

/-- FEED_TIME: a port that depends on its feed due in Relay before the start ends; the object is what takes it to Relay (R304, R107). -/
def feedFails (x : Plan) : List Fail :=
  (feedStarts x).filterMap (fun (f, t, k, s) =>
    if !s.flag (K.fdRequired f) then none
    else match nextRelay x.now x.ms f t with
      | some u => if u < t + (s.nat (K.fdDebounce f) + 4 + s.nat (K.fdInrushMax f)) * msTicks then some ⟨u, relayKey x f u k⟩ else none
      | none => none)

/-! ### Patterns: 0x0301 to 0x0307 -/

/-- The period of pattern p is valid for its spacing and prefix, alone or as half of a chained pair (Table 4-6). -/
def periodOk (s : State) (p : Nat) (chained : Bool) : Bool :=
  let code := s.nat (K.patPeriod p)
  let ext := s.flag (K.patEcp p)
  decide (s.num (K.patScs p) ∈ [15, 30, 60]) && (!ext || decide (s.num (K.patScs p) = 60)) && decide (code ≤ 10) &&
    (decide (code ≠ 1 ∧ code ≠ 3) || ext) && (decide (code ≠ 6) || chained)

/-- PERIOD. -/
def periodBad (s : State) : List Nat :=
  (enabledPats s).flatMap (fun p =>
    let q := chainOf s p
    (if periodOk s p q.isSome ∧ cycleTicks s p ≠ 0 ∧ 24576000 % max 1 (cycleTicks s p) = 0 then [] else [K.patPeriod p]) ++
      (match q with | some q => if q < 8 ∧ !periodOk s q true then [K.patPeriod q] else [] | none => []))

/-- The lengths of the segments of pattern p add up to its period. -/
def segmentsFit (s : State) (p : Nat) : Bool :=
  decide (symTick (s.nat (K.patScs p)) (s.flag (K.patEcp p)) (symbolsBefore s p (s.nat (K.patNseg p))) = periodTicks (s.nat (K.patPeriod p)))

/-- SEGMENTS. -/
def segmentsBad (s : State) : List Nat :=
  (enabledPats s).flatMap (fun p => (p :: ((chainOf s p).filter (fun q => decide (q < 8))).toList).filterMap (fun q =>
    if segmentsFit s q then none else some (K.patNseg q)))

/-- ANCHOR. -/
def anchorBad (s : State) : List Nat :=
  ((enabledPats s).filter (fun p => let a := s.nat (K.patAnchor p)
    decide (a = noTime) || !tbValidWord a || decide ((a % 2 ^ 24) % 614400 ≠ 0))).map K.patAnchor

/-- PORT_OWNED (R101, R140). -/
def ownedFails (x : Plan) : List Fail :=
  x.each (fun s => (List.range 32).filterMap (fun p =>
    if (portWalker s p).isSome ∧ s.num (K.portTarget p) ≠ psListen then some (K.portTarget p) else none)) ++
  x.entries.filterMap (fun (m, n, a) =>
    if a.kind = 0x01 ∧ (portWalker m.before a.target).isSome then some ⟨m.tick, K.ltEntry n⟩ else none)

/-- PATTERN_CLASH (R101). -/
def clashBad (s : State) : List Nat :=
  let on := enabledPats s
  (on.filter (fun p => on.any (fun q => decide (p ≠ q) && decide (s.nat (K.patPorts p) &&& s.nat (K.patPorts q) ≠ 0)))).map K.patPorts ++
  s.started.flatMap (fun c =>
    let used := (K.chInPort c, s.nat (K.chInPort c)) :: (outputsOf s c).map (fun e => (outPortKey c e.1, e.2))
    if !isTdd s c then (used.filter (fun e => (portWalker s e.2).isSome)).map Prod.fst
    else match chanWalker s c with
      | none => [K.chPattern c]
      | some w => (used.filter (fun e => !s.bit (K.patPorts w) e.2)).map Prod.fst)

/-- LOCKSTEP: a channel on a pattern in prompt (R101); a channel that is not started is not judged (DESIGN CHOICE, log entry 127). -/
def lockstepBad (s : State) : List Nat :=
  (s.started.filter (fun c => isTdd s c && decide (s.num (K.geMode c) ≠ 1))).map K.geMode

/-- CHAIN (R96). -/
def chainBad (s : State) : List Nat :=
  ((enabledPats s).filter (fun p => match chainOf s p with
    | none => false
    | some q => decide (7 < q) || s.flag (K.patEnable q) || decide (s.num (K.patScs q) ≠ s.num (K.patScs p)) ||
        decide (s.num (K.patEcp q) ≠ s.num (K.patEcp p)) || decide (s.num (K.patPorts q) ≠ s.num (K.patPorts p)))).map K.patChain

/-! ### Radio: 0x0401 to 0x0404 -/

/-- RF_RANGE (R136, R171, R188, R199). DEDUCED, log entry 68. -/
def rfBad (s : State) : List Nat :=
  s.started.flatMap (fun c =>
    if s.num (K.chD c) = 1 then
      (outputsOf s c).filterMap (fun e =>
        if s.num (K.synFreq true e.2) = s.num (K.synFreq false (s.nat (K.chInPort c))) then none else some (K.synFreq true e.2)) ++
      (usedBranches s c).filterMap (fun e => if (inBand s 0 c).inside (portBand2 s true e.2) then none else some (K.cxRefN c e.1))
    else
      let b := activeBank s c
      let band := inBand s b c
      (if 983040 < s.nat (K.bkBw b c) * s.nat (K.chD c) then [K.bkBw b c] else []) ++
      (if band.inside (portBand2 s false (s.nat (K.chInPort c))) then [] else [K.bkCentre b c]) ++
      (outputsOf s c).filterMap (fun e => if (outBand s b c e.1).inside (portBand2 s true e.2) then none else some (K.bkOutCentre0 b c + e.1)) ++
      (usedBranches s c).filterMap (fun e => if band.inside (portBand2 s true e.2) then none else some (K.cxRefN c e.1)))

/-- PERMIT (R380). -/
def permitBad (s : State) : List Nat :=
  s.started.flatMap (fun c => match permitFor s c with
    | none => [K.chRun c]
    | some n =>
      let b := s.oct (K.secPermit n)
      if pmKind b = 0 ∧ pmCap b < s.num (K.geGmax c) then [K.geGmax c] else [])

/-- Channel c may radiate in some tick of a spell: it is started, holds no launch mute, and is in a segment of its own when it is on a pattern. -/
def mayRadiate (e : Spell) (c : Nat) : Bool := (channelNeeds e.st c e.start).any (fun u => decide (u < e.stop))

/-- Two channels may radiate in a common tick of a spell (R199): two on patterns, when segments of their own meet; one walker never gives two
directions at once, and 20 ms show every meeting of two cycles. -/
def together (e : Spell) (c d : Nat) : Bool :=
  mayRadiate e c && mayRadiate e d &&
    (match chanWalker e.st c, chanWalker e.st d with
     | some v, some w =>
       if v = w then decide (e.st.num (K.chDir c) = e.st.num (K.chDir d))
       else
         let cy := cycleTicks e.st v
         ((segsOf e.st v).filter (fun g => decide (g.dir = e.st.nat (K.chDir c)))).any (fun g =>
           (List.range (24576000 / max 1 cy + 2)).any (fun n =>
             let u := nextAt e.st v g.start e.start + n * cy
             let a := max e.start (u - cy)
             let b := min e.stop (u + g.len - cy)
             decide (a < b) && (channelNeeds e.st d a).any (fun t => decide (t < b))))
     | _, _ => true)

/-- The output bands of channel d, with their ports. -/
def outBands (s : State) (d : Nat) : List (Nat × Band) := (outputsOf s d).map (fun e => (e.2, outBand s (activeBank s d) d e.1))

/-- ISOLATION, the two rules of R199, in the ticks of a spell in which the channel may radiate. -/
def loopBad (e : Spell) : List Nat :=
  let s := e.st
  s.started.flatMap (fun c =>
    let refs := (usedBranches s c).map Prod.snd
    let band := inBand s (activeBank s c) c
    let near := (fun d => (outBands s d).any (fun e => decide (e.1 ∉ refs) && e.2.overlaps band))
    let loop := (fun d => decide (c < d) && (inBand s (activeBank s d) d).overlaps band &&
        (outputsOf s c).any (fun e => decide (e.2 = s.nat (K.chInPort d))) && (outputsOf s d).any (fun e => decide (e.2 = s.nat (K.chInPort c))))
    if s.started.any (fun d => (near d || loop d) && together e c d) then [K.cxRef0 c] else [])

/-- ISOLATION, the check of R213, for the channels that may radiate in some tick of a spell. DEDUCED, log entry 68. -/
def isolationBad (e : Spell) : List Nat :=
  let s := e.st
  (s.started.filter (mayRadiate e)).flatMap (fun c =>
    (if s.num (K.cxIsoDeclared c) - s.num (K.cxMinMargin c) < s.num (K.geGmin c) + s.num (K.cxProbeGain c) then [K.cxIsoDeclared c] else []) ++
    (branchedOutputs s c).filterMap (fun (o, n, p) =>
      let depth := if hasTaps s c then min (s.num (K.cxDemoDepthN c n) * 100) (5000 * 65536) else 0
      let i := isoNow s c n p
      let limit := if recordCovers s c n then min (i + depth - s.num (K.cxMinMargin c) * 65536) (i + 3500 * 65536)
        else (s.num (K.geGmin c) + s.num (K.cxProbeGain c)) * 65536
      if limit < gainAt s c o then some (K.cxIsoN c n) else none))

/-- P_min of R235. -/
def updateFloor (s : State) (c : Nat) : Nat :=
  if s.num (K.geMode c) = 0 then min (s.nat (K.gePeriod c)) (symGrid (s.nat (K.geScs c)) false).2.1
  else (symGrid (gridOf s c).2.1 (gridOf s c).2.2).2.1

/-- WRAP (R235), in 1/6,553,600 dB. -/
def wrapBad (s : State) : List Nat :=
  (s.started.filter (fun c =>
    let luts := (loopsOf s c).map (fun i => s.oct (K.geLutI c i))
    let up := ((luts.map (fun b => (lutPoint b 31).2)).min?).getD 0
    let down := (luts.map (fun b => -(lutPoint b 0).2)).foldl max 0
    let n : Int := ((s.nat (K.geFeTime c) / max 1 (updateFloor s c) + 3 : Nat) : Int)
    decide (32768 * 6553600 ≤ (s.num (K.geGmax c) + s.num (K.geFeLimit c)) * 65536 + n * up * 100) ||
      decide ((s.num (K.geGmin c) - s.num (K.geFeLimit c)) * 65536 - n * down * 100 < -(32768 * 6553600)))).map K.geFeTime

/-! ### Conflicts: 0x0501 -/

/-- Two actions of one tick conflict (R90). -/
def conflicts (a b : Action) : Bool :=
  decide (a.target = b.target) &&
    ((decide (a.kind = b.kind) && decide (a.param ≠ b.param) && decide (a.kind ≠ 0x09 ∧ a.kind ≠ 0x0B)) ||
      decide (a.kind = 0x02 ∧ b.kind = 0x03) || decide (a.kind = 0x03 ∧ b.kind = 0x02))

/-- The pattern actions of a state: pattern, number and action. -/
def patternActs (s : State) : List (Nat × Nat × Action) :=
  (enabledPats s).flatMap (fun p => (List.range 16).filterMap (fun i =>
    let a := actAction (s.oct (K.patAction p (i + 1)))
    if a.kind = 0 then none else some (p, i + 1, a)))

/-- Two points of walkers' cycles meet in some tick from start up to stop: the visits of the first within the common cycle are looked at. -/
def meet (s : State) (p i q j start stop : Nat) : Bool :=
  let c := cycleTicks s p
  let d := cycleTicks s q
  let first := nextAt s p (actionPos s p i) start
  (List.range (d / max 1 (Nat.gcd c d))).any (fun n =>
    decide (first + n * c < stop) && decide (positionAt s q (first + n * c) = actionPos s q j))

/-- CONFLICT. -/
def conflictFails (x : Plan) : List Fail :=
  x.entries.flatMap (fun (m, n, a) =>
    (if x.entries.any (fun (m2, n2, b) => decide (n2 ≠ n) && decide (m2.tick = m.tick) && conflicts a b) then [⟨m.tick, K.ltEntry n⟩] else []) ++
    ((patternActs m.before).filter (fun (p, i, b) => conflicts a b && decide (nextAt m.before p (actionPos m.before p i) m.tick = m.tick))).flatMap
      (fun (p, i, _) => [⟨m.tick, K.ltEntry n⟩, ⟨m.tick, K.patAction p i⟩])) ++
  x.spells.flatMap (fun e =>
    let l := patternActs e.st
    (l.filter (fun (p, i, a) => l.any (fun (q, j, b) => decide ((p, i) ≠ (q, j)) && conflicts a b &&
      meet e.st p i q j e.start (min e.stop x.stop)))).map (fun (p, i, _) => ⟨e.start, K.patAction p i⟩))

/-! ### The part itself: 0x0601 and 0x0602 -/

/-- The transaction is a TDD plan (R107). -/
def tddPlan (q : State) (ks : List Nat) : Bool :=
  ks.any (fun k => (patOf k).isSome || (match chanOf k with | some c => isTdd q c | none => false))

/-- A record of a transaction's values. -/
def acceptRecord (vals : List (Nat × Val)) : JRec := { kind := 1, staged := vals }

/-- No bank can take the record of the values (R114, R120). -/
def journalFull (s : State) (vals : List (Nat × Val)) : Bool :=
  let n := recBlocks (acceptRecord vals)
  s.bothFailed || decide (16384 < n) || decide (ringBlocks < ringUsed s / 64 + (s.jr.writing.map recBlocks).sum + n)

/-! ### The order of the checks (R107) -/

/-- A state without the patterns that have no anchor: their segments have no time, so no deadline follows from them. DEDUCED, log entry 67. -/
def anchored (s : State) : State :=
  forL (enabledPats s) (fun p t => if s.nat (K.patAnchor p) = noTime then t.set (K.patEnable p) 0 else t) s

/-- What the checks of deadlines look at. -/
def Plan.anchored (x : Plan) : Plan :=
  { x with ms := x.ms.map (fun m => ⟨m.tick, m.what, Sys2Proof.Machine.anchored m.before, Sys2Proof.Machine.anchored m.after⟩),
           pre := Sys2Proof.Machine.anchored x.pre, q := Sys2Proof.Machine.anchored x.q,
           spells := x.spells.map (fun e => ⟨e.start, e.stop, Sys2Proof.Machine.anchored e.st⟩) }

/-- The first failing object: the earliest deadline, ties to the lowest key; or the lowest key alone. -/
def firstFail (timed : Bool) (l : List Fail) : Option Fail :=
  l.foldl (fun b e => match b with
    | none => some e
    | some x => if (timed ∧ e.tick < x.tick) ∨ ((!timed ∨ e.tick = x.tick) ∧ e.key < x.key) then some e else some x) none

/-- The checks in ascending code order: code, whether the deadline chooses, and what fails. -/
def checks (x : Plan) : List (Nat × Bool × (Unit → List Fail)) :=
  let y := x.anchored
  let picks := fun (_ : Unit) => entryPicks y ++ actionPicks y
  [ (0x0101, false, fun _ => x.each slotsBad), (0x0102, false, fun _ => x.each slotAlignBad),
    (0x0103, false, fun _ => x.each tapsBad ++ x.launches.flatMap (fun (m, ks) => (unplacedBad m ks).map (fun k => ⟨m.tick, k⟩))),
    (0x0104, false, fun _ => x.each subpoolBad), (0x0105, false, fun _ => x.each engineBad),
    (0x0106, false, fun _ => if (commitEntry x.now x.keys).isNone then [⟨x.t, 0⟩] else []),
    (0x0107, false, fun _ => (launchBusyBad x.now x.keys).map (fun k => ⟨x.t, k⟩)),
    (0x0108, false, fun _ => x.each txSumBad), (0x0109, false, fun _ => x.each fanoutBad),
    (0x0201, true, fun _ => pastFails x), (0x0202, true, fun _ => portFails y), (0x0203, true, fun _ => synthFails y),
    (0x0204, true, fun u => railFails y (picks u)), (0x0205, true, fun _ => settleFails y), (0x0206, true, fun _ => fadeFails y),
    (0x0207, true, fun _ => reconvergeFails y), (0x0208, true, fun u => quietFails y (picks u)), (0x0209, true, fun u => keepoutFails y (picks u)),
    (0x020A, true, fun _ => feedFails y),
    (0x0301, false, fun _ => x.each periodBad), (0x0302, false, fun _ => x.each segmentsBad), (0x0303, false, fun _ => x.each anchorBad),
    (0x0304, false, fun _ => ownedFails x), (0x0305, false, fun _ => x.each clashBad), (0x0306, false, fun _ => x.each lockstepBad),
    (0x0307, false, fun _ => x.each chainBad),
    (0x0401, false, fun _ => x.each rfBad), (0x0402, false, fun _ => x.each permitBad),
    (0x0403, false, fun _ => x.eachSpell loopBad ++ x.eachSpell isolationBad), (0x0404, false, fun _ => x.each wrapBad),
    (0x0501, false, fun _ => conflictFails x),
    (0x0601, false, fun _ => if !x.now.flag K.tbTrace && tddPlan x.q x.keys then [⟨x.t, 0⟩] else []),
    (0x0602, false, fun _ => if journalFull x.now x.vals then [⟨x.t, 0⟩] else []) ]

/-- The plan of launching values at a tick. -/
def planOf (s : State) (vals : List (Nat × Val)) (asked : Nat) : Plan :=
  let t := max asked s.time.tb
  let ms := project s (some ⟨t, 2 ^ 64, none, vals, true⟩) (t + epochTicks)
  let q := ((ms.find? (fun m => match m.what with | .launch w => w.own | _ => false)).map (fun m => m.after)).getD s
  ⟨s, asked, t, vals, ms, stateBefore s ms t, q, spellsFrom s ms t, t + epochTicks⟩

/-- The first failure of launching values at a tick: code and object. -/
def failureAt (s : State) (vals : List (Nat × Val)) (t : Nat) : Option (Nat × Nat) :=
  (checks (planOf s vals t)).findSome? (fun (code, timed, f) => (firstFail timed (f ())).map (fun e => (code, e.key)))

/-! ### Candidates (R108) -/

/-- The stretches the segment starts of the candidates are taken from: the projection without the transaction, from a tick on, in each of which
the patterns stand as they are and as the values would make them. -/
def candidateSpells (s : State) (vals : List (Nat × Val)) (low : Nat) : List Spell :=
  (spellsFrom s (project s none (low + epochTicks)) low).flatMap (fun e => [e, { e with st := writeStaged vals e.st }])

/-- Ticks at which an accepted transaction or an armed entry changes the projected state, the tick adm.min_lead after the commit, and the tick
cx.reconv after each Converged canceller's own (R214). -/
def candidateMarks (s : State) (vals : List (Nat × Val)) : List Nat :=
  let t := writeStaged vals s
  (s.time.tb + s.nat K.admMinLead) :: (project s none unbounded).map (fun m => m.tick) ++
    (s.started.filter (fun c => decide (s.num (K.cxState c) = 2))).map (fun c => tbTicks (s.nat (K.cxConvergedAt c)) + reconvOf t c)

/-- The first candidate after tick t: a frame boundary, a mark, or a segment start of an enabled pattern. -/
def nextCandidate (l : List Spell) (marks : List Nat) (t : Nat) : Nat :=
  let segs := (l.filter (fun e => decide (t + 1 < e.stop))).flatMap (fun e =>
    ((enabledPats e.st).filter (fun p => decide (e.st.nat (K.patAnchor p) ≠ noTime) && decide (cycleTicks e.st p ≠ 0))).flatMap (fun p =>
      (segsOf e.st p).filterMap (fun g =>
        let u := nextAt e.st p g.start (max (t + 1) e.start)
        if u < e.stop then some u else none)))
  ((segs ++ marks.filter (fun u => decide (t < u))).min?).elim (frameUp (t + 1)) (fun u => min u (frameUp (t + 1)))

/-- The first candidate from t to stop that passes, at most n of them looked at. -/
def searchCandidate (ok : Nat → Bool) (next : Nat → Nat) : Nat → Nat → Nat → Option Nat
  | 0, _, _ => none
  | n + 1, stop, t => if stop < t then none else if ok t then some t else searchCandidate ok next n stop (next t)

/-- What admission finds. -/
inductive Verdict where
  | pass (t : Nat)
  | refuse (code key : Nat) (earliest : Option Nat)
  deriving DecidableEq, Repr

/-- Admission of values for a requested tick, none for "as soon as admitted" (R108, R109). DESIGN CHOICE, log entry 71. -/
def admissionOf (s : State) (vals : List (Nat × Val)) (requested : Option Nat) : Verdict :=
  if s.tbInvalid then .refuse 0x0601 0 none
  else
    let low := requested.getD (s.time.tb + s.nat K.admMinLead)
    match failureAt s vals low with
    | none => .pass low
    | some (code, key) =>
      let states := candidateSpells s vals low
      let marks := candidateMarks s vals
      let found := searchCandidate (fun t => (failureAt s vals t).isNone) (nextCandidate states marks) (2 ^ 30) (low + epochTicks) (nextCandidate states marks low)
      match requested, found with
      | none, some t => .pass t
      | _, e => .refuse code key e

/-! ### Reports (R107, R110) -/

/-- The word of a tick, all ones when there is none. -/
def tickOrNone (t : Option Nat) : Int := match t with | some t => (tbWord t : Nat) | none => (noTime : Nat)

/-- A refusal is copied into the objects of Table 4-12. DEDUCED, log entry 70. -/
def reportRefusal (code key : Nat) (e : Option Nat) (s : State) : State :=
  ((s.set K.admLastReason (code : Int)).set K.admLastObject (key : Int)).set K.admLastEarliest (tickOrNone e)

/-- The payload of a refusal (R38): transaction number, code, index, sub, reserved octet, earliest tick. -/
def refusalPayload (number code key : Nat) (e : Option Nat) : List Byte :=
  leBytes 4 number ++ leBytes 2 code ++ leBytes 2 ((key / 256 : Nat) : Int) ++ leBytes 1 ((key % 256 : Nat) : Int) ++ leBytes 1 0 ++ leBytes 8 (tickOrNone e)

/-- A requested tick: none for all ones. -/
def requestedTick (w : Nat) : Option Nat := if w = noTime then none else some (tbTicks w)

/-- The effect of a dry run (R110): a pass reports no reason, no object, and the tick that passed. DEDUCED, log entry 70. -/
def dryRunEffect (w : Who) (v : Val) (s : State) : Reply :=
  match txOf s w.flow [1] with
  | none => .no s stNoTx
  | some (_, t) =>
    match admissionOf s t.staged (requestedTick v.int.toNat) with
    | .pass u => .ok (reportRefusal 0 0 (some u) s)
    | .refuse code key e => .ok (reportRefusal code key e s)

/-- ADM_DRY_RUN (R110). -/
def execAdmDryRun (f : Frame) (s : State) : Host.Outcome State Fault Refusal :=
  .next (requestWrite K.admDryRun f s dryRunEffect)

end Sys2Proof.Machine
end

