-- ==== Sys2Proof/Machine/Journal.lean ====
section
/-! DEFINITION. Transactions and the journal (R111 to R126): opening and committing, acceptance, journal records and their durability,
checkpoints, and failed banks. -/

namespace Sys2Proof.Machine

/-! ### What the ring still needs (R123) -/

/-- Two records concern the same system transaction (R131). -/
def samePair (a b : JRec) : Bool := decide (a.sysId = b.sysId) && decide (a.sysSeq = b.sysSeq)

/-- A record of a ring is still needed beside the latest image. DESIGN CHOICE, log entry 77. -/
def needed (ring : List JRec) (img : Image) (r : JRec) : Bool :=
  decide (img.seq < r.seq) ||
    (decide (r.kind = 2) && !ring.any (fun x => decide (x.kind = 4) && samePair x r)) ||
    (decide (r.kind = 3 ∧ r.outcome = 1) && !ring.any (fun x => decide (x.kind = 8) && samePair x r)) ||
    (decide (r.kind = 5) && r.marks.any (fun m => decide (Tab.get (fun _ => 0) img.status m.1 = 1) && decide (Tab.get (fun _ => 0) img.gen m.1 = m.2)))

/-! ### Opening (R112, R131) -/

/-- The identity of a system transaction of this part (R127). -/
def identityOf (s : State) (number : Nat) : Nat := s.nat K.stwAddr * 2 ^ 23 + number % 2 ^ 23

/-- A record of system work (R131). -/
def sysRecord (r : JRec) : Bool := decide (r.kind = 2 ∨ r.kind = 3 ∨ r.kind = 4)

/-- An identity is in use (R131): by a transaction in a slot, by records being written, or by records that the journal still needs (R123). -/
def identityUsed (s : State) (id : Nat) : Bool :=
  (slotsInUse s).any (fun e => decide (e.2.kind ≠ 1 ∧ e.2.sysId = id)) || s.jr.writing.any (fun r => sysRecord r && decide (r.sysId = id)) ||
    s.jr.ring.any (fun r => sysRecord r && decide (r.sysId = id) && needed s.jr.ring s.jr.latest r)

/-- The first transaction number at or after n whose identity is free, at most the given number of them tried. -/
def freeNumber (s : State) : Nat → Nat → Nat
  | 0, n => n
  | k + 1, n => if identityUsed s (identityOf s n) then freeNumber s k (n + 1) else n

/-- The lowest free Vestibule slot. -/
def freeVestibule (s : State) : Option Nat := (List.range 64).find? (fun i => (s.slot i).isNone)

/-- Open a transaction: kind 1 local, 2 system home, 3 branch of the given identity; none when every slot is in use. DEDUCED, log entry 75. -/
def openTx (kind flow origin om sysId : Nat) (s : State) : Option (Nat × State) :=
  match freeVestibule s with
  | none => none
  | some i =>
    let n := if kind = 2 then freeNumber s (65 + s.jr.ring.length + s.jr.writing.length) (s.nat K.txNextNumber) else s.nat K.txNextNumber
    let id := if kind = 1 then 0 else if kind = 2 then identityOf s n else sysId
    let t : Tx := ⟨n, kind, flow, 1, [], unbounded, s.time.now, id, 0, 0, 0, 0, origin, om, [], none, none⟩
    some (i, setSlot i (some t) (s.set K.txNextNumber (n + 1 : Nat)))

/-- The origin part and master of a flow (Table 5-9). -/
def ownerOf (s : State) (flow : Nat) : Nat × Nat :=
  if flow < 72 then (s.nat K.stwAddr, flow) else ((flow - 72) / 256, (flow - 72) % 256)

/-- The effect of a write to tx.open (R112). -/
def txOpenEffect (w : Who) (v : Val) (s : State) : Reply :=
  match txOf s w.flow [1, 2] with
  | some (_, t) => if (v.int = 0) = (t.kind = 1) then .ok s else .no s stRange
  | none =>
    let (origin, om) := ownerOf s w.flow
    match openTx (if v.int = 0 then 1 else 2) w.flow origin om 0 s with
    | some (_, s') => .ok s'
    | none => .no s stTxLimit

/-- TX_OPEN (R112). -/
def execTxOpen (f : Frame) (s : State) : Host.Outcome State Fault Refusal :=
  .next (requestWrite K.txOpen f s txOpenEffect)

/-- TX_IDLE_ABORT (R113): no request from its master for tx.open_idle. DEDUCED, log entry 75. -/
def execTxIdleAbort (i : Nat) (s : State) : Host.Outcome State Fault Refusal :=
  .next (match s.slot i with
    | some t =>
      if t.state = 1 ∧ max t.lastActive (s.master t.flow).lastActive + s.nat K.txOpenIdle * secTicks ≤ s.time.now then
        fault 0x00 0 0 (evCode 0x04 1) t.number 0 0 0 (abortSlot i t s)
      else s
    | none => s)

/-! ### Kind 0x0D entries (R87) -/

/-- Arm entry n for the commit of a transaction. -/
def armCommit (n launch number : Nat) (s : State) : State :=
  let b := leBytes 8 ((tbWord launch : Nat) : Int) ++ leBytes 1 0x0D ++ leBytes 3 0 ++ leBytes 4 (number : Int)
  let g := Tab.get (fun _ => 0) s.tx.gen n + 1
  ((({ s with tx := { s.tx with gen := Tab.put (fun _ => 0) n g s.tx.gen } }).setOct (K.ltEntry n) b).set (K.ltStatus n) leArmed)

/-- Free an entry whose commit will not come. DEDUCED, log entry 49. -/
def disarm (n : Nat) (s : State) : State := (s.setOct (K.ltEntry n) (List.replicate 16 0)).set (K.ltStatus n) leFree

/-- No launch entry. -/
abbrev noEntry : Nat := 4096

/-! ### Answers to an outstanding COMMIT and to an ABORT that waits with it (R118) -/

/-- Answer the outstanding COMMIT of a transaction. -/
def answerCommit (t : Tx) (status : Nat) (payload : List Byte) (s : State) : State :=
  match t.req with
  | some f => answer ⟨t.flow, t.flow, 0, decide (72 ≤ t.flow)⟩ kCommit f status payload s
  | none => s

/-- Answer the waiting ABORT of a transaction. -/
def answerAbort (t : Tx) (status : Nat) (s : State) : State :=
  match t.abort with
  | some f => answer ⟨t.flow, t.flow, 0, decide (72 ≤ t.flow)⟩ kAbort f status (leBytes 4 t.number)
      (if status = stAbortLate then s.inc K.txAbortsLate 32 else s)
  | none => s

/-! ### Acceptance and refusal (R111, R114) -/

/-- The history with one more transaction, the newest first (R134). -/
def pushHistory (number seq : Nat) (s : State) : State :=
  let s1 := forN 63 (fun j s =>
    let k := 63 - j
    ((s.set (K.txHistNumber k) (s.num (K.txHistNumber (k - 1)))).set (K.txHistSeq k) (s.num (K.txHistSeq (k - 1)))).set (K.txHistState k)
      (s.num (K.txHistState (k - 1)))) s
  ((s1.set (K.txHistNumber 0) (number : Int)).set (K.txHistSeq 0) (seq : Int)).set (K.txHistState 0) 3

/-- The transaction of slot i is accepted in this tick, for a launch tick: it takes the next sequence number and gives up its slot. DEDUCED, log entry 50. -/
def acceptSlot (i launch : Nat) (s : State) : State :=
  match s.slot i with
  | none => s
  | some t =>
    let seq := s.nat K.txNextSeq
    let a : Accepted := ⟨t.number, seq, launch, t.entry, t.staged, t.sysId, t.sysSeq, if t.kind = 3 then 0 else t.flow, some s.time.now⟩
    let s1 := setSlot i none { s with tx := { s.tx with accepted := s.tx.accepted ++ [a] } }
    let s2 := pushHistory t.number seq (s1.set K.txNextSeq (seq + 1 : Nat))
    answerAbort t stAbortLate (answerCommit t stAccepted (leBytes 4 t.number) s2)

/-- A refusal at this part: it is reported, counted and answered, and the transaction stands open again; an ABORT that met it is
answered and closes it (Table 5-3). -/
def refuseSlot (i code key : Nat) (e : Option Nat) (s : State) : State :=
  match s.slot i with
  | none => s
  | some t =>
    let s1 := ((reportRefusal code key e s).inc K.admRefusals 32).sticky skRefused
    let s2 := setSlot i (some { t with state := 1, req := none, abort := none, entry := 0, sysSeq := 0, launch := unbounded, lastActive := s.time.now }) s1
    let s3 := answerCommit t stRefused (refusalPayload t.number code key e) s2
    match t.abort with
    | some _ => answerAbort t stAborted ((setSlot i none s3).inc K.txAborts 32)
    | none => s3

/-! ### Records (R119 to R121) -/

/-- Put a record behind those being written. -/
def writeRec (r : JRec) (s : State) : State := { s with jr := { s.jr with writing := s.jr.writing ++ [r] } }

/-- Records of the transaction of a slot. DESIGN CHOICE, log entry 77. -/
def txRec (kind i outcome : Nat) (t : Tx) (launch : Nat) : JRec :=
  { kind := kind, number := t.number, sysSeq := t.sysSeq, sysId := t.sysId, launch := launch, staged := t.staged, outcome := outcome, slot := i,
    entry := t.entry }

/-- An EXEC record of marks. -/
def execRec (marks : List (Nat × Nat)) : JRec := { kind := 5, marks := marks }

/-- A CHECKPOINT record of an image copy. -/
def checkpointRec (copy covered : Nat) : JRec := { kind := 6, covered := covered, copy := copy }

/-- A local transaction that has passed: its entry n is armed and its ACCEPT record is being written (R114). -/
def passLocal (i n : Nat) (t : Tx) (f : Frame) (launch : Nat) (s : State) : State :=
  let t' := { t with state := 2, req := some f, entry := n }
  let s1 := armCommit n launch t.number (setSlot i (some t') (s.inc K.admAccepts 32))
  writeRec { txRec 1 i 0 t' launch with marks := [(n, Tab.get (fun _ => 0) s1.tx.gen n)] } s1

/-- The answer of a refusal at once. -/
def refuseNow (t : Tx) (code key : Nat) (e : Option Nat) (s : State) : Reply :=
  ⟨((reportRefusal code key e s).inc K.admRefusals 32).sticky skRefused, some stRefused, refusalPayload t.number code key e⟩

/-- The commit of a local transaction (R114): admission, and the answer of a refusal at once. DESIGN CHOICE, log entry 71. -/
def commitLocal (i : Nat) (t : Tx) (f : Frame) (requested : Option Nat) (s : State) : Reply :=
  match admissionOf s t.staged requested, commitEntry s (t.staged.map Prod.fst) with
  | .pass u, some n => ⟨passLocal i n { t with launch := requested.getD unbounded } f u s, none, []⟩
  | .pass _, none => refuseNow t 0x0106 0 none s
  | .refuse code key e, _ => refuseNow t code key e s

/-- An ABORT that reaches a local transaction before its record is durable (R117, R118): both requests are answered ABORTED. -/
def abortCommitting (i : Nat) (t : Tx) (s : State) : State :=
  let s1 := { s with jr := { s.jr with writing := s.jr.writing.filter (fun r => !(decide (r.kind = 1 ∧ r.slot = i))) } }
  answerCommit t stAborted (leBytes 4 t.number) ((setSlot i none (disarm t.entry s1)).inc K.txAborts 32)

/-- Reclaim the blocks older than the oldest record still needed. -/
def reclaim (s : State) : State :=
  let first := (s.jr.ring.find? (needed s.jr.ring s.jr.latest)).map (fun r => r.count)
  { s with jr := s.jr.onBanks (Bank.reclaim (fun r => match first with | some c => decide (c ≤ r.count) | none => false)) }

/-! ### The image (R119, R123) -/

/-- The value of a key has persistence J. -/
def journalKey (k : Nat) : Bool := match Dict.rowOf k with | some r => decide (r.persist = .j) | none => false

/-- The image of the present state, covering the sequence numbers up to one. -/
def imageOf (s : State) (covered : Nat) : Image :=
  ⟨s.obj.filter (fun e => journalKey e.1), s.blob.filter (fun e => journalKey e.1),
   (s.obj.filter (fun e => decide (0x2120 * 256 ≤ e.1) && decide (e.1 < 0x2130 * 256))).map (fun e => (e.1 - 0x2120 * 256, e.2.toNat)), s.tx.gen, covered⟩

/-- The last sequence number below every accepted transaction that has not launched. -/
def coveredSeq (s : State) : Nat := ((s.tx.accepted.map (fun t => t.seq)).min?.getD (s.nat K.txNextSeq)) - 1

/-- CHECKPOINT (R123): after a launch, the values go into the spare image copy, and a CHECKPOINT record is written. -/
def execCheckpoint (s : State) : Host.Outcome State Fault Refusal :=
  .next (if s.jr.launchAt.isNone ∨ s.bothFailed ∨ s.jr.writing.any (fun r => decide (r.kind = 6)) then s
    else
      let img := imageOf s (coveredSeq s)
      let copy := match s.jr.live with | some b => if b.head0.latest1 then 0 else 1 | none => 0
      writeRec (checkpointRec copy img.seq) { s with jr := { s.jr.onBanks (Bank.putSpare img) with launchAt := none } })

/-- Image copy c holds the latest checkpoint of every bank that has not failed. -/
def setLatest (c : Nat) (s : State) : State :=
  { s with jr := s.jr.onBanks (fun b => b.setHead { b.head0 with latest1 := decide (c = 1) }) }

/-- The CHECKPOINT record is durable. -/
def checkpointDurable (copy covered : Nat) (s : State) : State := reclaim ((setLatest copy s).set K.jrCheckpointSeq (covered : Int))

/-- EXEC_RECORD_WRITE (R122): the mark buffer becomes an EXEC record. -/
def execExecRecordWrite (s : State) : Host.Outcome State Fault Refusal :=
  .next (if s.jr.marks = [] ∨ s.bothFailed then s
    else writeRec (execRec s.jr.marks) { s with jr := { s.jr with marks := [], markSince := none } })

/-! ### Rebuilding a bank (R125, R339 to R341) -/

/-- The key of a bank's state. -/
abbrev bankKey (b : Nat) : Nat := if b = 0 then K.jrBank0State else K.jrBank1State

/-- The bank to rebuild: the failed one, the lower of two. -/
def failedBank (s : State) : Option Nat := [0, 1].find? (fun b => decide (s.num (bankKey b) = 1))

/-- The effect of a write of 1 to jr.rebuild: the outcome of the test of the bank is a free value. -/
def jrRebuildEffect (_ : Who) (_ : Val) (s : State) : Reply :=
  match failedBank s with
  | none => .ok s
  | some b =>
    let s1 := s.drawn
    if s.fresh % 2 = 0 then
      .ok ({ s1 with jr := { s1.jr with rebuildDue := some (s.time.now + 2 * secTicks) } }.set (bankKey b) 2)
    else .ok s1

/-- JR_REBUILD (R125). -/
def execJrRebuild (f : Frame) (s : State) : Host.Outcome State Fault Refusal :=
  .next (requestWrite K.jrRebuild f s jrRebuildEffect)

/-- The bank that is being rebuilt. -/
def rebuildingBank (s : State) : Option Nat := [0, 1].find? (fun b => decide (s.num (bankKey b) = 2))

/-- Records dropped while both banks were out are told of when the first returns (R341). -/
def tellDropped (s : State) : State :=
  if s.log.droppedSince = 0 then s
  else fault 0x15 0 1 0x0006 s.log.droppedSince 0 0 0 { s with log := { s.log with droppedSince := 0 } }

/-- A bank as the part writes it afresh where no other is left to copy: the image of the present state, and a record of each transaction that waits.
DEDUCED, log entry 76. -/
def freshBank (s : State) : Bank :=
  let img := imageOf s (coveredSeq s)
  let recs := s.tx.accepted.zipIdx.map (fun (t, i) =>
    { kind := 1, flags := 1, seq := t.seq, number := t.number, sysSeq := t.sysSeq, sysId := t.sysId, count := s.jr.count + 1 + i, launch := t.launch,
      staged := t.staged, marks := [(t.entry, Tab.get (fun _ => 0) s.tx.gen t.entry)] : JRec }.sealed)
  let log := s.jr.logBank
  recs.foldl (fun b r => b.add r) { Bank.fresh with img0 := img, circ := log.circ, perm := log.perm, log0 := log.log0, log1 := log.log1 }

/-- Bank b takes the contents of the other, the recorder's regions with them (R339), or is written afresh, and is marked failed no more. -/
def copyBank (b : Nat) (s : State) : State :=
  let x := if s.bankOk (1 - b) then s.jr.bank (1 - b) else freshBank s
  markBank b false { s with jr := s.jr.putBank b x }

/-- REBUILD_COMPLETE (R125): the bank holds a copy of the other's header, images and ring and is good; with the other bank good too, the journal is
degraded no more. DEDUCED, log entry 76. -/
def execRebuildComplete (s : State) : Host.Outcome State Fault Refusal :=
  .next (match rebuildingBank s with
    | none => s
    | some b =>
      let lost := s.flag K.recLoglost
      let s0 := copyBank b s
      let s1 := ({ s0 with jr := { s0.jr with rebuildDue := none } }).set (bankKey b) 0
      let s2 := if s1.bankOk (1 - b) then s1.set K.jrDegraded 0 else s1
      if lost then startFlush (tellDropped s2) else fault 0x15 0 0 0x0005 b 0 0 0 s2)

end Sys2Proof.Machine
end

