-- ==== Sys2Proof/Machine/System.lean ====
section
/-! DEFINITION. System transactions (R127 to R132): branches, the Newel's votes and decisions, outcomes, and branches In doubt; and what
each journal record does when it becomes durable (R121). -/

namespace Sys2Proof.Machine

/-! ### Messages (R128) -/

/-- Send a message in a control cell to a part. DESIGN CHOICE, log entry 26. -/
def sendTo (code dest : Nat) (nums : List Int) (s : State) : State := s.emit (.cell code (routeOf s dest) nums)

/-- The address of the Newel. -/
def newelAddr (s : State) : Nat := if isNewel s then s.nat K.stwAddr else s.nat K.stwNewel

/-- A message of this part to itself (R128). -/
def ownMsg (s : State) (arg sysId sysSeq reason object : Nat) : TxMsg :=
  ⟨arg, s.nat K.stwAddr, s.nat K.stwAddr, 0, sysId, sysSeq, noTime, reason, object, []⟩

/-- The numbers of a message of a code as it is repeated or routed on: its own origin stands. -/
def relayNums (code : Nat) (m : TxMsg) : List Int :=
  if code = 0x22 then [(m.arg : Int), (m.dest : Int), (m.origin : Int), (m.sysId : Int)] ++ m.bitmap.map (fun a => (a : Int))
  else [(m.arg : Int), (m.dest : Int), (m.origin : Int), (m.sysId : Int), (m.sysSeq : Int), (m.launch : Int), (m.reason : Int), (m.object : Int)]

/-- A message in a launch cell. -/
def forAll (m : TxMsg) : Bool := decide (m.dest = allParts)

/-- A message in a control cell is for this part. -/
def forThis (m : TxMsg) (s : State) : Bool := decide (m.dest = s.nat K.stwAddr) && !duplicated s m.dest

/-- Route a control-cell message on, as a tunnelled frame (R77, R128): one for a duplicated address is dropped with a Notice. -/
def routeOn (code : Nat) (m : TxMsg) (s : State) : State :=
  if duplicated s m.dest then fault 0x05 (routeOf s m.dest) 0 (evCode 0x02 0) m.dest m.origin m.om 0 s
  else s.emit (.cell code (routeOf s m.dest) (relayNums code m))

/-- A control-cell message: handled by the part it names, else routed on. A part that does not serve takes none. -/
def takeControl (code : Nat) (m : TxMsg) (act : State → State) (s : State) : State :=
  if !s.serving then s else if forThis m s then act s else routeOn code m s

/-- PARTS segments that mark someone: segment and addresses (R128). -/
def partsSegments (parts : List Nat) : List (Nat × List Nat) :=
  (List.range 4).filterMap (fun g =>
    let l := parts.filter (fun a => decide (a / 128 = g))
    if l = [] then none else some (g, l))

/-- The numbers of a PARTS message. -/
def partsNums (s : State) (dest sysId : Nat) (seg : Nat × List Nat) : List Int :=
  [(seg.1 : Int), (dest : Int), s.num K.stwAddr, (sysId : Int)] ++ seg.2.map (fun a => (a : Int))

/-! ### The branches of this part (R129 to R131) -/

/-- The slot of a system transaction before its PREPARE, matched on identity alone; and after it, on identity and sequence. -/
def branchSlot (s : State) (sysId : Nat) : Option (Nat × Tx) :=
  (slotsInUse s).find? (fun e => decide (e.2.kind ≠ 1) && decide (e.2.sysId = sysId) && decide (e.2.sysSeq = 0))

def pairSlot (s : State) (sysId sysSeq : Nat) : Option (Nat × Tx) :=
  (slotsInUse s).find? (fun e => decide (e.2.kind ≠ 1) && decide (e.2.sysId = sysId) && decide (e.2.sysSeq = sysSeq))

/-- A branch is In doubt. -/
def doubtful (s : State) : Bool := (slotsInUse s).any (fun e => decide (e.2.state = 7))

/-- Close a branch (R129, R130): what is being written for it is dropped, a branch that had voted yes leaves an OUTCOME record, and a
home answers its master. DEDUCED, log entry 74. -/
def closeSlot (i outcome : Nat) (t : Tx) (s : State) : State :=
  let s1 := { s with jr := { s.jr with writing := s.jr.writing.filter (fun r => !(decide (r.kind = 2 ∧ r.slot = i))) } }
  let s2 := if t.state = 6 ∨ t.state = 7 then writeRec (txRec 4 i outcome t t.launch) s1 else s1
  let s3 := (setSlot i none s2).inc K.txAborts 32
  if t.kind = 2 then answerAbort t stAborted (answerCommit t stAborted (leBytes 4 t.number) s3) else s3

/-- A refused branch stands open again with its values; at the home the master is answered. DEDUCED, log entry 74. -/
def reopenSlot (i : Nat) (t : Tx) (code key : Nat) (s : State) : State :=
  let s1 := { s with jr := { s.jr with writing := s.jr.writing.filter (fun r => !(decide (r.kind = 2 ∧ r.slot = i))) } }
  let s2 := if t.state = 6 ∨ t.state = 7 then writeRec (txRec 4 i 2 t t.launch) s1 else s1
  if t.kind = 2 then refuseSlot i code key none s2
  else setSlot i (some { t with state := 1, sysSeq := 0, entry := 0, launch := unbounded, lastActive := s2.time.now }) s2

/-- The entry kept for a branch, or one allocated now (R87, R129). -/
def branchEntry (t : Tx) (s : State) : Option Nat := if t.entry < 4096 then some t.entry else commitEntry s (t.staged.map Prod.fst)

/-- A commit reaches a branch that has voted yes: its entry is armed and its OUTCOME record is being written (R129). -/
def commitSlot (i : Nat) (t : Tx) (s : State) : State :=
  if s.jr.writing.any (fun r => decide (r.kind = 4 ∧ r.slot = i ∧ r.outcome = 1)) then s
  else match branchEntry t s with
    | none => s
    | some n =>
      let t' := { t with entry := n }
      let s1 := armCommit n t.launch t.number (setSlot i (some t') s)
      writeRec { txRec 4 i 1 t' t.launch with marks := [(n, Tab.get (fun _ => 0) s1.tx.gen n)] } s1

/-- The code a home answers for a refusal of a reason (R129): PAST and a full queue before any PREPARE, a missing vote, else a no. -/
def refusalCode (sysSeq reason : Nat) : Nat := if sysSeq = 0 ∧ reason = 0x0201 then 0x0201 else if reason = 0x0604 then 0x0604 else 0x0603

/-- An acknowledgement to the Newel. -/
def ackNums (s : State) (sysId sysSeq : Nat) : List Int := msgNums s 0 (newelAddr s) sysId sysSeq noTime 0 0

/-- An OUTCOME with commit of the pair is durable here. -/
def outcomeHeld (s : State) (sysId sysSeq : Nat) : Bool :=
  s.jr.ring.any (fun r => decide (r.kind = 4 ∧ r.outcome = 1 ∧ r.sysId = sysId ∧ r.sysSeq = sysSeq))

/-- The branch a decision concerns: by identity and sequence, or by identity alone where the Newel decided before any PREPARE (R131). -/
def decidedSlot (s : State) (m : TxMsg) : Option (Nat × Tx) :=
  if m.sysSeq = 0 then (if m.arg = 1 then none else branchSlot s m.sysId) else pairSlot s m.sysId m.sysSeq

/-- A decision reaches this part (R129, R130): outcome 1 commit, 2 refused, 3 aborted, 4 unknown. A commit already taken is acknowledged
again. -/
def takeDecision (m : TxMsg) (s : State) : State :=
  match decidedSlot s m with
  | none => if m.arg = 1 ∧ outcomeHeld s m.sysId m.sysSeq ∧ !isNewel s then sendTo 0x27 (newelAddr s) (ackNums s m.sysId m.sysSeq) s else s
  | some (i, t) =>
    match m.arg with
    | 1 => if t.state = 6 ∨ t.state = 7 then commitSlot i t s else s
    | 2 =>
      let s1 := if t.kind = 2 then s.set K.txSysLastNoReason (m.reason : Int) else s
      reopenSlot i t (refusalCode m.sysSeq m.reason) m.object s1
    | 3 => closeSlot i 3 t s
    | 4 => if t.state = 7 then closeSlot i 3 t s else s
    | _ => s

/-! ### The Newel (R129) -/

/-- A system transaction the Newel holds, by identity and system sequence; one that waits in the queue has none yet, and is matched on its
identity alone (R131). -/
def sysOf (s : State) (sysId sysSeq : Nat) : Option SysTx :=
  s.tx.sys.find? (fun x => decide (x.sysId = sysId) && decide (x.sysSeq = sysSeq) && decide (x.state ≤ 3))

/-- Put a system transaction in the place of another, or drop it. -/
def putSys (x y : SysTx) (s : State) : State :=
  { s with tx := { s.tx with sys := s.tx.sys.map (fun z => if z = x then y else z) } }

def dropSys (x : SysTx) (s : State) : State := { s with tx := { s.tx with sys := s.tx.sys.filter (fun y => decide (y ≠ x)) } }

/-- A DECIDE record. -/
def decideRec (x : SysTx) : JRec :=
  { kind := 3, sysSeq := x.sysSeq, sysId := x.sysId, launch := x.launch, outcome := x.outcome, parts := x.parts, slot := x.reason, entry := x.object }

/-- The Newel decides: its DECIDE record is being written. A refusal reports who said no, and why. DEDUCED, log entry 73. -/
def decideSys (x : SysTx) (outcome reason object noAddr : Nat) (s : State) : State :=
  let y := { x with state := 2, outcome := outcome, reason := reason, object := object, noAddr := noAddr }
  let s1 := writeRec (decideRec y) (putSys x y s)
  if outcome = 2 then (s1.set K.txSysLastNoAddr (noAddr : Int)).set K.txSysLastNoReason (reason : Int) else s1

/-- A vote at the Newel, matched on identity and sequence: a no refuses, and the last yes commits. -/
def takeVote (m : TxMsg) (s : State) : State :=
  match sysOf s m.sysId m.sysSeq with
  | none => s
  | some x =>
    if x.state ≠ 1 then s
    else if m.arg = 0 then decideSys x 2 m.reason m.object m.origin s
    else
      let y := { x with yes := if m.origin ∈ x.yes then x.yes else m.origin :: x.yes }
      if x.parts.all (fun a => decide (a ∈ y.yes)) then decideSys y 1 0 0 0xFFFF (putSys x y s) else putSys x y s

/-- A vote of this part: handed over at the Newel, else sent there. -/
def castVote (arg sysId sysSeq reason object : Nat) (s : State) : State :=
  if isNewel s then takeVote (ownMsg s arg sysId sysSeq reason object) s
  else sendTo 0x24 (newelAddr s) (msgNums s arg (newelAddr s) sysId sysSeq noTime reason object) s

/-- This part has been marked a participant by PARTS (R128). -/
def marked (s : State) (sysId : Nat) : Bool := s.tx.sys.any (fun x => decide (x.sysId = sysId) && decide (x.state = 4))

/-- PREPARE reaches this part (R129): a branch is admitted for the launch tick alone, its kind 0x0D entry is kept for it, and its PREPARE record is
being written; else the part votes no. -/
def takePrepare (sysId sysSeq launch : Nat) (s : State) : State :=
  let known := marked s sysId
  let s1 := { s with tx := { s.tx with sys := s.tx.sys.filter (fun x => !(decide (x.sysId = sysId) && decide (x.state = 4))) } }
  match branchSlot s1 sysId with
  | none => if known then castVote 0 sysId sysSeq 0xFFFF 0 s1 else s1
  | some (i, t) =>
    let t' := { t with state := 2, sysSeq := sysSeq, launch := launch, since := s1.time.now, entry := (commitEntry s1 (t.staged.map Prod.fst)).getD noEntry }
    let s2 := setSlot i (some t') s1
    if doubtful s1 then castVote 0 sysId sysSeq 0xFFFE 0 s2
    else if s1.tbInvalid then castVote 0 sysId sysSeq 0x0601 0 s2
    else match failureAt s1 t.staged launch with
      | some (code, key) => castVote 0 sysId sysSeq code key s2
      | none => writeRec (txRec 2 i 0 t' launch) s2

/-- The earliest launch tick of a system commit: the first frame boundary at least the vote timeout and adm.min_lead away. DEDUCED, log entry 73. -/
def sysEarliest (s : State) : Nat := frameUp (s.time.tb + s.nat K.txSysVoteTimeout + s.nat K.admMinLead)

/-- The Newel takes up a queued transaction: PARTS and PREPARE go out, with the next system sequence; a tick too early is refused before
that. -/
def startVote (x : SysTx) (s : State) : State :=
  let launch := if x.requested = unbounded then sysEarliest s else x.requested
  if launch < sysEarliest s then
    takeDecision (ownMsg s 2 x.sysId 0 0x0201 0) (sendDown 0x25 (msgNums s 2 allParts x.sysId 0 noTime 0x0201 0) (dropSys x s))
  else
    let seq := s.nat K.txSysNextSeq
    let y := { x with state := 1, sysSeq := seq, launch := launch, since := s.time.now }
    let s1 := (putSys x y s).set K.txSysNextSeq (seq + 1 : Nat)
    let s2 := forL (partsSegments x.parts) (fun g s => sendDown 0x22 (partsNums s allParts x.sysId g) s) s1
    let s3 := sendDown 0x23 (msgNums s2 0 allParts x.sysId seq (tbWord launch) 0 0) s2
    if s.nat K.stwAddr ∈ x.parts then takePrepare x.sysId seq launch s3 else s3

/-- The queue depth is shown. -/
def showQueue (s : State) : State := s.set K.txSysQueue ((s.tx.sys.filter (fun x => decide (x.state = 0))).length : Nat)

/-- The Newel votes on one transaction at a time: the next in the queue whose participants it knows, at most n of them taken up. DEDUCED, log entry 73. -/
def nextVote : Nat → State → State
  | 0, s => showQueue s
  | n + 1, s =>
    if !isNewel s ∨ s.tx.sys.any (fun x => decide (x.state = 1 ∨ x.state = 2)) then showQueue s
    else match s.tx.sys.find? (fun x => decide (x.state = 0) && decide (x.parts ≠ [])) with
      | some x => nextVote n (startVote x s)
      | none => showQueue s

/-- A request reaches the Newel, matched on its identity alone (R131): it is queued, or refused at once when eight wait. -/
def queueRequest (m : TxMsg) (s : State) : State :=
  if s.tx.sys.any (fun x => decide (x.sysId = m.sysId) && decide (x.state ≤ 2)) then s
  else if 8 ≤ (s.tx.sys.filter (fun x => decide (x.state = 0))).length then
    takeDecision (ownMsg s 2 m.sysId 0 0x0604 0) (sendDown 0x25 (msgNums s 2 allParts m.sysId 0 noTime 0x0604 0) s)
  else
    let x : SysTx := ⟨m.sysId, 0, m.origin, if m.launch = noTime then unbounded else tbTicks m.launch, 0, [], [], [], 0, 0, s.time.now, 0, 0, 0xFFFF, []⟩
    { s with tx := { s.tx with sys := s.tx.sys ++ [x] } }

/-- PARTS in a control cell: the Newel learns the participants of a request. DEDUCED, log entry 73. -/
def gatherParts (m : TxMsg) (s : State) : State :=
  match sysOf s m.sysId 0 with
  | some x => if x.state = 0 then putSys x { x with parts := x.parts ++ m.bitmap.filter (fun a => decide (a ∉ x.parts)) } s else s
  | none => s

/-- PARTS in a launch cell: it is repeated downstream, and a part learns whether it is a participant. -/
def markParts (m : TxMsg) (s : State) : State :=
  let s1 := sendDown 0x22 (relayNums 0x22 m) s
  if s.nat K.stwAddr ∈ m.bitmap ∧ !marked s m.sysId then
    { s1 with tx := { s1.tx with sys := s1.tx.sys ++ [⟨m.sysId, 0, 0, 0, 0, [], [], [], 4, 0, s.time.now, 0, 0, 0xFFFF, []⟩] } }
  else s1

/-- The home's commit of a system transaction (R129): COMMIT_REQ and PARTS go to the Newel. -/
def commitSystem (i : Nat) (t : Tx) (f : Frame) (requested : Option Nat) (s : State) : Reply :=
  let own := s.nat K.stwAddr
  let parts := own :: t.parts.filter (fun a => decide (a ≠ own))
  let t' := { t with state := 2, req := some f, launch := requested.getD unbounded, since := s.time.now, sysSeq := 0 }
  let s1 := setSlot i (some t') s
  let word := match requested with | some u => tbWord u | none => noTime
  if isNewel s then
    let s2 := queueRequest { ownMsg s 0 t.sysId 0 0 0 with launch := word } s1
    ⟨nextVote 9 (gatherParts { ownMsg s 0 t.sysId 0 0 0 with bitmap := parts } s2), none, []⟩
  else
    let s2 := sendTo 0x21 (newelAddr s) (msgNums s 0 (newelAddr s) t.sysId 0 word 0 0) s1
    ⟨forL (partsSegments parts) (fun g s => sendTo 0x22 (newelAddr s) (partsNums s (newelAddr s) t.sysId g) s) s2, none, []⟩

/-- The durable decision of a pair: outcome, launch tick, reason and object; 4 when the journal holds none (R130, R131). -/
def decisionOf (s : State) (sysId sysSeq : Nat) : Nat × Nat × Nat × Nat :=
  match s.jr.ring.find? (fun r => decide (r.kind = 3 ∧ r.sysId = sysId ∧ r.sysSeq = sysSeq)) with
  | some r => (r.outcome, tbWord r.launch, r.slot, r.entry)
  | none => (4, noTime, 0, 0)

/-- The transaction an abort concerns: by identity and sequence; by identity alone where its home had no PREPARE yet (R131). -/
def abortTarget (s : State) (sysId sysSeq : Nat) : Option SysTx :=
  s.tx.sys.find? (fun x => decide (x.sysId = sysId) && decide (x.state ≤ 2) && (decide (sysSeq = 0) || decide (x.sysSeq = sysSeq)))

/-- An abort reaches the Newel (R117): before the decision to commit is durable it wins, and a DECIDE with aborted is written. With nothing decided on
that pair, a DECIDE with aborted goes out. DEDUCED, log entry 75. -/
def takeAbort (sysId sysSeq : Nat) (s : State) : State :=
  match abortTarget s sysId sysSeq with
  | none =>
    if (decisionOf s sysId sysSeq).1 ≠ 4 then s
    else takeDecision (ownMsg s 3 sysId sysSeq 0 0) (sendDown 0x25 (msgNums s 3 allParts sysId sysSeq noTime 0 0) s)
  | some x =>
    match x.state with
    | 0 => takeDecision (ownMsg s 3 sysId 0 0 0) (sendDown 0x25 (msgNums s 3 allParts sysId 0 noTime 0 0) (dropSys x s))
    | 1 => decideSys x 3 0 0 0xFFFF s
    | 2 =>
      if x.outcome = 1 then
        let y := { x with outcome := 3 }
        putSys x y { s with jr := { s.jr with writing := s.jr.writing.map (fun r => if r = decideRec x then decideRec y else r) } }
      else s
    | _ => s

/-- An ABORT at the home of a system transaction whose COMMIT is outstanding (R118, R129): the answer follows the decision. DEDUCED, log entry 75. -/
def abortSystem (i : Nat) (t : Tx) (f : Frame) (s : State) : Reply :=
  let s1 := setSlot i (some { t with abort := some f }) s
  ⟨if isNewel s then nextVote 9 (takeAbort t.sysId t.sysSeq s1)
   else sendTo 0x28 (newelAddr s) (msgNums s 0 (newelAddr s) t.sysId t.sysSeq noTime 0 0) s1, none, []⟩

/-! ### Acknowledgements -/

/-- An ACK at the Newel: with the last of them an ACKED record is written. -/
def takeAck (origin sysId sysSeq : Nat) (s : State) : State :=
  match s.tx.sys.find? (fun x => decide (x.sysId = sysId ∧ x.sysSeq = sysSeq ∧ x.state = 3)) with
  | none => s
  | some x =>
    let y := { x with acks := if origin ∈ x.acks then x.acks else origin :: x.acks }
    let s1 := putSys x y s
    if x.parts.all (fun a => decide (a ∈ y.acks)) ∧ !s.jr.writing.any (fun r => decide (r.kind = 8 ∧ r.sysId = sysId ∧ r.sysSeq = sysSeq)) then
      writeRec { kind := 8, sysSeq := sysSeq, sysId := sysId } s1
    else s1

/-- This part acknowledges a commit. -/
def sendAck (sysId sysSeq : Nat) (s : State) : State :=
  if isNewel s then takeAck (s.nat K.stwAddr) sysId sysSeq s else sendTo 0x27 (newelAddr s) (ackNums s sysId sysSeq) s

/-! ### Durable records (R121) -/

/-- The DECIDE record of the Newel is durable: DECIDE goes out, this part takes it as a participant, and the next vote begins. -/
def decided (r : JRec) (s : State) : State :=
  let s1 := sendDown 0x25 (msgNums s r.outcome allParts r.sysId r.sysSeq (tbWord r.launch) r.slot r.entry) s
  let s2 := match s1.tx.sys.find? (fun x => decide (x.sysId = r.sysId ∧ x.sysSeq = r.sysSeq ∧ x.state = 2)) with
    | some x => if r.outcome = 1 then putSys x { x with state := 3 } s1 else dropSys x s1
    | none => s1
  nextVote 9 (takeDecision (ownMsg s r.outcome r.sysId r.sysSeq r.slot r.entry) s2)

/-- What a record brings about when it is durable. -/
def durableEffect (r : JRec) (s : State) : State :=
  match r.kind with
  | 1 => acceptSlot r.slot r.launch s
  | 2 => (match s.slot r.slot with
    | some t => castVote 1 r.sysId r.sysSeq 0 0 (setSlot r.slot (some { t with state := 6 }) s)
    | none => s)
  | 3 => decided r s
  | 4 => if r.outcome = 1 then sendAck r.sysId r.sysSeq (acceptSlot r.slot r.launch s) else s
  | 6 => checkpointDurable r.copy r.covered s
  | 8 => (match s.tx.sys.find? (fun x => decide (x.sysId = r.sysId ∧ x.sysSeq = r.sysSeq ∧ x.state = 3)) with
    | some x => dropSys x s
    | none => s)
  | _ => s

/-- What a record comes to when no bank can take it (R114, R126): a commit is refused, a vote is no, an outcome decided elsewhere is kept in
volatile memory alone, and a decision is not made. DEDUCED, log entry 74. -/
def lostEffect (r : JRec) (s : State) : State :=
  match r.kind with
  | 1 => refuseSlot r.slot 0x0602 0 none (disarm r.entry s)
  | 2 => castVote 0 r.sysId r.sysSeq 0x0602 0 s
  | 3 => (match s.tx.sys.find? (fun x => decide (x.sysId = r.sysId ∧ x.sysSeq = r.sysSeq ∧ x.state = 2)) with
    | some x =>
      nextVote 9 (takeDecision (ownMsg s 2 r.sysId r.sysSeq 0x0602 0) (sendDown 0x25 (msgNums s 2 allParts r.sysId r.sysSeq noTime 0x0602 0) (dropSys x s)))
    | none => s)
  | 4 => if r.outcome = 1 then acceptSlot r.slot r.launch s else s
  | 5 => { s with jr := { s.jr with marks := r.marks ++ s.jr.marks, markSince := some (s.jr.markSince.getD s.time.now) } }
  | _ => s

/-- JOURNAL_RECORD_DURABLE (R121): bad0 and bad1 count the failed checks of the record in each bank. -/
def execJournalRecordDurable (bad0 bad1 : Nat) (s : State) : Host.Outcome State Fault Refusal :=
  .next (match s.jr.writing with
    | [] => s
    | r :: rest =>
      let s1 := writeChecks 1 bad0 bad1 { s with jr := { s.jr with writing := rest } }
      if s1.bothFailed then lostEffect r s1
      else
        let x := ringRec s1 r
        durableEffect x (addRec x s1))

/-! ### Commands (R127 to R132) -/

/-- BRANCH (R127): a branch of a system transaction is opened for the origin master at the home. -/
def execBranch (m : TxMsg) (s : State) : Host.Outcome State Fault Refusal :=
  .next (takeControl 0x20 m (fun s =>
    if (branchSlot s m.sysId).isSome then s
    else match openTx 3 (tunnelFlow m.origin m.om) m.origin m.om m.sysId s with
      | some (_, s') => s'
      | none => s) s)

/-- COMMIT_REQ (R129). -/
def execCommitReq (m : TxMsg) (s : State) : Host.Outcome State Fault Refusal :=
  .next (takeControl 0x21 m (fun s => if isNewel s then nextVote 9 (queueRequest m s) else s) s)

/-- PARTS (R128): from a home to the Newel in a control cell, from the Newel to all in a launch cell. -/
def execParts (m : TxMsg) (s : State) : Host.Outcome State Fault Refusal :=
  .next (if forAll m then (if !s.serving ∨ isNewel s then s else markParts m s)
    else takeControl 0x22 m (fun s => if isNewel s then nextVote 9 (gatherParts m s) else s) s)

/-- PREPARE (R129): repeated downstream, and taken by a participant. -/
def execPrepare (m : TxMsg) (s : State) : Host.Outcome State Fault Refusal :=
  .next (if !s.serving ∨ isNewel s then s
    else takePrepare m.sysId m.sysSeq (tbTicks m.launch) (sendDown 0x23 (relayNums 0x23 m) s))

/-- VOTE (R129). -/
def execVote (m : TxMsg) (s : State) : Host.Outcome State Fault Refusal :=
  .next (takeControl 0x24 m (fun s => if isNewel s then takeVote m s else s) s)

/-- The transaction of an identity that the Newel votes on. -/
def votingOn (s : State) (sysId : Nat) : Option SysTx := s.tx.sys.find? (fun x => decide (x.sysId = sysId) && decide (x.state = 1))

/-- VOTE_TIMEOUT (R129): a vote is missing at PREPARE plus tx.sys.vote_timeout; or a home has had no PREPARE for that long. -/
def execVoteTimeout (id : Nat) (s : State) : Host.Outcome State Fault Refusal :=
  .next (match votingOn s id with
    | some x =>
      if x.since + s.nat K.txSysVoteTimeout ≤ s.time.now then
        decideSys x 2 0x0604 0 ((x.parts.find? (fun a => decide (a ∉ x.yes))).getD 0xFFFF) s
      else s
    | none => (match branchSlot s id with
      | some (i, t) =>
        if t.kind = 2 ∧ t.state = 2 ∧ t.since + s.nat K.txSysVoteTimeout ≤ s.time.now then refuseSlot i 0x0604 0 none s else s
      | none => s))

/-- DECIDE (R129, R130): in a launch cell it is repeated downstream and taken by a participant; one that answers a QUERY travels in a control cell. -/
def execDecide (m : TxMsg) (s : State) : Host.Outcome State Fault Refusal :=
  .next (if forAll m then (if !s.serving ∨ isNewel s then s else takeDecision m (sendDown 0x25 (relayNums 0x25 m) s))
    else takeControl 0x25 m (fun s => if isNewel s then s else takeDecision m s) s)

/-- ACK (R129). -/
def execAck (m : TxMsg) (s : State) : Host.Outcome State Fault Refusal :=
  .next (takeControl 0x27 m (fun s => if isNewel s then takeAck m.origin m.sysId m.sysSeq s else s) s)

/-- QUERY (R130): the Newel answers with the decision in a control cell. -/
def execQuery (m : TxMsg) (s : State) : Host.Outcome State Fault Refusal :=
  .next (takeControl 0x26 m (fun s => if isNewel s then
    let (o, l, r, k) := decisionOf s m.sysId m.sysSeq
    sendTo 0x25 m.origin (msgNums s o m.origin m.sysId m.sysSeq l r k) s
  else s) s)

/-- ABORT_REQ (R129). -/
def execAbortReq (m : TxMsg) (s : State) : Host.Outcome State Fault Refusal :=
  .next (takeControl 0x28 m (fun s => if isNewel s then nextVote 9 (takeAbort m.sysId m.sysSeq s) else s) s)

/-- IN_DOUBT_TIMEOUT (R111): a Prepared branch with no decision within twice the vote timeout. -/
def execInDoubtTimeout (slot : Nat) (s : State) : Host.Outcome State Fault Refusal :=
  .next (match s.slot slot with
    | some t =>
      if t.state = 6 ∧ t.since + 2 * s.nat K.txSysVoteTimeout ≤ s.time.now then
        (setSlot slot (some { t with state := 7 }) s).sticky skInDoubt
      else s
    | none => s)

/-- This part, being the Newel, is the one that voted on a system sequence (R130): by its role, with its upstream port off, or with
tx.sys.next_seq, which advances on the Newel alone, one beyond it. A part in the automatic role whose upstream link is not Up yet may be a
participant that has just restarted. DEDUCED, log entry 84. -/
def votedHere (s : State) (sysSeq : Nat) : Bool :=
  isNewel s && (decide (s.num K.stwRole = 1) || !s.flag (K.stwLinkLEnable 0) || decide (s.nat K.txSysNextSeq = sysSeq + 1))

/-- IN_DOUBT_QUERY_TIMER (R130): every 10 ms a QUERY; on the Newel itself its own journal answers. -/
def execInDoubtQueryTimer (slot : Nat) (s : State) : Host.Outcome State Fault Refusal :=
  .next (match s.slot slot with
    | some t =>
      if t.state ≠ 7 then s
      else if votedHere s t.sysSeq then
        let (o, _, r, k) := decisionOf s t.sysId t.sysSeq
        takeDecision (ownMsg s o t.sysId t.sysSeq r k) s
      else sendTo 0x26 (s.nat K.stwNewel) (msgNums s 0 (s.nat K.stwNewel) t.sysId t.sysSeq noTime 0 0) s
    | none => s)

/-- The Newel of a system sequence can be reached: this part is it, or its upstream link is Up. -/
def newelReached (s : State) (sysSeq : Nat) : Bool := votedHere s sysSeq || decide (s.num (K.stwLinkLState 0) = 4)

/-- The effect of a write to tx.sys.resolve (R132). DEDUCED, log entry 75. -/
def resolveEffect (_ : Who) (v : Val) (s : State) : Reply :=
  match (slotsInUse s).find? (fun e => decide (e.2.state = 7) && decide ((e.2.sysId : Int) = v.int)) with
  | some (i, t) =>
    if newelReached s t.sysSeq then .no s stRange
    else .ok (fault 0x00 0 2 (evCode 0x04 2) t.sysId t.sysSeq 0 0 (closeSlot i 3 t s))
  | none => .no s stRange

/-- TX_SYS_RESOLVE (R132). -/
def execTxSysResolve (f : Frame) (s : State) : Host.Outcome State Fault Refusal :=
  .next (requestWrite K.txSysResolve f s resolveEffect)

end Sys2Proof.Machine
end

