-- ==== Sys2Proof/Machine/Boot.lean ====
section
/-! DEFINITION. Supplies, resets, boot and the declaration of a repair (R388 to R401), the replay of the journal (R124), and power fail
(R338). -/

namespace Sys2Proof.Machine

/-! ### What a reset leaves (R35, Table 19-2) -/

/-- A key of persistence P, kept in MRAM. -/
def permanentKey (k : Nat) : Bool := match Dict.rowOf k with | some r => decide (r.persist = .p) | none => false

/-- Objects that report retention latches (R251, R302, R325), seals of fault sources among them. -/
def latchKey (k : Nat) (v : Int) : Bool :=
  let i := k / 256
  (decide (0x7040 ≤ i) && decide (i < 0x7044)) || (decide (0x704A ≤ i) && decide (i < 0x704C)) || decide (k = K.fdKill) ||
    decide (k = K.fdSealed) || decide (k = K.fltSealedCount) || (decide (0x7580 ≤ i) && decide (i < 0x75C0) && decide (v = 4))

/-- The Banister hold, kept in the latches and in both banks (R412). DEDUCED, log entry 82. -/
def banKey (k : Nat) : Bool := decide (k = K.banState) || decide (k = K.banEnd)

/-- What a warm reset leaves running (Table 19-2): the timebase, the clocks, the PCIe link and the Stairway links. DEDUCED, log entry 81. -/
def warmKey (k : Nat) : Bool :=
  decide (k ∈ [K.tbState, K.tbSourceSelected, K.tbTrace, K.tbPhaseError, K.tbFreqOffset, K.tbHoldoverElapsed, K.tbHoldoverUncertainty,
    K.tbStepPending, K.tbDonorMetric, K.tbDonorState, K.tbPpsState, K.stwDepth, K.stwNewel, K.stwCensus, K.stwConflict, K.stwPartition,
    K.hostLink, K.hostDmaCap, K.clkStatus, K.dieCoreStatus, K.dieWing0Status, K.dieWing1Status, K.dieWing2Status, K.dieWing3Status,
    K.diePandsStatus]) || (List.range 3).any (fun l => decide (k = K.stwLinkLState l) || decide (k = K.stwLinkLDelay l))

/-- The kinds of reset: cause 1 power-on, 2 PORST_N or supply dip, 3 WARMRST_N. -/
def keptKey (cause k : Nat) (v : Int) : Bool :=
  permanentKey k || banKey k || (decide (cause ≠ 1) && latchKey k v) || (decide (cause = 3) && warmKey k)

/-- The time fields after a reset: a warm reset leaves the timebase running, any other sets it to 0:0:0 and holds it (R58). DEDUCED, log entry 81. -/
def resetTime (cause : Nat) (t : Time) : Time :=
  if cause = 3 then { t with snapDue := [], snapNext := [], todAt := none }
  else { Time.fresh with now := t.now, ot := t.ot, otRem := t.otRem, ppsPin := t.ppsPin }

/-- The status words of the dies (R25). -/
def dieKeys : List Nat :=
  [K.dieCoreStatus, K.dieWing0Status, K.dieWing1Status, K.dieWing2Status, K.dieWing3Status, K.diePandsStatus]

/-- A port after a reset: Off, or in Sleep after a warm one. -/
def resetPort (cause p : Nat) (s : State) : State :=
  if cause = 3 then
    ((s.setPort p { Port.fresh with sleepOt := s.time.ot, fromOff := false }).set (K.synState false p) 1).set (K.synState true p) 1 |>.set
      (K.portState p) psSleep
  else s

/-- Transactions that a reset aborts: those open, and those whose record was not yet durable. -/
def openSlots (s : State) : List (Nat × Tx) := (slotsInUse s).filter (fun e => decide (e.2.state = 1 ∨ e.2.state = 2))

/-- The dies are reset (R390). What MRAM and the latches hold stays; every V object takes its default; open transactions are aborted;
the work accepted is found again by replay. DEDUCED, log entry 83. -/
def resetDies (cause : Nat) (s : State) : State :=
  let s0 := s.incBy K.txAborts 32 ((openSlots s).length : Nat)
  let s1 : State := { s0 with
    obj := s0.obj.filter (fun e => keptKey cause e.1 e.2), blob := s0.blob.filter (fun e => permanentKey e.1), before := [], chansBefore := [], snap := [],
    masters := [], time := resetTime cause s0.time, links := if cause = 3 then s0.links else [],
    tx := { s0.tx with slots := [], accepted := [], sys := [] },
    log := { s0.log with waiting := [], flushing := none, flushCmd := 0, dropMark := false },
    flt := ⟨[], [], [], [], []⟩, chans := [], ports := [], rails := [], feeds := [], eng := ⟨[]⟩, tms := [], th := Thermal.fresh,
    domDue := [], emRun := [], obs := [], gal := Gallery.fresh, con := ⟨none, none, none⟩, walkers := [], panel := ⟨[], none, none, none⟩,
    parity := [], fades := [], loads := [], wing := [], path := [],
    host := { HostIf.fresh with busMaster := false } }
  let s2 := { s1 with jr := { s1.jr with writing := [], marks := [], markSince := none, rebuildDue := none, launchAt := none } }
  let s3 := forN 2 (fun b s => if s.num (bankKey b) = 2 then s.set (bankKey b) 1 else s) s2
  let s4 := if s3.boot.por ∨ cause = 3 then s3 else forL dieKeys (fun k s => s.setBit k 1) s3
  let s5 := forN 32 (resetPort cause) s4
  if cause = 3 ∧ !s5.time.running then forN 32 (fun p s => raisePort p pmClock s) s5 else s5

/-- The flush of R337 before the dies are reset: the buffer, the records that wait for room, and the EXEC marks become durable. DEDUCED, log entry 79. -/
def flushNow (s : State) : State :=
  if s.bothFailed then s
  else
    let s1 := makeDurable s.log.buffer.length s
    let s2 := forL s1.log.waiting placeRec { s1 with log := { s1.log with waiting := [] } }
    flushMarks (makeDurable s2.log.buffer.length s2)

/-- How far the journal record being written had come when a reset struck: in no bank, in bank 0 alone, or in every bank that is written, its check
not yet run. A free value; DEDUCED, log entry 78. -/
def cutRecord (s : State) : State :=
  match s.jr.writing with
  | [] => s
  | r :: _ =>
    let x := ringRec s r
    let s1 := { s.drawn with jr := { s.jr with writing := [] } }
    if s.fresh % 3 = 0 then s1
    else if s.fresh % 3 = 1 ∧ s.bankOk 0 = true ∧ s.bankOk 1 = true then { s1 with jr := s1.jr.putBank 0 (s1.jr.bank0.add x) }
    else if r.kind = 1 ∨ r.kind = 2 then setSlot r.slot none (addRec x s1)
    else addRec x s1

/-- A reset strikes: the part is held in stage 0. Marks are kept, and so is what stands in the banks; the records that waited to be written are
lost. DEDUCED, log entry 79. -/
def strike (cause : Nat) (s : State) : State :=
  let s1 := cutRecord (if cause = 1 then s else flushNow s)
  let s2 := resetDies cause (s1.sticky skReset)
  ({ s2 with boot := { s2.boot with cause := cause, fails := [] } }.set K.recBuffered (s2.log.buffer.length : Nat)).set K.pdBootStage 0

/-- PORST_N_ASSERT (R390, R391): held low for 1 µs. -/
def execPorstNAssert (s : State) : Host.Outcome State Fault Refusal :=
  .next (
    let s1 := { s with boot := { s.boot with porst := true } }
    if s.boot.por ∨ s.boot.porst then s1 else strike 2 s1)

/-- WARMRST_N_ASSERT (R390, R391): PORST_N governs when both are low. The interface of master 1 is reset (R357). -/
def execWarmrstNAssert (s : State) : Host.Outcome State Fault Refusal :=
  .next (
    let s1 := { s with boot := { s.boot with warm := true } }
    if s.boot.por ∨ s.boot.porst ∨ s.boot.warm then s1
    else (strike 3 (hostReset s1)).inc K.pdWarmResets 32)

/-- POWER_ON_RESET_ASSERT (R389): a supply below 85 %. When every supply has fallen, the latches and all that VHOLD kept are gone;
until then it is a supply dip, with the effects of PORST_N. DEDUCED, log entry 80. -/
def execPowerOnResetAssert (all : Bool) (s : State) : Host.Outcome State Fault Refusal :=
  .next (
    let b := { s.boot with por := true, allDown := s.boot.allDown || all }
    let s1 := { s with boot := b }
    if all then
      let s2 := strike 1 s1
      { s2 with log := { s2.log with buffer := [] }, jtag := .idcode }.set K.recBuffered 0
    else if s.boot.por ∨ s.boot.porst then s1
    else strike 2 s1)

/-! ### Release (R389, R391, R392) -/

/-- Boot starts from stage 1. -/
def startBoot (s : State) : State :=
  let b := { s.boot with released := s.time.now, stageAt := s.time.now, latches := s.nat K.fltSealedCount }
  let s1 := { s with boot := b, log := { s.log with pfailAt := none } }
  (s1.set K.pdLastReset (s.boot.cause : Nat)).set K.pdBootStage 1

/-- The operating time at power-on: one unit above the larger of its stored value and the ot of the last durable record (R334). -/
def resumeOt (s : State) : Nat := 1 + max s.jr.logBank.log0.ot (match s.durable.getLast? with | some e => e.2.ot | none => 0)

/-- POWER_ON_RESET_RELEASE (R389, R334): 20 ms after every supply has passed 90 % while PORST_N is high. DEDUCED, log entry 80. -/
def execPowerOnResetRelease (s : State) : Host.Outcome State Fault Refusal :=
  .next (if !s.boot.por ∨ s.boot.porst then s
    else
      let power := s.boot.allDown
      let s1 := { s with boot := { s.boot with por := false, allDown := false, cause := if power then 1 else 2 } }
      let s2 : State := if power then
          { (s1.inc K.recPowerCycles 32).sticky skReset with time := { s1.time with ot := resumeOt s1, otRem := 0 } }
        else s1
      let s3 := forL dieKeys (fun k s => s.setBit k 1) s2
      if s3.boot.warm then s3 else startBoot s3)

/-- RESET_RELEASE (R392): a reset pin goes high; with none low, boot starts from stage 1. -/
def execResetRelease (porst : Bool) (s : State) : Host.Outcome State Fault Refusal :=
  .next (
    let low := if porst then s.boot.porst else s.boot.warm
    let b := if porst then { s.boot with porst := false } else { s.boot with warm := false }
    let s1 := { s with boot := b }
    if low ∧ !b.por ∧ !b.porst ∧ !b.warm then startBoot s1 else s1)

/-! ### Stage 1: latches -/

/-- A channel whose oscillation latch waits for a restart or is sealed holds its mutes (R251, R253). -/
def latchChannel (c : Nat) (s : State) : State :=
  if s.num (K.oscState c) = 2 then raiseCh c cmSealed (raiseCause c 0 s)
  else if s.num (K.oscState c) = 1 then raiseCause c 0 s
  else s

/-- The latches are restored: sealed channels and feeds, and a Banister hold in force (R325, R412). -/
def restoreLatches (s : State) : State :=
  let s1 := forN 512 latchChannel s
  let s2 := forN 32 (fun f s => if s.bit K.fdSealed f then s.set (K.fdState f) fsSealed else s) s1
  if s2.num K.banState = 0 then s2 else forN 32 (fun p s => raisePort p pmBanister s) s2

/-! ### Stage 2: clocks -/

/-- The clocks come up with REFCLK; without it, boot goes on upon the hold oscillator with the timebase Invalid (R22, R58, R392). DEDUCED, log entry 45. -/
def startClocks (refclk : Bool) (s : State) : State :=
  let s1 := forL dieKeys (fun k s => s.set k 7) s
  if refclk then { s1 with time := { s1.time with running := true } }.set K.clkStatus 0x3F
  else
    let s2 := forN 32 (fun p s => raisePort p pmClock s) (s1.set K.tbState tsInvalid)
    fault 0x02 0 3 (evCode 0x02 7) 0 0 0 0 ((s2.set K.clkStatus 0x40).sticky skRefclk)

/-! ### Stage 3: image (R384, R393) -/

/-- The reason slot n gives, a read error among them. -/
def slotReason (readErr : Nat) (s : State) (n : Nat) : Nat := if readErr.testBit n then 5 else imageFault s n

/-- The preferred slot has booted three times unconfirmed. -/
def bootsSpent (s : State) : Bool := !s.sec.confirmed && decide (3 ≤ s.sec.boots)

/-- The slot that boots, and whether it is a fall-back. DEDUCED, log entry 88. -/
def bootSlot (readErr : Nat) (s : State) : Option (Nat × Bool) :=
  let first := if bootsSpent s then 1 - s.sec.preferred else s.sec.preferred
  if slotReason readErr s first = 0 then some (first, bootsSpent s)
  else if slotReason readErr s (1 - first) = 0 then some (1 - first, true)
  else none

/-- Run the image of slot n. DEDUCED, log entry 3. -/
def runImage (n : Nat) (back : Bool) (s : State) : State :=
  let x := if bootsSpent s then { s.sec with preferred := n, boots := 0, confirmed := true }
    else if s.sec.confirmed ∨ n ≠ s.sec.preferred then s.sec
    else { s.sec with boots := s.sec.boots + 1 }
  let s1 := (({ s with sec := x }).set K.idFwVersion (fwField s n 4 4 : Nat)).set K.idFwBuild (fwField s n 8 4 : Nat)
  s1.set K.secFwSlot (n + (if back then 128 else 0) : Nat)

/-! ### Stage 4: replay (R124) -/

/-- Put the values of an image into their objects. DEDUCED, log entry 83. -/
def loadImage (img : Image) (s : State) : State :=
  let s1 := forL img.obj (fun e s => s.set e.1 e.2) s
  let s2 := forL img.blob (fun e s => s.setOct e.1 e.2) s1
  forL img.status (fun e s => s.set (K.ltStatus e.1) (e.2 : Nat)) { s2 with tx := { s2.tx with gen := img.gen } }

/-- Marks of the EXEC records the ring holds. -/
def ringMarks (ring : List JRec) : List (Nat × Nat) := (ring.filter (fun r => decide (r.kind = 5))).flatMap (fun r => r.marks)

/-- The image was taken after the arming g of entry n had ended: it holds the values of that transaction. -/
def imageHolds (img : Image) (m : Nat × Nat) : Bool :=
  let g := Tab.get (fun _ => 0) img.gen m.1
  decide (m.2 < g) || (decide (m.2 = g) && decide (Tab.get (fun _ => 0) img.status m.1 ≠ 1))

/-- A value of a transaction that was in effect before the reset. An arming that the image holds is not counted again. -/
def replayValue (again : Bool) (e : Nat × Val) (s : State) : State :=
  let s1 := s.setVal e.1 e.2
  if !again then armStaged e s1
  else match entryOf e.1, e.2 with
    | some n, .oct b => s1.set (K.ltStatus n) (if leAt b 8 1 = 0 then leFree else leArmed)
    | _, _ => s1

/-- The generation of an entry, at least g. DESIGN CHOICE, log entry 77. -/
def raiseGen (n g : Nat) (s : State) : State :=
  { s with tx := { s.tx with gen := Tab.put (fun _ => 0) n (max g (Tab.get (fun _ => 0) s.tx.gen n)) s.tx.gen } }

/-- One kept ACCEPT record, or OUTCOME record with commit. -/
def replayRec (img : Image) (marks : List (Nat × Nat)) (r : JRec) (s : State) : State :=
  if r.seq ≤ img.seq then s
  else match r.marks.head? with
    | none => s
    | some (n, g) =>
      if (n, g) ∈ marks then
        let again := imageHolds img (n, g)
        let s1 := forL r.staged (replayValue again) s
        if again then s1 else (raiseGen n g (s1.setOct (K.ltEntry n) (List.replicate 16 0))).set (K.ltStatus n) leDone
      else
        let b := leBytes 8 ((tbWord r.launch : Nat) : Int) ++ leBytes 1 0x0D ++ leBytes 3 0 ++ leBytes 4 (r.number : Int)
        let a : Accepted := ⟨r.number, r.seq, r.launch, n, r.staged, r.sysId, r.sysSeq, 0, none⟩
        let s1 := { raiseGen n g s with tx := { (raiseGen n g s).tx with accepted := s.tx.accepted ++ [a] } }
        (s1.setOct (K.ltEntry n) b).set (K.ltStatus n) leArmed

/-- Armed entries whose present arming is marked have been executed. -/
def settleMarks (marks : List (Nat × Nat)) (s : State) : State :=
  forL (armedEntries s) (fun n s => if (n, Tab.get (fun _ => 0) s.tx.gen n) ∈ marks then s.set (K.ltStatus n) leDone else s) s

/-- Every PREPARE without an OUTCOME stands In doubt in its slot, with a launch entry kept for it (R124, R129, R132). DEDUCED, log entry 84. -/
def doubtRec (ring : List JRec) (r : JRec) (s : State) : State :=
  if r.kind ≠ 2 ∨ ring.any (fun x => decide (x.kind = 4) && samePair x r) then s
  else
    let kind := if r.sysId / 2 ^ 23 = s.nat K.stwAddr then 2 else 3
    let n := (commitEntry s (r.staged.map Prod.fst)).getD noEntry
    let t : Tx := ⟨r.number, kind, 0, 7, r.staged, r.launch, s.time.now, r.sysId, r.sysSeq, 0, n, s.time.now, r.sysId / 2 ^ 23, 0, [], none, none⟩
    (setSlot r.slot (some t) s).sticky skInDoubt

/-- Every DECIDE with commit and no ACKED is owed its acknowledgements, and is sent again: on the links that are Up, and on the others when they
come Up. -/
def owedRec (ring : List JRec) (r : JRec) (s : State) : State :=
  if r.kind ≠ 3 ∨ r.outcome ≠ 1 ∨ ring.any (fun x => decide (x.kind = 8) && samePair x r) then s
  else
    let owed := [1, 2].filter (fun l => decide (l ∉ downUp s))
    let x : SysTx := ⟨r.sysId, r.sysSeq, r.sysId / 2 ^ 23, r.launch, r.launch, r.parts, r.parts, [], 3, 1, s.time.now, 0, 0, 0xFFFF, owed⟩
    let s1 := sendDown 0x25 (msgNums s 1 allParts r.sysId r.sysSeq (tbWord r.launch) 0 0) { s with tx := { s.tx with sys := s.tx.sys ++ [x] } }
    takeDecision (ownMsg s 1 r.sysId r.sysSeq 0 0) s1

/-- A Newel that restarts with a PREPARE in flight and no DECIDE of its own refuses it (R130). DEDUCED, log entry 84. -/
def orphanRec (ring : List JRec) (r : JRec) (s : State) : State :=
  if r.kind ≠ 2 ∨ ring.any (fun x => (decide (x.kind = 3) || decide (x.kind = 4)) && samePair x r) ∨ !votedHere s r.sysSeq then s
  else
    let x : SysTx := ⟨r.sysId, r.sysSeq, r.sysId / 2 ^ 23, r.launch, r.launch, [], [], [], 1, 0, s.time.now, 0, 0, 0xFFFF, []⟩
    decideSys x 2 0x0604 0 0xFFFF { s with tx := { s.tx with sys := s.tx.sys ++ [x] } }

/-- The valid record of a write count in a bank; none in a bank that has failed. -/
def recIn (b : Bank) (count : Nat) : Option JRec := if b.failed then none else b.ring.find? (fun r => decide (r.count = count) && r.valid)

/-- What replay does with the record of a write count: nothing, keep it, keep it and copy it to the bank that lacks it, or write VOID. -/
inductive Fate where
  | drop
  | keep (r : JRec)
  | repair (r : JRec)
  | void
  deriving DecidableEq, Repr

/-- The fate of write count c, which is the last of the ring or not (R124). -/
def fateOf (j : Journal) (last : Bool) (c : Nat) : Fate :=
  if c ∈ voided j.bank0.ring ∨ c ∈ voided j.bank1.ring then .drop
  else match recIn j.bank0 c, recIn j.bank1 c with
    | some a, some b => if a = b then .keep a else .drop
    | some a, none => if j.bank1.failed ∨ a.flags % 2 = 1 then .keep a else if last then .void else .repair a
    | none, some b => if j.bank0.failed ∨ b.flags % 2 = 1 then .keep b else .repair b
    | none, none => .drop

/-- The write counts that stand in the usable banks, ascending. -/
def ringCounts (j : Journal) : List Nat :=
  let of (b : Bank) := if b.failed then [] else b.ring.map (fun r => r.count)
  ((of j.bank0 ++ of j.bank1).dedup).insertionSort (· ≤ ·)

/-- Copy a record into a bank that lacks it, in its place by write count. -/
def Bank.fill (r : JRec) (b : Bank) : Bank :=
  if b.failed ∨ b.ring.any (fun (x : JRec) => decide (x.count = r.count)) then b
  else
    ({ b with ring := b.ring.takeWhile (fun (x : JRec) => decide (x.count < r.count)) ++ r :: b.ring.dropWhile (fun (x : JRec) => decide (x.count < r.count)) }).setHead
      { b.head0 with fin := (b.head0.fin + recBlocks r) % ringBlocks, count := max b.head0.count r.count }

/-- The fate of one record is carried out. -/
def settleFate (c : Nat) (f : Fate) (s : State) : State :=
  match f with
  | .repair r => { s with jr := s.jr.onBanks (Bank.fill r) }
  | .void => (addRec { kind := 7, covered := c, count := c + 1, flags := if s.oneFailed then 1 else 0 : JRec }.sealed s).inc K.jrVoided 32
  | _ => s

/-- The records kept, ascending; repairs and VOID are written (R124). -/
def readRing (s : State) : State :=
  let cs := ringCounts s.jr
  forL cs (fun c s' => settleFate c (fateOf s.jr (decide (cs.getLast? = some c)) c) s') s

/-- The image copy that the latest checkpoint kept names. -/
def keptLatest (ring : List JRec) (s : State) : State :=
  match (ring.filter (fun r => decide (r.kind = 6))).getLast? with
  | some r => setLatest r.copy s
  | none => s

/-- A record kept whose acceptance the part had not come to count: its sequence number is taken now (R114). DEDUCED, log entry 78. -/
def countKept (r : JRec) (s : State) : State :=
  if r.seq < s.nat K.txNextSeq then s else pushHistory r.number r.seq (s.set K.txNextSeq (r.seq + 1 : Nat))

/-- JOURNAL_REPLAY (R124). With both banks failed nothing can be read: accepted work and armed entries are lost (R126). -/
def replay (s : State) : State :=
  if s.bothFailed then ((s.set K.jrDegraded 1).set K.recLoglost 1).set K.jrReplayed 0
  else
    let s0 := readRing s
    let ring := s0.jr.ring.filter (fun r => decide (r.kind ≠ 7))
    let s1 := keptLatest ring s0
    let img := s1.jr.latest
    let marks := ringMarks ring
    let s2 := loadImage img s1
    let works := ring.filter (fun r => decide (r.kind = 1) || (decide (r.kind = 4) && decide (r.outcome = 1)))
    let s3 := settleMarks marks (forL works (fun r s => countKept r (replayRec img marks r s)) s2)
    let s4 := forL ring (doubtRec ring) s3
    let s5 := forL ring (orphanRec ring) (forL ring (owedRec ring) s4)
    ((if s.oneFailed then s5.set K.jrDegraded 1 else s5).set K.jrCheckpointSeq (img.seq : Nat)).set K.jrReplayed (ring.length : Nat)

/-! ### Stage 5: restore (R35, R394) -/

/-- A P object that fails its check takes its default, with a Minor fault that names it (R35). DEDUCED, log entry 88. -/
def dropKey (k : Nat) (s : State) : State :=
  if !permanentKey k then s
  else fault 0x15 0 1 (evCode 0x01 2) (k / 256) (k % 256) 0 0 ((s.set k (Dict.default k)).setOct k (Dict.defaultBlob k))

/-- Domain d as the restored holds leave it: a slice runs its memory check, and the rest is on. DEDUCED, log entry 85. -/
def restoreDomain (d : Nat) (s : State) : State :=
  if heldOff s d then
    let s1 := if 64 ≤ d ∧ d < 80 then s.clrBit K.cxPoolPowered (d - 64) else s
    s1.set (K.pdState d) (offState s1 d)
  else if d < 64 then (putDomDue d (some (s.time.now + 2048)) s).set (K.pdState d) dsChecking
  else s.set (K.pdState d) dsOn

/-- A channel whose ch.run is 1 starts in the present position of its walker. -/
def restoreChannel (c : Nat) (s : State) : State := implyChannel c (startChannel c s)

/-- A port moves toward what it is to stand in. -/
def restorePort (p : Nat) (s : State) : State :=
  match portWalker s p with
  | some w => implyPort w p s
  | none => moveOn p s

/-- A feed with fd.enable 1 begins to detect, or stays Held in a Banister hold. -/
def restoreFeed (f : Nat) (s : State) : State :=
  let s1 := reviewRequired f (restoreRetries f s)
  if s1.flag (K.fdEnable f) then feedEnabled f s1 else s1

/-- Everything that follows from the restored objects takes its place. -/
def restore (bad : List Nat) (s : State) : State :=
  let s1 := forN 84 restoreDomain (forL bad dropKey s)
  let s2 := forN 8 (fun p s => if s.flag (K.patEnable p) then placeWalker p s else s) s1
  let s3 := forN 8 (fun p s => forN 16 (fun a s => placeAction p (a + 1) s) s) s2
  let s4 := forN 512 (fun c s => if s.num (K.chRun c) = 1 then s else showRefs c s) s3
  let s5 := placeAll s4.started (forL s4.started restoreChannel s4)
  let s6 := forN 32 restoreFeed (forN 32 restorePort s5)
  let s7 := forN 8 restartObs (forN 24 tmRestart s6)
  { s7 with can := ⟨s7.nat K.dzCanaNode, s7.nat K.dzCanbNode, s7.nat K.dzCanaDataRate, s7.nat K.dzCanbDataRate, s7.nat K.dzCanNominalRate⟩ }

/-! ### Ready -/

/-- A time in whole µs (DEDUCED, log entry 5). -/
def usOf (ticks : Nat) : Int := qdiv (10 * (ticks : Int)) 12288

/-- Ports on their way to Standby or beyond whose return check will put them into Chrysalis (R397). DEDUCED, log entry 86. -/
def returning (s : State) : Nat :=
  ((List.range 32).filter (fun p => decide (psStandby ≤ wantState s p) &&
    (decide (returnRows s p (s.port p).fromOff ≠ 0) || s.flag (K.fdEnable p)))).length

/-- Captures that reached neither the volume, nor release, nor abort are lost (R348). -/
def loseCaptures (s : State) : State :=
  let first := s.nat K.galSettled
  let last := s.nat K.galNumber
  if last ≤ first then s
  else
    let s1 := s.incBy K.galLost 32 ((last - first : Nat) : Int)
    fault 0x15 1 1 0x0F04 ((first + 1) % 2 ^ 32) (last - first) 0 0 (s1.set K.galSettled (last : Nat))

/-- Stage 6 is reached: POWER_ON and READY are recorded, and the console says so. DEDUCED, log entry 86. -/
def becomeReady (s : State) : State :=
  let s1 := s.set K.pdReadyTime (usOf (s.time.now - s.boot.released))
  let s2 := event 0x0001 s1.boot.cause (s1.nat K.idFwVersion) s1.boot.latches 0 s1
  let s3 := event 0x1201 (s2.nat K.pdReadyTime) (s2.nat K.pdReplayTime) (s2.nat K.pdLastReset) (returning s2) s2
  ((loseCaptures s3).say "ok ready" []).set K.pdBootStage 6

/-- The part fails to boot (R393): rails, feeds and ports stay Off. -/
def failBoot (readErr : Nat) (s : State) : State :=
  let b := { s.boot with fails := [slotReason readErr s 0, slotReason readErr s 1], reportAt := s.time.now, stageAt := s.time.now }
  { s with boot := b }.set K.pdBootStage 7

/-- Enter a stage in this tick. -/
def toStage (n : Nat) (s : State) : State := { s with boot := { s.boot with stageAt := s.time.now } }.set K.pdBootStage (n : Nat)

/-- BOOT_STAGE_ADVANCE (R392): the work of the present stage is done. refclk: REFCLK is present at stage 2, which waits for it for 1 s; readErr: bit n for a read
error of slot n at stage 3; bad: P objects that fail their check at stage 5. DESIGN CHOICE, log entry 87. -/
def execBootStageAdvance (refclk : Bool) (readErr : Nat) (bad : List Nat) (s : State) : Host.Outcome State Fault Refusal :=
  .next (match s.nat K.pdBootStage with
    | 1 => toStage (if s.boot.cause = 3 then 3 else 2) (restoreLatches s)
    | 2 => if refclk ∨ s.boot.stageAt + secTicks ≤ s.time.now then toStage 3 (startClocks refclk s) else s
    | 3 => (match bootSlot readErr s with
      | some (n, back) => toStage 4 (runImage n back s)
      | none => failBoot readErr s)
    | 4 => toStage 5 ((replay s).set K.pdReplayTime (usOf (s.time.now - s.boot.stageAt)))
    | 5 => becomeReady (restore bad s)
    | _ => s)

/-- BOOT_FAIL_REPORT (R393): every 10 s in stage 7. DEDUCED, log entry 88. -/
def execBootFailReport (s : State) : Host.Outcome State Fault Refusal :=
  .next (if s.num K.pdBootStage = 7 ∧ s.boot.reportAt + 10 * secTicks ≤ s.time.now then
    { s with boot := { s.boot with reportAt := s.time.now } }.say "!boot fail" (s.boot.fails.map (fun r => (r : Int)))
  else s)

/-! ### Power fail (R338) -/

/-- The flush of a power fail runs. -/
def failingNow (s : State) : Bool := match s.log.pfailAt with | some t => decide (s.log.lastFlushEnd < t) | none => false

/-- POWER_FAIL (R338): cause 1 PFAIL_N, 2 the VIN monitor. DEDUCED, log entry 61. -/
def execPowerFail (cause : Nat) (s : State) : Host.Outcome State Fault Refusal :=
  .next (if failingNow s then s
    else startFlush (fault 0x15 0 0 0x0002 cause s.log.buffer.length 0 0 { s with log := { s.log with pfailAt := some s.time.now } }))

/-! ### Repairs (R401, R410) -/

/-- The ledger entry of repair g by master m. -/
def ledgerEntry (s : State) (g m : Nat) : List Byte :=
  let note := s.oct K.rpNote
  leBytes 2 (g : Int) ++ leBytes 2 0 ++ leBytes 4 (s.num K.recPowerCycles) ++ leBytes 6 (s.time.ot : Int) ++ leBytes 1 (m : Int) ++
    leBytes 1 0 ++ (note ++ List.replicate 48 0).take 48

/-- A repair declared by master m. What follows the greatest generation is not stated: a free value. DEDUCED, log entry 89. -/
def declareRepair (m : Nat) (s : State) : State :=
  let full := decide (s.num K.pdRepairGen = 65535)
  let g := if full then (s.fresh % 65536).toNat else s.nat K.pdRepairGen + 1
  let s1 := (if full then s.drawn else s).set K.pdRepairGen (g : Nat)
  let s2 := (s1.setOct (K.rpEntry ((g + 127) % 128)) (ledgerEntry s1 g m)).setOct K.rpNote []
  let s3 := eventPerm 0x1204 g m 0 0 s2
  forN 32 (fun p s => if s.num (K.portState p) = psOff ∨ s.num (K.portState p) = psSleep then s else returnCheck p false s) s3

/-- The effect of pd.repair. -/
def repairEffect (w : Who) (_ : Val) (s : State) : Reply := .ok (declareRepair w.charged s)

/-- PD_REPAIR (R401, R410). -/
def execPdRepair (f : Frame) (s : State) : Host.Outcome State Fault Refusal :=
  .next (requestWrite K.pdRepair f s repairEffect)

end Sys2Proof.Machine
end

