-- ==== Sys2Proof/Machine/Panel.lean ====
section
/-! DEFINITION. Field service (R403 to R412): meters, self-tests, keys, LEDs, the Banister hold, the console service commands, and the
errors of the die crossings (R26). -/

namespace Sys2Proof.Machine

/-! ### Self-tests (R406, R407) -/

/-- Some unmuted channel takes input from port p. -/
def feedsChannel (s : State) (p : Nat) : Bool := (channelsIn s p).any (fun c => decide (chMutesNow s c = 0))

/-- A block meets the requirement of Table 20-2; a port also the condition of R152 for the test's whole duration. -/
def testAllowed (s : State) (kind inst : Nat) : Bool :=
  match kind with
  | 1 => decide (inst < 32) && !changing s inst && decide (s.num (K.portState inst) = psStandby ∨ s.num (K.portState inst) = psListen) &&
      !feedsChannel s inst && !calHolds s inst && mayRun s inst portTestTicks
  | 2 => decide (inst < 64) && decide (startedIn s inst = [])
  | 3 => decide (inst < 16) && s.started.all (fun c => (List.range 4).all (fun n => decide (s.num (K.cxBranchSubpoolN c n) ≠ inst)))
  | 4 => decide (inst < 24) && decide (s.num (K.tmInject inst) ≠ 1) && decide (s.num (K.tmInject inst) ≠ 2)
  | 5 => decide (inst < 24) && decide (s.num (K.rlState inst) = rsOff)
  | 6 => decide (inst < 32) && decide (s.num (K.fdState inst) = fsOff)
  | 7 => decide (inst = 0)
  | 8 => decide (inst < 2)
  | 9 => decide (inst < 3) && decide (linkState s inst = lsUp)
  | 10 => decide (inst = 0) && decide (s.num K.galDriveState = 2)
  | 11 => decide (inst = 0) && decide (s.num K.secState ≠ 2)
  | 12 => decide (inst = 0)
  | _ => false

/-- Ticks of a self-test (Table 20-2); a port's counts in Cal. -/
def testTicks (kind : Nat) : Nat :=
  match kind with
  | 2 => 14336
  | 3 => 14336
  | 4 => 40 * msTicks
  | 6 => 200 * msTicks
  | 7 => 100 * msTicks
  | 8 => 2 * secTicks
  | 9 => secTicks
  | 10 => 100 * msTicks
  | 11 => 50 * msTicks
  | 12 => 6 * secTicks
  | _ => msTicks

/-- Start the self-test of a block for a master. DEDUCED, log entry 90. -/
def startSelfTest (word m : Nat) (console : Bool) (s : State) : State :=
  let t : SelfTest := ⟨word, m, s.time.now + testTicks (word / 256), console, false⟩
  let s1 := { s with panel := { s.panel with test := some t, blink := none } }
  let s2 := if word / 256 = 1 then moveOn (word % 256) s1
    else if word / 256 = 4 then s1.set (K.tmInject (word % 256)) 1 else s1
  ((s2.set K.stBlock (word : Nat)).set K.stStep 0).set K.stState 1

/-- The effect of a block word written to st.run: BUSY while another self-test runs (R406). -/
def stRunEffect (console : Bool) (w : Who) (v : Val) (s : State) : Reply :=
  let n := v.int.toNat
  if s.panel.test.isSome then .no s stBusy
  else if testAllowed s (n / 256) (n % 256) then .ok (startSelfTest n w.charged console s)
  else .no s stRange

/-- ST_RUN (R406). -/
def execStRun (f : Frame) (s : State) : Host.Outcome State Fault Refusal :=
  .next (requestWrite K.stRun f s (stRunEffect false))

/-- PORT_LOOPBACK_TEST (R158, R406): the self-test of the port; a port in neither Standby nor Listen is answered RANGE. DEDUCED, log entry 90. -/
def loopbackEffect (p : Nat) (w : Who) (_ : Val) (s : State) : Reply := stRunEffect false w (.num (256 + p : Nat)) s

def execPortLoopbackTest (p : Nat) (f : Frame) (s : State) : Host.Outcome State Fault Refusal :=
  .next (requestWrite (K.portLoopbackTest p) f s (loopbackEffect p))

/-- The running self-test has come to its end. -/
def testOver (s : State) (t : SelfTest) : Bool :=
  let inst := t.block % 256
  if t.block / 256 = 1 then decide (s.num (K.portState inst) = psCal) && !changing s inst && decide ((s.port inst).calDue ≤ s.time.now)
  else if t.block / 256 = 4 then decide (s.num (K.tmInject inst) ≠ 1) && decide (s.num (K.tmInject inst) ≠ 2)
  else decide (t.due ≤ s.time.now)

/-- What a self-test held is let go: its port leaves Cal. -/
def endTest (t : SelfTest) (s : State) : State :=
  let s1 := { s with panel := { s.panel with test := none } }
  if t.block / 256 = 1 then
    let p := t.block % 256
    freeHold p (if s1.num (K.portState p) = psCal ∧ !changing s1 p then leaveCal p s1 else s1)
  else s1

/-- The record of a self-test: a Minor fault on a failure (Table 20-4). DEDUCED, log entry 90. -/
def testRecord (t : SelfTest) (outcome step : Nat) (s : State) : State :=
  if outcome = 1 then fault 0x18 0 1 0x1304 t.block outcome step t.master s
  else event 0x1304 t.block outcome step t.master s

/-- The console's word for the end of a test that it started. -/
def testLine (t : SelfTest) (step : Nat) (s : State) : State :=
  if !t.console then s
  else if step = 0 then s.say "ok PASS" [((t.block / 256 : Nat) : Int), ((t.block % 256 : Nat) : Int)]
  else s.say "err FAIL" [((t.block / 256 : Nat) : Int), ((t.block % 256 : Nat) : Int), (step : Int)]

/-- SELFTEST_COMPLETE (R407): the test passes (step 0) or stops at its first failing step. -/
def execSelftestComplete (step : Nat) (s : State) : Host.Outcome State Fault Refusal :=
  .next (match s.panel.test with
    | none => s
    | some t =>
      if step = 0 ∧ !testOver s t then s
      else
        let s1 := testLine t step (endTest t s)
        let s2 := if step = 0 then s1 else s1.inc K.stFails 32
        let s3 := testRecord t (if step ≠ 0 then 1 else if t.late then 3 else 0) step s2
        let s4 := { s3 with panel := { s3.panel with blink := some ⟨s3.nat K.stLed, s3.time.now, t.block, step⟩ } }
        (s4.set K.stStep (step : Nat)).set K.stState (if step ≠ 0 then 3 else if t.late then 5 else 2))

/-- The effect of a write of 1 to st.abort (R407, R117): a test whose end has come completes. DEDUCED, log entry 90. -/
def stAbortEffect (_ : Who) (v : Val) (s : State) : Reply :=
  match s.panel.test with
  | none => .ok s
  | some t =>
    if v.int ≠ 1 then .ok s
    else if testOver s t then .late { s with panel := { s.panel with test := some { t with late := true } } }
    else
      let s1 := endTest t (if t.block / 256 = 4 then s.set (K.tmInject (t.block % 256)) 3 else s)
      .ok ((testRecord t 2 0 s1).set K.stState 4)

/-- ST_ABORT (R407). -/
def execStAbort (f : Frame) (s : State) : Host.Outcome State Fault Refusal :=
  .next (requestWrite K.stAbort f s stAbortEffect)

/-- BLINK_CODE_END (R407): 12 s of blink code are over. -/
def execBlinkCodeEnd (s : State) : Host.Outcome State Fault Refusal :=
  .next (match s.panel.blink with
    | some b => if b.start + 12 * secTicks ≤ s.time.now then { s with panel := { s.panel with blink := none } } else s
    | none => s)

/-! ### Values shown on the meters and the console -/

/-- An object of a channel or port that has no value while what it is measured on is stopped or unpowered (R404). -/
def noValue (s : State) (k : Nat) : Bool :=
  let i := k / 256
  let sub := k % 256
  if 0x4000 ≤ i ∧ i < 0x6000 then decide (i % 16 = 4) && decide (sub = 0x0B ∨ sub = 0x0C) && decide (s.num (K.chRun ((i - 0x4000) / 16)) = 0)
  else if 0x3000 ≤ i ∧ i < 0x3400 then
    let off := decide (s.num (K.portState ((i - 0x3000) / 32)) ≤ psSleep)
    off && ((decide (i % 32 = 2 ∨ i % 32 = 3) && decide (sub = 3 ∨ sub = 7)) || (decide (i % 32 = 5) && decide (sub = 6)))
  else false

/-- The value in effect of a numeric object for a flow: a free value where it is measured. -/
def valueOf (flow k : Nat) (s : State) : Int × State :=
  match Dict.rowOf k with
  | some r => if measuredLive s k then (freeOf r s.fresh, s.drawn) else (s.readNum flow k, s)
  | none => (0, s)

/-! ### Meters (R404, R405) -/

/-- The output of meter m for a value of an object, Q16.16 V, before the clamp. -/
def meterVolts (s : State) (m k : Nat) (v : Int) : Int :=
  let q : Bool := match Dict.rowOf k with | some r => decide (r.ty = .q16) | none => false
  if q then qdiv (s.num (K.mtrOffset m) * 4294967296 + s.num (K.mtrScale m) * v) 65536000
  else qdiv (s.num (K.mtrOffset m) * 65536 + s.num (K.mtrScale m) * v) 1000

/-- What the self-test of kind 12 drives on both meters: 0, 1.250 and 2.500 V for 2 s each. -/
def meterTest (s : State) : Option Int :=
  match s.panel.test with
  | some t => if t.block = 0x0C00 then
      let left := t.due - s.time.now
      some (if 4 * secTicks < left then 0 else if 2 * secTicks < left then 81920 else 163840)
    else none
  | none => none

/-- Drive meter m in this tick. DESIGN CHOICE, log entry 92. -/
def driveMeter (m : Nat) (s : State) : State :=
  let k := s.nat (K.mtrSource m)
  if !s.serving then (s.set (K.mtrStatus m) 0).set (K.mtrVolts m) 0
  else match meterTest s with
    | some v => (s.set (K.mtrStatus m) 1).set (K.mtrVolts m) v
    | none =>
      if k = 0 then (s.set (K.mtrStatus m) 0).set (K.mtrVolts m) 0
      else if noValue s k then (s.set (K.mtrStatus m) 2).set (K.mtrVolts m) 0
      else
        let (v, s1) := valueOf 0 k s
        let out := meterVolts s1 m k v
        (s1.set (K.mtrStatus m) (if out < 0 ∨ 163840 < out then 3 else 1)).set (K.mtrVolts m) (clampI out 0 163840)

/-- METER_UPDATE (R404): every 1 ms. DESIGN CHOICE, log entry 14. -/
def execMeterUpdate (s : State) : Host.Outcome State Fault Refusal := .next (forN 2 driveMeter s)

/-! ### LEDs (R407, R409) -/

/-- On in the first half of each period. DESIGN CHOICE, log entry 92. -/
def blinks (s : State) (period : Nat) : Bool := decide (s.time.now % period < period / 2)

/-- The heartbeat: steady in stages 1 to 5, 1 Hz in stage 6, 4 Hz in stage 7. -/
def heartbeat (s : State) : Bool :=
  match s.nat K.pdBootStage with
  | 0 => false
  | 6 => blinks s secTicks
  | 7 => blinks s (secTicks / 4)
  | _ => true

/-- The level of a source word (Table 20-3). -/
def ledSourceLit (s : State) (w : Nat) : Bool :=
  let arg := w % 512
  match w / 4096 with
  | 1 => true
  | 2 => s.bit K.fltSticky arg
  | 3 => decide (arg < 32) && decide (s.num (K.portState arg) = psRelay)
  | 4 => decide (arg < 32) && decide (portMutesNow s arg ≠ 0)
  | 5 => decide (arg = 0) || (busySources s).any (fun x => decide ((arg : Int) ≤ s.num (stateKey x)))
  | 6 => heartbeat s
  | 7 => decide (s.num K.banState ≠ 0) && (decide (s.time.ot + 60 * 1024 < s.nat K.banEnd) || blinks s secTicks)
  | 8 => decide (s.num K.stState = 1)
  | 9 => s.flag K.tbTrace
  | 10 => decide ((arg : Int) ≤ s.num K.thLevel)
  | 11 => decide (arg < 32) && decide (s.num (K.fdState arg) = fsOn)
  | 12 => chRadiates s arg
  | _ => false

/-- The level of a blink code: on for 2 s on a pass; else the kind, a pause of 1 s, the step, a pause of 2 s, over and over. -/
def blinkLit (s : State) (b : Blink) : Bool :=
  let e := (s.time.now - b.start) / msTicks
  let kind := b.block / 256
  if b.step = 0 then decide (e < 2000)
  else
    let x := e % ((kind + b.step) * 500 + 3000)
    if x < kind * 500 then decide (x % 500 < 250)
    else if x < kind * 500 + 1000 then false
    else if x < (kind + b.step) * 500 + 1000 then decide ((x - kind * 500 - 1000) % 500 < 250)
    else false

/-- Every LED is on in the first 2 s of the self-test of kind 12. -/
def lampTest (s : State) : Bool :=
  match s.panel.test with
  | some t => decide (t.block = 0x0C00) && decide (4 * secTicks < t.due - s.time.now)
  | none => false

/-- LED n is lit. -/
def ledLit (s : State) (n : Nat) : Bool :=
  lampTest s || (match s.panel.blink with
    | some b => if b.led = n then blinkLit s b else ledSourceLit s (s.nat (K.ledSource n))
    | none => ledSourceLit s (s.nat (K.ledSource n)))

/-- LED_UPDATE (R409): every 1 ms. -/
def execLedUpdate (s : State) : Host.Outcome State Fault Refusal :=
  .next (s.set K.ledLevels (((List.range 16).map (fun n => if ledLit s n then 2 ^ n else 0)).sum : Nat))

/-! ### Keys (R408) -/

/-- The record of key k. -/
def State.key (s : State) (k : Nat) : Key := Tab.get (fun _ => Key.fresh) s.panel.keys k

def State.setKey (s : State) (k : Nat) (x : Key) : State :=
  { s with panel := { s.panel with keys := Tab.put (fun _ => Key.fresh) k x s.panel.keys } }

/-- A reading of key k: low, or a charge time above the baseline by key.threshold. -/
def keyTouched (s : State) (k : Nat) (raw : Int) : Bool :=
  if s.num (K.keyMode k) = 0 then decide (raw = 0)
  else if s.num (K.keyMode k) = 1 then
    (match (s.key k).baseline with | some b => decide (b * (1000 + s.num (K.keyThreshold k)) < raw * 1000) | none => false)
  else false

/-- Read key k: the baseline of a capacitive key follows an untouched reading. DEDUCED, log entry 11. DESIGN CHOICE, log entry 92. -/
def readKey (k : Nat) (raw : Int) (s : State) : State :=
  let x := s.key k
  let now := keyTouched s k raw
  let base := if s.num (K.keyMode k) ≠ 1 then none
    else match x.baseline with
      | none => some raw
      | some b => if now ∨ s.num (K.keyState k) ≠ 0 then some b else some (b + Config.approach raw b 10000000 1000)
  s.setKey k { x with touched := now, since := if now = x.touched then x.since else s.time.now, baseline := base }

/-- KEY_SCAN (R408): every 1 ms; the readings of KEY[0] on: a level for a mechanical key, a charge time for a capacitive one. DESIGN CHOICE, log entry 92. -/
def execKeyScan (raws : List Int) (s : State) : Host.Outcome State Fault Refusal :=
  .next (if !s.serving then s
    else forN 8 (fun k s => match raws[k]? with | some r => readKey k r s | none => s) s)

/-- The reading of key k has stood for key.debounce. -/
def settled (s : State) (k : Nat) : Bool := decide ((s.key k).since + s.nat (K.keyDebounce k) * msTicks ≤ s.time.now)

/-- KEY_PRESS (R408). -/
def execKeyPress (k : Nat) (s : State) : Host.Outcome State Fault Refusal :=
  .next (if k < 8 ∧ s.serving ∧ s.num (K.keyState k) = 0 ∧ (s.key k).touched ∧ settled s k then
    ((s.setKey k { s.key k with pressedAt := s.time.now, qualified := false }).inc (K.keyPresses k) 32).set (K.keyState k) 1
  else s)

/-- KEY_STUCK (R408): pressed for more than 60 s. -/
def execKeyStuck (k : Nat) (s : State) : Host.Outcome State Fault Refusal :=
  .next (if k < 8 ∧ s.num (K.keyState k) = 1 ∧ (s.key k).pressedAt + 60 * secTicks < s.time.now then
    (fault 0x18 0 1 0x1305 k 0 0 0 s).set (K.keyState k) 2
  else s)

/-- Key functions 2 to 4, as master 0. -/
def keyFunction (fn : Int) (s : State) : State :=
  if fn = 2 then (stRunEffect false ⟨0, 0, 3, false⟩ (.num (s.num K.stPanelBlock)) s).st
  else if fn = 3 then (stRunEffect false ⟨0, 0, 3, false⟩ (.num 0x0C00) s).st
  else if fn = 4 then s.set K.fltSticky (stickyAfter s 0xFFFFFFFF : Nat)
  else s

/-- KEY_RELEASE (R408): the debounced release of a key; a stuck one is heeded again. -/
def execKeyRelease (k : Nat) (s : State) : Host.Outcome State Fault Refusal :=
  .next (if k < 8 ∧ s.num (K.keyState k) ≠ 0 ∧ !(s.key k).touched ∧ settled s k then
    let x := s.key k
    let s1 := if s.num (K.keyState k) = 2 then s
      else if s.num (K.keyFunction k) = 1 then
        (if x.qualified then { s with panel := { s.panel with lastRelease := some s.time.now } } else s)
      else if x.pressedAt + 100 * msTicks ≤ s.time.now then keyFunction (s.num (K.keyFunction k)) s else s
    s1.set (K.keyState k) 0
  else s)

/-! ### The Banister hold (R411, R412) -/

/-- The press of key k qualifies in this tick: its function is 1, and it has been held for ban.press. -/
def qualifies (s : State) (k : Nat) : Bool :=
  decide (k < 8) && decide (s.num (K.keyState k) = 1) && decide (s.num (K.keyFunction k) = 1) && !(s.key k).qualified &&
    decide ((s.key k).pressedAt + s.nat K.banPress * msTicks ≤ s.time.now)

/-- The press of key k is a second one: it began within 3 s of the release of the first. -/
def secondPress (s : State) (k : Nat) : Bool :=
  match s.panel.lastRelease with
  | some t => decide (t ≤ (s.key k).pressedAt) && decide ((s.key k).pressedAt ≤ t + 3 * secTicks)
  | none => false

/-- Put feed f into Held: a retry timer that runs goes on. DEDUCED, log entry 91. -/
def holdFeed (f : Nat) (s : State) : State :=
  let st := s.num (K.fdState f)
  if s.bit K.banFeeds f ∧ fsDetecting ≤ st ∧ st ≤ fsFaultOff then
    feedTo f fsHeld (s.setFeed f { s.feed f with held := decide (st = fsFaultOff) })
  else s

/-- Let feed f go: to Detecting, or to Fault-off while its retry timer runs (R305). -/
def unholdFeed (f : Nat) (s : State) : State :=
  if s.num (K.fdState f) ≠ fsHeld then s
  else
    let s1 := s.setFeed f { s.feed f with held := false }
    if (s.feed f).held ∧ (s.time.ot : Int) < s.num (K.fdRetryDue f) then feedTo f fsFaultOff s1 else feedDetect f s1

/-- ban.end counted from this tick. -/
def countDown (s : State) : State := s.set K.banEnd ((s.time.ot + 1024 * s.nat K.banTime : Nat) : Int)

/-- A hold begins. -/
def startBanister (k : Nat) (s : State) : State :=
  let s1 := forN 32 holdFeed (forN 32 (fun p s => raisePort p pmBanister s) s)
  let s2 := event 0x1301 k (s1.nat K.banTime) (s1.nat K.banFeeds) 0 ((s1.sticky skBanister).inc K.banCount 32)
  (countDown s2).set K.banState 1

/-- The hold ends: cause 1 countdown, 2 double press. -/
def endBanister (cause : Nat) (s : State) : State :=
  let s2 := forN 32 unholdFeed (forN 32 (fun p s => releasePort p pmBanister s) s)
  let s3 := event 0x1303 cause 0 0 0 { s2 with panel := { s2.panel with lastRelease := none } }
  (s3.set K.banEnd 0).set K.banState 0

/-- BANISTER_ON (R411): the press of key k qualifies: a hold begins, or its countdown restarts. A second press ends it instead. -/
def execBanisterOn (k : Nat) (s : State) : Host.Outcome State Fault Refusal :=
  .next (if !qualifies s k ∨ (s.num K.banState ≠ 0 ∧ secondPress s k) then s
    else
      let s1 := s.setKey k { s.key k with qualified := true }
      if s.num K.banState = 0 then startBanister k s1
      else event 0x1302 k (s1.nat K.banTime) 0 0 (countDown s1))

/-- BANISTER_OFF (R411): ban.end has passed, or a second qualified press has come. -/
def execBanisterOff (s : State) : Host.Outcome State Fault Refusal :=
  .next (if s.num K.banState = 0 then s
    else match (List.range 8).find? (fun k => qualifies s k && secondPress s k) with
      | some k => endBanister 2 (s.setKey k { s.key k with qualified := true })
      | none => if s.num K.banEnd ≤ s.time.ot then endBanister 1 s else s)

/-! ### Crossings and JTAG (R26, R385) -/

/-- The status word of die d: core, wings 0 to 3, power-and-sense. -/
def dieKey (d : Nat) : Nat := K.dieCoreStatus + d

/-- BUS_PARITY_ERROR (R25, R26): more than 16 in 1 s on the crossing of one die degrade it, with a Major fault. -/
def execBusParityError (d : Nat) (s : State) : Host.Outcome State Fault Refusal :=
  .next (if 5 < d then s
    else
      let l := s.time.now :: (Tab.get (fun _ => []) s.parity d).filter (fun t => decide (s.time.now < t + secTicks))
      let s1 := ({ s with parity := Tab.put (fun _ => []) d l s.parity }).inc K.dieBusErrorCount 32
      if 16 < l.length ∧ !s1.bit (dieKey d) 3 then (fault 0x01 d 2 (evCode 0x02 9) d l.length 0 0 s1).setBit (dieKey d) 3 else s1)

/-- What the IDCODE instruction shifts out (R385). -/
abbrev jtagIdcode : Nat := 0x085126B3

/-- JTAG_INSTRUCTION (R385): the instruction of the TAP. -/
def execJtagInstruction (i : Jtag) (s : State) : Host.Outcome State Fault Refusal := .next { s with jtag := i }

/-! ### Console service commands (R403) -/

/-- The console master. -/
def conWho (s : State) : Who := ⟨2, 2, s.levelOf 2, false⟩

/-- A reply line of the console: ok, or err with a status. -/
def conLine (status : Nat) (nums : List Int) (octets : List Byte) (s : State) : State :=
  s.emit (.line (if status ≤ stAbortLate then "ok" else "err") ((status : Int) :: nums) octets)

/-- One command line (R43, R47, R403): any character ends a running watch; a line in the place of a continuation does not parse; the tests
of freezing and allowance; then the command, whose reply is a line when it has a status. DEDUCED, log entry 93. -/
def conRequest (s : State) (body : Who → State → Reply) : State :=
  if !s.serving then s
  else
    let s0 := { s with con := { s.con with watch := none, cont := none } }
    let w := conWho s0
    if s.con.cont.isSome then s0.say "err SYNTAX" []
    else if s0.num (K.mrFrozen 2) ≠ 0 then conLine stFrozen [] [] s0
    else
      let s1 := s0.set (K.mrRequests 2) (s0.num (K.mrRequests 2) + 1)
      if !hasToken s1 2 then
        (if s1.holdOsc then conLine stBusy [] [] s1 else conLine stRate [] [] (freeze 2 stRate s1))
      else
        let s2 := takeToken 2 s1
        let r := body w (s2.setMaster 2 { s2.master 2 with lastActive := s2.time.now })
        match r.status with
        | some st => conLine st [] r.payload r.st
        | none => r.st

/-- The frame of a write of octets to an object by the console. -/
def conFrame (k : Nat) (b : List Byte) : Frame := ⟨.master 2, 0, false, false, false, false, k / 256, k % 256, b.length, b⟩

/-- A write by the console, examined as R43 says. -/
def conWrite (k : Nat) (b : List Byte) (w : Who) (s : State) (act : Who → Val → State → Reply) : Reply :=
  examineWrite kWrite w (conFrame k b) s (fun w _ _ v s => act w v s)

/-- A plain RW object takes its value. -/
def plainWrite (k : Nat) (_ : Who) (v : Val) (s : State) : Reply := .ok (s.setVal k v)

/-- A reply that is printed by the command itself. -/
def Reply.shown (s : State) : Reply := ⟨s, none, []⟩

/-- HELP (R403): the command forms. -/
def helpForms : List String :=
  ["help", "ver", "st", "port p", "ch c", "log n", "watch obj ms", "meter a|b obj scale offset", "test kind inst", "test abort", "unlock L",
   "resp hex", "note text", "repair", "ledger", "rd obj", "rd? obj", "desc obj", "wr obj value", "st obj value", "commit now",
   "commit e:s:t", "abort", "@addr line"]

def helpBody (_ : Who) (s : State) : Reply := .shown (forL helpForms (fun w s => s.say w []) (s.say "ok" []))

def execHelp (s : State) : Host.Outcome State Fault Refusal := .next (conRequest s helpBody)

/-- VER (R403): id.part, id.silicon, id.fw_version, id.serial. -/
def verBody (_ : Who) (s : State) : Reply :=
  .shown (conLine stOk [s.num K.idFwVersion, (Config.serial.toNat : Int)] (s.oct K.idPart ++ s.oct K.idSilicon) s)

def execVer (s : State) : Host.Outcome State Fault Refusal := .next (conRequest s verBody)

/-- Whole seconds left of a Banister hold. -/
def banLeft (s : State) : Int := if s.num K.banState = 0 then 0 else max 0 ((s.num K.banEnd - s.time.ot) / 1024)

/-- ST (R403). DEDUCED, log entry 93. -/
def stBody (_ : Who) (s : State) : Reply :=
  .shown (conLine stOk [s.num K.pdBootStage, s.num K.tbState, s.num K.tbTrace, s.num K.thLevel, s.num K.fltSevereCount, s.num K.fltSticky,
    banLeft s] [] s)

def execSt (s : State) : Host.Outcome State Fault Refusal := .next (conRequest s stBody)

/-- Print the values of some objects. -/
def printAll : List Nat → List Int → State → State
  | [], acc, s => conLine stOk acc.reverse [] s
  | k :: l, acc, s => let (v, s1) := valueOf 2 k s
    printAll l (v :: acc) s1

/-- PORT (R403). -/
def portBody (p : Nat) (_ : Who) (s : State) : Reply :=
  if 31 < p then .no s stNoObject
  else .shown (printAll [K.portState p, K.portMutes p, K.synFreq false p, K.synFreq true p, K.rxPower p] [] s)

def execPort (p : Nat) (s : State) : Host.Outcome State Fault Refusal := .next (conRequest s (portBody p))

/-- CH (R403). -/
def chBody (c : Nat) (_ : Who) (s : State) : Reply :=
  if 511 < c then .no s stNoObject
  else .shown (printAll [K.chState c, K.chMutes c, K.geApplied c, K.chPowerIn c, K.chPowerOut c, K.cxMargin c] [] s)

def execCh (c : Nat) (s : State) : Host.Outcome State Fault Refusal := .next (conRequest s (chBody c))

/-- LOG (R403): the last n records that can be read. -/
def logBody (n : Nat) (_ : Who) (s : State) : Reply :=
  if n = 0 ∨ 64 < n then .no s stRange
  else .shown (forL ((readable s).filter (fun e => decide (s.nat K.recNext ≤ e.1 + n))) streamRec (s.say "ok" []))

def execLog (n : Nat) (s : State) : Host.Outcome State Fault Refusal := .next (conRequest s (logBody n))

/-- WATCH (R403): an object is printed every ms milliseconds until any character arrives. -/
def watchBody (k ms : Nat) (_ : Who) (s : State) : Reply :=
  match Dict.rowOf k with
  | none => .no s stNoObject
  | some r =>
    if r.access = .wo then .no s stWrOnly
    else if ms < 100 ∨ 60000 < ms then .no s stRange
    else .ok { s with con := { s.con with watch := some (k, ms, s.time.now) } }

def execWatch (k ms : Nat) (s : State) : Host.Outcome State Fault Refusal := .next (conRequest s (watchBody k ms))

/-- The line of one print of a watch. -/
def watchLine (k : Nat) (s : State) : State :=
  match Dict.rowOf k with
  | none => s
  | some r => let x := readLive 2 r k s
    conLine stOk [] x.payload x.st

/-- WATCH_PRINT (R403): each print counts as one request. -/
def execWatchPrint (s : State) : Host.Outcome State Fault Refusal :=
  .next (match s.con.watch with
    | none => s
    | some (k, ms, last) =>
      if !s.serving ∨ s.time.now < last + ms * msTicks then s
      else conRequest s (fun _ t => .shown (watchLine k { t with con := { t.con with watch := some (k, ms, s.time.now) } })))

/-- WATCH_END (R403): any character ends the watch. -/
def execWatchEnd (s : State) : Host.Outcome State Fault Refusal := .next { s with con := { s.con with watch := none } }

/-- METER (R403, R404): source, scale (Q16.16) and offset of meter m are all written, or none. DEDUCED, log entry 93. -/
def meterBody (m k : Nat) (scale offset : Int) (w : Who) (s : State) : Reply :=
  let look (key : Nat) (v : Int) : Reply := conWrite key (leBytes 4 v) w s (fun _ _ t => .ok t)
  let r1 := look (K.mtrSource m) (k : Nat)
  let r2 := look (K.mtrScale m) scale
  let r3 := look (K.mtrOffset m) offset
  if 1 < m then .no s stNoObject
  else if r1.status ≠ some stOk then r1
  else if r2.status ≠ some stOk then r2
  else if r3.status ≠ some stOk then r3
  else .ok (((s.set (K.mtrScale m) scale).set (K.mtrOffset m) offset).set (K.mtrSource m) (k : Nat))

def execMeter (m k : Nat) (scale offset : Int) (s : State) : Host.Outcome State Fault Refusal :=
  .next (conRequest s (meterBody m k scale offset))

/-- TEST (R403): the verdict is printed at completion. -/
def testBody (kind inst : Nat) (w : Who) (s : State) : Reply :=
  let r := conWrite K.stRun (leBytes 2 ((kind * 256 + inst : Nat) : Int)) w s (stRunEffect true)
  if r.status = some stOk then .shown r.st else r

def execTest (kind inst : Nat) (s : State) : Host.Outcome State Fault Refusal := .next (conRequest s (testBody kind inst))

/-- TEST_ABORT (R407). -/
def testAbortBody (w : Who) (s : State) : Reply := conWrite K.stAbort [1] w s stAbortEffect

def execTestAbort (s : State) : Host.Outcome State Fault Refusal := .next (conRequest s testAbortBody)

/-- UNLOCK (R376, R403): the challenge is printed. -/
def unlockBody (l : Nat) (w : Who) (s : State) : Reply :=
  let r := conWrite K.secUnlock (leBytes 1 (l : Int)) w s unlockEffect
  if r.status = some stOk then ⟨r.st, some stOk, readOct r.st 2 K.secChallenge⟩ else r

def execUnlock (l : Nat) (s : State) : Host.Outcome State Fault Refusal := .next (conRequest s (unlockBody l))

/-- RESP (R376, R403). -/
def respBody (b : List Byte) (w : Who) (s : State) : Reply := conWrite K.secResponse b w s responseEffect

def execResp (b : List Byte) (s : State) : Host.Outcome State Fault Refusal := .next (conRequest s (respBody b))

/-- NOTE (R403, R410). -/
def noteBody (b : List Byte) (w : Who) (s : State) : Reply := conWrite K.rpNote b w s (plainWrite K.rpNote)

def execNote (b : List Byte) (s : State) : Host.Outcome State Fault Refusal := .next (conRequest s (noteBody b))

/-- REPAIR (R401, R403). -/
def repairBody (w : Who) (s : State) : Reply := conWrite K.pdRepair [1] w s repairEffect

def execRepair (s : State) : Host.Outcome State Fault Refusal := .next (conRequest s repairBody)

/-- The ledger entries written, oldest first. -/
def ledgerList (s : State) : List (List Byte) :=
  let g := s.nat K.pdRepairGen
  ((List.range 128).map (fun i => s.oct (K.rpEntry ((g + i) % 128)))).filter (fun b => decide (leAt b 0 2 ≠ 0))

/-- LEDGER (R403, R410). -/
def ledgerBody (_ : Who) (s : State) : Reply := .shown (forL (ledgerList s) (fun b s => s.emit (.line "" [] b)) (s.say "ok" []))

def execLedger (s : State) : Host.Outcome State Fault Refusal := .next (conRequest s ledgerBody)

end Sys2Proof.Machine
end

