-- ==== Sys2Proof/Machine/Dictionary.lean ====
section
/-! DEFINITION. The request kinds of the dictionary over every object (R30 to R51, R112 to R118, R127): READ with its staged and describe
forms, WRITE, STAGE, COMMIT, ABORT, SEGMENT, and the doorbell of the PCIe mailbox (R359). -/

namespace Sys2Proof.Machine

/-! ### Descriptors (R32, R44) -/

/-- Octets cut or padded with zeros to n. -/
def padTo (n : Nat) (b : List Byte) : List Byte := (b ++ List.replicate n 0).take n

/-- The UTF-8 octets of a character. -/
def utf8Char (c : Char) : List Byte :=
  let v := c.toNat
  let b (x : Nat) : Byte := BitVec.ofNat 8 x
  if v < 0x80 then [b v]
  else if v < 0x800 then [b (0xC0 + v / 64), b (0x80 + v % 64)]
  else if v < 0x10000 then [b (0xE0 + v / 4096), b (0x80 + v / 64 % 64), b (0x80 + v % 64)]
  else [b (0xF0 + v / 262144), b (0x80 + v / 4096 % 64), b (0x80 + v / 64 % 64), b (0x80 + v % 64)]

/-- The UTF-8 octets of characters. -/
def utf8 (l : List Char) : List Byte := l.flatMap utf8Char

/-- The decimal digits of a number. -/
def digits (n : Nat) : List Char := (Nat.toDigits 10 n)

/-- The instance number of an index in a row. -/
def ObjRow.inst (r : ObjRow) (index : Nat) : Nat := if r.stride = 0 then 0 else (index - r.base) / r.stride

/-- The dotted name of the object of a row at an instance and sub-index (R7). -/
def ObjRow.name (r : ObjRow) (inst sub : Nat) : List Char :=
  match r.nameVar with
  | 0 => r.nameA.toList
  | 1 => r.nameA.toList ++ digits (r.nameFrom + (sub - r.subLo)) ++ r.nameB.toList
  | _ => r.nameA.toList ++ digits inst ++ r.nameB.toList

/-- Access rights as Table 2-7 codes them. -/
def Access.code : Access → Int
  | .ro => 0 | .rw => 1 | .rwv => 2 | .wo => 3 | .cmd => 4

/-- Persistence classes as Table 2-7 codes them. -/
def Persist.code : Persist → Int
  | .v => 0 | .p => 1 | .j => 2

/-- RO objects for whose default the tables give none, or one per part or per image. DESIGN CHOICE, log entry 8. -/
def namesWithoutDefault : List String :=
  ["id.serial", "id.fw_version", "id.fw_build", "die.core.status", "die.wing0.status", "die.wing1.status", "die.wing2.status",
   "die.wing3.status", "die.pands.status", "clk.status", "mr.ident", "tb.now", "stw.newel", "port.temp", "syn.freq_now", "syn.cal_temp",
   "syn.vtune", "rx.power", "ch.power_in", "ch.power_out", "ge.apply_offset", "rec.record", "rec.perm_record", "rec.power_cycles",
   "rec.op_time", "sec.challenge", "sec.id_pub"]

/-- The default octets of a descriptor: none for a command and where the tables give none. -/
def defaultOctets (r : ObjRow) (k : Nat) : List Byte :=
  if r.access = .cmd ∨ r.access = .wo ∨ r.nameA ∈ namesWithoutDefault then []
  else if r.ty.octets then Dict.defaultBlob k
  else encodeVal r.ty (.num (Dict.default k))

/-- The descriptor of the object at key k (Table 2-7); a snapshot copy is RO. DESIGN CHOICE, log entry 8. -/
def describe (r : ObjRow) (k : Nat) : List Byte :=
  leBytes 2 (r.ty.code : Int) ++ leBytes 1 r.access.code ++ leBytes 1 (r.level : Int) ++ leBytes 1 r.persist.code ++ leBytes 1 0 ++
    leBytes 2 (r.maxLen : Int) ++ padTo 16 (utf8 r.unit.toList) ++ padTo 32 (utf8 (r.name (r.inst (k / 256)) (k % 256))) ++ defaultOctets r k

/-- The descriptor of a descriptor object (R32): U16 for sub-index 0 of an enumeration, STR for a value's name, RO at level 0; what else it
holds stands in no table. DESIGN CHOICE, log entry 8. -/
def describeDesc (index sub : Nat) : List Byte :=
  let more := Config.descriptor (65536 + index) sub
  let ty : List Byte := if index < 0x0100 then padTo 2 more else leBytes 2 (if sub = 0 then 3 else 0x000D)
  ty ++ leBytes 1 0 ++ leBytes 1 0 ++ leBytes 1 ((((more.map BitVec.toNat).sum % 3 : Nat)) : Int) ++ leBytes 1 0 ++
    (if 0x0100 ≤ index ∧ sub = 0 then leBytes 2 2 else padTo 2 (more.drop 2)) ++ more.drop 4

/-- What a descriptor object reads as: sub-index 0 of an enumeration gives the code of an integer type; the rest of their contents stands
in no table (DESIGN CHOICE, log entry 8). -/
def descriptorOctets (index sub : Nat) : List Byte :=
  if 0x0100 ≤ index ∧ sub = 0 then leBytes 2 ((2 + ((Config.descriptor index 0).map BitVec.toNat).sum % 8 : Nat) : Int)
  else Config.descriptor index sub

/-! ### READ (R33, R38, R43) -/

/-- The value in effect of an object. -/
def valueBody (w : Who) (f : Frame) (s : State) : Reply :=
  match lookup f.index f.sub with
  | none => .no s stNoObject
  | some (.desc i sub) => ⟨s, some stOk, descriptorOctets i sub⟩
  | some (.copy r k) => ⟨s, some stOk, readCopy r k s⟩
  | some (.live r k) => if r.access = .wo then .no s stWrOnly else readLive w.flow r k s

/-- The value staged in the requester's own open transaction. -/
def stagedBody (w : Who) (f : Frame) (s : State) : Reply :=
  match lookup f.index f.sub with
  | none => .no s stNoObject
  | some o =>
    if (match o with | .live r _ => decide (r.access = Access.wo) | _ => false) then .no s stWrOnly
    else match txOf s w.flow [1, 2, 6, 7], o with
      | none, _ => .no s stNoTx
      | some (_, t), .live r k =>
        (match t.staged.find? (fun (e : Nat × Val) => decide (e.1 = k)) with
         | some e => ⟨s, some stOk, encodeVal r.ty e.2⟩
         | none => .no s stNotStaged)
      | some _, _ => .no s stNotStaged

/-- The descriptor of an object; a READ of a WO object is refused in this form too (Table 2-2, R43). -/
def describeBody (_ : Who) (f : Frame) (s : State) : Reply :=
  match lookup f.index f.sub with
  | none => .no s stNoObject
  | some (.desc i sub) => ⟨s, some stOk, describeDesc i sub⟩
  | some (.copy r k) => ⟨s, some stOk, describe { r with access := .ro, level := 0, persist := .v } k⟩
  | some (.live r k) => if r.access = .wo then .no s stWrOnly else ⟨s, some stOk, describe r k⟩

/-- A READ of any form. -/
def readBody (w : Who) (f : Frame) (s : State) : Reply :=
  if f.describe then describeBody w f s else if f.staged then stagedBody w f s else valueBody w f s

/-- READ (R38). -/
def execRead (f : Frame) (s : State) : Host.Outcome State Fault Refusal :=
  .next (request kRead { f with describe := false, staged := false } s readBody)

/-- READ_STAGED (R37). -/
def execReadStaged (f : Frame) (s : State) : Host.Outcome State Fault Refusal :=
  .next (request kRead { f with staged := true } s readBody)

/-- READ_DESCRIBE (R44). -/
def execReadDescribe (f : Frame) (s : State) : Host.Outcome State Fault Refusal :=
  .next (request kRead { f with describe := true } s readBody)

/-! ### WRITE (R33, R43) -/

/-- The execution of a command object by its key. -/
def cmdEffect (k : Nat) (w : Who) (v : Val) (s : State) : Reply :=
  let i := k / 256
  let sub := k % 256
  if k = K.dzCanaReset then canResetEffect 0 w v s
  else if k = K.dzCanbReset then canResetEffect 1 w v s
  else if 0x1100 ≤ i ∧ i < 0x1148 then unfreezeEffect (i - 0x1100) w v s
  else if k = K.tbAdjust then adjustEffect w v s
  else if 0x2048 ≤ i ∧ i < 0x204B then retrainEffect (i - 0x2048) w v s
  else if k = K.snapLocal then snapLocalEffect w v s
  else if k = K.snapSystem then snapSystemEffect w v s
  else if k = K.admDryRun then dryRunEffect w v s
  else if k = K.txOpen then txOpenEffect w v s
  else if k = K.jrRebuild then jrRebuildEffect w v s
  else if k = K.txSysResolve then resolveEffect w v s
  else if 0x3000 ≤ i ∧ i < 0x3400 ∧ i % 32 = 0 then loopbackEffect ((i - 0x3000) / 32) w v s
  else if 0x3000 ≤ i ∧ i < 0x3400 ∧ sub = 1 then calStartEffect ((i - 0x3000) / 32) w v s
  else if 0x3000 ≤ i ∧ i < 0x3400 then calAbortEffect ((i - 0x3000) / 32) w v s
  else if 0x6800 ≤ i ∧ i < 0x7000 then cxResetEffect ((i - 0x6800) / 4) w v s
  else if 0x7010 ≤ i ∧ i < 0x7030 then hmClearEffect (i - 0x7010) w v s
  else if i = 0x7048 ∨ i = 0x7049 then oscRestartNowEffect ((i - 0x7048) * 256 + sub) w v s
  else if 0x7110 ≤ i ∧ i < 0x7128 ∧ sub = 6 then tmInjectEffect (i - 0x7110) w v s
  else if 0x7110 ≤ i ∧ i < 0x7128 ∧ sub = 7 then tmCalEffect (i - 0x7110) w v s
  else if 0x7110 ≤ i ∧ i < 0x7128 then tmOvrClearEffect (i - 0x7110) w v s
  else if i = 0x71A6 ∨ i = 0x71A7 then accClearEffect ((i - 0x71A6) * 128 + sub) w v s
  else if i = 0x71C8 ∨ i = 0x71C9 then trClearEffect ((i - 0x71C8) * 128 + sub) w v s
  else if 0x7240 ≤ i ∧ i < 0x7258 then peakClearEffect (i - 0x7240) w v s
  else if 0x7300 ≤ i ∧ i < 0x7320 ∧ sub = 0x1E then fdAbortEffect (i - 0x7300) w v s
  else if 0x7300 ≤ i ∧ i < 0x7320 then fdRestartEffect (i - 0x7300) w v s
  else if k = K.thLearn then thLearnEffect w v s
  else if k = K.fltClear then fltClearEffect w v s
  else if k = K.fltClearAll then fltClearAllEffect w v s
  else if k = K.fltStickyClear then stickyClearEffect w v s
  else if k = K.recFlush then recFlushEffect w v s
  else if k = K.galArm then galArmEffect w v s
  else if k = K.galTrigger then galTriggerEffect w v s
  else if k = K.galAbort then galAbortEffect w v s
  else if k = K.galRelease then galReleaseEffect w v s
  else if k = K.galFormat then galFormatEffect w v s
  else if 0x7810 ≤ i ∧ i < 0x7830 then dmaRunEffect (i - 0x7810) w v s
  else if k = K.secRootInstall then rootInstallEffect w v s
  else if k = K.secCredInstall then credInstallEffect w v s
  else if k = K.secUnlock then unlockEffect w v s
  else if k = K.secResponse then responseEffect w v s
  else if k = K.secPermitInstall then permitInstallEffect w v s
  else if k = K.secRevoke then revokeEffect w v s
  else if k = K.secFwWrite then fwWriteEffect w v s
  else if k = K.secFwCommit then fwCommitEffect w v s
  else if k = K.secFwConfirm then fwConfirmEffect w v s
  else if k = K.pdRepair then repairEffect w v s
  else if k = K.stRun then stRunEffect (decide (w.flow = 2)) w v s
  else if k = K.stAbort then stAbortEffect w v s
  else .ok s

/-- The zone whose threshold a key is; its thresholds rise strictly (Table 14-4). -/
def thresholdZone (k : Nat) : Option Nat :=
  if 0x7420 ≤ k / 256 ∧ k / 256 < 0x7428 ∧ k % 256 ∈ [1, 3, 5] then some (k / 256 - 0x7420) else none

/-- DEDUCED, log entry 99. -/
def thresholdsRise (s : State) (z : Nat) : Bool :=
  decide (s.num (K.thWarn z) < s.num (K.thThrottle z)) && decide (s.num (K.thThrottle z) < s.num (K.thShutdown z))

/-- A setting of a DMA engine (R369). DEDUCED, log entry 98. -/
def dmaSetting (k : Nat) : Option Nat :=
  if 0x7810 ≤ k / 256 ∧ k / 256 < 0x7830 ∧ 1 ≤ k % 256 ∧ k % 256 ≤ 6 then some (k / 256 - 0x7810) else none

/-- Objects that a running Banister hold keeps from being written (R412). -/
def banisterHolds (s : State) (k : Nat) : Bool :=
  decide (s.num K.banState ≠ 0) &&
    (decide (k = K.banTime) || decide (k = K.banFeeds) || decide (k = K.banPress) ||
      (List.range 8).any (fun n => (decide (k = K.keyMode n) || decide (k = K.keyFunction n)) && decide (s.num (K.keyFunction n) = 1)))

/-- What a write of an RW object does (R33): it takes its value at once; the label of the next PPS edge also its tick (R66), the priority word what it
selects (R61), and the
cursors belong to their master (R343); a larger burst finds the bucket as full as it was (R48). DEDUCED, log entry 42. DEDUCED, log entry 98. DEDUCED, log entry 99. -/
def settingEffect (k : Nat) (w : Who) (v : Val) (s : State) : Reply :=
  if banisterHolds s k then .no s stBusy
  else if k = K.tbTodNext then .ok (todEffect v.int s)
  else if k = K.tbSourcePriority then .ok (priorityEffect v.int s)
  else if k = K.recCursor then .ok (s.setMaster w.flow { s.master w.flow with cursor := v.int.toNat })
  else if k = K.recPermCursor then .ok (s.setMaster w.flow { s.master w.flow with permCursor := v.int.toNat })
  else if 0x1100 ≤ k / 256 ∧ k / 256 < 0x1148 ∧ k % 256 = 6 then .ok ((keepTokens [k / 256 - 0x1100] s).setVal k v)
  else match dmaSetting k, thresholdZone k with
    | some e, _ => if s.num (K.dmaState e) = 1 then .no s stRange else .ok (s.setVal k v)
    | none, some z => if thresholdsRise (s.setVal k v) z then .ok (s.setVal k v) else .no s stRange
    | none, none => .ok (s.setVal k v)

/-- The execution of a write. -/
def writeAct (w : Who) (r : ObjRow) (k : Nat) (v : Val) (s : State) : Reply :=
  if r.access = .cmd ∨ r.access = .wo then cmdEffect k w v s else settingEffect k w v s

/-- WRITE: a setting of a DMA engine is RO to every master but 1 (R369). DEDUCED, log entry 98. -/
def writeBody (w : Who) (f : Frame) (s : State) : Reply :=
  if (dmaSetting (f.index * 256 + f.sub)).isSome ∧ f.sub < 256 ∧ w.flow ≠ 1 then .no s stRdOnly
  else examineWrite kWrite w f s writeAct

/-- WRITE (R43). -/
def execWrite (f : Frame) (s : State) : Host.Outcome State Fault Refusal := .next (request kWrite f s writeBody)

/-! ### STAGE (R49, R112, R113) -/

/-- The staged values a part may hold (Table 2-6). -/
abbrev maxStaged : Nat := 16384

/-- Put a value into a staged list in place of one of the same object. -/
def putStaged (k : Nat) (v : Val) : List (Nat × Val) → List (Nat × Val)
  | [] => [(k, v)]
  | e :: l => if e.1 = k then (k, v) :: l else e :: putStaged k v l

/-- A launch entry that a waiting commit holds (R87). DEDUCED, log entry 49. -/
def heldEntry (s : State) (k : Nat) : Bool :=
  match entryOf k with
  | some n => decide (s.num (K.ltStatus n) = leArmed) && decide (leAt (s.oct k) 8 1 = 0x0D)
  | none => false

/-- Store a value against the transaction of a flow, opening a local one where it has none. DEDUCED, log entry 72. -/
def stageAct (w : Who) (_ : ObjRow) (k : Nat) (v : Val) (s : State) : Reply :=
  let put (i : Nat) (t : Tx) (s : State) : State :=
    setSlot i (some { t with staged := putStaged k v t.staged, lastActive := s.time.now }) s
  if heldEntry s k then .no s stBusy
  else match txOf s w.flow [1, 2] with
    | some (i, t) =>
      if t.state = 2 then .no s stBusy
      else if t.staged.any (fun e => decide (e.1 = k)) then .ok (put i t s)
      else if maxStaged ≤ stagedCount s then .no s stVFull
      else .ok (put i t s)
    | none =>
      if maxStaged ≤ stagedCount s then .no s stVFull
      else match openTx 1 w.flow (ownerOf s w.flow).1 (ownerOf s w.flow).2 0 s with
        | none => .no s stTxLimit
        | some (i, s1) => (match s1.slot i with | some t => .ok (put i t s1) | none => .ok s1)

/-- STAGE. -/
def stageBody (w : Who) (f : Frame) (s : State) : Reply := examineWrite kStage w f s stageAct

/-- STAGE (R113). -/
def execStage (f : Frame) (s : State) : Host.Outcome State Fault Refusal := .next (request kStage f s stageBody)

/-! ### COMMIT and ABORT (R114, R116 to R118) -/

/-- COMMIT: NOTX without an Open transaction of the flow; a launch tick that is no time is RANGE. A branch is committed by its home
alone. DEDUCED, log entry 72. -/
def commitBody (w : Who) (f : Frame) (s : State) : Reply :=
  let word := leAt f.payload 0 8
  match txOf s w.flow [1] with
  | none => .no s stNoTx
  | some (i, t) =>
    if t.kind = 3 then .no s stNoTx
    else if word ≠ noTime ∧ !tbValidWord word then .no s stRange
    else if t.kind = 1 then commitLocal i t f (requestedTick word) s
    else commitSystem i t f (requestedTick word) s

/-- COMMIT (R114). -/
def execCommit (f : Frame) (s : State) : Host.Outcome State Fault Refusal := .next (request kCommit f s commitBody)

/-- A transaction of the flow whose acceptance completed in this tick (R117): its number. -/
def acceptedNow (s : State) (flow : Nat) : Option Nat :=
  (s.tx.accepted.find? (fun a => decide (a.flow = flow) && decide (a.since = some s.time.now))).map (fun a => a.number)

/-- ABORT: of an Open transaction, of a local one whose record is not durable, or of a system one that the Newel decides on, whose home may have
voted yes already. One that was accepted in the tick of the ABORT stands, and is answered ABORT_LATE (R117, R118). DEDUCED, log entry 72. -/
def abortBody (w : Who) (f : Frame) (s : State) : Reply :=
  match txOf s w.flow [1, 2] with
  | some (i, t) =>
    if t.kind = 3 then .no s stNoTx
    else if t.state = 1 then ⟨abortSlot i t s, some stAborted, leBytes 4 (t.number : Int)⟩
    else if t.kind = 1 then ⟨abortCommitting i t s, some stAborted, leBytes 4 (t.number : Int)⟩
    else abortSystem i t f s
  | none => match txOf s w.flow [6, 7], acceptedNow s w.flow with
    | some (i, t), _ => if t.kind = 2 ∧ t.req.isSome then abortSystem i t f s else .no s stNoTx
    | none, some n => ⟨s.inc K.txAbortsLate 32, some stAbortLate, leBytes 4 (n : Int)⟩
    | none, none => .no s stNoTx

/-- ABORT (R116). -/
def execAbort (f : Frame) (s : State) : Host.Outcome State Fault Refusal := .next (request kAbort f s abortBody)

/-! ### SEGMENT (R39) -/

/-- What a completed request of a kind is handed to. -/
def bodyOf (kind : Nat) : Who → Frame → State → Reply :=
  match kind with
  | 0 => readBody
  | 1 => writeBody
  | 2 => stageBody
  | 3 => commitBody
  | _ => abortBody

/-- The octets a SEGMENT frame must carry where so many are still to come. -/
def segmentDue (left : Nat) : Nat := min 62 left

/-- SEGMENT (R39, R41, R43): MALFORMED with no value in progress or with octets that do not fit it, SEQUENCE with any seq but the next;
the last one completes the request, and a repeat of the last one is answered again. No token is taken. DEDUCED, log entry 13. -/
def takeSegment (g : SegFrame) (s : State) : State :=
  if !s.serving || !forThisPart s g.org then s
  else match whoSends g.org s with
    | (none, s0) => noSlot g.org 6 g.seq 0 0 s0
    | (some w, s0) =>
      let x := s0.master w.flow
      let blank : Frame := ⟨g.org, g.seq, false, false, false, false, 0, 0, 0, []⟩
      if s0.num (K.mrFrozen w.charged) ≠ 0 then respond w 6 blank stFrozen [] s0
      else match x.seg with
        | none => violate w 6 blank stMalformed s0
        | some (kind, f, got, next) =>
          let s1 := s0.setMaster w.flow { x with seg := none }
          if g.resv ∨ g.payload.length ≠ segmentDue (f.length - got.length) then violate w kind f stMalformed s1
          else if g.seq ≠ next then violate w kind f stSequence s1
          else
            let all := got ++ g.payload
            let repeated := beginsRepeat s0 w kind { f with payload := got }
            let s2 := if repeated then s1 else markSeq w g.seq s1
            if repeated && !beginsRepeat s1 w kind { f with payload := all } && !isRepeat s1 w kind { f with payload := all } then
              violate w kind f stSequence s1
            else if repeated && isRepeat s1 w kind { f with payload := all } then
              respond w kind f (s1.master w.flow).lastRsp.status (s1.master w.flow).lastRsp.payload s1
            else if all.length < f.length then s2.setMaster w.flow { s2.master w.flow with seg := some (kind, f, all, (next + 1) % 256) }
            else
              let whole := { f with payload := all }
              finish w kind whole (bodyOf kind w whole s2)

/-- SEGMENT. -/
def execSegment (g : SegFrame) (s : State) : Host.Outcome State Fault Refusal := .next (takeSegment g s)

/-! ### The mailbox (R359) -/

/-- Whether bit n of an octet is set. -/
def octBit (b : List Byte) (o n : Nat) : Bool := (leAt b o 1).testBit n

/-- A first frame as Table 2-5 lays it out, from the octets of a slot. -/
def slotFrame (b : List Byte) : Frame :=
  ⟨.master 1, leAt b 1 1, octBit b 0 3, octBit b 0 2, octBit b 0 1, octBit b 0 4 || octBit b 0 0 || decide (4 < leAt b 0 1 / 32) || decide (leAt b 5 1 ≠ 0),
   leAt b 2 2, leAt b 4 1, leAt b 6 2, (b.drop 8).take (min 56 (leAt b 6 2))⟩

/-- A SEGMENT frame from the octets of a slot, where so many octets are still to come. -/
def slotSegment (b : List Byte) (left : Nat) : SegFrame :=
  ⟨.master 1, leAt b 1 1, octBit b 0 4 || octBit b 0 2 || octBit b 0 1 || octBit b 0 0 || (octBit b 0 3 != decide (62 < left)),
   (b.drop 2).take (segmentDue left)⟩

/-- Octets still to come of the value in progress of a flow. -/
def segmentLeft (s : State) (flow : Nat) : Nat :=
  match (s.master flow).seg with
  | some (_, f, got, _) => f.length - got.length
  | none => 62

/-- The part takes one frame from a slot of 64 octets. DEDUCED, log entry 97. -/
def takeSlot (slot : Slot) (s : State) : State :=
  let b := padTo 64 slot
  let kind := leAt b 0 1 / 32
  let s1 := { s with host := { s.host with reqCons := (s.host.reqCons + 1) % 65536 } }
  if kind = 6 then takeSegment (slotSegment b (segmentLeft s1 1)) s1
  else request kind (slotFrame b) s1 (bodyOf kind)

/-- MB_REQ_PROD (R359): the doorbell is written with v; slots holds the octets of the request slots from MB_REQ_CONS on. A value that
moves backwards, or by more than 2,048, is a MALFORMED violation, and no frame is taken. DEDUCED, log entry 97. -/
def execMbReqProd (v : Nat) (slots : List Slot) (s : State) : Host.Outcome State Fault Refusal :=
  .next (if !s.serving then s
    else
      let n := indexStep s.host.reqCons v
      let ring : Tab (List Byte) := slots.zipIdx.foldl (fun (t : Tab (List Byte)) (e : Slot × Nat) => Tab.put (fun _ => []) ((s.host.reqCons + e.2) % 2048) (padTo 64 e.1) t) s.host.reqRing
      let s1 : State := { s with host := { s.host with reqProd := v % 65536, reqRing := ring } }
      if 2048 < n then (if s1.num (K.mrFrozen 1) = 0 then freeze 1 stMalformed s1 else s1)
      else forL ((List.range n).map (fun i => (slots[i]?).getD [])) takeSlot s1)

/-! ### The Stairway tunnel (R46, R77) -/

/-- A response to a master of this part, from the part it was tunnelled to: a violation, a rate breach aside, is charged to the master here,
and the master is handed the frame. The console prints its line once the whole value is here. DEDUCED, log entry 115. -/
def tunnelAnswer (om kind seq index sub status length : Nat) (payload : List Byte) (s : State) : State :=
  if om = 0 ∨ 72 ≤ om then s
  else
    let s1 := if stLevel ≤ status ∧ status ≤ stOutsideTx ∧ status ≠ stRate then freeze om status s else s
    let w : Who := ⟨om, om, 0, false⟩
    let f : Frame := ⟨.master om, seq, false, false, false, false, index, sub, length, payload⟩
    if om = 2 ∧ payload.length < length then { s1 with con := { s1.con with reply := some (status, length, payload) } }
    else respond w kind f status payload s1

/-- A SEGMENT frame of such a response. -/
def tunnelAnswerSegment (om seq : Nat) (more : Bool) (payload : List Byte) (s : State) : State :=
  if om = 1 then ringFrame (.segment 1 seq more payload) s
  else if om = 2 then
    (match s.con.reply with
     | some (status, length, got) =>
       let s1 := { s with con := { s.con with reply := if (got ++ payload).length < length then some (status, length, got ++ payload) else none } }
       if (got ++ payload).length < length then s1
       else s1.emit (.line (if status ≤ stAbortLate then "ok" else "err") [(status : Int)] (got ++ payload))
     | none => s)
  else if om = 0 ∨ 72 ≤ om then s
  else s.emit (.segment om seq more payload)

/-- A tunnelled frame for this part: a request or a SEGMENT frame of one, handled under R43, or a response to one of its masters. -/
def takeTunnelled (link : Nat) (h : TunHdr) (b : List Byte) (s : State) : State :=
  let kind := leAt b 0 1 / 32
  let org : Origin := .tunnel link h.origin h.om h.level
  if octBit b 0 4 then
    if kind = 6 then tunnelAnswerSegment h.om (leAt b 1 1) (octBit b 0 3) (b.drop 2) s
    else tunnelAnswer h.om kind (leAt b 1 1) (leAt b 2 2) (leAt b 4 1) (leAt b 5 1) (leAt b 6 2) (b.drop 8) s
  else if kind = 6 then
    takeSegment { slotSegment b (segmentLeft s (tunnelFlow h.origin h.om)) with org := org, payload := b.drop 2 } s
  else request kind { slotFrame b with org := org, payload := b.drop 8 } s (bodyOf kind)

/-- A frame that counts against the allowance of the neighbour it arrives through: the first frame of a request (R39, R46). -/
def counted (b : List Byte) : Bool := !octBit b 0 4 && decide (leAt b 0 1 / 32 ≠ 6)

/-- Forward a frame (R46, R77): a duplicated address drops it, a hop count that reaches 0 drops it, each with a Notice; else it goes on. -/
def forward (link : Nat) (h : TunHdr) (b : List Byte) (s : State) : State :=
  if duplicated s h.dest ∨ h.hops = 1 then fault 0x05 link 0 (evCode 0x02 0) h.dest h.origin h.om h.hops s
  else s.emit (.tunnel (routeOf s h.dest) { h with hops := h.hops - 1 } b)

/-- TUNNEL_FORWARD (R46, R77): a frozen neighbour's traffic stops; a bad header or a rate breach freezes the neighbour master of the link,
but on the hold oscillator an empty bucket is answered BUSY (R48); a frame for this part is handled here; any other is forwarded. DEDUCED, log
entry 115. -/
def execTunnelForward (link : Nat) (x : TunFrame) (s : State) : Host.Outcome State Fault Refusal :=
  .next (
    let h := x.hdr
    let frame := x.octets
    let m := 3 + link
    if s.num (K.mrFrozen m) ≠ 0 then s
    else if headerBad h then freeze m stMalformed s
    else if h.dest = s.nat K.stwAddr ∧ !duplicated s h.dest then takeTunnelled link h frame s
    else if !counted frame then forward link h frame s
    else if !hasToken s m then
      (if s.holdOsc then
        respond ⟨tunnelFlow h.origin h.om, m, 0, true⟩ (leAt frame 0 1 / 32) (slotFrame frame) stBusy [] s
       else freeze m stRate s)
    else forward link h frame (takeToken m s))

/-- TUNNEL_LEVEL_RESPONSE (R46): the LEVEL response of a destination to a request (kind, seq, index, sub) of a master of this part, which is
the origin part: it freezes the master and hands it the response. Of a master that is frozen already, the freeze counts again and overwrites
mr.frozen_level with the level held now (DESIGN CHOICE, log entry 116). -/
def execTunnelLevelResponse (r : TunLevel) (s : State) : Host.Outcome State Fault Refusal :=
  .next (if r.hdr.dest = s.nat K.stwAddr then tunnelAnswer r.hdr.om r.kind r.seq r.index r.sub stLevel 0 [] s else s)

end Sys2Proof.Machine
end

