-- ==== Sys2Proof/Machine/Console.lean ====
section
/-! DEFINITION. The console's lines (R47, R403): names, values, the dictionary lines of Table 2-10, the service commands of Table 20-1, values
continued over several lines, and tunnelled lines (R46, R127). -/

namespace Sys2Proof.Machine

/-! ### Words and numbers -/

abbrev Chars := List Char

/-- The next word of a line, and what follows it. -/
def wordOf (l : Chars) : Chars × Chars :=
  let m := l.dropWhile (fun c => c == ' ')
  (m.takeWhile (fun c => c != ' '), (m.dropWhile (fun c => c != ' ')).dropWhile (fun c => c == ' '))

/-- Without the spaces at its end. -/
def trimEnd (l : Chars) : Chars := (l.reverse.dropWhile (fun c => c == ' ')).reverse

def decDigit (c : Char) : Option Nat := if '0' ≤ c ∧ c ≤ '9' then some (c.toNat - 48) else none

def hexDigit (c : Char) : Option Nat :=
  if '0' ≤ c ∧ c ≤ '9' then some (c.toNat - 48)
  else if 'a' ≤ c ∧ c ≤ 'f' then some (c.toNat - 87)
  else if 'A' ≤ c ∧ c ≤ 'F' then some (c.toNat - 55)
  else none

/-- The number of one or more digits to a base. -/
def numberOf (base : Nat) (dig : Char → Option Nat) : Chars → Option Nat
  | [] => none
  | l => l.foldl (fun acc c => match acc, dig c with | some a, some d => some (a * base + d) | _, _ => none) (some 0)

/-- A natural number, decimal or 0x hexadecimal. -/
def parseNat (l : Chars) : Option Nat :=
  match l with
  | '0' :: 'x' :: h => numberOf 16 hexDigit h
  | _ => numberOf 10 decDigit l

/-- An integer, decimal or 0x hexadecimal. -/
def parseInt (l : Chars) : Option Int :=
  match l with
  | '-' :: m => (parseNat m).map (fun n => -(n : Int))
  | _ => (parseNat l).map (fun n => (n : Int))

/-- num / den to the nearest whole number; where two are nearest, either (DEDUCED, log entry 5). -/
def nearest (num den : Nat) : Nat :=
  let q := num / den
  let r := num % den
  if 2 * r < den then q else if den < 2 * r then q + 1 else if Config.roundUp num den then q + 1 else q

/-- A decimal fraction as a Q16.16 word, rounded to the nearest. -/
def parseQ16 (l : Chars) : Option Int :=
  let (neg, m) : Bool × Chars := match l with | '-' :: m => (true, m) | _ => (false, l)
  let a := m.takeWhile (fun c => c != '.')
  let b := m.dropWhile (fun c => c != '.')
  let mag : Option Nat := match b with
    | [] => (numberOf 10 decDigit a).map (fun n => n * 65536)
    | _ :: f => match numberOf 10 decDigit a, numberOf 10 decDigit f with
      | some n, some d => some (nearest ((n * 10 ^ f.length + d) * 65536) (10 ^ f.length))
      | _, _ => none
  mag.map (fun n => if neg then -(n : Int) else (n : Int))

/-- epoch:SFN:tick as a TB64 word. -/
def parseTime (l : Chars) : Option Nat :=
  match (l.splitOn ':').map (numberOf 10 decDigit) with
  | [some e, some f, some t] => if e < 2 ^ 30 ∧ f < 1024 ∧ t < 2 ^ 24 then some (e * 2 ^ 34 + f * 2 ^ 24 + t) else none
  | _ => none

/-- Octets as hexadecimal pairs. DEDUCED, log entry 95. -/
def hexPairs : Chars → Option (List Byte)
  | [] => some []
  | a :: b :: l => match hexDigit a, hexDigit b, hexPairs l with
    | some x, some y, some t => some (BitVec.ofNat 8 (16 * x + y) :: t)
    | _, _, _ => none
  | _ => none

/-- Octets that one line may carry. -/
def lineOctets (l : Chars) : Option (List Byte) :=
  match hexPairs l with
  | some b => if b.length ≤ 96 then some b else none
  | none => none

/-- A string in double quotes. -/
def quoted (l : Chars) : Option (List Byte) :=
  match l, l.reverse with
  | '"' :: m, '"' :: _ => if 2 ≤ l.length ∧ '"' ∉ m.dropLast then some (utf8 m.dropLast) else none
  | _, _ => none

/-! ### Objects by name -/

/-- What a word names. -/
inductive Named where
  | obj (index sub : Nat)
  | nothing
  | bad
  deriving DecidableEq, Repr

/-- The objects of a row that carry a dotted name. -/
def ObjRow.carriers (r : ObjRow) (l : Chars) : List (Nat × Nat) :=
  if r.nameA.toList <+: l then
    (List.range r.count).flatMap (fun i => (List.range (r.subHi + 1 - r.subLo)).filterMap (fun j =>
      let index := r.base + i * r.stride
      if r.name i (r.subLo + j) = l ∧ r.holds index (r.subLo + j) then some (index, r.subLo + j) else none))
  else []

/-- Every row of the dictionary. -/
def allRows : List ObjRow :=
  [0x1000, 0x1010, 0x1100, 0x2000, 0x2100, 0x2200, 0x3000, 0x4000, 0x6000, 0x6800, 0x7000, 0x7100, 0x7200, 0x7300, 0x7400, 0x7500, 0x7600,
   0x7700, 0x7800, 0x7900, 0x7A00, 0x7B00].flatMap rowsFor

/-- The object a word names (R7, R47): 0xIIII.SS, or a dotted name that exactly one object carries. DEDUCED, log entry 95. -/
def parseObj (l : Chars) : Named :=
  match l with
  | '0' :: 'x' :: a :: b :: c :: d :: '.' :: e :: f :: [] =>
    (match numberOf 16 hexDigit [a, b, c, d], numberOf 16 hexDigit [e, f] with
     | some i, some j => .obj i j
     | _, _ => .bad)
  | _ =>
    if l = [] ∨ l.any (fun c => !(c.isLower || c.isDigit || c == '.' || c == '_')) then .bad
    else match allRows.flatMap (fun r => r.carriers l) with
      | [] => .nothing
      | [(i, j)] => .obj i j
      | _ => .bad

/-! ### Values -/

/-- Octets of a number where the type holds it. -/
def numOctets (t : Ty) (v : Int) : Option (List Byte) :=
  let n := t.size
  let lo : Int := if t.signed then -(2 ^ (8 * n - 1)) else 0
  let hi : Int := if t.signed then 2 ^ (8 * n - 1) else 2 ^ (8 * n)
  if lo ≤ v ∧ v < hi then some (leBytes n v) else none

/-- The value of a word as its type is written; the inner none is a number beyond the type. -/
def parseVal (t : Ty) (l : Chars) : Option (Option (List Byte)) :=
  match t with
  | .str => (quoted l).map some
  | .blob => if l = [] then none else (lineOctets l).map some
  | .tb64 => (parseTime l).map (fun n => some (leBytes 8 (n : Int)))
  | .q16 => (parseQ16 l).map (numOctets .q16)
  | .bool => if l = ['0'] then some (some [0]) else if l = ['1'] then some (some [1]) else none
  | t => (parseInt l).map (numOctets t)

/-- The value of a line: octets continued over lines, or a word of the object's type; an object that is none has any word. -/
def valueArg (index sub : Nat) (l : Chars) (octs : Option (List Byte)) : Option (Option (List Byte)) :=
  match rowFor index sub, octs with
  | some r, some b => if r.ty = .blob then some (some b) else none
  | some r, none => parseVal r.ty l
  | none, some b => some (some b)
  | none, none => if l = [] then none else some (some [])

/-! ### Line bodies -/

abbrev LineBody := Who → State → Reply

/-- The frame of a line. -/
def lineFrame (index sub : Nat) (describe staged : Bool) (b : List Byte) : Frame :=
  ⟨.master 2, 0, false, describe, staged, false, index, sub, b.length, b⟩

/-- 32 octets a line. -/
def chunks32 : Nat → List Byte → List (List Byte)
  | 0, _ => []
  | n + 1, b => if b = [] then [] else b.take 32 :: chunks32 n (b.drop 32)

/-- rd, rd? and desc: a BLOB is printed in lines of 32 octets. -/
def readLine (f : Frame) (w : Who) (s : State) : Reply :=
  let r := readBody w f s
  let blob : Bool := match rowFor f.index f.sub with | some r => decide (r.ty = .blob) | none => false
  if r.status = some stOk ∧ blob ∧ !f.describe then
    .shown (forL (chunks32 r.payload.length r.payload) (fun b s => s.emit (.line "" [] b)) (r.st.say "ok" [0]))
  else r

/-- A number beyond its type: the tests up to the value, then RANGE. -/
def beyondType (kind : Nat) (f : Frame) (w : Who) (s : State) : Reply :=
  match rowFor f.index f.sub with
  | none => .no s stNoObject
  | some r =>
    let r1 := examineWrite kind w { f with payload := List.replicate r.ty.size 0 } s (fun _ _ _ _ t => .ok t)
    if r1.status = some stOk ∨ r1.status = some stBusy then .no s stRange else r1

/-- wr and st. -/
def writeLine (kind index sub : Nat) (v : Option (List Byte)) : LineBody :=
  match v with
  | some b => fun w s => bodyOf kind w (lineFrame index sub false false b) s
  | none => beyondType kind (lineFrame index sub false false [])

/-- A dictionary line: its kind, the frame it is the equivalent of (none where it is refused before there is one), and its body. -/
structure DictLine where
  kind : Nat
  frame : Option Frame
  body : LineBody

/-- A line about an object: none does not parse. -/
def objLine (l : Chars) (kind : Nat) (body : Nat → Nat → Option (Option Frame × LineBody)) : Option DictLine :=
  match parseObj l with
  | .bad => none
  | .nothing => some ⟨kind, none, fun _ s => .no s stNoObject⟩
  | .obj i j => (body i j).map (fun x => ⟨kind, x.1, x.2⟩)

/-- A line that reads, and one that writes or stages a value. -/
def readForm (describe staged : Bool) (i j : Nat) : Option (Option Frame × LineBody) :=
  let f := lineFrame i j describe staged []
  some (some f, readLine f)

def writeForm (kind : Nat) (octs : Option (List Byte)) (arg : Chars) (i j : Nat) : Option (Option Frame × LineBody) :=
  (valueArg i j arg octs).map (fun v => (v.map (lineFrame i j false false), writeLine kind i j v))

/-- The dictionary lines of Table 2-10. -/
def dictLine (l : Chars) (octs : Option (List Byte)) : Option DictLine :=
  let (cmd, rest) := wordOf l
  let (a, more) := wordOf rest
  if cmd = "rd".toList ∧ more = [] then objLine a kRead (readForm false false)
  else if cmd = "rd?".toList ∧ more = [] then objLine a kRead (readForm false true)
  else if cmd = "desc".toList ∧ more = [] then objLine a kRead (readForm true false)
  else if cmd = "wr".toList ∧ a ≠ [] then objLine a kWrite (writeForm kWrite octs (trimEnd more))
  else if cmd = "st".toList ∧ a ≠ [] then objLine a kStage (writeForm kStage octs (trimEnd more))
  else if cmd = "commit".toList ∧ more = [] then
    (if a = "now".toList then some noTime else parseTime a).map (fun t =>
      let f := lineFrame 0 0 false false (leBytes 8 (t : Int))
      ⟨kCommit, some f, fun w s => commitBody w f s⟩)
  else if cmd = "abort".toList ∧ a = [] then
    let f := lineFrame 0 0 false false []
    some ⟨kAbort, some f, fun w s => abortBody w f s⟩
  else none

/-- A meter's number beyond its type is RANGE. -/
def meterLine (m k : Nat) (scale offset : Int) : LineBody :=
  if (numOctets .q16 scale).isSome ∧ (numOctets .i32 offset).isSome then meterBody m k scale offset else fun _ s => .no s stRange

/-- The service commands of Table 20-1. -/
def serviceLine (l : Chars) : Option LineBody :=
  let (cmd, rest) := wordOf l
  let args := (rest.splitOn ' ').filter (fun x => x ≠ [])
  match String.ofList cmd, args with
  | "help", [] => some helpBody
  | "ver", [] => some verBody
  | "st", [] => some stBody
  | "repair", [] => some repairBody
  | "ledger", [] => some ledgerBody
  | "port", [p] => (parseNat p).map portBody
  | "ch", [c] => (parseNat c).map chBody
  | "log", [n] => (parseNat n).map logBody
  | "watch", [o, ms] => (parseNat ms).bind (fun t => (objLine o kRead (fun i j => some (none, watchBody (i * 256 + j) t))).map DictLine.body)
  | "meter", [m, o, sc, off] =>
    (match (if m = ['a'] then some 0 else if m = ['b'] then some 1 else none), parseQ16 sc, parseInt off with
     | some m, some x, some y => (objLine o kRead (fun i j => some (none, meterLine m (i * 256 + j) x y))).map DictLine.body
     | _, _, _ => none)
  | "test", [a] => if a = "abort".toList then some testAbortBody else none
  | "test", [k, i] =>
    (match parseNat k, parseNat i with
     | some k, some i => some (if k < 256 ∧ i < 256 then testBody k i else fun _ s => .no s stRange)
     | _, _ => none)
  | "unlock", [n] => (parseNat n).map (fun n => if n < 256 then unlockBody n else fun _ s => .no s stRange)
  | "resp", [h] => (lineOctets h).map respBody
  | "note", _ => (quoted (trimEnd rest)).map noteBody
  | _, _ => none

/-! ### Tunnelled lines (R46, R127) -/

/-- The BRANCH of the first STAGE that a system transaction of flow 2 sends to a part. -/
def branchFirst (addr : Nat) (s : State) : State :=
  match txOf s 2 [1] with
  | some (i, t) =>
    if t.kind = 2 ∧ addr ∉ t.parts then
      let s1 := s.emit (.cell 0x20 (routeOf s addr) (msgNums s 0 addr t.sysId 0 noTime 0 0))
      setSlot i (some { t with parts := t.parts ++ [addr], lastActive := s.time.now }) s1
    else s
  | none => s

/-- The octets of the frames of a request (R37, R39): header and up to 56 octets, then SEGMENT frames of 62, more set while others follow. -/
def requestFrames (kind seq : Nat) (f : Frame) : List (List Byte) :=
  let n := f.payload.length
  let flags := (if 56 < n then 8 else 0) + (if f.describe then 4 else 0) + (if f.staged then 2 else 0)
  (leBytes 1 ((kind * 32 + flags : Nat) : Int) ++ leBytes 1 (seq : Int) ++ leBytes 2 (f.index : Int) ++ leBytes 1 (f.sub : Int) ++ leBytes 1 0 ++
    leBytes 2 (n : Int) ++ f.payload.take 56) ::
  (List.range (framesOf n - 1)).map (fun i =>
    leBytes 1 ((192 + (if 56 + 62 * (i + 1) < n then 8 else 0) : Nat) : Int) ++ leBytes 1 (((seq + 1 + i) % 256 : Nat) : Int) ++
      (f.payload.drop (56 + 62 * i)).take 62)

/-- A line for another part: its frames go out behind a tunnel header with hops 10; its seq is the console's own matter, and a line refused
before there is a frame is answered here. DEDUCED, log entry 95. DESIGN CHOICE, log entry 96. -/
def tunnelLine (addr : Nat) (d : DictLine) (w : Who) (s : State) : Reply :=
  match d.frame with
  | none => d.body w s
  | some f =>
    if addr = s.nat K.stwAddr then d.body w s
    else
      let s1 := if d.kind = kStage then branchFirst addr s else s
      let q := (s1.fresh % 256).toNat
      .shown (forL (requestFrames d.kind q f)
        (fun b s => s.emit (.tunnel (routeOf s addr) ⟨addr, s.nat K.stwAddr, 2, w.level, 10, 0⟩ b)) s1.drawn)

/-- What a line asks for; none does not parse. -/
def lineBody (l : Chars) (octs : Option (List Byte)) : Option LineBody :=
  match l with
  | '@' :: m =>
    let (a, rest) := wordOf m
    (match parseNat a, dictLine rest octs with
     | some n, some d => if n < 512 then some (tunnelLine n d) else none
     | _, _ => none)
  | _ => match dictLine l octs with
    | some d => some d.body
    | none => if octs = none then serviceLine l else none

/-! ### Lines -/

/-- A line that ends with a backslash, without it. -/
def unfinished (l : Chars) : Option Chars :=
  match l.reverse with
  | '\\' :: m => some m.reverse
  | _ => none

/-- The first line of a continued value: what stands before its last word, and the octets of that word. -/
def startsValue (l : Chars) : Option (Chars × List Byte) :=
  let r := l.reverse
  let h := (r.takeWhile (fun c => c != ' ')).reverse
  match lineOctets h with
  | some b => some ((r.dropWhile (fun c => c != ' ')).reverse, b)
  | none => none

/-- A line that does not parse. -/
def syntaxError (s : State) : State := ({ s with con := { s.con with cont := none } }).say "err SYNTAX" []

/-- Run a whole line. -/
def runLine (l : Chars) (octs : Option (List Byte)) (s : State) : State :=
  match lineBody l octs with
  | none => syntaxError s
  | some body => conRequest { s with con := { s.con with cont := none } } body

/-- The octets of a value over several lines (R47). -/
abbrev maxContinued : Nat := 4096

/-- A line of the console, echoed where con.echo asks for it. An empty line is none. DEDUCED, log entry 15. DEDUCED, log entry 19. -/
def takeLine (l : Chars) (s : State) : State :=
  let s0 := { s with con := { s.con with watch := none } }
  let s1 := if s.flag K.conEcho then s0.emit (.line "echo" [] (utf8 l)) else s0
  if 255 < l.length then syntaxError s1
  else match s.con.cont with
    | some (text, got) =>
      (match lineOctets ((unfinished l).getD l) with
       | none => syntaxError s1
       | some b =>
         if maxContinued < got.length + b.length then syntaxError s1
         else if (unfinished l).isSome then { s1 with con := { s1.con with cont := some (text, got ++ b) } }
         else runLine text (some (got ++ b)) s1)
    | none =>
      if trimEnd l = [] then s1
      else match unfinished l with
        | none => runLine l none s1
        | some m => (match startsValue m with
          | some (text, b) =>
            if (lineBody text (some b)).isSome then { s1 with con := { s1.con with cont := some (text, b) } } else syntaxError s1
          | none => syntaxError s1)

/-- CONSOLE_LINE (R47): none is handled before boot stage 6 (R392). -/
def execConsoleLine (line : List Char) (s : State) : Host.Outcome State Fault Refusal :=
  .next (if s.serving then takeLine line s else s)

end Sys2Proof.Machine
end

