-- ==== Sys2Proof/Machine/Dispatch.lean ====
section
/-! DEFINITION. The dispatch: one arm per command, each one direct call of its meaning. -/

namespace Sys2Proof.Machine

/-- The effect of a command on everything but the queue. -/
def exec (i : Instr) (s : State) : Host.Outcome State Fault Refusal :=
  match i with
  | .read f => Sys2Proof.Machine.execRead f s
  | .readStaged f => Sys2Proof.Machine.execReadStaged f s
  | .readDescribe f => Sys2Proof.Machine.execReadDescribe f s
  | .write f => Sys2Proof.Machine.execWrite f s
  | .stage f => Sys2Proof.Machine.execStage f s
  | .commit f => Sys2Proof.Machine.execCommit f s
  | .abort f => Sys2Proof.Machine.execAbort f s
  | .segment g => Sys2Proof.Machine.execSegment g s
  | .mrUnfreeze m f => Sys2Proof.Machine.execMrUnfreeze m f s
  | .dzCanaReset f => Sys2Proof.Machine.execDzCanaReset f s
  | .dzCanbReset f => Sys2Proof.Machine.execDzCanbReset f s
  | .canBusOffRecovery bus => Sys2Proof.Machine.execCanBusOffRecovery bus s
  | .canSlotRelease m => Sys2Proof.Machine.execCanSlotRelease m s
  | .canSettingApply => Sys2Proof.Machine.execCanSettingApply s
  | .masterIdleRelock m => Sys2Proof.Machine.execMasterIdleRelock m s
  | .tokenRefill => Sys2Proof.Machine.execTokenRefill s
  | .consoleLine line => Sys2Proof.Machine.execConsoleLine line s
  | .consoleOverrun => Sys2Proof.Machine.execConsoleOverrun s
  | .consoleBreak ms => Sys2Proof.Machine.execConsoleBreak ms s
  | .tunnelForward link x => Sys2Proof.Machine.execTunnelForward link x s
  | .tunnelLevelResponse r => Sys2Proof.Machine.execTunnelLevelResponse r s
  | .refclkLoss src => Sys2Proof.Machine.execRefclkLoss src s
  | .refclkResume seen => Sys2Proof.Machine.execRefclkResume seen s
  | .sourceQualify src seen => Sys2Proof.Machine.execSourceQualify src seen s
  | .sourceDisqualify src seen => Sys2Proof.Machine.execSourceDisqualify src seen s
  | .sourceRevert src => Sys2Proof.Machine.execSourceRevert src s
  | .trackingLoopUpdate seen => Sys2Proof.Machine.execTrackingLoopUpdate seen s
  | .stepInstant => Sys2Proof.Machine.execStepInstant s
  | .stepMuteRelease c => Sys2Proof.Machine.execStepMuteRelease c s
  | .holdoverExpired => Sys2Proof.Machine.execHoldoverExpired s
  | .timebaseMuteRelease c => Sys2Proof.Machine.execTimebaseMuteRelease c s
  | .donorDetection metric start => Sys2Proof.Machine.execDonorDetection metric start s
  | .ppsEdge => Sys2Proof.Machine.execPpsEdge s
  | .tbAdjust f => Sys2Proof.Machine.execTbAdjust f s
  | .linkSignalDetect l => Sys2Proof.Machine.execLinkSignalDetect l s
  | .linkAligned l => Sys2Proof.Machine.execLinkAligned l s
  | .linkAlignTimeout l => Sys2Proof.Machine.execLinkAlignTimeout l s
  | .linkRoleExchange l far => Sys2Proof.Machine.execLinkRoleExchange l far s
  | .linkMeasureDone l seen => Sys2Proof.Machine.execLinkMeasureDone l seen s
  | .linkErrorRetrain l => Sys2Proof.Machine.execLinkErrorRetrain l s
  | .stwRetrain l f => Sys2Proof.Machine.execStwRetrain l f s
  | .timeCell l c => Sys2Proof.Machine.execTimeCell l c s
  | .delayCell l c => Sys2Proof.Machine.execDelayCell l c s
  | .census parts subA subB dups => Sys2Proof.Machine.execCensus parts subA subB dups s
  | .stepAnnouncement at_ delta => Sys2Proof.Machine.execStepAnnouncement at_ delta s
  | .snapLocal f => Sys2Proof.Machine.execSnapLocal f s
  | .snapSystem f => Sys2Proof.Machine.execSnapSystem f s
  | .snapshotTrigger at_ => Sys2Proof.Machine.execSnapshotTrigger at_ s
  | .snapshotDue => Sys2Proof.Machine.execSnapshotDue s
  | .portStateChange l => Sys2Proof.Machine.execPortStateChange l s
  | .channelEnable l => Sys2Proof.Machine.execChannelEnable l s
  | .channelMute l => Sys2Proof.Machine.execChannelMute l s
  | .gainHold l => Sys2Proof.Machine.execGainHold l s
  | .railSetPointSelect l => Sys2Proof.Machine.execRailSetPointSelect l s
  | .filterBankSwap l => Sys2Proof.Machine.execFilterBankSwap l s
  | .cancellerFreeze l => Sys2Proof.Machine.execCancellerFreeze l s
  | .dcBlockFreeze l => Sys2Proof.Machine.execDcBlockFreeze l s
  | .snapshot l => Sys2Proof.Machine.execSnapshot l s
  | .calibrationStart l => Sys2Proof.Machine.execCalibrationStart l s
  | .galleryTrigger l => Sys2Proof.Machine.execGalleryTrigger l s
  | .feedEnable l => Sys2Proof.Machine.execFeedEnable l s
  | .transactionCommit number => Sys2Proof.Machine.execTransactionCommit number s
  | .segmentBoundary p => Sys2Proof.Machine.execSegmentBoundary p s
  | .patternTransientEnd c => Sys2Proof.Machine.execPatternTransientEnd c s
  | .admDryRun f => Sys2Proof.Machine.execAdmDryRun f s
  | .txOpen f => Sys2Proof.Machine.execTxOpen f s
  | .txIdleAbort i0 => Sys2Proof.Machine.execTxIdleAbort i0 s
  | .journalRecordDurable bad0 bad1 => Sys2Proof.Machine.execJournalRecordDurable bad0 bad1 s
  | .execRecordWrite => Sys2Proof.Machine.execExecRecordWrite s
  | .checkpoint => Sys2Proof.Machine.execCheckpoint s
  | .jrRebuild f => Sys2Proof.Machine.execJrRebuild f s
  | .rebuildComplete => Sys2Proof.Machine.execRebuildComplete s
  | .branch m => Sys2Proof.Machine.execBranch m s
  | .commitReq m => Sys2Proof.Machine.execCommitReq m s
  | .parts m => Sys2Proof.Machine.execParts m s
  | .prepare m => Sys2Proof.Machine.execPrepare m s
  | .vote m => Sys2Proof.Machine.execVote m s
  | .voteTimeout id => Sys2Proof.Machine.execVoteTimeout id s
  | .decide m => Sys2Proof.Machine.execDecide m s
  | .ack m => Sys2Proof.Machine.execAck m s
  | .query m => Sys2Proof.Machine.execQuery m s
  | .abortReq m => Sys2Proof.Machine.execAbortReq m s
  | .inDoubtTimeout slot => Sys2Proof.Machine.execInDoubtTimeout slot s
  | .inDoubtQueryTimer slot => Sys2Proof.Machine.execInDoubtQueryTimer slot s
  | .txSysResolve f => Sys2Proof.Machine.execTxSysResolve f s
  | .portTransitionDone p => Sys2Proof.Machine.execPortTransitionDone p s
  | .returnFeedWaitTimeout p => Sys2Proof.Machine.execReturnFeedWaitTimeout p s
  | .txWindowEnd p => Sys2Proof.Machine.execTxWindowEnd p s
  | .synthRetuneDone tx p => Sys2Proof.Machine.execSynthRetuneDone tx p s
  | .synthLockLoss tx p => Sys2Proof.Machine.execSynthLockLoss tx p s
  | .synthRelockDone tx p => Sys2Proof.Machine.execSynthRelockDone tx p s
  | .calStart p f => Sys2Proof.Machine.execCalStart p f s
  | .calAbort p f => Sys2Proof.Machine.execCalAbort p f s
  | .calPendingStart p => Sys2Proof.Machine.execCalPendingStart p s
  | .calPieceDone p => Sys2Proof.Machine.execCalPieceDone p s
  | .calComplete p pass loss image rxTemp txTemp => Sys2Proof.Machine.execCalComplete p pass loss image rxTemp txTemp s
  | .calOverdue p => Sys2Proof.Machine.execCalOverdue p s
  | .portLoopbackTest p f => Sys2Proof.Machine.execPortLoopbackTest p f s
  | .obsVisitEnd r m => Sys2Proof.Machine.execObsVisitEnd r m s
  | .settlingEnd c => Sys2Proof.Machine.execSettlingEnd c s
  | .fadeEnd sl => Sys2Proof.Machine.execFadeEnd sl s
  | .estimatorWindowEnd c w => Sys2Proof.Machine.execEstimatorWindowEnd c w s
  | .cancellerConverged c => Sys2Proof.Machine.execCancellerConverged c s
  | .marginExpired c => Sys2Proof.Machine.execMarginExpired c s
  | .demoWindowEnd c => Sys2Proof.Machine.execDemoWindowEnd c s
  | .cxReset c f => Sys2Proof.Machine.execCxReset c f s
  | .branchDeferredPlace c n => Sys2Proof.Machine.execBranchDeferredPlace c n s
  | .gainUpdate c m => Sys2Proof.Machine.execGainUpdate c m s
  | .rateApplication c => Sys2Proof.Machine.execRateApplication c s
  | .feTrip c => Sys2Proof.Machine.execFeTrip c s
  | .engineFallback => Sys2Proof.Machine.execEngineFallback s
  | .engineFallbackExit => Sys2Proof.Machine.execEngineFallbackExit s
  | .hawkmothTrip p cond => Sys2Proof.Machine.execHawkmothTrip p cond s
  | .hawkmothRelease p => Sys2Proof.Machine.execHawkmothRelease p s
  | .hmClear p f => Sys2Proof.Machine.execHmClear p f s
  | .muteNAssert => Sys2Proof.Machine.execMuteNAssert s
  | .muteNRelease => Sys2Proof.Machine.execMuteNRelease s
  | .oscillationTrip c => Sys2Proof.Machine.execOscillationTrip c s
  | .oscRestart c => Sys2Proof.Machine.execOscRestart c s
  | .oscRestartNow c f => Sys2Proof.Machine.execOscRestartNow c f s
  | .oscRestartsDecay c => Sys2Proof.Machine.execOscRestartsDecay c s
  | .noiseEvaluation c n count => Sys2Proof.Machine.execNoiseEvaluation c n count s
  | .noiseMuteRelease c => Sys2Proof.Machine.execNoiseMuteRelease c s
  | .emissionMuteRelease c => Sys2Proof.Machine.execEmissionMuteRelease c s
  | .tmOutput m seen seen2 => Sys2Proof.Machine.execTmOutput m seen seen2 s
  | .tmConversionEnd m => Sys2Proof.Machine.execTmConversionEnd m s
  | .tmOverrange m => Sys2Proof.Machine.execTmOverrange m s
  | .tmInject m f => Sys2Proof.Machine.execTmInject m f s
  | .tmCalZero m f => Sys2Proof.Machine.execTmCalZero m f s
  | .tmCalGain m f => Sys2Proof.Machine.execTmCalGain m f s
  | .tmCalRestore m f => Sys2Proof.Machine.execTmCalRestore m f s
  | .tmOvrClear m f => Sys2Proof.Machine.execTmOvrClear m f s
  | .accClear a f => Sys2Proof.Machine.execAccClear a f s
  | .trClear a f => Sys2Proof.Machine.execTrClear a f s
  | .vselAccept v => Sys2Proof.Machine.execVselAccept v s
  | .vselDeferredApply r => Sys2Proof.Machine.execVselDeferredApply r s
  | .railMoveEnd r => Sys2Proof.Machine.execRailMoveEnd r s
  | .railAutoShed r mean => Sys2Proof.Machine.execRailAutoShed r mean s
  | .phaseShedDone r k => Sys2Proof.Machine.execPhaseShedDone r k s
  | .keepoutReadd r => Sys2Proof.Machine.execKeepoutReadd r s
  | .loadStepReadd r => Sys2Proof.Machine.execLoadStepReadd r s
  | .phaseBalance r => Sys2Proof.Machine.execPhaseBalance r s
  | .railOnDelayEnd r sensed => Sys2Proof.Machine.execRailOnDelayEnd r sensed s
  | .railStart r => Sys2Proof.Machine.execRailStart r s
  | .railRampDone r => Sys2Proof.Machine.execRailRampDone r s
  | .railQualified r => Sys2Proof.Machine.execRailQualified r s
  | .railFaultCondition r cause => Sys2Proof.Machine.execRailFaultCondition r cause s
  | .railFaultClear r cause => Sys2Proof.Machine.execRailFaultClear r cause s
  | .railFaultTimerExpired r cause => Sys2Proof.Machine.execRailFaultTimerExpired r cause s
  | .railRetry r sensed => Sys2Proof.Machine.execRailRetry r sensed s
  | .railOffRampDone r => Sys2Proof.Machine.execRailOffRampDone r s
  | .remoteSenseFail r => Sys2Proof.Machine.execRemoteSenseFail r s
  | .phaseFail r k ipk => Sys2Proof.Machine.execPhaseFail r k ipk s
  | .railTelemetryUpdate r ipk peak => Sys2Proof.Machine.execRailTelemetryUpdate r ipk peak s
  | .rlPeakClear r f => Sys2Proof.Machine.execRlPeakClear r f s
  | .feedSignatureReading f mv => Sys2Proof.Machine.execFeedSignatureReading f mv s
  | .feedDetected f vin => Sys2Proof.Machine.execFeedDetected f vin s
  | .feedClassified f ma => Sys2Proof.Machine.execFeedClassified f ma s
  | .feedOn f => Sys2Proof.Machine.execFeedOn f s
  | .feedInrushTimeout f => Sys2Proof.Machine.execFeedInrushTimeout f s
  | .feedFault f cause => Sys2Proof.Machine.execFeedFault f cause s
  | .feedOcTimeout f => Sys2Proof.Machine.execFeedOcTimeout f s
  | .feedLoadRemoved f => Sys2Proof.Machine.execFeedLoadRemoved f s
  | .feedSoaUpdate f vin vout amps => Sys2Proof.Machine.execFeedSoaUpdate f vin vout amps s
  | .feedRetry f => Sys2Proof.Machine.execFeedRetry f s
  | .feedRetriesRestore f => Sys2Proof.Machine.execFeedRetriesRestore f s
  | .feedLeakSeal f => Sys2Proof.Machine.execFeedLeakSeal f s
  | .openCableRelease p => Sys2Proof.Machine.execOpenCableRelease p s
  | .fdAbort f fr => Sys2Proof.Machine.execFdAbort f fr s
  | .fdRestart f fr => Sys2Proof.Machine.execFdRestart f fr s
  | .thermalEvaluation raws => Sys2Proof.Machine.execThermalEvaluation raws s
  | .thermalGraceEnd => Sys2Proof.Machine.execThermalGraceEnd s
  | .thermalShedStep => Sys2Proof.Machine.execThermalShedStep s
  | .thermalRetreatStep => Sys2Proof.Machine.execThermalRetreatStep s
  | .thermalSubstHoldEnd => Sys2Proof.Machine.execThermalSubstHoldEnd s
  | .thLearn f => Sys2Proof.Machine.execThLearn f s
  | .faultMajorHoldEnd w => Sys2Proof.Machine.execFaultMajorHoldEnd w s
  | .fltClear f => Sys2Proof.Machine.execFltClear f s
  | .fltClearAll f => Sys2Proof.Machine.execFltClearAll f s
  | .fltStickyClear f => Sys2Proof.Machine.execFltStickyClear f s
  | .recFlushPeriodic => Sys2Proof.Machine.execRecFlushPeriodic s
  | .recFlush f => Sys2Proof.Machine.execRecFlush f s
  | .recFlushDone bad0 bad1 => Sys2Proof.Machine.execRecFlushDone bad0 bad1 s
  | .recordEnterAfterWait => Sys2Proof.Machine.execRecordEnterAfterWait s
  | .powerFail cause => Sys2Proof.Machine.execPowerFail cause s
  | .recRecord f => Sys2Proof.Machine.execRecRecord f s
  | .recPermRecord f => Sys2Proof.Machine.execRecPermRecord f s
  | .galArm f => Sys2Proof.Machine.execGalArm f s
  | .galTrigger f => Sys2Proof.Machine.execGalTrigger f s
  | .galAbort f => Sys2Proof.Machine.execGalAbort f s
  | .galRelease f => Sys2Proof.Machine.execGalRelease f s
  | .galFormat f => Sys2Proof.Machine.execGalFormat f s
  | .galleryPreFull => Sys2Proof.Machine.execGalleryPreFull s
  | .galleryCaptureComplete => Sys2Proof.Machine.execGalleryCaptureComplete s
  | .galleryDrainStart => Sys2Proof.Machine.execGalleryDrainStart s
  | .galleryDrainDone => Sys2Proof.Machine.execGalleryDrainDone s
  | .nvmeCommandFail opcode status n => Sys2Proof.Machine.execNvmeCommandFail opcode status n s
  | .nvmeSmartPoll => Sys2Proof.Machine.execNvmeSmartPoll s
  | .pcieInterfaceReset down => Sys2Proof.Machine.execPcieInterfaceReset down s
  | .pcieConfigRequest bme => Sys2Proof.Machine.execPcieConfigRequest bme s
  | .mbReqProd v slots => Sys2Proof.Machine.execMbReqProd v slots s
  | .mbRspCons rsp ntf => Sys2Proof.Machine.execMbRspCons rsp ntf s
  | .irqCause i0 v => Sys2Proof.Machine.execIrqCause i0 v s
  | .mirrorRefresh => Sys2Proof.Machine.execMirrorRefresh s
  | .dmaBlockWrite e seen rptr seen2 seen3 => Sys2Proof.Machine.execDmaBlockWrite e seen rptr seen2 seen3 s
  | .dmaRunStart e f => Sys2Proof.Machine.execDmaRunStart e f s
  | .dmaRunStop e f => Sys2Proof.Machine.execDmaRunStop e f s
  | .pcieLinkRetrain link => Sys2Proof.Machine.execPcieLinkRetrain link s
  | .busMasterDisable => Sys2Proof.Machine.execBusMasterDisable s
  | .secRootInstall f => Sys2Proof.Machine.execSecRootInstall f s
  | .secCredInstall f => Sys2Proof.Machine.execSecCredInstall f s
  | .secUnlock f => Sys2Proof.Machine.execSecUnlock f s
  | .secResponse f => Sys2Proof.Machine.execSecResponse f s
  | .challengeExpire m => Sys2Proof.Machine.execChallengeExpire m s
  | .lockoutEnd => Sys2Proof.Machine.execLockoutEnd s
  | .secPermitInstall f => Sys2Proof.Machine.execSecPermitInstall f s
  | .secRevoke f => Sys2Proof.Machine.execSecRevoke f s
  | .tamper cause offset => Sys2Proof.Machine.execTamper cause offset s
  | .secFwWrite f => Sys2Proof.Machine.execSecFwWrite f s
  | .secFwCommit f => Sys2Proof.Machine.execSecFwCommit f s
  | .secFwConfirm f => Sys2Proof.Machine.execSecFwConfirm f s
  | .powerOnResetRelease => Sys2Proof.Machine.execPowerOnResetRelease s
  | .porstNAssert => Sys2Proof.Machine.execPorstNAssert s
  | .warmrstNAssert => Sys2Proof.Machine.execWarmrstNAssert s
  | .resetRelease porst => Sys2Proof.Machine.execResetRelease porst s
  | .bootStageAdvance refclk readErr bad => Sys2Proof.Machine.execBootStageAdvance refclk readErr bad s
  | .bootFailReport => Sys2Proof.Machine.execBootFailReport s
  | .domainPowered d => Sys2Proof.Machine.execDomainPowered d s
  | .sliceCheck sl ok => Sys2Proof.Machine.execSliceCheck sl ok s
  | .pdRepair f => Sys2Proof.Machine.execPdRepair f s
  | .help => Sys2Proof.Machine.execHelp s
  | .ver => Sys2Proof.Machine.execVer s
  | .st => Sys2Proof.Machine.execSt s
  | .port p => Sys2Proof.Machine.execPort p s
  | .ch c => Sys2Proof.Machine.execCh c s
  | .log n => Sys2Proof.Machine.execLog n s
  | .watch k ms => Sys2Proof.Machine.execWatch k ms s
  | .watchPrint => Sys2Proof.Machine.execWatchPrint s
  | .watchEnd => Sys2Proof.Machine.execWatchEnd s
  | .meter m k scale offset => Sys2Proof.Machine.execMeter m k scale offset s
  | .test kind inst => Sys2Proof.Machine.execTest kind inst s
  | .testAbort => Sys2Proof.Machine.execTestAbort s
  | .unlock l => Sys2Proof.Machine.execUnlock l s
  | .resp b => Sys2Proof.Machine.execResp b s
  | .note b => Sys2Proof.Machine.execNote b s
  | .repair => Sys2Proof.Machine.execRepair s
  | .ledger => Sys2Proof.Machine.execLedger s
  | .stRun f => Sys2Proof.Machine.execStRun f s
  | .stAbort f => Sys2Proof.Machine.execStAbort f s
  | .selftestComplete step => Sys2Proof.Machine.execSelftestComplete step s
  | .blinkCodeEnd => Sys2Proof.Machine.execBlinkCodeEnd s
  | .meterUpdate => Sys2Proof.Machine.execMeterUpdate s
  | .ledUpdate => Sys2Proof.Machine.execLedUpdate s
  | .keyScan raws => Sys2Proof.Machine.execKeyScan raws s
  | .keyPress k => Sys2Proof.Machine.execKeyPress k s
  | .keyRelease k => Sys2Proof.Machine.execKeyRelease k s
  | .keyStuck k => Sys2Proof.Machine.execKeyStuck k s
  | .banisterOn k => Sys2Proof.Machine.execBanisterOn k s
  | .banisterOff => Sys2Proof.Machine.execBanisterOff s
  | .busParityError d => Sys2Proof.Machine.execBusParityError d s
  | .nvmeDriveReady v => Sys2Proof.Machine.execNvmeDriveReady v s
  | .powerOnResetAssert all => Sys2Proof.Machine.execPowerOnResetAssert all s
  | .jtagInstruction i0 => Sys2Proof.Machine.execJtagInstruction i0 s

end Sys2Proof.Machine
end

