-- ==== Sys2Proof/Machine/Tick.lean ====
section
/-! DEFINITION. One tick of the tick clock (R9, R11): what time alone does, on a step that finds no command waiting (DESIGN CHOICE, log entry 1). -/

namespace Sys2Proof.Machine

/-- What runs with the ticks of channel c: adapting ticks, in which no freeze bit is set (R204), radiating ticks Held (R210) and since the last
oscillation trip (R252), the bypass of its notches (R226), and a divergence found at the end of a window in the tick before (R208). -/
def channelTick (c : Nat) (s : State) : State :=
  let x := s.chan c
  let s1 := if chRadiates s c then
      s.setChan c { x with oscTicks := x.oscTicks + 1, heldTicks := if s.num (K.cxMarginState c) = 2 then x.heldTicks + 1 else x.heldTicks }
    else s
  let s2 := reviewNotches c (if freezesNow s c = 0 then s1.inc (K.cxAdaptTicks c) 32 else s1)
  match (s2.pathOf c).divergeAt with
  | some t => if t ≤ s2.time.now then diverge c (s2.setPath c { s2.pathOf c with divergeAt := none }) else s2
  | none => s2

/-- The started channels in a tick. -/
def channelsTick (s : State) : State := forL s.started channelTick s

/-- While the clocks are lost, clk.status shows what of them is back, and the 10 ms qualification of R23 that runs while all of them are
(R27). DEDUCED, log entry 45. -/
def clockTick (s : State) : State :=
  let b := Config.clockBits s.time.now % 64
  if s.time.running ∨ !s.holdOsc then s else s.set K.clkStatus ((if b = 63 then 128 else 0) + 64 + b : Nat)

/-- A tick passes: time, PAEN, the sample paths, the Gallery, the DMA engines, the channels' counts, the changes of ports that lead a segment, the rails' switching cycles, the
feeds' ramps, and the converters. DESIGN CHOICE, log entry 1. -/
def idleTick (s : State) : State := tmTick (feedsTick (railsTick (leadsTick (channelsTick (dmaTick (galleryTick (pathTick (paenTicks (ppsTick (clockTick (tick s)))))))))))

end Sys2Proof.Machine
end

