-- ==== Sys2Proof/WellFormed.lean ====
section
/-! DEFINITION. Well-formed commands: the numbers of ports, channels, rails and other numbered blocks lie in the ranges the part has
(Table 0-4 and the tables of each block), and the fields of frames, cells and messages in their widths. -/

namespace Sys2Proof

/-- Where a request comes from: a master of Table 2-11, a CAN node and destination of 1 to 254 (Table 2-8), or a master of an origin part
behind a Stairway link (Table 2-9). -/
def Origin.ok : Origin → Bool
  | .master m => decide (m < 72)
  | .can bus node dest => decide (bus < 2) && decide (1 ≤ node) && decide (node < 255) && decide (1 ≤ dest) && decide (dest < 255)
  | .tunnel link origin om level => decide (link < 3) && decide (origin < 512) && decide (om < 256) && decide (level < 4)

/-- The fields of a first frame (Table 2-5). -/
def frameOk (f : Frame) : Bool :=
  f.org.ok && decide (f.seq < 256) && decide (f.index < 65536) && decide (f.sub < 256) && decide (f.length < 65536) && decide (f.payload.length < 65536)

/-- The fields of a SEGMENT frame (R37). -/
def segFrameOk (g : SegFrame) : Bool := g.org.ok && decide (g.seq < 256) && decide (g.payload.length ≤ 62)

/-- The fields of a tunnel header (Table 2-9). -/
def tunHdrOk (h : TunHdr) : Bool :=
  decide (h.dest < 512) && decide (h.origin < 512) && decide (h.om < 256) && decide (h.level < 4) && decide (h.hops < 16) && decide (h.resv < 2 ^ 32)

/-- A header, and a frame of at most 64 octets. -/
def tunFrameOk (t : TunFrame) : Bool := tunHdrOk t.hdr && decide (t.octets.length ≤ 64)

/-- A header, and the fields of a response's first bytes (Table 2-5). -/
def tunLevelOk (r : TunLevel) : Bool :=
  tunHdrOk r.hdr && decide (r.kind < 8) && decide (r.seq < 256) && decide (r.index < 65536) && decide (r.sub < 256)

/-- The fields of a transaction message (Table 5-7). -/
def txMsgOk (m : TxMsg) : Bool :=
  decide (m.arg < 256) && decide (m.dest < 65536) && decide (m.origin < 65536) && decide (m.om < 256) && decide (m.sysId < 2 ^ 32) && decide (m.sysSeq < 2 ^ 32) &&
    decide (m.launch < 2 ^ 64) && decide (m.reason < 65536) && decide (m.object < 2 ^ 24) && m.bitmap.all (fun a => decide (a < 512))

/-- The fields of a time cell (Table 3-6). -/
def timeCellOk (c : TimeCell) : Bool := decide (c.tb < 2 ^ 64) && decide (c.depth < 256) && decide (c.newel < 65536)

/-- A launch entry or a pattern action that exists. -/
def launchSrcOk : LaunchSrc → Bool
  | .entry n => decide (n < 4096)
  | .action p a => decide (p < 8) && decide (1 ≤ a) && decide (a < 17)

/-- The operands of a command lie in the ranges of the part. -/
def wellFormed : Instr → Bool
  | .read f | .readStaged f | .readDescribe f | .write f
  | .stage f | .commit f | .abort f | .dzCanaReset f
  | .dzCanbReset f | .tbAdjust f | .snapLocal f | .snapSystem f
  | .admDryRun f | .txOpen f | .jrRebuild f | .txSysResolve f
  | .thLearn f | .fltClear f | .fltClearAll f | .fltStickyClear f
  | .recFlush f | .recRecord f | .recPermRecord f | .galArm f
  | .galTrigger f | .galAbort f | .galRelease f | .galFormat f
  | .secRootInstall f | .secCredInstall f | .secUnlock f | .secResponse f
  | .secPermitInstall f | .secRevoke f | .secFwWrite f | .secFwCommit f
  | .secFwConfirm f | .pdRepair f | .stRun f | .stAbort f => frameOk f
  | .segment g => segFrameOk g
  | .mrUnfreeze m f => decide (m < 72) && frameOk f
  | .canBusOffRecovery bus => decide (bus < 2)
  | .canSlotRelease m | .masterIdleRelock m => decide (m < 72)
  | .canSettingApply | .tokenRefill | .consoleOverrun | .stepInstant
  | .holdoverExpired | .ppsEdge | .snapshotDue | .execRecordWrite
  | .checkpoint | .rebuildComplete | .engineFallback | .engineFallbackExit
  | .muteNAssert | .muteNRelease | .thermalGraceEnd | .thermalShedStep
  | .thermalRetreatStep | .thermalSubstHoldEnd | .recFlushPeriodic | .recordEnterAfterWait
  | .galleryPreFull | .galleryCaptureComplete | .galleryDrainStart | .galleryDrainDone
  | .nvmeSmartPoll | .mirrorRefresh | .busMasterDisable | .lockoutEnd
  | .powerOnResetRelease | .porstNAssert | .warmrstNAssert | .bootFailReport
  | .help | .ver | .st | .watchPrint
  | .watchEnd | .testAbort | .repair | .ledger
  | .blinkCodeEnd | .meterUpdate | .ledUpdate | .banisterOff => true
  | .consoleLine _ | .consoleBreak _ | .refclkLoss _ | .refclkResume _
  | .trackingLoopUpdate _ | .snapshotTrigger _ | .powerFail _ | .pcieInterfaceReset _
  | .pcieConfigRequest _ | .challengeExpire _ | .resetRelease _ | .port _
  | .ch _ | .log _ | .resp _ | .note _
  | .nvmeDriveReady _ | .powerOnResetAssert _ | .jtagInstruction _ => true
  | .tunnelForward link x => decide (link < 3) && tunFrameOk x
  | .tunnelLevelResponse r => tunLevelOk r
  | .sourceQualify src _ | .sourceDisqualify src _ => decide (src < 16)
  | .sourceRevert src => decide (src < 16)
  | .stepMuteRelease c | .timebaseMuteRelease c | .patternTransientEnd c | .settlingEnd c
  | .cancellerConverged c | .marginExpired c | .demoWindowEnd c | .rateApplication c
  | .feTrip c | .oscillationTrip c | .oscRestart c | .oscRestartsDecay c
  | .noiseMuteRelease c | .emissionMuteRelease c => decide (c < 512)
  | .donorDetection _ _ | .stepAnnouncement _ _ | .journalRecordDurable _ _ | .recFlushDone _ _
  | .tamper _ _ => true
  | .linkSignalDetect l | .linkAligned l | .linkAlignTimeout l | .linkErrorRetrain l => decide (l < 3)
  | .linkRoleExchange l far => decide (l < 3) && decide (far < 2)
  | .linkMeasureDone l _ | .delayCell l _ => decide (l < 3)
  | .stwRetrain l f => decide (l < 3) && frameOk f
  | .timeCell l c => decide (l < 3) && timeCellOk c
  | .census parts _ _ _ => decide (parts < 513)
  | .portStateChange l | .channelEnable l | .channelMute l | .gainHold l
  | .railSetPointSelect l | .filterBankSwap l | .cancellerFreeze l | .dcBlockFreeze l
  | .snapshot l | .calibrationStart l | .galleryTrigger l | .feedEnable l => launchSrcOk l
  | .transactionCommit number => decide (number < 2 ^ 32)
  | .segmentBoundary p => decide (p < 8)
  | .txIdleAbort i => decide (i < 64)
  | .branch m | .commitReq m | .parts m | .prepare m
  | .vote m | .decide m | .ack m | .query m
  | .abortReq m => txMsgOk m
  | .voteTimeout id => decide (id < 2 ^ 32)
  | .inDoubtTimeout slot | .inDoubtQueryTimer slot => decide (slot < 64)
  | .portTransitionDone p | .returnFeedWaitTimeout p | .txWindowEnd p | .calPendingStart p
  | .calPieceDone p | .calOverdue p | .hawkmothRelease p | .openCableRelease p => decide (p < 32)
  | .synthRetuneDone _ p | .synthLockLoss _ p | .synthRelockDone _ p => decide (p < 32)
  | .calStart p f | .calAbort p f | .portLoopbackTest p f | .hmClear p f => decide (p < 32) && frameOk f
  | .calComplete p _ _ _ _ _ => decide (p < 32)
  | .obsVisitEnd r _ => decide (r < 8)
  | .fadeEnd sl => decide (sl < 64)
  | .estimatorWindowEnd c _ | .gainUpdate c _ => decide (c < 512)
  | .cxReset c f | .oscRestartNow c f => decide (c < 512) && frameOk f
  | .branchDeferredPlace c n => decide (c < 512) && decide (n < 4)
  | .hawkmothTrip p cond => decide (p < 32) && decide (cond < 65536)
  | .noiseEvaluation c _ _ => decide (c < 512)
  | .tmOutput m _ _ => decide (m < 24)
  | .tmConversionEnd m | .tmOverrange m => decide (m < 24)
  | .tmInject m f | .tmCalZero m f | .tmCalGain m f | .tmCalRestore m f
  | .tmOvrClear m f => decide (m < 24) && frameOk f
  | .accClear a f | .trClear a f => decide (a < 256) && frameOk f
  | .vselAccept v => decide (v < 256)
  | .vselDeferredApply r | .railMoveEnd r | .keepoutReadd r | .loadStepReadd r
  | .phaseBalance r | .railStart r | .railRampDone r | .railQualified r
  | .railOffRampDone r | .remoteSenseFail r => decide (r < 24)
  | .railAutoShed r _ | .railOnDelayEnd r _ | .railFaultCondition r _ | .railFaultClear r _
  | .railFaultTimerExpired r _ | .railRetry r _ => decide (r < 24)
  | .phaseShedDone r k => decide (r < 24) && decide (k < 8)
  | .phaseFail r k _ => decide (r < 24) && decide (k < 8)
  | .railTelemetryUpdate r _ _ => decide (r < 24)
  | .rlPeakClear r f => decide (r < 24) && frameOk f
  | .feedSignatureReading f _ | .feedDetected f _ | .feedClassified f _ | .feedFault f _ => decide (f < 32)
  | .feedOn f | .feedInrushTimeout f | .feedOcTimeout f | .feedLoadRemoved f
  | .feedRetry f | .feedRetriesRestore f | .feedLeakSeal f => decide (f < 32)
  | .feedSoaUpdate f _ _ _ => decide (f < 32)
  | .fdAbort f fr | .fdRestart f fr => decide (f < 32) && frameOk fr
  | .thermalEvaluation raws => decide (raws.length ≤ 48)
  | .faultMajorHoldEnd w => decide (w < 65536)
  | .nvmeCommandFail opcode status _ => decide (opcode < 256) && decide (status < 65536)
  | .mbReqProd v slots => decide (v < 2 ^ 32) && slots.all (fun b => decide (b.length ≤ 64))
  | .mbRspCons rsp ntf => decide (rsp < 2 ^ 32) && decide (ntf < 2 ^ 32)
  | .irqCause i v => decide (i < 4) && decide (v < 2 ^ 32)
  | .dmaBlockWrite e _ _ _ _ => decide (e < 32)
  | .dmaRunStart e f | .dmaRunStop e f => decide (e < 32) && frameOk f
  | .pcieLinkRetrain link => decide (link < 256)
  | .bootStageAdvance _ _ _ => true
  | .domainPowered d => decide (d < 212)
  | .sliceCheck sl _ => decide (sl < 64)
  | .watch k _ => decide (k < 2 ^ 24)
  | .meter m k _ _ => decide (m < 2) && decide (k < 2 ^ 24)
  | .test kind inst => decide (kind < 256) && decide (inst < 256)
  | .unlock l => decide (l < 256)
  | .selftestComplete step => decide (step < 256)
  | .keyScan raws => decide (raws.length ≤ 8)
  | .keyPress k | .keyRelease k | .keyStuck k | .banisterOn k => decide (k < 8)
  | .busParityError d => decide (d < 6)

end Sys2Proof
end

