-- ==== Sys2Proof/Safety.lean ====
section
/-! DEFINITION. What the statements speak of: the canonical form of the part's tables, a request that passes the tests before its object
(R43), a write that reaches its execution, and the answer a requester has received. -/

namespace Sys2Proof.Machine

/-! ### Canonical form -/

/-- The object tables are in their one canonical form: keys strictly rising, and nothing listed that stands at its default. -/
def Canonical (s : State) : Prop := Tab.wf Dict.default s.obj = true ∧ Tab.wf Dict.defaultBlob s.blob = true

/-- The same octets, number for number and octets for octets: every object reads as it did, whatever else has changed. -/
def SameObjects (s t : State) : Prop := (∀ k, t.num k = s.num k) ∧ ∀ k, t.oct k = s.oct k

/-- Every object but those of the listed keys reads as it did. -/
def SameBut (ks : List Nat) (s t : State) : Prop := (∀ k, k ∉ ks → t.num k = s.num k) ∧ ∀ k, k ∉ ks → t.oct k = s.oct k

/-! ### Requests (R43) -/

/-- The requester and the state in which the object of a first frame is examined, when every test before the object passes: the part
serves, the frame is for it, its master is bound and not frozen, the frame is well formed and no repeat, its seq is due and a token is
left. None where a test fails, or where segments are still to come. -/
def cleared (kind : Nat) (f : Frame) (s : State) : Option (Who × State) :=
  if !s.serving || !forThisPart s f.org then none
  else match whoSends f.org s with
    | (none, _) => none
    | (some w, s0) =>
      let s1 := s0.set (K.mrRequests w.charged) (s0.num (K.mrRequests w.charged) + 1)
      if s0.num (K.mrFrozen w.charged) ≠ 0 ∨ malformed kind f = true ∨ (s1.master w.flow).seg.isSome ∨ isRepeat s1 w kind f = true ∨
          beginsRepeat s1 w kind f = true ∨ seqOk s1 w kind f.seq = false ∨ hasToken s1 w.charged = false ∨
          (f.more ∧ f.payload.length < f.length) then none
      else some (w, markSeq w (f.seq + (if f.payload.length ≤ 56 then 0 else framesOf f.payload.length - 1)) (takeToken w.charged s1))

/-- The value that some octets write to the object at key k, when every test of R43 from existence on passes for the requester w in
state u: the access right, the level, the value and the conflict. None where a test fails. -/
def admits (k : Nat) (b : List Byte) (w : Who) (u : State) : Option Val :=
  match lookup (k / 256) (k % 256) with
  | some (.live r j) =>
    if r.access = .ro ∨ r.access = .rwv ∨ w.level < r.level then none
    else match fits u j r b with
      | .ok v => if r.access = .cmd ∧ cmdBusy u j = true then none else some v
      | _ => none
  | _ => none

/-- The requester, the value and the state it is executed in, of a write frame to the object at key k that passes every test. -/
def reaches (k : Nat) (f : Frame) (s : State) : Option (Who × Val × State) :=
  match cleared kWrite { f with index := k / 256, sub := k % 256 } s with
  | none => none
  | some (w, u) => (admits k f.payload w u).map (fun v => (w, v, u))

/-- The command c completes in s, and the next state has the property. -/
def Does (c : Instr) (s : State) (post : State → Prop) : Prop :=
  ∃ t, Sys2Proof.Machine.exec c s = .next t ∧ post t

/-- The requester w has been answered with a status, and none of its requests is outstanding. -/
def Answered (t : State) (w : Who) (status : Nat) : Prop :=
  (t.master w.flow).lastRsp.status = status ∧ (t.master w.flow).outstanding = false

/-- A console line ends a watch and is counted as a request of master 2. -/
def countedLine (s : State) : State :=
  let s0 := { s with con := { s.con with watch := none, cont := none } }
  s0.set (K.mrRequests 2) (s0.num (K.mrRequests 2) + 1)

/-- A console command runs: the part serves, no value is continued, master 2 is not frozen, and it has a token. -/
def consoleReady (s : State) : Bool :=
  s.serving && s.con.cont.isNone && decide (s.num (K.mrFrozen 2) = 0) && hasToken (countedLine s) 2

/-- The state a console command runs in: the line is counted, and a token is taken. -/
def atConsole (s : State) : State :=
  let s2 := takeToken 2 (countedLine s)
  s2.setMaster 2 { s2.master 2 with lastActive := s2.time.now }

/-- The part has printed a line. -/
def Printed (t : State) (words : String) (nums : List Int) (octets : List Byte) : Prop := Out.line words nums octets ∈ t.out

/-! ### Safe states -/

/-- A port that some source mutes lets no signal out: its PAEN is low (R143). -/
def MutedIsDark (s : State) : Prop := ∀ p, portMutesNow s p ≠ 0 → paenNow s p = false

end Sys2Proof.Machine
end

