-- ==== Sys2Proof/Certificates/Slice0/Obligations.lean ====
section
/-! DEFINITION. The statements for the provers. Each names the rules of spec/ it formalises; where a value is the model's own choice, its
log entry is named. A frame that reaches its object is given by `cleared` and `reaches` (R43), a console command that runs by
`consoleReady` (R47). -/

open Sys2Proof Sys2Proof.Machine

/-! ### The queue and the whole machine -/

/-- The command at the front of the queue is executed on the state with the rest of the queue (the block's own step). -/
def Obligations.StepExecutesTheFrontCommand : Prop :=
  ∀ (c : Instr) (rest : List Instr) (s : State), s.pending = c :: rest → step s = exec c { s with pending := rest }

/-- With no command waiting, a tick passes: time advances by one tick (R9), the counter of the timebase by what the tracking loop makes of
it (R56), and the step completes. That an idle step is a tick is the model's choice, log entry 1. -/
def Obligations.IdleStepIsATick : Prop :=
  ∀ s : State, s.pending = [] → ∃ t, step s = .next t ∧ t.time.now = s.time.now + 1 ∧
    (s.time.running = true → t.time.tb = s.time.tb + (advanceBy (s.time.slewAcc + s.num K.tbFreqOffset)).1)

/-- No command of the table stops the part: each answers a next state, whatever its operands. -/
def Obligations.NoCommandStops : Prop := ∀ (c : Instr) (s : State), ∃ t, exec c s = .next t

/-- No command takes from the queue or puts into it. -/
def Obligations.CommandsLeaveTheQueue : Prop := ∀ (c : Instr) (s t : State), exec c s = .next t → t.pending = s.pending

/-- The object tables keep their canonical form in every step. -/
def Obligations.EveryStepKeepsCanonicalForm : Prop := ∀ s t : State, step s = .next t → Canonical s → Canonical t

/-- The object tables are canonical at power-on. -/
def Obligations.ResetIsCanonical : Prop := Canonical State.reset

/-- At power-on every object stands at its default (R33), the part has not begun to boot (R392), and no transaction is open. -/
def Obligations.ResetStandsAtDefaults : Prop :=
  (∀ k, State.reset.num k = Dict.default k) ∧ (∀ k, State.reset.oct k = Dict.defaultBlob k) ∧ State.reset.serving = false ∧
    State.reset.tx.slots = [] ∧ State.reset.tx.accepted = [] ∧ State.reset.pending = []

/-! ### Requests (R39 to R51) -/

/-- Clearing a request changes no object but the requester's count and, for a CAN node, its slot's identity (R45, R48). -/
def Obligations.ClearedRequestsCountThemselves : Prop :=
  ∀ (kind : Nat) (f : Frame) (s u : State) (w : Who), cleared kind f s = some (w, u) →
    u.num (K.mrRequests w.charged) = s.num (K.mrRequests w.charged) + 1 ∧ SameBut [K.mrRequests w.charged, K.mrIdent w.charged] s u

/-- A WRITE outside a transaction and a WRITE above the master's level freeze their master: it drops to Observer, and the code and the level it
held are kept (R51); a READ or WRITE of a frozen CAN or neighbour master is answered FROZEN and changes no object (R51). -/
def Obligations.ViolationsFreezeTheMaster : Prop :=
  (∀ (f : Frame) (w : Who) (s u : State) (r : ObjRow) (k : Nat), cleared kWrite f s = some (w, u) → w.tunnel = false → w.charged ≠ 0 →
    w.flow = w.charged → dmaSetting (f.index * 256 + f.sub) = none → lookup f.index f.sub = some (.live r k) → r.access = .rwv →
    Does (.write f) s (fun t => Answered t w stOutsideTx ∧ t.num (K.mrFrozen w.charged) = (stOutsideTx : Nat) ∧
      t.num (K.mrLevel w.charged) = 0 ∧ t.num (K.mrFrozenLevel w.charged) = (u.levelOf w.charged : Nat))) ∧
  (∀ (f : Frame) (w : Who) (s u : State) (r : ObjRow) (k : Nat), cleared kWrite f s = some (w, u) → w.tunnel = false → w.charged ≠ 0 →
    dmaSetting (f.index * 256 + f.sub) = none → lookup f.index f.sub = some (.live r k) → r.access ≠ .ro → r.access ≠ .rwv → w.level < r.level →
    Does (.write f) s (fun t => Answered t w stLevel ∧ t.num (K.mrFrozen w.charged) = (stLevel : Nat) ∧ t.num (K.mrLevel w.charged) = 0 ∧
      t.num (K.mrFrozenLevel w.charged) = (u.levelOf w.charged : Nat))) ∧
  (∀ (f : Frame) (m : Nat) (s : State), f.org = .master m → s.serving = true → s.num (K.mrFrozen m) ≠ 0 → 3 ≤ m →
    Does (.write f) s (fun t => (∃ seq i sub, Out.response m kWrite seq i sub stFrozen 0 false [] ∈ t.out) ∧ SameObjects s t)) ∧
  (∀ (f : Frame) (m : Nat) (s : State), f.org = .master m → s.serving = true → s.num (K.mrFrozen m) ≠ 0 → 3 ≤ m →
    Does (.read f) s (fun t => (∃ seq i sub, Out.response m kRead seq i sub stFrozen 0 false [] ∈ t.out) ∧ SameObjects s t))

/-- READ answers OK with the value in effect, the staged value, or the descriptor, and changes no object (R38, R43, R44). -/
def Obligations.ReadsAnswerTheirValue : Prop :=
  (∀ (f : Frame) (w : Who) (s u : State) (r : ObjRow) (k : Nat),
    cleared kRead { f with describe := false, staged := false } s = some (w, u) → lookup f.index f.sub = some (.live r k) → r.access ≠ .wo →
    k ≠ K.recRecord → k ≠ K.recPermRecord → r.ty.octets = false → measuredLive u k = false →
    Does (.read f) s (fun t => Answered t w stOk ∧ (t.master w.flow).lastRsp.payload = encodeVal r.ty (.num (u.readNum w.flow k)) ∧
      SameObjects u t)) ∧
  (∀ (f : Frame) (w : Who) (s u : State) (r : ObjRow) (k : Nat),
    cleared kRead { f with describe := false, staged := false } s = some (w, u) → lookup f.index f.sub = some (.live r k) → r.access ≠ .wo →
    k ≠ K.recRecord → k ≠ K.recPermRecord → r.ty.octets = true →
    Does (.read f) s (fun t => Answered t w stOk ∧ (t.master w.flow).lastRsp.payload = readOct u w.flow k ∧ SameObjects u t)) ∧
  (∀ (f : Frame) (w : Who) (s u : State) (r : ObjRow) (k i : Nat) (x : Tx) (v : Val),
    cleared kRead { f with staged := true } s = some (w, u) → f.describe = false → lookup f.index f.sub = some (.live r k) → r.access ≠ .wo →
    txOf u w.flow [1, 2, 6, 7] = some (i, x) → x.staged.find? (fun e => decide (e.1 = k)) = some (k, v) →
    Does (.readStaged f) s (fun t => Answered t w stOk ∧ (t.master w.flow).lastRsp.payload = encodeVal r.ty v ∧ SameObjects u t)) ∧
  (∀ (f : Frame) (w : Who) (s u : State) (r : ObjRow) (k : Nat),
    cleared kRead { f with describe := true } s = some (w, u) → lookup f.index f.sub = some (.live r k) → r.access ≠ .wo →
    Does (.readDescribe f) s (fun t => Answered t w stOk ∧ (t.master w.flow).lastRsp.payload = describe r k ∧ SameObjects u t)) ∧
  (∀ (f : Frame) (w : Who) (s u : State) (r : ObjRow) (k : Nat),
    cleared kRead { f with describe := true } s = some (w, u) → lookup f.index f.sub = some (.live r k) → r.access = .wo →
    Does (.readDescribe f) s (fun t => Answered t w stWrOnly ∧ SameObjects u t)) ∧
  (∀ (f : Frame) (w : Who) (s u : State), cleared kRead { f with describe := false, staged := false } s = some (w, u) →
    lookup f.index f.sub = none → Does (.read f) s (fun t => Answered t w stNoObject ∧ SameObjects u t))

/-- WRITE gives an RW object its value at once, answers OK, and changes no other object; a value or a right that fails changes none
(R33, R43). -/
def Obligations.WritesSetTheirObject : Prop :=
  (∀ (f : Frame) (w : Who) (s u : State) (r : ObjRow) (k : Nat) (v : Int), cleared kWrite f s = some (w, u) →
    lookup f.index f.sub = some (.live r k) → r.access = .rw → r.level ≤ w.level → fits u k r f.payload = .ok (.num v) →
    dmaSetting (f.index * 256 + f.sub) = none → dmaSetting k = none → thresholdZone k = none → k ≠ K.recCursor → k ≠ K.recPermCursor →
    k ≠ K.tbSourcePriority → banisterHolds u k = false →
    Does (.write f) s (fun t => Answered t w stOk ∧ t.num k = v ∧ SameBut [k] u t)) ∧
  (∀ (f : Frame) (w : Who) (s u : State) (r : ObjRow) (k : Nat), cleared kWrite f s = some (w, u) →
    dmaSetting (f.index * 256 + f.sub) = none → lookup f.index f.sub = some (.live r k) → r.access = .ro →
    Does (.write f) s (fun t => Answered t w stRdOnly ∧ SameObjects u t)) ∧
  (∀ (f : Frame) (w : Who) (s u : State) (r : ObjRow) (k : Nat), cleared kWrite f s = some (w, u) →
    dmaSetting (f.index * 256 + f.sub) = none → lookup f.index f.sub = some (.live r k) → r.access ≠ .ro → r.access ≠ .rwv →
    r.level ≤ w.level → fits u k r f.payload = .rangeBad → Does (.write f) s (fun t => Answered t w stRange ∧ SameObjects u t))

/-- A WRITE to a command object is the command's own row (R33): shown for one object of each sort of meaning. -/
def Obligations.WritesOfCommandsAreTheirRows : Prop :=
  ∀ (f : Frame) (s : State),
    (f.index = K.recFlush / 256 → f.sub = K.recFlush % 256 → exec (.write f) s = exec (.recFlush f) s) ∧
    (f.index = K.txOpen / 256 → f.sub = K.txOpen % 256 → exec (.write f) s = exec (.txOpen f) s) ∧
    (f.index = K.fltClear / 256 → f.sub = K.fltClear % 256 → exec (.write f) s = exec (.fltClear f) s) ∧
    (f.index = K.tbAdjust / 256 → f.sub = K.tbAdjust % 256 → exec (.write f) s = exec (.tbAdjust f) s)

/-- STAGE stores the value against the requester's transaction, and no object takes it (R33, R113). -/
def Obligations.StagesKeepTheirValue : Prop :=
  (∀ (f : Frame) (w : Who) (s u : State) (r : ObjRow) (k i : Nat) (x : Tx) (v : Val), cleared kStage f s = some (w, u) →
    lookup f.index f.sub = some (.live r k) → r.access = .rwv → r.level ≤ w.level → fits u k r f.payload = .ok v →
    stagedElsewhere u w.flow k = false → heldEntry u k = false → txOf u w.flow [1, 2] = some (i, x) → x.state = 1 → stagedCount u < maxStaged →
    Does (.stage f) s (fun t => Answered t w stOk ∧ SameObjects u t ∧ ∃ y, t.slot i = some y ∧ (k, v) ∈ y.staged ∧ y.state = 1)) ∧
  (∀ (f : Frame) (w : Who) (s u : State) (r : ObjRow) (k : Nat) (v : Val), cleared kStage f s = some (w, u) →
    lookup f.index f.sub = some (.live r k) → r.access = .rwv → r.level ≤ w.level → fits u k r f.payload = .ok v →
    stagedElsewhere u w.flow k = false → heldEntry u k = false → txOf u w.flow [1, 2] = none → stagedCount u < maxStaged → u.tx.slots = [] →
    Does (.stage f) s (fun t => Answered t w stOk ∧ SameBut [K.txNextNumber] u t ∧ t.num K.txNextNumber = (u.nat K.txNextNumber + 1 : Nat) ∧
      ∃ y, t.slot 0 = some y ∧ y.staged = [(k, v)] ∧ y.state = 1 ∧ y.kind = 1 ∧ y.flow = w.flow))

/-- COMMIT with no requested tick of a local transaction: one that admission passes is Committing, its ACCEPT record being written, and the request
outstanding; one that it refuses is answered REFUSED with the refusal's payload, and counted in adm.refusals; without an Open transaction the
answer is NOTX (R114). -/
def Obligations.CommitsAreAdmittedOrRefused : Prop :=
  (∀ (f : Frame) (w : Who) (s u : State) (i n e : Nat) (x : Tx), cleared kCommit f s = some (w, u) → txOf u w.flow [1] = some (i, x) →
    x.kind = 1 → leAt f.payload 0 8 = noTime → admissionOf u x.staged (requestedTick noTime) = .pass n →
    commitEntry u (x.staged.map Prod.fst) = some e →
    Does (.commit f) s (fun t => (t.master w.flow).outstanding = true ∧ (∃ y, t.slot i = some y ∧ y.state = 2 ∧ y.staged = x.staged) ∧
      (∃ r, t.jr.writing = u.jr.writing ++ [r] ∧ r.kind = 1 ∧ r.staged = x.staged ∧ r.launch = n))) ∧
  (∀ (f : Frame) (w : Who) (s u : State) (i code key : Nat) (e : Option Nat) (x : Tx), cleared kCommit f s = some (w, u) →
    txOf u w.flow [1] = some (i, x) → x.kind = 1 → leAt f.payload 0 8 = noTime → admissionOf u x.staged (requestedTick noTime) = .refuse code key e →
    Does (.commit f) s (fun t => Answered t w stRefused ∧ (t.master w.flow).lastRsp.payload = refusalPayload x.number code key e ∧
      t.num K.admRefusals = min (u.num K.admRefusals + 1) (maxWord 32) ∧ t.tx = u.tx ∧ t.jr = u.jr)) ∧
  (∀ (f : Frame) (w : Who) (s u : State), cleared kCommit f s = some (w, u) → txOf u w.flow [1] = none →
    Does (.commit f) s (fun t => Answered t w stNoTx ∧ SameObjects u t))

/-- An ABORT of an Open transaction discards its staged values, frees its slot, and is answered ABORTED with the transaction number; an ABORT
from a master with no Open or Committing transaction is answered NOTX (R116). A home that has voted yes is Committing to its master, and in the
tick of an acceptance R117 answers. -/
def Obligations.AbortsFreeTheSlot : Prop :=
  (∀ (f : Frame) (w : Who) (s u : State) (i : Nat) (x : Tx), cleared kAbort f s = some (w, u) → txOf u w.flow [1, 2] = some (i, x) →
    x.kind = 1 ∨ x.kind = 2 → x.state = 1 → Does (.abort f) s (fun t => Answered t w stAborted ∧
      (t.master w.flow).lastRsp.payload = leBytes 4 (x.number : Int) ∧ t.slot i = none ∧
      t.num K.txAborts = min (u.num K.txAborts + 1) (maxWord 32) ∧ SameBut [K.txAborts] u t)) ∧
  (∀ (f : Frame) (w : Who) (s u : State), cleared kAbort f s = some (w, u) → txOf u w.flow [1, 2] = none → txOf u w.flow [6, 7] = none →
    acceptedNow u w.flow = none → Does (.abort f) s (fun t => Answered t w stNoTx ∧ SameObjects u t))

/-- A SEGMENT that is due joins the octets in progress; the last one of a WRITE gives the object its value; one with no value in progress is
MALFORMED and freezes its master (R39, R41). -/
def Obligations.SegmentsJoinTheirValue : Prop :=
  (∀ (g : SegFrame) (m kind : Nat) (h : Frame) (got : List Byte) (s : State), g.org = .master m → s.serving = true →
    s.num (K.mrFrozen m) = 0 → (s.master m).seg = some (kind, h, got, g.seq) → (s.master m).lastReq = none → g.resv = false →
    g.payload.length = segmentDue (h.length - got.length) → got.length + g.payload.length < h.length →
    Does (.segment g) s (fun t => (t.master m).seg = some (kind, h, got ++ g.payload, (g.seq + 1) % 256) ∧ SameObjects s t)) ∧
  (∀ (g : SegFrame) (m : Nat) (h : Frame) (got : List Byte) (s : State) (r : ObjRow) (k : Nat) (v : List Byte), g.org = .master m → 3 ≤ m →
    s.serving = true → s.num (K.mrFrozen m) = 0 → (s.master m).seg = some (kWrite, h, got, g.seq) → (s.master m).lastReq = none →
    g.resv = false → g.payload.length = segmentDue (h.length - got.length) → got.length + g.payload.length = h.length →
    lookup h.index h.sub = some (.live r k) → r.access = .rw → r.level ≤ s.levelOf m → dmaSetting (h.index * 256 + h.sub) = none →
    dmaSetting k = none → thresholdZone k = none → k ≠ K.recCursor → k ≠ K.recPermCursor → k ≠ K.tbTodNext → k ≠ K.tbSourcePriority → banisterHolds s k = false →
    (∀ u : State, u.obj = s.obj → u.blob = s.blob → fits u k r (got ++ g.payload) = .ok (.oct v)) →
    Does (.segment g) s (fun t => Answered t ⟨m, m, s.levelOf m, false⟩ stOk ∧ t.oct k = v)) ∧
  (∀ (g : SegFrame) (m : Nat) (s : State), g.org = .master m → m ≠ 0 → s.serving = true → s.num (K.mrFrozen m) = 0 → (s.master m).seg = none →
    Does (.segment g) s (fun t => t.num (K.mrFrozen m) = (stMalformed : Nat) ∧ t.num (K.mrLevel m) = 0))

/-! ### Masters (R45 to R53) -/

/-- Unfreezing by a writer of a higher level than the frozen master held returns the master to Observer; a writer of no higher level is itself
frozen with LEVEL (R52). An interface reset of a controller or of the console unfreezes its masters at Observer (R48, R52). -/
def Obligations.UnfreezingReturnsToObserver : Prop :=
  (∀ (m : Nat) (f : Frame) (w : Who) (v : Val) (s u : State), reaches (K.mrUnfreeze m) f s = some (w, v, u) →
    u.nat (K.mrFrozenLevel m) < w.level → u.num (K.mrFrozen m) ≠ 0 →
    Does (.mrUnfreeze m f) s (fun t => Answered t w stOk ∧ t.num (K.mrFrozen m) = 0 ∧ t.num (K.mrLevel m) = 0 ∧
      (m ≠ w.flow → (t.master m).lastSeq = none) ∧ SameBut [K.mrFrozen m, K.mrLevel m] u t)) ∧
  (∀ (m : Nat) (f : Frame) (w : Who) (v : Val) (s u : State), reaches (K.mrUnfreeze m) f s = some (w, v, u) →
    u.nat (K.mrFrozenLevel m) < w.level → u.num (K.mrFrozen m) = 0 →
    Does (.mrUnfreeze m f) s (fun t => Answered t w stOk ∧ SameObjects u t)) ∧
  (∀ (m : Nat) (f : Frame) (w : Who) (v : Val) (s u : State), reaches (K.mrUnfreeze m) f s = some (w, v, u) →
    w.level ≤ u.nat (K.mrFrozenLevel m) → w.tunnel = false → w.charged ≠ 0 →
    Does (.mrUnfreeze m f) s (fun t => Answered t w stLevel ∧ t.num (K.mrFrozen w.charged) = (stLevel : Nat) ∧
      t.num (K.mrLevel w.charged) = 0)) ∧
  (∀ (f : Frame) (w : Who) (v : Val) (s u : State), reaches K.dzCanaReset f s = some (w, v, u) →
    Does (.dzCanaReset f) s (fun t => Answered t w stOk ∧ ∀ i, i < 32 → t.num (K.mrFrozen (8 + i)) = 0 ∧ t.num (K.mrLevel (8 + i)) = 0)) ∧
  (∀ (f : Frame) (w : Who) (v : Val) (s u : State), reaches K.dzCanbReset f s = some (w, v, u) →
    Does (.dzCanbReset f) s (fun t => Answered t w stOk ∧ ∀ i, i < 32 → t.num (K.mrFrozen (40 + i)) = 0 ∧ t.num (K.mrLevel (40 + i)) = 0)) ∧
  (∀ (bus : Nat) (s : State), Does (.canBusOffRecovery bus) s (fun t =>
    ∀ i, i < 32 → t.num (K.mrFrozen (canBase bus + i)) = 0 ∧ t.num (K.mrLevel (canBase bus + i)) = 0)) ∧
  (∀ (ms : Nat) (s : State), 250 ≤ ms → Does (.consoleBreak ms) s (fun t =>
    t.num (K.mrFrozen 2) = 0 ∧ t.num (K.mrLevel 2) = 0 ∧ SameBut [K.mrFrozen 2, K.mrLevel 2, K.txAborts] s t)) ∧
  (∀ (ms : Nat) (s : State), ms < 250 → Does (.consoleBreak ms) s (fun t => t = s))

/-- An idle CAN slot is given up, written CAN settings come into effect, a silent master relocks (R45, R48, R53), and in 1 ms every bucket refills
by 1/1,000 of its master's allowance, up to its burst (R48). -/
def Obligations.SlotsSettingsAndLevels : Prop :=
  (∀ (m : Nat) (s : State), slotIdle s m = true → Does (.canSlotRelease m) s (fun t =>
    (t.master m).node = none ∧ t.num (K.mrIdent m) = 0 ∧ SameBut [K.mrIdent m] s t)) ∧
  (∀ s : State, Does .canSettingApply s (fun t => t.can.nodeA = s.nat K.dzCanaNode ∧ t.can.nodeB = s.nat K.dzCanbNode ∧ SameObjects s t)) ∧
  (∀ (m : Nat) (s : State), m ≠ 0 → 0 < s.num (K.mrLevel m) → (s.master m).lastActive + s.nat K.accIdleRelock * secTicks ≤ s.time.now →
    Does (.masterIdleRelock m) s (fun t => t.num (K.mrLevel m) = 0 ∧ SameBut [K.mrLevel m] s t)) ∧
  (∀ (m : Nat) (s : State), s.time.now < (s.master m).lastActive + s.nat K.accIdleRelock * secTicks →
    Does (.masterIdleRelock m) s (fun t => t = s)) ∧
  (∀ s : State, s.holdOsc = false → Does .tokenRefill s (fun t => SameObjects s t ∧
    ∀ m, tokensOf t m = min (bucketMax s m) (tokensOf s m + s.nat (K.mrAllowance m) * 8)))

/-! ### The console and the tunnel (R46, R47) -/

/-- A line of more than 255 octets is answered err SYNTAX; a whole line is the request that it spells, as by its dictionary or service command; the
line rd with the index and sub-index of an object of a number type prints ok and its value; an overrun discards what is being received and prints
err OVERRUN (R47). -/
def Obligations.ConsoleLinesAreTaken : Prop :=
  (∀ (l : List Char) (s : State), s.serving = true → 255 < l.length →
    Does (.consoleLine l) s (fun t => Printed t "err SYNTAX" [] [] ∧ SameObjects s t)) ∧
  (∀ (l : List Char) (body : Who → State → Reply) (s : State), consoleReady s = true → l.length ≤ 255 → s.flag K.conEcho = false →
    trimEnd l ≠ [] → unfinished l = none → lineBody l none = some body →
    Does (.consoleLine l) s (fun t =>
      t = conRequest { s with con := { s.con with watch := none, cont := none } } body)) ∧
  (∀ (l : List Char) (i j k : Nat) (r : ObjRow) (s : State), consoleReady s = true → l.length ≤ 252 → s.flag K.conEcho = false →
    parseObj l = .obj i j → ' ' ∉ l → l.getLast? ≠ some '\\' → lookup i j = some (.live r k) → rowFor i j = some r → r.access ≠ .wo →
    k ≠ K.recRecord → k ≠ K.recPermRecord → r.ty.octets = false → measuredLive (atConsole s) k = false →
    Does (.consoleLine ("rd ".toList ++ l)) s (fun t =>
      Printed t "ok" [(stOk : Int)] (encodeVal r.ty (.num ((atConsole s).readNum 2 k))) ∧ SameObjects (atConsole s) t)) ∧
  (∀ s : State, Does .consoleOverrun s (fun t => t.con.cont = none ∧ Printed t "err OVERRUN" [] [] ∧ SameObjects s t))

/-- A tunnelled frame for another part goes on with one hop less; a bad header freezes the neighbour of its link; a frozen neighbour's frame is
dropped; a LEVEL response freezes the master it is for, and is handed to it (R46). -/
def Obligations.TunnelsForwardAndFreeze : Prop :=
  (∀ (link : Nat) (h : TunHdr) (b : List Byte) (s : State), s.num (K.mrFrozen (3 + link)) = 0 → headerBad h = false →
    counted b = false ∨ hasToken s (3 + link) = true → h.dest ≠ s.nat K.stwAddr → duplicated s h.dest = false → h.hops ≠ 1 →
    Does (.tunnelForward link ⟨h, b⟩) s (fun t => Out.tunnel (routeOf s h.dest) { h with hops := h.hops - 1 } b ∈ t.out ∧ SameObjects s t)) ∧
  (∀ (link : Nat) (h : TunHdr) (b : List Byte) (s : State), s.num (K.mrFrozen (3 + link)) = 0 → headerBad h = true →
    Does (.tunnelForward link ⟨h, b⟩) s (fun t => t.num (K.mrFrozen (3 + link)) = (stMalformed : Nat) ∧ t.num (K.mrLevel (3 + link)) = 0)) ∧
  (∀ (link : Nat) (h : TunHdr) (b : List Byte) (s : State), s.num (K.mrFrozen (3 + link)) ≠ 0 →
    Does (.tunnelForward link ⟨h, b⟩) s (fun t => t = s)) ∧
  (∀ (h : TunHdr) (kind seq index sub : Nat) (s : State), h.dest = s.nat K.stwAddr → 3 ≤ h.om → h.om < 72 →
    Does (.tunnelLevelResponse ⟨h, kind, seq, index, sub⟩) s (fun t => t.num (K.mrFrozen h.om) = (stLevel : Nat) ∧ t.num (K.mrLevel h.om) = 0 ∧
      Out.response h.om kind seq index sub stLevel 0 false [] ∈ t.out)) ∧
  (∀ (h : TunHdr) (kind seq index sub : Nat) (s : State), h.dest = s.nat K.stwAddr → h.om = 1 ∨ h.om = 2 →
    Does (.tunnelLevelResponse ⟨h, kind, seq, index, sub⟩) s (fun t => t.num (K.mrFrozen h.om) = (stLevel : Nat) ∧ t.num (K.mrLevel h.om) = 0))

/-! ### The clocks and the timebase (R22, R23, R55 to R71) -/

/-- The loss of a clock holds the counter, makes the timebase invalid and untraced, moves the management cores to the hold oscillator, and mutes
every port and every started channel (R22); its return lets the counter run again with every clock good (R23). -/
def Obligations.ClockLossAndReturn : Prop :=
  (∀ (src : ClkLoss) (s : State), s.time.running = true → Does (.refclkLoss src) s (fun t =>
    t.time.running = false ∧ t.num K.tbState = 0 ∧ t.num K.tbTrace = 0 ∧ t.num K.tbStepPending = (noTime : Nat) ∧ t.bit K.clkStatus 6 = true ∧
    (∀ p, p < 32 → t.bit (K.portMutes p) pmClock = true) ∧ (∀ c, c < 512 → s.num (K.chRun c) = 1 → t.bit (K.chMutes c) cmTimebase = true))) ∧
  (∀ (x : Report) (s : State), s.time.running = false → s.holdOsc = true → Does (.refclkResume x) s (fun t =>
    t.time.running = true ∧ t.num K.clkStatus = 0x3F)) ∧
  (∀ (x : Report) (s : State), s.time.running = true → Does (.refclkResume x) s (fun t => t = s))

/-- A source that meets Table 3-3 qualifies, one that meets its loss condition disqualifies, and any other stands as it is (R62); the highest
source takes over from the selected one when its wait is over (R61). -/
def Obligations.SourcesQualify : Prop :=
  (∀ (src : Nat) (x : Report) (s : State), 1 ≤ src → src ≤ 3 → s.qualifiedSrc src = false → mayQualify s src = true →
    Does (.sourceQualify src x) s (fun t => t.qualifiedSrc src = true)) ∧
  (∀ (src : Nat) (x : Report) (s : State), mayQualify s src = false → Does (.sourceQualify src x) s (fun t => t = s)) ∧
  (∀ (src : Nat) (x : Report) (s : State), 1 ≤ src → src ≤ 3 → mustDisqualify s src = true →
    Does (.sourceDisqualify src x) s (fun t => t.qualifiedSrc src = false)) ∧
  (∀ (src : Nat) (x : Report) (s : State), mustDisqualify s src = false → Does (.sourceDisqualify src x) s (fun t => t = s)) ∧
  (∀ (src : Nat) (s : State), s.num K.tbState = tsLocked ∨ s.num K.tbState = tsAcquiring → s.num K.tbSourceSelected ≠ src → bestSource s = some src → revertDue s src = true →
    Does (.sourceRevert src) s (fun t => t.num K.tbSourceSelected = src))

/-- The tracking loop: in Locked and Acquiring tb.phase_error is e of the selected source (R63), in Holdover the elapsed time counts (R67); Holdover
expires when its uncertainty exceeds the budget (R67). -/
def Obligations.TrackingLoopRuns : Prop :=
  (∀ (x : Report) (s : State), s.num K.tbState = tsLocked → Does (.trackingLoopUpdate x) s (fun t =>
    t.num K.tbPhaseError = frameError (sourceDelta s (s.nat K.tbSourceSelected)) ∧ t.num K.tbState = tsLocked)) ∧
  (∀ (x : Report) (s : State), s.num K.tbState = tsHoldover → Does (.trackingLoopUpdate x) s (fun t =>
    t.num K.tbHoldoverElapsed = (holdTicks s / msTicks : Nat) ∧ SameBut [K.tbHoldoverElapsed, K.tbHoldoverUncertainty] s t)) ∧
  (∀ (x : Report) (s : State), s.num K.tbState = tsAcquiring → Does (.trackingLoopUpdate x) s (fun t =>
    t.num K.tbPhaseError = frameError (sourceDelta s (s.nat K.tbSourceSelected)) ∧ SameBut [K.tbPhaseError] s t)) ∧
  (∀ s : State, s.num K.tbState = tsHoldover → s.num K.tbHoldoverBudget * 65536 * secTicks < uncertaintyExact s →
    Does .holdoverExpired s (fun t => t.num K.tbState = tsExpired ∧ t.num K.tbTrace = 0))

/-- In the step tick S the timebase reads S + Δ, tb.last_step holds Δ and no step is pending (R69); an announced step of a Stairway source is held
against its S (R78); the step mute and the timebase mute of a channel are released at their resume ticks (R60, R69). -/
def Obligations.StepsAreDecidedAndTaken : Prop :=
  (∀ (p : StepPlan) (s : State), s.time.step = some p → s.time.running = true → p.at_ ≤ s.time.tb →
    Does .stepInstant s (fun t => t.time.tb = ((p.at_ : Int) + p.delta).toNat ∧ t.num K.tbLastStep = p.delta ∧ t.num K.tbStepPending = (noTime : Nat) ∧ t.time.step = none)) ∧
  (∀ s : State, s.time.step = none → Does .stepInstant s (fun t => t = s)) ∧
  (∀ (at_ : Nat) (delta : Int) (s : State), s.num K.tbSourceSelected = 1 → s.time.tb ≤ at_ →
    Does (.stepAnnouncement at_ delta) s (fun t => t.num K.tbStepPending = (tbWord at_ : Nat) ∧
      (∃ p, t.time.step = some p ∧ p.at_ = at_ ∧ p.delta = delta ∧ p.source = 1 ∧ p.cause = 5) ∧ SameBut [K.tbStepPending] s t)) ∧
  (∀ (c : Nat) (s : State), c < 512 → s.bit (K.chMutes c) cmStep = true → (s.chan c).resume ≤ s.time.tb →
    Does (.stepMuteRelease c) s (fun t => t.bit (K.chMutes c) cmStep = false ∧ t.bit (K.cxFreezes c) 9 = false)) ∧
  (∀ (c r : Nat) (s : State), c < 512 → (s.chan c).resumeTrace = some r → s.flag K.tbTrace = true → r ≤ s.time.tb →
    Does (.timebaseMuteRelease c) s (fun t => t.bit (K.chMutes c) cmTimebase = false))

/-- A write of Δ to tb.adjust schedules a step of Δ at the step instant, only on a part whose selected source is PPS_IN or free-run and that is
the Newel or has no downstream link Up; elsewhere it is answered RANGE; a write of 0 cancels a pending host step (R71). -/
def Obligations.HostStepsAreScheduled : Prop :=
  (∀ (f : Frame) (w : Who) (d : Int) (s u : State), reaches K.tbAdjust f s = some (w, .num d, u) →
    u.num K.tbSourceSelected = 3 ∨ u.num K.tbSourceSelected = 4 → isNewel u = true ∨ downUp u = [] → d ≠ 0 →
    Does (.tbAdjust f) s (fun t => Answered t w stOk ∧ (∃ p, t.time.step = some p ∧ p.delta = d ∧ p.cause = 4 ∧ p.at_ = stepInstant u) ∧
      t.readNum w.flow K.tbAdjust = d ∧ t.num K.tbStepPending = (tbWord (stepInstant u) : Nat) ∧ SameBut [K.tbStepPending] u t)) ∧
  (∀ (f : Frame) (w : Who) (v : Val) (s u : State), reaches K.tbAdjust f s = some (w, v, u) →
    (u.num K.tbSourceSelected ≠ 3 ∧ u.num K.tbSourceSelected ≠ 4) ∨ (isNewel u = false ∧ downUp u ≠ []) →
    Does (.tbAdjust f) s (fun t => Answered t w stRange ∧ SameObjects u t)) ∧
  (∀ (f : Frame) (w : Who) (p : StepPlan) (s u : State), reaches K.tbAdjust f s = some (w, .num 0, u) →
    u.num K.tbSourceSelected = 3 ∨ u.num K.tbSourceSelected = 4 → isNewel u = true ∨ downUp u = [] → u.time.step = some p → p.cause = 4 →
    u.num K.tbState ≠ tsAcquiring →
    Does (.tbAdjust f) s (fun t => Answered t w stOk ∧ t.time.step = none ∧ t.readNum w.flow K.tbAdjust = 0 ∧
      t.num K.tbStepPending = (noTime : Nat) ∧ SameBut [K.tbStepPending] u t))

/-- A donor detection on a channel that is fed by a donor gives the metric and the donor's frame start; one on any other counts as missed (R65). A
PPS edge of the asked polarity gives its stamp, and a mistimed one counts (R66). -/
def Obligations.DonorAndPpsAreFollowed : Prop :=
  (∀ (metric : Int) (start : Nat) (s : State), donorRuns s = true → Does (.donorDetection metric start) s (fun t =>
    t.num K.tbDonorMetric = metric ∧ (s.num K.tbDonorMinMetric ≤ metric → t.time.donorLast = some (donorFrame s start) ∧
      Tab.get (fun _ => none) t.time.srcDelta 2 = some (frameError (-(donorFrame s start)))) ∧
    SameBut [K.tbDonorMetric, K.tbDonorState] s t)) ∧
  (∀ (metric : Int) (start : Nat) (s : State), donorRuns s = false → Does (.donorDetection metric start) s (fun t =>
    t.time.donorGood = 0 ∧ t.time.donorBad = s.time.donorBad + 1 ∧ SameBut [K.tbDonorState] s t)) ∧
  (∀ s : State, s.time.ppsPin ≠ decide (s.num K.tbPpsEdge = 1) → Does .ppsEdge s (fun t => t.time.ppsPin = !s.time.ppsPin ∧ SameObjects s t)) ∧
  (∀ s : State, s.time.ppsPin = decide (s.num K.tbPpsEdge = 1) → Does .ppsEdge s (fun t => t.time.ppsPin = !s.time.ppsPin ∧
    t.time.ppsLast = some (ppsStamp s) ∧ (s.num K.tbPpsState ≠ 2 → t.num K.tbPpsState = 1) ∧
    (s.time.ppsLast.isSome = true → spacingGood s (ppsStamp s) = false → t.num K.tbPpsMissed = min (s.num K.tbPpsMissed + 1) (maxWord 32)) ∧
    SameBut [K.tbPpsMissed, K.tbPpsState] s t))

/-! ### Stairway (R72 to R78) -/

/-- The states of a link follow Table 3-7 (R74). -/
def Obligations.LinksFollowTheirStates : Prop :=
  (∀ (l : Nat) (s : State), l < 3 → linkState s l = lsDown → s.flag (K.stwLinkLEnable l) = true → s.num (K.pdState 83) = 3 →
    Does (.linkSignalDetect l) s (fun t => linkState t l = lsAlign ∧ SameBut [K.stwLinkLState l] s t)) ∧
  (∀ (l : Nat) (s : State), l < 3 → linkState s l = lsAlign →
    Does (.linkAligned l) s (fun t => linkState t l = lsRole ∧ SameBut [K.stwLinkLState l] s t)) ∧
  (∀ (l : Nat) (s : State), l < 3 → linkState s l = lsAlign → (s.link l).since + 12288000 ≤ s.time.now →
    Does (.linkAlignTimeout l) s (fun t => linkState t l = lsDown ∧ SameBut [K.stwLinkLState l] s t)) ∧
  (∀ (l far : Nat) (s : State), l < 3 → linkState s l = lsRole →
    Does (.linkRoleExchange l far) s (fun t => linkState t l = (if far = ownRole l then lsMiswired else lsMeasure) ∧
      SameBut [K.stwLinkLState l] s t)) ∧
  (∀ (l : Nat) (x : Report) (s : State), l < 3 → linkState s l = lsMeasure → 64 ≤ (s.link l).exchanges.length →
    0 ≤ meanDelay (s.link l).exchanges → meanDelay (s.link l).exchanges ≤ 122880 →
    Does (.linkMeasureDone l x) s (fun t => linkState t l = lsUp ∧ t.num (K.stwLinkLDelay l) = meanDelay (s.link l).exchanges ∧
      SameBut [K.stwLinkLState l, K.stwLinkLDelay l, K.stwPartition] s t)) ∧
  (∀ (l : Nat) (x : Report) (s : State), l < 3 → linkState s l = lsMeasure → 64 ≤ (s.link l).exchanges.length →
    meanDelay (s.link l).exchanges < 0 ∨ 122880 < meanDelay (s.link l).exchanges →
    Does (.linkMeasureDone l x) s (fun t => linkState t l = lsDown)) ∧
  (∀ (l : Nat) (x : Report) (s : State), (s.link l).exchanges.length < 64 → Does (.linkMeasureDone l x) s (fun t => t = s)) ∧
  (∀ (l : Nat) (s : State), l < 3 → linkState s l = lsUp → errorsReached s l = true →
    Does (.linkErrorRetrain l) s (fun t => linkState t l = lsAlign)) ∧
  (∀ (l : Nat) (f : Frame) (w : Who) (s u : State), reaches (K.stwLinkLRetrain l) f s = some (w, .num 1, u) → linkState u l ≠ lsDown →
    Does (.stwRetrain l f) s (fun t => Answered t w stOk ∧ linkState t l = lsAlign))

/-- Time cells give depth and Newel, delay cells the mean delay, the census its count, and cells in error count (R72, R75 to R77). -/
def Obligations.CellsAreTaken : Prop :=
  (∀ (c : TimeCell) (s : State), c.crcOk = true → Does (.timeCell 0 c) s (fun t =>
    t.num K.stwDepth = (depthFrom c.depth : Nat) ∧ t.num K.stwNewel = (c.newel : Nat) ∧ (t.link 0).upTrace = c.trace)) ∧
  (∀ (l : Nat) (c : TimeCell) (s : State), l < 3 → c.crcOk = false → Does (.timeCell l c) s (fun t =>
    t.num (K.stwLinkLCrcErrors l) = min (s.num (K.stwLinkLCrcErrors l) + 1) (maxWord 32) ∧ SameBut [K.stwLinkLCrcErrors l] s t)) ∧
  (∀ (l : Nat) (c : DelayCell) (s : State), 1 ≤ l → l < 3 → c.crcOk = true → Does (.delayCell l c) s (fun t =>
    t.num (K.stwLinkLDelay l) = clampI (meanDelay (qdiv ((c.t4 - c.t1) - (c.t3 - c.t2) + s.num (K.stwLinkLAsym l)) 2 ::
      (s.link l).exchanges.take 1023)) 0 0xFFFFFFFF ∧ SameBut [K.stwLinkLDelay l] s t)) ∧
  (∀ (c : DelayCell) (s : State), c.crcOk = true → Does (.delayCell 0 c) s (fun t =>
    t.num (K.stwLinkLDelay 0) = clampI (meanDelay (c.dDown :: (s.link 0).exchanges.take 1023)) 0 0xFFFFFFFF ∧
      SameBut [K.stwLinkLDelay 0] s t)) ∧
  (∀ (parts : Nat) (subA subB dups : List Nat) (s : State), Does (.census parts subA subB dups) s (fun t =>
    t.num K.stwCensus = (parts : Nat) ∧ (t.link 1).below = subA ∧ (t.link 2).below = subB ∧
    (t.num K.stwConflict = 1 ↔ s.nat K.stwAddr ∈ dups ∨ s.nat K.stwAddr ∈ subA ∨ s.nat K.stwAddr ∈ subB)))

/-! ### Snapshots (R80, R81) -/

/-- Snapshots are held against their tick and taken at it; a late one is taken at once and marked (R80, R81). -/
def Obligations.SnapshotsAreTaken : Prop :=
  (∀ (f : Frame) (w : Who) (d : Int) (s u : State), reaches K.snapLocal f s = some (w, .num d, u) →
    Does (.snapLocal f) s (fun t => Answered t w stOk ∧ SameObjects u t ∧
      (d = noTime → t.time.snapNext = u.time.snapNext ++ [u.time.now + 1]) ∧
      (d ≠ noTime → t.time.snapDue = u.time.snapDue ++ [tbTicks d.toNat]))) ∧
  (∀ (f : Frame) (w : Who) (d : Int) (s u : State), reaches K.snapSystem f s = some (w, .num d, u) → isNewel u = true → d ≠ noTime →
    u.time.tb + 12288000 ≤ tbTicks d.toNat →
    Does (.snapSystem f) s (fun t => Answered t w stOk ∧ SameObjects u t ∧ t.time.snapDue = u.time.snapDue ++ [tbTicks d.toNat])) ∧
  (∀ (f : Frame) (w : Who) (v : Val) (s u : State), reaches K.snapSystem f s = some (w, v, u) → isNewel u = false →
    Does (.snapSystem f) s (fun t => Answered t w stRange ∧ SameObjects u t)) ∧
  (∀ (at_ : Nat) (s : State), at_ < s.time.tb → Does (.snapshotTrigger at_) s (fun t =>
    t.num K.snapLate = 1 ∧ t.num K.snapTick = (s.tbNow : Nat) ∧ t.num K.snapSeq = (s.num K.snapSeq + 1) % 4294967296)) ∧
  (∀ (at_ : Nat) (s : State), s.time.tb ≤ at_ → Does (.snapshotTrigger at_) s (fun t =>
    t.time.snapDue = s.time.snapDue ++ [at_] ∧ SameObjects s t)) ∧
  (∀ (d : Nat) (s : State), s.time.snapDue = [d] → s.time.snapNext = [] → d ≤ s.time.tb → Does .snapshotDue s (fun t =>
    t.time.snapDue = [] ∧ t.num K.snapLate = 0 ∧ t.num K.snapTick = (s.tbNow : Nat) ∧ t.num K.snapSeq = (s.num K.snapSeq + 1) % 4294967296))

/-! ### The launch table and patterns (R85 to R100) -/

/-- The command of each launch kind (Table 4-2). -/
def launchRow : Nat → Option (LaunchSrc → Instr)
  | 0x01 => some .portStateChange
  | 0x02 => some .channelEnable
  | 0x03 => some .channelMute
  | 0x04 => some .gainHold
  | 0x05 => some .railSetPointSelect
  | 0x06 => some .filterBankSwap
  | 0x07 => some .cancellerFreeze
  | 0x08 => some .dcBlockFreeze
  | 0x09 => some .snapshot
  | 0x0A => some .calibrationStart
  | 0x0B => some .galleryTrigger
  | 0x0C => some .feedEnable
  | _ => none

/-- The status of an executed entry: done, late or held (Table 4-3). -/
def Executed (t : State) (n : Nat) : Prop := t.num (K.ltStatus n) = leDone ∨ t.num (K.ltStatus n) = leLate ∨ t.num (K.ltStatus n) = leHeld

/-- An entry whose turn has come executes, and takes its status; one whose turn has not come is left alone; a pattern action runs in the same
way (R88, R89, R91, R99). -/
def Obligations.LaunchEntriesExecute : Prop :=
  (∀ (kind : Nat) (row : LaunchSrc → Instr) (n : Nat) (s : State), launchRow kind = some row → n < 4096 → entryReady s n = true →
    walkersIdle s = true → (entryAction (entryOct s n)).kind = kind → Does (row (.entry n)) s (fun t => Executed t n)) ∧
  (∀ (kind : Nat) (row : LaunchSrc → Instr) (n : Nat) (s : State), launchRow kind = some row → entryReady s n = false →
    Does (row (.entry n)) s (fun t => t = s)) ∧
  (∀ (kind : Nat) (row : LaunchSrc → Instr) (p a : Nat) (s : State), launchRow kind = some row → actionReady s p a = true →
    (actAction (s.oct (K.patAction p a))).kind = kind → Does (row (.action p a)) s (fun t => t = runPatternAction p a s))

/-- What each kind of entry does to its target: port, launch mute, gain hold and freezes (R88). -/
def Obligations.LaunchKindsActOnTheirTarget : Prop :=
  ∀ (n : Nat) (a : Action) (s : State), n < 4096 → entryReady s n = true → walkersIdle s = true → entryAction (entryOct s n) = a →
    (a.kind = 0x01 → a.target < 32 → Does (.portStateChange (.entry n)) s (fun t => t.num (K.portTarget a.target) = (a.param : Nat))) ∧
    (a.kind = 0x02 → a.target < 512 → Does (.channelEnable (.entry n)) s (fun t => t.bit (K.chMutes a.target) cmLaunch = false)) ∧
    (a.kind = 0x03 → a.target < 512 → Does (.channelMute (.entry n)) s (fun t => t.bit (K.chMutes a.target) cmLaunch = true)) ∧
    (a.kind = 0x04 → a.target < 512 → Does (.gainHold (.entry n)) s (fun t => t.bit (K.geHolds a.target) 0 = decide (a.param = 1))) ∧
    (a.kind = 0x07 → a.target < 512 → Does (.cancellerFreeze (.entry n)) s (fun t => t.bit (K.cxFreezes a.target) 0 = decide (a.param = 1))) ∧
    (a.kind = 0x08 → a.target < 512 → Does (.dcBlockFreeze (.entry n)) s (fun t =>
      (t.chan a.target).dcFreeze = decide (a.param = 1) ∧ SameBut [K.ltExecuted, K.ltLate, K.ltStatus n] s t))

/-- What the kinds for rails, banks, snapshots, calibrations, the Gallery and feeds do (R88). -/
def Obligations.LaunchKindsActOnTheirBlock : Prop :=
  ∀ (n : Nat) (a : Action) (s : State), n < 4096 → entryReady s n = true → walkersIdle s = true → entryAction (entryOct s n) = a →
    (a.kind = 0x05 → a.target < 24 → Does (.railSetPointSelect (.entry n)) s (fun t => s.num (K.rlSelSource a.target) ≠ 1 →
      t.num (K.rlSetpoint a.target) = (a.param : Nat))) ∧
    (a.kind = 0x06 → a.target < 64 → Does (.filterBankSwap (.entry n)) s (fun t => t.nat (K.slBankActive a.target) = a.param / 65536 ∧
      t.num (K.slSwaps a.target) = min (s.num (K.slSwaps a.target) + 1) (maxWord 32))) ∧
    (a.kind = 0x09 → Does (.snapshot (.entry n)) s (fun t => t.num K.snapTick = (s.tbNow : Nat) ∧ t.num K.snapLate = 0)) ∧
    (a.kind = 0x0A → a.target < 32 → a.param < 4 → calHolds s a.target = false → s.num (K.portState a.target) = psStandby →
      Does (.calibrationStart (.entry n)) s (fun t => calStatusNow t a.target = 2 ∧ t.num (K.calKind a.target) = (a.param : Nat))) ∧
    (a.kind = 0x0B → s.gal.launch = true → s.num K.galState = gsArmed → Does (.galleryTrigger (.entry n)) s (fun t => t.num K.galState = gsTriggered)) ∧
    (a.kind = 0x0C → a.target < 32 → Does (.feedEnable (.entry n)) s (fun t => t.num (K.fdEnable a.target) = (a.param : Nat)))

/-- Walkers cross their boundaries, and a transient ends (R97, R98). -/
def Obligations.WalkersCrossBoundaries : Prop :=
  (∀ (p : Nat) (cur nxt : Seg) (s : State), launchRuns s = true → noCommitDue s = true → boundaryDue s p = true →
    (List.range p).all (fun q => !boundaryDue s q) = true → (segsOf s p)[(s.walker p).seg]? = some cur →
    (segsOf s p)[((s.walker p).seg + 1) % max 1 (segsOf s p).length]? = some nxt →
    Does (.segmentBoundary p) s (fun t => (t.walker p).seg = ((s.walker p).seg + 1) % max 1 (segsOf s p).length ∧
      (t.walker p).due = (s.walker p).due + nxt.len)) ∧
  (∀ (p : Nat) (s : State), boundaryDue s p = false → Does (.segmentBoundary p) s (fun t => t = s)) ∧
  (∀ (c r : Nat) (s : State), (s.chan c).transientDue = some r → r ≤ s.time.now → Does (.patternTransientEnd c) s (fun t =>
    (t.chan c).transientDue = none ∧ t.bit (K.cxFreezes c) 1 = false ∧ SameBut [K.cxFreezes c] s t))

/-! ### Transactions and the journal (R110 to R126) -/

/-- No block follows the object at key k when it is staged. -/
def plainKey (k : Nat) : Bool :=
  (entryOf k).isNone && (patOf k).isNone && (chanOf k).isNone && (portKey k).isNone && (feedKey k).isNone && (railKey k).isNone &&
    (holdKey k).isNone && (tmKey k).isNone && (obsKey k).isNone && (pinKey k).isNone && (emKey k).isNone

/-- A transaction launches: its staged value stands in its object, its entry is executed, and it waits no more (R115). -/
def Obligations.CommitsTakeEffect : Prop :=
  (∀ (x : Accepted) (s : State), nextCommit s = some x → launchRuns s = true → x.entry < 4096 →
    Does (.transactionCommit x.number) s (fun t => Executed t x.entry ∧ x ∉ t.tx.accepted)) ∧
  (∀ (x : Accepted) (k : Nat) (v : Int) (s : State), nextCommit s = some x → launchRuns s = true → x.entry < 4096 →
    x.staged = [(k, .num v)] → plainKey k = true → k / 256 < 0x2100 ∨ 0x2300 ≤ k / 256 →
    Does (.transactionCommit x.number) s (fun t => t.num k = v)) ∧
  (∀ (n : Nat) (s : State), nextCommit s = none → Does (.transactionCommit n) s (fun t => t = s))

/-- Transactions open, local or system, and an idle one is aborted (R112, R113); a dry run reports what admission would answer, and changes
nothing else (R110). -/
def Obligations.TransactionsOpenAndIdle : Prop :=
  (∀ (f : Frame) (w : Who) (d : Int) (s u : State) (i : Nat), reaches K.txOpen f s = some (w, .num d, u) → txOf u w.flow [1, 2] = none →
    freeVestibule u = some i → Does (.txOpen f) s (fun t => Answered t w stOk ∧ SameBut [K.txNextNumber] u t ∧
      ∃ y, t.slot i = some y ∧ y.flow = w.flow ∧ y.state = 1 ∧ y.staged = [] ∧ y.kind = (if d = 0 then 1 else 2))) ∧
  (∀ (f : Frame) (w : Who) (v : Val) (s u : State), reaches K.txOpen f s = some (w, v, u) → txOf u w.flow [1, 2] = none →
    freeVestibule u = none → Does (.txOpen f) s (fun t => Answered t w stTxLimit ∧ SameObjects u t)) ∧
  (∀ (i : Nat) (x : Tx) (s : State), s.slot i = some x → x.state = 1 →
    max x.lastActive (s.master x.flow).lastActive + s.nat K.txOpenIdle * secTicks ≤ s.time.now →
    Does (.txIdleAbort i) s (fun t => t.slot i = none ∧ t.num K.txAborts = min (s.num K.txAborts + 1) (maxWord 32))) ∧
  (∀ (i : Nat) (s : State), s.slot i = none → Does (.txIdleAbort i) s (fun t => t = s)) ∧
  (∀ (f : Frame) (w : Who) (d : Int) (s u : State) (i n : Nat) (x : Tx), reaches K.admDryRun f s = some (w, .num d, u) →
    txOf u w.flow [1] = some (i, x) → admissionOf u x.staged (requestedTick d.toNat) = .pass n →
    Does (.admDryRun f) s (fun t => Answered t w stOk ∧ t.num K.admLastReason = 0 ∧ t.num K.admLastEarliest = tickOrNone (some n) ∧
      SameBut [K.admLastReason, K.admLastObject, K.admLastEarliest] u t ∧ t.tx = u.tx)) ∧
  (∀ (f : Frame) (w : Who) (d : Int) (s u : State) (i code key : Nat) (e : Option Nat) (x : Tx), reaches K.admDryRun f s = some (w, .num d, u) →
    txOf u w.flow [1] = some (i, x) → admissionOf u x.staged (requestedTick d.toNat) = .refuse code key e →
    Does (.admDryRun f) s (fun t => Answered t w stOk ∧ t.num K.admLastReason = (code : Nat) ∧ t.num K.admLastObject = (key : Nat) ∧
      t.num K.admLastEarliest = tickOrNone e)) ∧
  (∀ (f : Frame) (w : Who) (v : Val) (s u : State), reaches K.admDryRun f s = some (w, v, u) → txOf u w.flow [1] = none →
    Does (.admDryRun f) s (fun t => Answered t w stNoTx ∧ SameObjects u t))

/-- Records become durable: an ACCEPT record accepts its transaction and answers ACCEPTED; marks become EXEC records, launches
checkpoints, and a bank is rebuilt (R111, R121 to R125). -/
def Obligations.JournalRecordsAreKept : Prop :=
  (∀ (r : JRec) (rest : List JRec) (x : Tx) (f : Frame) (s : State), s.jr.writing = r :: rest → r.kind = 1 → s.slot r.slot = some x →
    x.req = some f → x.abort = none → x.kind = 1 → s.bankOk 0 = true → s.bankOk 1 = true →
    Does (.journalRecordDurable 0 0) s (fun t => t.jr.writing = rest ∧ t.slot r.slot = none ∧ (t.master x.flow).lastRsp.status = stAccepted ∧
      (t.master x.flow).outstanding = false ∧ t.num K.txNextSeq = (s.nat K.txNextSeq + 1 : Nat) ∧
      ∃ a, t.tx.accepted = s.tx.accepted ++ [a] ∧ a.launch = r.launch ∧ a.staged = x.staged ∧ a.seq = s.nat K.txNextSeq)) ∧
  (∀ s : State, s.jr.marks ≠ [] → s.bothFailed = false → Does .execRecordWrite s (fun t => t.jr.marks = [] ∧
    t.jr.writing = s.jr.writing ++ [execRec s.jr.marks] ∧ SameObjects s t)) ∧
  (∀ s : State, s.jr.launchAt.isSome = true → s.bothFailed = false → s.jr.writing.any (fun r => decide (r.kind = 6)) = false →
    Does .checkpoint s (fun t => t.jr.launchAt = none ∧ (∃ r, t.jr.writing = s.jr.writing ++ [r] ∧ r.kind = 6 ∧ r.covered = coveredSeq s) ∧
      SameObjects s t)) ∧
  (∀ (f : Frame) (w : Who) (v : Val) (b : Nat) (s u : State), reaches K.jrRebuild f s = some (w, v, u) → failedBank u = some b →
    Does (.jrRebuild f) s (fun t => Answered t w stOk ∧ (u.fresh % 2 = 0 → t.num (bankKey b) = 2 ∧ t.jr.rebuildDue = some (u.time.now + 2 * secTicks)) ∧
      (u.fresh % 2 ≠ 0 → SameObjects u t))) ∧
  (∀ (b : Nat) (s : State), rebuildingBank s = some b → Does .rebuildComplete s (fun t => t.num (bankKey b) = 0 ∧ t.jr.rebuildDue = none)) ∧
  (∀ s : State, rebuildingBank s = none → Does .rebuildComplete s (fun t => t = s))

/-! ### System transactions (R127 to R132) -/

/-- What other parts receive: branches, PREPARE and decisions (R127, R129, R130); branches fall In doubt, ask again, and are resolved by hand
(R111, R130, R132). -/
def Obligations.BranchesFollowTheNewel : Prop :=
  (∀ (m : TxMsg) (i : Nat) (s : State), s.serving = true → forThis m s = true → branchSlot s m.sysId = none → freeVestibule s = some i →
    Does (.branch m) s (fun t => SameBut [K.txNextNumber] s t ∧
      ∃ y, t.slot i = some y ∧ y.kind = 3 ∧ y.state = 1 ∧ y.sysId = m.sysId ∧ y.flow = tunnelFlow m.origin m.om)) ∧
  (∀ (m : TxMsg) (i : Nat) (x : Tx) (s : State), s.serving = true → isNewel s = false → branchSlot s m.sysId = some (i, x) →
    Does (.prepare m) s (fun t =>
      (∃ e, t.slot i = some { x with state := 2, sysSeq := m.sysSeq, launch := tbTicks m.launch, since := s.time.now, entry := e }) ∧
      ((∃ r, t.jr.writing = s.jr.writing ++ [r] ∧ r.kind = 2 ∧ r.slot = i) ∨ ∃ link nums, Out.cell 0x24 link (0 :: nums) ∈ t.out) ∧
      SameObjects s t)) ∧
  (∀ (m : TxMsg) (i : Nat) (x : Tx) (s : State), s.serving = true → isNewel s = false → m.arg = 1 →
    forAll m = true ∨ forThis m s = true → m.sysSeq ≠ 0 → pairSlot s m.sysId m.sysSeq = some (i, x) → x.state = 6 → x.entry < 4096 → s.jr.writing.any (fun r => decide (r.kind = 4 ∧ r.slot = i ∧ r.outcome = 1)) = false →
    Does (.decide m) s (fun t => ∃ r, t.jr.writing = s.jr.writing ++ [r] ∧ r.kind = 4 ∧ r.outcome = 1 ∧ r.launch = x.launch ∧ r.staged = x.staged)) ∧
  (∀ (m : TxMsg) (i : Nat) (x : Tx) (s : State), s.serving = true → isNewel s = false → m.arg = 3 →
    forAll m = true ∨ forThis m s = true → pairSlot s m.sysId m.sysSeq = some (i, x) → Does (.decide m) s (fun t => t.slot i = none)) ∧
  (∀ (m : TxMsg) (s : State), s.serving = true → isNewel s = false → forAll m = true → s.nat K.stwAddr ∈ m.bitmap →
    marked s m.sysId = false → Does (.parts m) s (fun t => marked t m.sysId = true ∧ SameObjects s t)) ∧
  (∀ (i : Nat) (x : Tx) (s : State), s.slot i = some x → x.state = 6 → x.since + 2 * s.nat K.txSysVoteTimeout ≤ s.time.now →
    Does (.inDoubtTimeout i) s (fun t => t.slot i = some { x with state := 7 } ∧ t.bit K.fltSticky skInDoubt = true ∧ SameBut [K.fltSticky] s t)) ∧
  (∀ (i : Nat) (x : Tx) (s : State), s.slot i = some x → x.state = 7 → isNewel s = false →
    Does (.inDoubtQueryTimer i) s (fun t => SameObjects s t ∧ ∃ nums, Out.cell 0x26 (routeOf s (newelAddr s)) nums ∈ t.out)) ∧
  (∀ (f : Frame) (w : Who) (v : Val) (i : Nat) (x : Tx) (s u : State), reaches K.txSysResolve f s = some (w, v, u) →
    (slotsInUse u).find? (fun e => decide (e.2.state = 7) && decide ((e.2.sysId : Int) = v.int)) = some (i, x) →
    newelReached u x.sysSeq = false →
    Does (.txSysResolve f) s (fun t => Answered t w stOk ∧ t.slot i = none)) ∧
  (∀ (f : Frame) (w : Who) (v : Val) (i : Nat) (x : Tx) (s u : State), reaches K.txSysResolve f s = some (w, v, u) →
    (slotsInUse u).find? (fun e => decide (e.2.state = 7) && decide ((e.2.sysId : Int) = v.int)) = some (i, x) →
    newelReached u x.sysSeq = true → Does (.txSysResolve f) s (fun t => Answered t w stRange ∧ SameObjects u t)) ∧
  (∀ (f : Frame) (w : Who) (v : Val) (s u : State), reaches K.txSysResolve f s = some (w, v, u) →
    (slotsInUse u).find? (fun e => decide (e.2.state = 7) && decide ((e.2.sysId : Int) = v.int)) = none →
    Does (.txSysResolve f) s (fun t => Answered t w stRange ∧ SameObjects u t))

/-- What the Newel does: it queues requests, gathers participants, counts votes and acknowledgements, answers queries and takes aborts
(R128 to R130). -/
def Obligations.NewelDecides : Prop :=
  (∀ (m : TxMsg) (s : State), s.serving = true → forThis m s = true → isNewel s = true → s.tx.sys = [] →
    Does (.commitReq m) s (fun t => t.num K.txSysQueue = 1 ∧ ∃ x, t.tx.sys = [x] ∧ x.sysId = m.sysId ∧ x.home = m.origin ∧ x.state = 0)) ∧
  (∀ (m : TxMsg) (x y : SysTx) (s : State), s.serving = true → forAll m = false → forThis m s = true → isNewel s = true →
    sysOf s m.sysId 0 = some x → x.state = 0 → y ∈ s.tx.sys →
    y.sysId ≠ m.sysId → y.state = 1 → Does (.parts m) s (fun t => ∃ z, z ∈ t.tx.sys ∧ z.sysId = m.sysId ∧ ∀ a, a ∈ m.bitmap → a ∈ z.parts)) ∧
  (∀ (m : TxMsg) (x : SysTx) (s : State), s.serving = true → forThis m s = true → isNewel s = true →
    sysOf s m.sysId m.sysSeq = some x → x.state = 1 →
    m.arg = 0 → Does (.vote m) s (fun t => t.num K.txSysLastNoReason = (m.reason : Nat) ∧ t.num K.txSysLastNoAddr = (m.origin : Nat) ∧
      ∃ r, t.jr.writing = s.jr.writing ++ [r] ∧ r.kind = 3 ∧ r.outcome = 2)) ∧
  (∀ (m : TxMsg) (x : SysTx) (s : State), s.serving = true → forThis m s = true → isNewel s = true →
    sysOf s m.sysId m.sysSeq = some x → x.state = 1 →
    m.arg = 1 → (∀ a, a ∈ x.parts → a = m.origin ∨ a ∈ x.yes) →
    Does (.vote m) s (fun t => SameObjects s t ∧ ∃ r, t.jr.writing = s.jr.writing ++ [r] ∧ r.kind = 3 ∧ r.outcome = 1 ∧ r.launch = x.launch)) ∧
  (∀ (id : Nat) (x : SysTx) (s : State), votingOn s id = some x → x.since + s.nat K.txSysVoteTimeout ≤ s.time.now →
    Does (.voteTimeout id) s (fun t => t.num K.txSysLastNoReason = 0x0604 ∧
      ∃ r, t.jr.writing = s.jr.writing ++ [r] ∧ r.kind = 3 ∧ r.outcome = 2)) ∧
  (∀ (m : TxMsg) (x : SysTx) (s : State), s.serving = true → forThis m s = true → isNewel s = true →
    s.tx.sys.find? (fun x => decide (x.sysId = m.sysId ∧ x.sysSeq = m.sysSeq ∧ x.state = 3)) = some x →
    Does (.ack m) s (fun t => SameObjects s t ∧ ∃ z, z ∈ t.tx.sys ∧ z.sysId = m.sysId ∧ m.origin ∈ z.acks)) ∧
  (∀ (m : TxMsg) (s : State), s.serving = true → forThis m s = true → isNewel s = true →
    Does (.query m) s (fun t => SameObjects s t ∧ ∃ nums, Out.cell 0x25 (routeOf s m.origin) (((decisionOf s m.sysId m.sysSeq).1 : Int) :: nums) ∈ t.out)) ∧
  (∀ (m : TxMsg) (x : SysTx) (s : State), s.serving = true → forThis m s = true → isNewel s = true →
    abortTarget s m.sysId m.sysSeq = some x → x.state = 1 →
    Does (.abortReq m) s (fun t => ∃ r, t.jr.writing = s.jr.writing ++ [r] ∧ r.kind = 3 ∧ r.outcome = 3))


/-! ### Ports, synthesisers and calibrations (R138 to R158) -/

/-- A transition ends in its state; a scheduled Relay ends at the rest state; the wait for a
signature ends (R139, R141, R397). -/
def Obligations.PortTransitionsEnd : Prop :=
  (∀ (p : Nat) (s : State), p < 32 → changing s p = true → (s.port p).due ≤ s.time.now →
    Does (.portTransitionDone p) s (fun t => t.num (K.portState p) = s.num (K.portChangingTo p))) ∧
  (∀ (p : Nat) (s : State), p < 32 → changing s p = true → (s.port p).due ≤ s.time.now → s.num (K.portChangingTo p) = psCal →
    calHolds s p = true →
    Does (.portTransitionDone p) s (fun t => t.num (K.portState p) = psCal ∧ t.num (K.portChangingTo p) = 0xFF ∧
      t.num (K.portStateSince p) = (s.tbNow : Nat))) ∧
  (∀ (p : Nat) (s : State), s.time.now < (s.port p).due → Does (.portTransitionDone p) s (fun t => t = s)) ∧
  (∀ (p : Nat) (s : State), p < 32 → portWalker s p = none → s.num (K.portState p) = psRelay → changing s p = false → s.num (K.portTxWindow p) ≠ 0 →
    (s.port p).relayAt + s.nat (K.portTxWindow p) ≤ s.time.now →
    Does (.txWindowEnd p) s (fun t => t.num (K.portTarget p) = s.num (K.portRest p))) ∧
  (∀ (p r : Nat) (s : State), p < 32 → (s.port p).returnWait = some r → r ≤ s.time.now →
    Does (.returnFeedWaitTimeout p) s (fun t => (t.port p).returnWait = none))

/-- Synthesisers retune, lose lock and relock (R148, R149). -/
def Obligations.SynthesisersLock : Prop :=
  (∀ (tx : Bool) (p : Nat) (s : State), p < 32 → s.num (K.synState tx p) = 2 → synDue s tx p ≤ s.time.now →
    Does (.synthRetuneDone tx p) s (fun t => t.num (K.synState tx p) = 3 ∧ t.num (K.synFreqNow tx p) = s.num (K.synFreq tx p))) ∧
  (∀ (tx : Bool) (p : Nat) (s : State), p < 32 → s.num (K.synState tx p) = 3 →
    Does (.synthLockLoss tx p) s (fun t => t.num (K.synState tx p) = 5 ∧ t.bit (K.calPending p) 3 = true)) ∧
  (∀ (tx : Bool) (p : Nat) (s : State), p < 32 → s.num (K.synState tx p) = 5 → synDue s tx p ≤ s.time.now →
    Does (.synthRelockDone tx p) s (fun t => t.num (K.synState tx p) = 3 ∧ t.num (K.synFreqNow tx p) = s.num (K.synFreq tx p))) ∧
  (∀ (tx : Bool) (p : Nat) (s : State), s.num (K.synState tx p) ≠ 2 → Does (.synthRetuneDone tx p) s (fun t => t = s))

/-- Calibrations are asked for, begin, go on piece by piece, pass or fail, and may be aborted or overdue (R151 to R157). -/
def Obligations.CalibrationsRun : Prop :=
  (∀ (p : Nat) (f : Frame) (w : Who) (d : Nat) (s u : State), p < 32 → reaches (K.calStart p) f s = some (w, .num (d : Int), u) →
    Does (.calStart p f) s (fun t => Answered t w stOk ∧ t.bit (K.calPending p) d = true ∧ SameBut [K.calPending p, K.calStatus p] u t)) ∧
  (∀ (p : Nat) (f : Frame) (w : Who) (s u : State), p < 32 → reaches (K.calAbort p) f s = some (w, .num 1, u) → calRuns u p = false →
    (u.port p).calEnd ≠ some u.time.now → Does (.calAbort p f) s (fun t => Answered t w stOk ∧ t.num (K.calPending p) = 0 ∧ SameBut [K.calPending p, K.calStatus p] u t)) ∧
  (∀ (p : Nat) (f : Frame) (w : Who) (s u : State), p < 32 → reaches (K.calAbort p) f s = some (w, .num 1, u) → calRuns u p = true →
    (u.port p).calEnd ≠ some u.time.now → u.num (K.portState p) ≠ psCal →
    Does (.calAbort p f) s (fun t => Answered t w stOk ∧ calStatusNow t p = 5)) ∧
  (∀ (p k : Nat) (s : State), p < 32 → nextKind s p = some k → calHolds s p = false → changing s p = false → psStandby ≤ s.num (K.portState p) →
    mayStart s p k = true → Does (.calPendingStart p) s (fun t => calStatusNow t p = 2 ∧ t.num (K.calKind p) = (k : Nat))) ∧
  (∀ (p : Nat) (s : State), p < 32 → calEnded s p = true → s.num (K.calKind p) = 2 → s.num (K.calIrPieces p) < 3 →
    Does (.calPieceDone p) s (fun t => t.num (K.calIrPieces p) = s.num (K.calIrPieces p) + 1 ∧ calStatusNow t p = 1)) ∧
  (∀ (p : Nat) (loss image rxTemp txTemp : Int) (s : State), p < 32 → calEnded s p = true → s.num (K.calKind p) = 1 → (s.port p).lateAbort = false →
    Does (.calComplete p true loss image rxTemp txTemp) s (fun t => calStatusNow t p = 3 ∧ t.num (K.calDoneTime1 p) = (s.time.ot : Nat) ∧
      t.num (K.calGeneration p) = nextGeneration s p)) ∧
  (∀ (p : Nat) (loss image rxTemp txTemp : Int) (s : State), p < 32 → calEnded s p = true → s.num (K.calKind p) = 1 → failsOf s p 1 ≠ 2 →
    Does (.calComplete p false loss image rxTemp txTemp) s (fun t => calStatusNow t p = 6 ∧ t.num (K.calIrPieces p) = 0)) ∧
  (∀ (p k : Nat) (s : State), p < 32 → k < 4 → overdueNow s p k = true → calRuns s p = false →
    Does (.calOverdue p) s (fun t => t.num (K.calStatus p) = 0x81 ∧ (t.port p).overdue.testBit k = true))

/-- A passed calibration stamps cal.generation: bits 31:16 hold pd.repair_gen as it stands, and bits 15:0 the count of passed calibrations
of the port, modulo 65,536 (R398). -/
def Obligations.CalibrationsStampTheirGeneration : Prop :=
  ∀ (p : Nat) (loss image rxTemp txTemp : Int) (s : State), p < 32 → calEnded s p = true → s.num (K.calKind p) ≠ 2 → (s.port p).lateAbort = false →
    Does (.calComplete p true loss image rxTemp txTemp) s (fun t =>
      t.nat (K.calGeneration p) / 65536 = s.nat K.pdRepairGen ∧
      t.nat (K.calGeneration p) % 65536 = (s.nat (K.calGeneration p) % 65536 + 1) % 65536)

/-! ### Channels and cancellers (R169 to R211) -/

/-- Settling and fades end (R179, R184); estimator windows, convergence, expiry, demonstration windows, resets and placement of cancellers
(R202 to R211). -/
def Obligations.CancellersAdapt : Prop :=
  (∀ (c : Nat) (x : EstWindow) (m : Int) (s : State), c < 512 → s.num (K.chRun c) = 1 → s.nat (K.cxEstWindow c) ≤ (s.pathOf c).est →
    marginOf s c (fun n => ((measured s c x).find? (fun e => decide (e.1 = n))).map (fun e => e.2.2)) = some m → windowValid s c x = true →
    Does (.estimatorWindowEnd c x) s (fun t => t.num (K.cxMargin c) = m ∧ t.num (K.cxMarginState c) = 1 ∧
      t.num (K.cxMarginError c) = x.err ∧ (t.pathOf c).est = 0 ∧ SameBut [K.cxMargin c, K.cxMarginState c, K.cxMarginError c, K.cxDepth c] s t)) ∧
  (∀ (c : Nat) (x : EstWindow) (s : State), c < 512 → s.num (K.chRun c) = 1 → s.nat (K.cxEstWindow c) ≤ (s.pathOf c).est →
    s.num (K.cxState c) = 1 ∨ s.num (K.cxState c) = 2 → x.pIn + 3 * 65536 < x.pRes →
    Does (.estimatorWindowEnd c x) s (fun t => (t.pathOf c).divergeAt = some (s.time.now + 1))) ∧
  (∀ (c : Nat) (x : EstWindow) (s : State), s.num (K.chRun c) ≠ 1 ∨ (s.pathOf c).est < s.nat (K.cxEstWindow c) →
    Does (.estimatorWindowEnd c x) s (fun t => t = s)) ∧
  (∀ (c : Nat) (s : State), s.num (K.cxState c) = 1 → (reconvOf s c : Int) ≤ s.num (K.cxAdaptTicks c) → s.num (K.cxMarginState c) = 1 →
    Does (.cancellerConverged c) s (fun t => t.num (K.cxState c) = 2 ∧ t.num (K.cxConvergedAt c) = (s.tbNow : Nat) ∧
      SameBut [K.cxState c, K.cxConvergedAt c] s t)) ∧
  (∀ (c : Nat) (s : State), s.num (K.cxMarginState c) = 2 → s.nat (K.cxHoldLimit c) < (s.chan c).heldTicks →
    Does (.marginExpired c) s (fun t => t.num (K.cxMarginState c) = 3 ∧ SameBut [K.cxMarginState c] s t)) ∧
  (∀ (c r n : Nat) (i d : Int) (s : State), c < 512 → (s.chan c).demoFrom = some r → s.num (K.cxState c) = 2 → r + 60 * 1024 ≤ s.time.ot → n < 4 →
    Tab.get (fun _ => none) (s.chan c).demoIso n = some i → Tab.get (fun _ => none) (s.chan c).demoDepth n = some d →
    Does (.demoWindowEnd c) s (fun t => t.bit (K.cxRecords c) n = true ∧ t.num (K.cxIsoN c n) = i ∧ t.num (K.cxDemoDepthN c n) = d ∧
      (t.chan c).demoFrom = some s.time.ot)) ∧
  (∀ (c : Nat) (f : Frame) (w : Who) (v : Val) (s u : State), c < 512 → reaches (K.cxReset c) f s = some (w, v, u) →
    (u.chan c).tapAt ≠ some u.time.now → Does (.cxReset c f) s (fun t => Answered t w stOk ∧ t.num (K.cxMarginState c) = 0 ∧
      t.num (K.cxAdaptTicks c) = 0 ∧ t.num (K.cxResets c) = min (u.num (K.cxResets c) + 1) (maxWord 32))) ∧
  (∀ (c n sp : Nat) (s : State), c < 512 → nextDeferred s = some (c, n) → roomFor s c = some sp →
    Does (.branchDeferredPlace c n) s (fun t => t.num (K.cxBranchSubpoolN c n) = (sp : Nat) ∧ SameBut [K.cxBranchSubpoolN c n] s t)) ∧
  (∀ (c : Nat) (s : State), c < 512 → s.bit (K.chMutes c) cmSettling = true → allSettled s c = true →
    Does (.settlingEnd c) s (fun t => t.bit (K.chMutes c) cmSettling = false)) ∧
  (∀ (c : Nat) (s : State), allSettled s c = false → Does (.settlingEnd c) s (fun t => t = s)) ∧
  (∀ (sl : Nat) (s : State), sl < 64 → s.flag (K.slFading sl) = true →
    (∀ c, c ∈ startedIn s sl → (s.chan c).fadeDue = none ∨ ∃ r, (s.chan c).fadeDue = some r ∧ r ≤ s.time.now) →
    Does (.fadeEnd sl) s (fun t => t.num (K.slFading sl) = 0 ∧ t.num (K.slFadeEnd sl) = (s.tbNow : Nat) ∧
      SameBut [K.slFading sl, K.slFadeEnd sl] s t))

/-! ### Gain control (R221 to R234) -/

/-- Updates open a new window, a due rate moves the integrator or is discarded, and supervision and fallback act (R229, R232, R233). -/
def Obligations.GainIsControlled : Prop :=
  (∀ (c : Nat) (m : GainMeas) (s : State), c < 512 → s.num (K.chRun c) = 1 → engineHeld s c = false → atInstant s c = true →
    Does (.gainUpdate c m) s (fun t => (t.chan c).windowFrom = s.time.now)) ∧
  (∀ (c : Nat) (m : GainMeas) (s : State), s.num (K.chRun c) ≠ 1 ∨ engineHeld s c = true ∨ atInstant s c = false →
    Does (.gainUpdate c m) s (fun t => t = s)) ∧
  (∀ (c : Nat) (x : Pend) (s : State), c < 512 → (s.chan c).pendingRate = some x → pendDue s x = true → engineHeld s c = false →
    Does (.rateApplication c) s (fun t => t.num (K.geIntegrator c) = wrap32 (s.num (K.geIntegrator c) + x.rate) ∧ t.num (K.geRate c) = x.rate ∧
      t.num (K.geWinner c) = (x.loop : Nat) ∧ (t.chan c).pendingRate = none ∧
      t.num (K.geApplied c) = s.clampG c (wrap32 (s.num (K.geIntegrator c) + x.rate)))) ∧
  (∀ (c : Nat) (x : Pend) (s : State), (s.chan c).pendingRate = some x → pendDue s x = true → engineHeld s c = true →
    Does (.rateApplication c) s (fun t => (t.chan c).pendingRate = none ∧
      t.num (K.geDiscarded c) = min (s.num (K.geDiscarded c) + 1) (maxWord 32) ∧ SameBut [K.geDiscarded c] s t)) ∧
  (∀ (c : Nat) (s : State), s.num (K.chRun c) = 1 → s.num (K.geFeTime c) ≤ s.num (K.geFeTimer c) → (s.chan c).feTripped = false →
    Does (.feTrip c) s (fun t => (t.chan c).feTripped = true)) ∧
  (∀ s : State, s.flag K.geFallback = false → 90 * 65536 < loadAt s s.time.now → Does .engineFallback s (fun t => t.num K.geFallback = 1)) ∧
  (∀ s : State, s.flag K.geFallback = true → 10 * msTicks ≤ s.time.now → loadAt s (s.time.now - 10 * msTicks) < 80 * 65536 →
    s.eng.recent.all (fun e => decide (e.1 + 10 * msTicks ≤ s.time.now) || decide (loadAt s e.1 < 80 * 65536)) = true →
    Does .engineFallbackExit s (fun t => t.num K.geFallback = 0 ∧ SameBut [K.geFallback] s t))

/-! ### Protection (R242 to R259) -/

/-- The Hawkmoth guard trips and is released (R244 to R247); MUTE_N silences the ports that obey it (R248). -/
def Obligations.PortsAreGuarded : Prop :=
  (∀ (p cond due : Nat) (s : State), p < 32 → (s.wingOf p).hmDue = some (due, cond) → due ≤ s.time.now → s.num (K.hmState p) = 0 →
    Does (.hawkmothTrip p cond) s (fun t => t.bit (K.portMutes p) pmHawkmoth = true ∧
      (t.num (K.hmState p) = (cond : Nat) ∨ t.num (K.hmState p) = 3))) ∧
  (∀ (p cond due : Nat) (s : State), p < 32 → (s.wingOf p).hmDue = some (due, cond) → due ≤ s.time.now → s.num (K.hmState p) ≠ 0 →
    Does (.hawkmothTrip p cond) s (fun t => (t.wingOf p).hmDue = none ∧ SameObjects s t)) ∧
  (∀ (p : Nat) (s : State), p < 32 → s.num (K.hmState p) = 1 ∨ s.num (K.hmState p) = 2 → s.num (K.hmRelease p) = 0 →
    (s.port p).cleanFrom + s.nat (K.hmHold p) ≤ s.time.now → Does (.hawkmothRelease p) s (fun t =>
      t.num (K.hmState p) = 0 ∧ t.bit (K.portMutes p) pmHawkmoth = false ∧ SameBut [K.hmState p, K.portMutes p] s t)) ∧
  (∀ (p : Nat) (f : Frame) (w : Who) (v : Val) (s u : State), p < 32 → reaches (K.hmClear p) f s = some (w, v, u) → u.num (K.hmState p) ≠ 0 →
    Does (.hmClear p f) s (fun t => Answered t w stOk ∧ t.num (K.hmState p) = 0 ∧ t.bit (K.portMutes p) pmHawkmoth = false ∧
      SameBut [K.hmState p, K.portMutes p] u t)) ∧
  (∀ s : State, s.flag K.prMutepin = false → Does .muteNAssert s (fun t => t.num K.prMutepin = 1 ∧
    ∀ p, p < 32 → t.flag (K.hmMutePin p) = true → t.bit (K.portMutes p) pmPin = true)) ∧
  (∀ s : State, s.flag K.prMutepin = true → Does .muteNRelease s (fun t => t.num K.prMutepin = 0 ∧
    ∀ p, p < 32 → t.bit (K.portMutes p) pmPin = false))

/-- Oscillation trips, restarts and seals (R250 to R253). -/
def Obligations.OscillationIsTripped : Prop :=
  (∀ (c det due : Nat) (s : State), c < 512 → (s.chan c).oscFired = some (det, due) → due ≤ s.time.now → s.num (K.oscState c) ≠ 1 →
    s.num (K.oscState c) ≠ 2 → s.num (K.oscRestarts c) < s.num K.oscRestartLimit → Does (.oscillationTrip c) s (fun t =>
      t.num (K.oscState c) = 1 ∧ t.num (K.oscDue c) = (s.time.ot + 1024 * s.nat K.oscRestartDelay : Nat))) ∧
  (∀ (c det due : Nat) (s : State), c < 512 → (s.chan c).oscFired = some (det, due) → due ≤ s.time.now → s.num (K.oscState c) ≠ 1 →
    s.num (K.oscState c) ≠ 2 → s.num K.oscRestartLimit ≤ s.num (K.oscRestarts c) → Does (.oscillationTrip c) s (fun t => t.num (K.oscState c) = 2)) ∧
  (∀ (c : Nat) (s : State), c < 512 → s.num (K.oscState c) = 1 → s.num (K.oscDue c) ≤ s.time.ot →
    Does (.oscRestart c) s (fun t => t.num (K.oscState c) = 0 ∧ t.num (K.oscDue c) = 0 ∧ t.bit (K.prCause c) 0 = false)) ∧
  (∀ (c : Nat) (f : Frame) (w : Who) (v : Val) (s u : State), c < 512 → reaches (K.oscRestartNow c) f s = some (w, v, u) → u.num (K.oscState c) = 1 →
    Does (.oscRestartNow c f) s (fun t => Answered t w stOk ∧ t.num (K.oscState c) = 0 ∧ t.num (K.oscDue c) = 0)) ∧
  (∀ (c : Nat) (f : Frame) (w : Who) (v : Val) (s u : State), reaches (K.oscRestartNow c) f s = some (w, v, u) → u.num (K.oscState c) ≠ 1 →
    Does (.oscRestartNow c f) s (fun t => Answered t w stRange ∧ SameObjects u t)) ∧
  (∀ (c : Nat) (s : State), s.nat K.oscDecay * secTicks ≤ (s.chan c).oscTicks →
    Does (.oscRestartsDecay c) s (fun t => t.num (K.oscRestarts c) = 0 ∧ SameBut [K.oscRestarts c] s t))

/-- Noise and emission mutes, and the visits of the observation receivers (R159, R254, R256). -/
def Obligations.NoiseAndEmissionsAreWatched : Prop :=
  (∀ (c : Nat) (n : Int) (count : Nat) (s : State), c < 512 → s.num (K.chRun c) = 1 → s.num (K.chDir c) = 1 → 14 ≤ count →
    cdb (s.num (K.nlLimit c)) < n → s.nat K.nlFrames ≤ (s.chan c).noiseRun + 1 →
    Does (.noiseEvaluation c n count) s (fun t => t.bit (K.prCause c) 1 = true)) ∧
  (∀ (c : Nat) (n : Int) (count : Nat) (s : State), s.num (K.chRun c) = 1 → s.num (K.chDir c) = 1 → 14 ≤ count →
    n ≤ cdb (s.num (K.nlLimit c)) → 0 < s.nat K.nlFrames →
    Does (.noiseEvaluation c n count) s (fun t => (t.chan c).noiseRun = 0 ∧ SameObjects s t)) ∧
  (∀ (c r : Nat) (s : State), c < 512 → (s.chan c).noiseEnd = some r → r ≤ s.time.ot →
    Does (.noiseMuteRelease c) s (fun t => t.bit (K.prCause c) 1 = false)) ∧
  (∀ (c r : Nat) (s : State), c < 512 → (s.chan c).emissionEnd = some r → r ≤ s.time.ot →
    Does (.emissionMuteRelease c) s (fun t => t.bit (K.prCause c) 2 = false)) ∧
  (∀ (r : Nat) (m : ObsMeas) (s : State), r < 8 → s.num (K.obsOwner r) = 0 → s.num (K.obsCurrent r) ≠ 0 → (s.nat (K.obsCurrent r)).testBit 4 = false →
    (s.obsv r).since + s.nat (K.obsDwell r) ≤ s.time.now → m.levels = [] →
    Does (.obsVisitEnd r m) s (fun t => t.num (K.obsVisits r) = min (s.num (K.obsVisits r) + 1) (maxWord 64) ∧
      ∃ still, (t.port (visitPort r (s.nat (K.obsCurrent r)))).obsFwd = some (m.power, s.time.now, still)))

/-! ### Telemetry converters (R260 to R275) -/

/-- Outputs are counted and routed, conversions end, and over-range is held (R267, R269, R272). -/
def Obligations.ConversionsYieldTheirOutputs : Prop :=
  (∀ (m : Nat) (half seen : Report) (x : Part) (rest : List Part) (s : State), m < 24 → (s.tm m).ready = x :: rest → (s.tm m).kind ≠ 0 →
    (s.tm m).outs < teOutputs (s.tm m).oct →
    Does (.tmOutput m half seen) s (fun t => (t.tm m).outs = (s.tm m).outs + 1 ∧ (t.tm m).ready = rest)) ∧
  (∀ (m : Nat) (half seen : Report) (x : Part) (rest : List Part) (s : State), m < 24 → (s.tm m).ready = x :: rest → (s.tm m).kind = 1 →
    (s.tm m).outs < teOutputs (s.tm m).oct → teAccEn (s.tm m).oct = true → s.flag (K.accFull (teAcc (s.tm m).oct)) = false →
    Does (.tmOutput m half seen) s (fun t => t.num (K.accCount (teAcc (s.tm m).oct)) = s.num (K.accCount (teAcc (s.tm m).oct)) + 1 ∧
      t.num (K.accSum (teAcc (s.tm m).oct)) = s.num (K.accSum (teAcc (s.tm m).oct)) +
        stage6 s m (s.tm m).entry (stage5 s m (s.tm m).oct x))) ∧
  (∀ (m : Nat) (s : State), m < 24 → (s.tm m).kind = 1 → (s.tm m).endsAt ≤ s.time.now → teOutputs (s.tm m).oct ≤ (s.tm m).outs →
    Does (.tmConversionEnd m) s (fun t => t.num (K.tmConversions m) = min (s.num (K.tmConversions m) + 1) (maxWord 64))) ∧
  (∀ (m : Nat) (s : State), s.time.now < (s.tm m).endsAt → Does (.tmConversionEnd m) s (fun t => t = s)) ∧
  (∀ (m : Nat) (s : State), m < 24 → (s.tm m).kind ≠ 0 → s.bit (K.tmOvr m) (s.tm m).entry = false →
    Does (.tmOverrange m) s (fun t => t.bit (K.tmOvr m) (s.tm m).entry = true))

/-- Injection, calibration, and the clears of over-range bits, accumulators and trackers (R270 to R274). -/
def Obligations.ConvertersAreCommanded : Prop :=
  (∀ (m : Nat) (f : Frame) (w : Who) (v : Val) (s u : State), reaches (K.tmInject m) f s = some (w, v, u) → u.num (K.tmInject m) ≠ 1 →
    u.num (K.tmInject m) ≠ 2 → Does (.tmInject m f) s (fun t => Answered t w stOk ∧ t.num (K.tmInject m) = 1 ∧ SameBut [K.tmInject m] u t)) ∧
  (∀ (m e : Nat) (f : Frame) (w : Who) (s u : State), e < 32 → reaches (K.tmCal m) f s = some (w, .num ((e * 256 + 1 : Nat) : Int), u) →
    (u.tm m).step = none → Does (.tmCalZero m f) s (fun t => Answered t w stOk ∧ (t.tm m).step = some (e, 1) ∧ t.num (K.tmCalStatus m) = 1 ∧
      SameBut [K.tmCalStatus m] u t)) ∧
  (∀ (m e : Nat) (z : Int) (f : Frame) (w : Who) (s u : State), e < 32 → reaches (K.tmCal m) f s = some (w, .num ((e * 256 + 2 : Nat) : Int), u) →
    (u.tm m).step = none → Tab.get (fun _ => none) (u.tm m).zero e = some z →
    Does (.tmCalGain m f) s (fun t => Answered t w stOk ∧ (t.tm m).step = some (e, 2) ∧ t.num (K.tmCalStatus m) = 1 ∧ SameBut [K.tmCalStatus m] u t)) ∧
  (∀ (m e : Nat) (f : Frame) (w : Who) (s u : State), e < 32 → reaches (K.tmCal m) f s = some (w, .num ((e * 256 + 3 : Nat) : Int), u) →
    Does (.tmCalRestore m f) s (fun t => Answered t w stOk ∧ t.num (K.tmCalOffsetK m e) = 0 ∧ t.num (K.tmCalGainK m e) = 65536 ∧
      SameBut [K.tmCalOffsetK m e, K.tmCalGainK m e] u t)) ∧
  (∀ (m : Nat) (f : Frame) (w : Who) (v : Val) (s u : State), reaches (K.tmOvrClear m) f s = some (w, v, u) →
    Does (.tmOvrClear m f) s (fun t => Answered t w stOk ∧ t.num (K.tmOvr m) = (maskOff (u.nat (K.tmOvr m)) v.int.toNat : Nat) ∧
      SameBut [K.tmOvr m] u t)) ∧
  (∀ (a : Nat) (f : Frame) (w : Who) (v : Val) (s u : State), reaches (K.accClear a) f s = some (w, v, u) →
    Does (.accClear a f) s (fun t => Answered t w stOk ∧ t.num (K.accSum a) = 0 ∧ t.num (K.accCount a) = 0 ∧ t.num (K.accFull a) = 0 ∧
      SameBut [K.accSum a, K.accCount a, K.accFull a] u t)) ∧
  (∀ (a : Nat) (f : Frame) (w : Who) (v : Val) (s u : State), reaches (K.trClear a) f s = some (w, v, u) →
    Does (.trClear a f) s (fun t => Answered t w stOk ∧ t.num (K.trMin a) = 8388607 ∧ t.num (K.trMax a) = -8388608 ∧
      SameBut [K.trMin a, K.trMax a, K.trMinTime a, K.trMaxTime a] u t))

/-! ### Rails (R276 to R292) -/

/-- Rails start, ramp, qualify, fault, retry and stop (R285 to R287); set-points, phases, balancing and telemetry follow (R279 to R291). -/
def Obligations.RailsAreControlled : Prop :=
  (∀ (r : Nat) (s : State), r < 24 → s.num (K.rlState r) = rsOff → s.flag (K.rlEnable r) = true → gateGood s r = true →
    s.flag K.fltStopped = false → s.serving = true → (8 ≤ r ∨ s.num K.thLevel ≠ 3) → Does (.railStart r) s (fun t =>
      t.num (K.rlState r) = rsOnDelay ∧ t.num (K.rlFailedPhases r) = 0 ∧ t.num (K.rlRetriesLeft r) = s.num (K.rlRetryMax r) ∧
      SameBut [K.rlState r, K.rlFailedPhases r, K.rlSense r, K.rlRetriesLeft r] s t)) ∧
  (∀ (r sensed : Nat) (s : State), s.num (K.rlState r) = rsOnDelay → (s.rail r).since + usTicks (s.nat (K.rlOnDelay r)) ≤ s.time.now →
    Does (.railOnDelayEnd r sensed) s (fun t => t.num (K.rlState r) = rsRamping ∧ t.num (K.rlVref r) = (sensed : Nat) ∧
      SameBut [K.rlState r, K.rlVref r, K.rlActivePhases r, K.rlIlimit r] s t)) ∧
  (∀ (r : Nat) (s : State), s.num (K.rlState r) = rsRamping → refArrived s r = true → Does (.railRampDone r) s (fun t =>
      t.num (K.rlState r) = rsQualifying ∧ t.num (K.rlVref r) = ((s.rail r).goal : Nat) ∧ SameBut [K.rlState r, K.rlVref r] s t)) ∧
  (∀ (r : Nat) (s : State), s.num (K.rlState r) = rsQualifying → noConds s r = true → (s.rail r).since + usTicks (s.nat (K.rlPgQual r)) ≤ s.time.now →
    Does (.railQualified r) s (fun t => t.num (K.rlState r) = rsGood ∧ t.num (K.rlPg r) = 1 ∧ SameBut [K.rlState r, K.rlPg r] s t)) ∧
  (∀ (r cause : Nat) (s : State), condActive s r cause = true → Tab.get (fun _ => none) (s.rail r).conds cause = none →
    Does (.railFaultCondition r cause) s (fun t => t.num (K.rlState r) = rsFaultTiming ∧ t.num (K.rlPg r) = 0 ∧
      SameBut [K.rlState r, K.rlPg r, K.rlHeadroom r] s t)) ∧
  (∀ (r cause : Nat) (x : Option Nat) (s : State), s.num (K.rlState r) = rsFaultTiming → (s.rail r).conds = [(cause, x)] →
    Does (.railFaultClear r cause) s (fun t => t.num (K.rlState r) = rsQualifying ∧ SameBut [K.rlState r] s t)) ∧
  (∀ (r cause from_ : Nat) (s : State), Tab.get (fun _ => none) (s.rail r).conds cause = some from_ → s.num (K.rlState r) = rsFaultTiming →
    from_ + condTicks s r cause ≤ s.time.now → Does (.railFaultTimerExpired r cause) s (fun t =>
      t.num (K.rlState r) = if s.num (K.rlRetry r) = 0 then rsLatched else rsFaultOff)) ∧
  (∀ (r sensed : Nat) (s : State), s.num (K.rlState r) = rsFaultOff → (s.rail r).since + s.nat (K.rlRetry r) * secTicks ≤ s.time.now →
    s.num (K.rlRetriesLeft r) ≠ 0 → Does (.railRetry r sensed) s (fun t => t.num (K.rlState r) = rsRamping ∧
      t.num (K.rlRetriesLeft r) = s.num (K.rlRetriesLeft r) - 1 ∧ t.num (K.rlVref r) = (sensed : Nat))) ∧
  (∀ (r sensed : Nat) (s : State), s.num (K.rlState r) = rsFaultOff → (s.rail r).since + s.nat (K.rlRetry r) * secTicks ≤ s.time.now →
    s.num (K.rlRetriesLeft r) = 0 → Does (.railRetry r sensed) s (fun t => t.num (K.rlState r) = rsLatched)) ∧
  (∀ (r : Nat) (s : State), s.num (K.rlState r) = rsOffRamp → refArrived s r = true → Does (.railOffRampDone r) s (fun t =>
      t.num (K.rlState r) = rsOff ∧ t.num (K.rlVref r) = 0 ∧ t.num (K.rlActivePhases r) = 0 ∧
      SameBut [K.rlState r, K.rlVref r, K.rlActivePhases r] s t)) ∧
  (∀ (r : Nat) (s : State), railOn s r = true → s.num (K.rlSense r) = 0 → Does (.remoteSenseFail r) s (fun t => t.num (K.rlSense r) = 1)) ∧
  (∀ (r k ipk : Nat) (s : State), railOn s r = true → k ∈ goodPhases s r →
    Does (.phaseFail r k ipk) s (fun t => t.bit (K.rlFailedPhases r) k = true ∧ t.bit (K.rlActivePhases r) k = false)) ∧
  (∀ (v : Nat) (s : State), Does (.vselAccept v) s (fun t => t.num K.rlVselPins = (v % 8 : Nat))) ∧
  (∀ (r v : Nat) (s : State), (s.rail r).vsel = some v → railQuiet s r = true → s.num (K.rlSelSource r) = 1 →
    Does (.vselDeferredApply r) s (fun t => t.nat (K.rlSetpoint r) = v)) ∧
  (∀ (r due : Nat) (s : State), (s.rail r).moveDue = some due → due ≤ s.time.now → Does (.railMoveEnd r) s (fun t =>
      t.num (K.rlVref r) = ((s.rail r).goal : Nat) ∧ (t.rail r).moveDue = none ∧ SameBut [K.rlVref r] s t)) ∧
  (∀ (r k : Nat) (mean : Int) (s : State), s.flag (K.rlAutoShed r) = true → s.num (K.rlState r) = rsGood → railQuiet s r = true →
    inKeepout s r = false → max 1 (wantedCount s r (s.nat (K.rlSetpoint r))) < (steadyPhases s r).length →
    100 * mean < s.num (K.rlShedBelow r) * s.num (K.rlPhaseIlimit r) * (((steadyPhases s r).length : Int) - 1) →
    (steadyPhases s r).getLast? = some k → Does (.railAutoShed r mean) s (fun t => SameObjects s t ∧
      Tab.get (fun _ => none) (t.rail r).shedding k = some (s.time.now + 16 * switchPeriod s r) ∧ (t.rail r).auto.testBit k = true)) ∧
  (∀ (r k due : Nat) (s : State), Tab.get (fun _ => none) (s.rail r).shedding k = some due → due ≤ s.time.now →
    Does (.phaseShedDone r k) s (fun t => t.bit (K.rlActivePhases r) k = false ∧ SameBut [K.rlActivePhases r] s t)) ∧
  (∀ (r : Nat) (s : State), inKeepout s r = true → (s.rail r).auto ≠ 0 → Does (.keepoutReadd r) s (fun t =>
      t.num (K.rlActivePhases r) = (s.nat (K.rlActivePhases r) ||| phaseMask ((goodPhases s r).filter (fun k => (s.rail r).auto.testBit k)) : Nat) ∧
      SameBut [K.rlActivePhases r] s t)) ∧
  (∀ (r : Nat) (s : State), railOn s r = true → (steadyPhases s r).length < (goodPhases s r).length →
    Does (.loadStepReadd r) s (fun t => ∃ on : Nat, t.num (K.rlActivePhases r) = (on ||| phaseMask (goodPhases s r) : Nat))) ∧
  (∀ (r k : Nat) (s : State), r < 8 → s.num (K.rlTAcc r) ≠ 0xFF → k < s.nat (K.rlPhases r) → Does (.phaseBalance r) s (fun t =>
      t.num (K.rlPhaseTempK r k) = scaledTemp (accMean s (s.nat (K.rlTAcc r) + k)) (s.num (K.rlTempScale r)) (s.num (K.rlTempOffset r)))) ∧
  (∀ (r ipk peak : Nat) (s : State), r < 8 → s.num (K.rlVAcc r) ≠ 0xFF → s.num (K.rlIAcc r) ≠ 0xFF →
    unityGain s (s.nat (K.rlVAcc r)) = true → unityGain s (s.nat (K.rlIAcc r)) = true →
    Does (.railTelemetryUpdate r ipk peak) s (fun t =>
      t.num (K.rlVolts r) = qdiv (accMean s (s.nat (K.rlVAcc r)) * 5 * s.num (K.rlDivider r)) (4 * 2 ^ 23) ∧
      t.num (K.rlAmps r) = qdiv (accMean s (s.nat (K.rlIAcc r)) * 500000 * 65536) (s.num (K.rlRsense r) * 2 ^ 23) ∧
      t.num (K.rlAmpsPeak r) = max (s.num (K.rlAmpsPeak r)) (peak : Int) ∧ t.num (K.rlHeadroom r) = headroom s r ipk ∧
      SameBut [K.rlVolts r, K.rlAmps r, K.rlWatts r, K.rlAmpsPeak r, K.rlWattsPeak r, K.rlHeadroom r] s t)) ∧
  (∀ (r : Nat) (f : Frame) (w : Who) (s u : State), reaches (K.rlPeakClear r) f s = some (w, .num 1, u) →
    Does (.rlPeakClear r f) s (fun t => Answered t w stOk ∧ t.num (K.rlAmpsPeak r) = 0 ∧ t.num (K.rlWattsPeak r) = 0 ∧
      SameBut [K.rlAmpsPeak r, K.rlWattsPeak r] u t))

/-! ### Antenna feeds (R293 to R307) -/

/-- Feeds detect, classify, switch on, fault, retry and seal (R295 to R302); starts and aborts are commanded (R306); the open-cable mute
ends (R303). -/
def Obligations.FeedsArePowered : Prop :=
  (∀ (f mv : Nat) (s : State), s.num (K.fdState f) = fsDetecting → (s.port f).returnWait = none →
    Does (.feedSignatureReading f mv) s (fun t => t.num (K.fdSignature f) = (min mv 65535 : Nat) ∧ SameBut [K.fdSignature f] s t)) ∧
  (∀ (f vin : Nat) (s : State), f < 32 → s.num (K.fdState f) = fsDetecting → signatureValid s f = true → supplyOk vin = true →
    Does (.feedDetected f vin) s (fun t => t.num (K.fdState f) = fsClassifying)) ∧
  (∀ (f ma k : Nat) (s : State), f < 32 → s.num (K.fdState f) = fsClassifying → (s.feed f).since + 4 * msTicks ≤ s.time.now → classFor ma = some k →
    s.bit (K.fdClassAllow f) k = true → Does (.feedClassified f ma) s (fun t => t.num (K.fdState f) = fsInrush ∧ t.num (K.fdClass f) = (k : Nat))) ∧
  (∀ (f ma : Nat) (s : State), f < 32 → s.num (K.fdState f) = fsClassifying → (s.feed f).since + 4 * msTicks ≤ s.time.now → classFor ma = none →
    Does (.feedClassified f ma) s (fun t => t.num (K.fdState f) = fsFaultOff ∨ t.num (K.fdState f) = fsLatched)) ∧
  (∀ (f : Nat) (s : State), f < 32 → s.num (K.fdState f) = fsInrush → stood (s.feed f).nearFrom msTicks s = true →
    Does (.feedOn f) s (fun t => t.num (K.fdState f) = fsOn ∧ t.num (K.fdStatus f) = 2)) ∧
  (∀ (f : Nat) (s : State), f < 32 → s.num (K.fdState f) = fsInrush → (s.feed f).since + s.nat (K.fdInrushMax f) * msTicks ≤ s.time.now →
    Does (.feedInrushTimeout f) s (fun t => t.num (K.fdState f) = fsFaultOff ∨ t.num (K.fdState f) = fsLatched)) ∧
  (∀ (f cause : Nat) (s : State), f < 32 → feedPowered s f = true → feedCond s f cause = true →
    Does (.feedFault f cause) s (fun t => t.num (K.fdState f) = fsFaultOff ∨ t.num (K.fdState f) = fsLatched)) ∧
  (∀ (f : Nat) (s : State), f < 32 → s.num (K.fdState f) = fsOn → stood (s.feed f).limitFrom (s.nat (K.fdOcTime f) * msTicks) s = true →
    Does (.feedOcTimeout f) s (fun t => t.num (K.fdState f) = fsFaultOff ∨ t.num (K.fdState f) = fsLatched)) ∧
  (∀ (f : Nat) (s : State), f < 32 → s.num (K.fdState f) = fsOn → s.num (K.fdHoldMa f) ≠ 0 →
    stood (s.feed f).lowFrom (s.nat (K.fdHoldTime f) * msTicks) s = true →
    Does (.feedLoadRemoved f) s (fun t => t.num (K.fdState f) = fsDetecting ∧ t.num (K.fdStatus f) = 1)) ∧
  (∀ (f : Nat) (vin vout amps : Int) (s : State), Does (.feedSoaUpdate f vin vout amps) s (fun t => t.num (K.fdVin f) = vin ∧
    t.num (K.fdVout f) = vout ∧ t.num (K.fdAmps f) = amps ∧ SameBut [K.fdVin f, K.fdVout f, K.fdAmps f, K.fdDirectLost f, K.fdTj f] s t)) ∧
  (∀ (f : Nat) (s : State), f < 32 → s.num (K.fdState f) = fsFaultOff → s.num (K.fdRetryDue f) ≤ s.time.ot → signatureValid s f = true →
    0 < s.num (K.fdRetriesLeft f) → cooled s f = true → Does (.feedRetry f) s (fun t => t.num (K.fdState f) = fsClassifying ∧
      t.num (K.fdStatus f) = 1 ∧ t.num (K.fdRetryDue f) = 0)) ∧
  (∀ (f : Nat) (s : State), s.num (K.fdState f) = fsOn → (s.feed f).since + 600 * secTicks ≤ s.time.now → Does (.feedRetriesRestore f) s (fun t =>
    t.num (K.fdRetriesLeft f) = s.num (K.fdRetryMax f) ∧ SameBut [K.fdRetriesLeft f] s t)) ∧
  (∀ (f : Nat) (s : State), f < 32 → feedPowered s f = false → s.num (K.fdState f) ≠ fsSealed → stood (s.feed f).leakFrom (10 * msTicks) s = true →
    Does (.feedLeakSeal f) s (fun t => t.num (K.fdState f) = fsSealed)) ∧
  (∀ (p due : Nat) (s : State), (s.port p).rlEnd = some due → due ≤ s.time.ot → Does (.openCableRelease p) s (fun t =>
    t.bit (K.portMutes p) pmOpenCable = false ∧ (t.port p).rlEnd = none ∧ SameBut [K.portMutes p] s t)) ∧
  (∀ (n : Nat) (f : Frame) (w : Who) (s u : State), n < 32 → reaches (K.fdAbort n) f s = some (w, .num 1, u) → fsDetecting ≤ u.num (K.fdState n) →
    u.num (K.fdState n) ≤ fsInrush → Does (.fdAbort n f) s (fun t => Answered t w stOk ∧ t.num (K.fdState n) = fsOff ∧ t.num (K.fdStatus n) = 4)) ∧
  (∀ (n : Nat) (f : Frame) (w : Who) (s u : State), reaches (K.fdAbort n) f s = some (w, .num 1, u) → u.num (K.fdState n) = fsOff →
    Does (.fdAbort n f) s (fun t => Answered t w stRange ∧ SameObjects u t)) ∧
  (∀ (n : Nat) (f : Frame) (w : Who) (s u : State), n < 32 → reaches (K.fdRestart n) f s = some (w, .num 1, u) →
    u.num (K.fdState n) = fsOff ∨ u.num (K.fdState n) = fsLatched → Does (.fdRestart n f) s (fun t => Answered t w stOk ∧
      t.num (K.fdState n) = fsDetecting ∧ t.num (K.fdStatus n) = 1 ∧ t.num (K.fdRetriesLeft n) = u.num (K.fdRetryMax n)))

/-! ### The thermal manager (R308 to R319) -/

/-- Every evaluation is counted (R316); the grace ends in backoff, an item more is shed and an item fewer stays shed in retreat (R314, R315); a
substitution hold ends, and the gain engines get the backoff again (R312, Table 9-1); learning is asked for (R310). -/
def Obligations.ThermalManagerActs : Prop :=
  (∀ (raws : List Int) (s : State), Does (.thermalEvaluation raws) s (fun t => t.th.evals = s.th.evals + 1)) ∧
  (∀ (due : Nat) (s : State), s.th.graceEnd = some due → s.num K.thEnforce = 1 → due ≤ s.time.now → 2 ≤ s.num K.thLevel →
    Does .thermalGraceEnd s (fun t => t.num K.thEnforce = 2 ∧ t.th.graceEnd = none ∧ SameBut [K.thEnforce] s t)) ∧
  (∀ (d : Nat) (s : State), s.num K.thEnforce = 3 → 2 ≤ s.num K.thLevel → enforceFrozen s = false → stepDue s = true → nextShed s = some d →
    Does .thermalShedStep s (fun t => t.num K.thShedCount = (s.th.shed.length + 1 : Nat))) ∧
  (∀ (d : Nat) (rest : List Nat) (s : State), s.num K.thEnforce = 4 → enforceFrozen s = false → stepDue s = true → s.th.shed = d :: rest →
    Does .thermalRetreatStep s (fun t => t.num K.thShedCount = (rest.length : Nat))) ∧
  (∀ (n l due : Nat) (s : State), s.th.hold = some (n, l, due) → due ≤ s.time.now →
    aloneLevel (({ s with th := { s.th with hold := none } }).set K.thHeld 0) = s.num K.thLevel →
    Does .thermalSubstHoldEnd s (fun t => t.th.hold = none ∧ t.num K.thHeld = 0 ∧ t.num K.thLevel = s.num K.thLevel ∧
      ∀ c, c ∈ s.started → t.num (K.geThermalBackoff c) = s.num K.thBackoff)) ∧
  (∀ (f : Frame) (w : Who) (v : Val) (s u : State), reaches K.thLearn f s = some (w, v, u) → u.num K.thLevel = 0 →
    Does (.thLearn f) s (fun t => Answered t w stOk ∧ t.th.learn = true ∧ SameObjects u t)) ∧
  (∀ (f : Frame) (w : Who) (v : Val) (s u : State), reaches K.thLearn f s = some (w, v, u) → u.num K.thLevel ≠ 0 →
    Does (.thLearn f) s (fun t => Answered t w stRange ∧ SameObjects u t))

/-! ### Faults and the recorder (R320 to R343) -/

/-- A Major state ends after its hold, sources are cleared, and the sticky word keeps what still stands (R324, R328); the buffer is flushed,
records that waited enter, and the log is read at its cursor (R337, R338, R343). -/
def Obligations.FaultsEndAndRecordsFlush : Prop :=
  (∀ (w due : Nat) (s : State), Tab.get (fun _ => none) s.flt.holdEnd w = some due → s.num (stateKey w) = 2 → due ≤ s.time.ot →
    Does (.faultMajorHoldEnd w) s (fun t => t.num (stateKey w) = 0)) ∧
  (∀ (f : Frame) (w : Who) (n : Nat) (s u : State), reaches K.fltClear f s = some (w, .num (n : Int), u) → sourceListed n = true →
    u.num (stateKey n) ≠ 4 → Does (.fltClear f) s (fun t => Answered t w stOk ∧ t.num (stateKey n) = 0)) ∧
  (∀ (f : Frame) (w : Who) (n : Nat) (s u : State), reaches K.fltClear f s = some (w, .num (n : Int), u) →
    sourceListed n = false ∨ u.num (stateKey n) = 4 → Does (.fltClear f) s (fun t => Answered t w stRange ∧ SameObjects u t)) ∧
  (∀ (f : Frame) (w : Who) (v : Val) (n : Nat) (s u : State), reaches K.fltClearAll f s = some (w, v, u) →
    (busySources u).filter (fun x => decide (u.num (stateKey x) ≠ 4)) = [n] →
    Does (.fltClearAll f) s (fun t => Answered t w stOk ∧ t.num (stateKey n) = 0)) ∧
  (∀ (f : Frame) (w : Who) (n : Nat) (s u : State), reaches K.fltStickyClear f s = some (w, .num (n : Int), u) →
    Does (.fltStickyClear f) s (fun t => Answered t w stOk ∧ t.num K.fltSticky = (stickyAfter u n : Nat) ∧ SameBut [K.fltSticky] u t)) ∧
  (∀ s : State, s.log.lastFlushEnd + 10 * secTicks ≤ s.time.now → s.log.flushing = none → s.bothFailed = false →
    Does .recFlushPeriodic s (fun t => t.log.flushing = some s.log.buffer.length ∧ SameObjects s t)) ∧
  (∀ (f : Frame) (w : Who) (v : Val) (s u : State), reaches K.recFlush f s = some (w, v, u) → u.log.flushing = none → u.bothFailed = false →
    Does (.recFlush f) s (fun t => Answered t w stOk ∧ t.log.flushing = some u.log.buffer.length ∧ SameObjects u t)) ∧
  (∀ (n : Nat) (s : State), s.log.flushing = some n → s.bankOk 0 = true → s.bankOk 1 = true →
    s.jr.bank0.failed = false → s.jr.bank1.failed = false → s.log.pfailAt = none → s.flag K.recLoglost = false →
    Does (.recFlushDone 0 0) s (fun t => t.log.buffer = s.log.buffer.drop n ∧ t.log.lastFlushEnd = s.time.now ∧
      t.jr.bank0.log0.ot = s.time.ot ∧ t.jr.bank1.log0.ot = s.time.ot)) ∧
  (∀ (r : Rec) (rest : List Rec) (s : State), s.log.waiting = r :: rest → s.log.buffer.length < 512 → Does .recordEnterAfterWait s (fun t =>
    t.log.waiting = rest ∧ t.num K.recNext = (s.nat K.recNext + 1 : Nat) ∧ t.log.buffer.length = s.log.buffer.length + 1)) ∧
  (∀ (cause : Nat) (s : State), failingNow s = false →
    Does (.powerFail cause) s (fun t => t.log.flushing.isSome = true ∨ t.bothFailed = true)) ∧
  (∀ (f : Frame) (w : Who) (s u : State) (e : Nat × Rec),
    cleared kRead { f with index := K.recRecord / 256, sub := K.recRecord % 256, describe := false, staged := false } s = some (w, u) →
    (readable u).find? (fun x => decide (x.1 = (u.master w.flow).cursor)) = some e →
    Does (.recRecord f) s (fun t => Answered t w stOk ∧ (t.master w.flow).lastRsp.payload = e.2.bytes ∧
      (t.master w.flow).cursor = (u.master w.flow).cursor + 1 ∧ SameObjects u t)) ∧
  (∀ (f : Frame) (w : Who) (s u : State) (e : Rec),
    cleared kRead { f with index := K.recPermRecord / 256, sub := K.recPermRecord % 256, describe := false, staged := false } s = some (w, u) →
    u.perm[(u.master w.flow).permCursor]? = some e →
    Does (.recPermRecord f) s (fun t => Answered t w stOk ∧ (t.master w.flow).lastRsp.payload = e.bytes ∧
      (t.master w.flow).permCursor = (u.master w.flow).permCursor + 1 ∧ SameObjects u t))

/-! ### The Gallery (R344 to R354) -/

/-- Captures are armed, triggered, completed, aborted and released (R345 to R348); the volume is formatted and drained, and the drive is
commanded (R349 to R353). -/
def Obligations.CapturesAreTaken : Prop :=
  (∀ (f : Frame) (w : Who) (v : Val) (s u : State), reaches K.galArm f s = some (w, v, u) → u.num (K.pdState 80) = 3 → u.num K.galState = gsIdle →
    galSources u ≠ [] → u.nat K.galPre + u.nat K.galPost ≤ galBlock (galSources u).length →
    Does (.galArm f) s (fun t => Answered t w stOk ∧ t.num K.galState = gsFilling)) ∧
  (∀ (f : Frame) (w : Who) (v : Val) (s u : State), reaches K.galArm f s = some (w, v, u) → u.num (K.pdState 80) ≠ 3 ∨ u.num K.galState ≠ gsIdle →
    Does (.galArm f) s (fun t => Answered t w stRange ∧ SameObjects u t)) ∧
  (∀ (f : Frame) (w : Who) (v : Val) (s u : State), reaches K.galTrigger f s = some (w, v, u) →
    u.num K.galState = gsFilling ∨ u.num K.galState = gsArmed → Does (.galTrigger f) s (fun t => Answered t w stOk ∧
      t.num K.galState = gsTriggered ∧ t.num K.galReasons = 8 ∧ t.num K.galNumber = u.num K.galNumber + 1 ∧ t.num K.galTriggerTb = (u.tbNow : Nat) ∧
      SameBut [K.galState, K.galTriggerTb, K.galPreActual, K.galNumber, K.galStatus, K.galTag, K.galReasons] u t)) ∧
  (∀ (f : Frame) (w : Who) (v : Val) (s u : State), reaches K.galTrigger f s = some (w, v, u) → u.num K.galState = gsIdle →
    Does (.galTrigger f) s (fun t => Answered t w stOk ∧ t.num K.galIgnored = min (u.num K.galIgnored + 1) (maxWord 32) ∧ SameBut [K.galIgnored] u t)) ∧
  (∀ (f : Frame) (w : Who) (v : Val) (s u : State), reaches K.galAbort f s = some (w, v, u) →
    u.num K.galState = gsFilling ∨ u.num K.galState = gsArmed → Does (.galAbort f) s (fun t => Answered t w stOk ∧ t.num K.galState = gsIdle)) ∧
  (∀ (f : Frame) (w : Who) (v : Val) (s u : State), reaches K.galAbort f s = some (w, v, u) → u.num K.galState = gsTriggered → captureOver u = false →
    Does (.galAbort f) s (fun t => Answered t w stOk ∧ t.num K.galState = gsIdle ∧ t.num K.galStatus = 4)) ∧
  (∀ (f : Frame) (w : Who) (v : Val) (s u : State), reaches K.galAbort f s = some (w, v, u) → captureOver u = true →
    Does (.galAbort f) s (fun t => Answered t w stAbortLate)) ∧
  (∀ (f : Frame) (w : Who) (v : Val) (s u : State), reaches K.galRelease f s = some (w, v, u) → u.num K.galState = gsHeld → u.num K.galDriveState ≠ 2 →
    Does (.galRelease f) s (fun t => Answered t w stOk ∧ t.num K.galState = gsIdle ∧ t.num K.galSettled = u.num K.galNumber ∧
      SameBut [K.galState, K.galSettled] u t)) ∧
  (∀ (f : Frame) (w : Who) (v : Val) (s u : State), reaches K.galRelease f s = some (w, v, u) → u.num K.galState ≠ gsHeld ∨ u.num K.galDriveState = 2 →
    Does (.galRelease f) s (fun t => Answered t w stRange ∧ SameObjects u t)) ∧
  (∀ (f : Frame) (w : Who) (v : Val) (s u : State), reaches K.galFormat f s = some (w, v, u) → u.num K.galState ≠ gsDraining →
    u.num K.galState ≠ gsFull → drivePresent u = true → Does (.galFormat f) s (fun t => Answered t w stOk ∧ t.num K.galUsed = 0 ∧
      t.num K.galMode = v.int ∧ t.num K.galDriveState = 2 ∧ t.gal.dir = [] ∧ SameBut [K.galUsed, K.galMode, K.galDriveState] u t)) ∧
  (∀ (f : Frame) (w : Who) (v : Val) (s u : State), reaches K.galFormat f s = some (w, v, u) → u.num K.galState = gsDraining →
    Does (.galFormat f) s (fun t => Answered t w stRange ∧ SameObjects u t)) ∧
  (∀ s : State, s.num K.galState = gsFilling → s.gal.fillAt + s.gal.pre ≤ s.time.now →
    Does .galleryPreFull s (fun t => t.num K.galState = gsArmed ∧ SameBut [K.galState] s t)) ∧
  (∀ s : State, captureOver s = true → Does .galleryCaptureComplete s (fun t => t.num K.galState = gsHeld ∨ t.num K.galState = gsFull)) ∧
  (∀ s : State, s.num K.galState = gsHeld → s.num K.galDriveState = 2 → slotFree s = true →
    Does .galleryDrainStart s (fun t => t.num K.galState = gsDraining ∧ SameBut [K.galState, K.galUsed] s t)) ∧
  (∀ s : State, s.num K.galState = gsDraining → s.flag K.galAutoRearm = false → Does .galleryDrainDone s (fun t => t.num K.galState = gsIdle ∧
    t.num K.galSettled = s.num K.galNumber)) ∧
  (∀ s : State, s.num K.galState = gsDraining → s.flag K.galAutoRearm = true → Does .galleryDrainDone s (fun t => t.num K.galState = gsFilling)) ∧
  (∀ (opcode status n : Nat) (s : State), s.num (K.pdState 81) = 3 → n < 3 →
    Does (.nvmeCommandFail opcode status n) s (fun t => Out.nvme opcode [] [] ∈ t.out ∧ SameObjects s t)) ∧
  (∀ (opcode status n : Nat) (s : State), s.num (K.pdState 81) = 3 → 3 ≤ n →
    Does (.nvmeCommandFail opcode status n) s (fun t => t.num K.galDriveState = 5 ∧ t.num K.galState ≠ gsDraining)) ∧
  (∀ s : State, drivePresent s = true → Does .nvmeSmartPoll s (fun t => Out.nvme 2 [2] [] ∈ t.out ∧ SameObjects s t)) ∧
  (∀ (v : NvmeVol) (s : State), s.num (K.pdState 81) = 3 → s.num K.galState ≠ gsHeld → Does (.nvmeDriveReady v) s (fun t =>
    t.num K.galSlots = (volumeSlots v.capacity : Nat) ∧ t.num K.galDriveState = driveState v ∧ t.num K.galMode = (if (volCurrent v).isSome then (leAt (((volCurrent v).map Prod.snd).getD []) 32 1 : Nat) else 0xFF) ∧
      SameBut [K.galSlots, K.galDriveState, K.galMode, K.galLink, K.galUsed] s t)) ∧
  (∀ (v : NvmeVol) (s : State), s.num (K.pdState 81) ≠ 3 → Does (.nvmeDriveReady v) s (fun t => t = s))

/-! ### The host interface (R355 to R369) -/

/-- Interface resets, configuration requests, the rings, causes, the mirror and the DMA engines (R356 to R368). -/
def Obligations.HostInterfaceActs : Prop :=
  (∀ (down : Bool) (s : State), Does (.pcieInterfaceReset down) s (fun t => t.host.reqProd = 0 ∧ t.host.reqCons = 0 ∧ t.host.rspProd = 0 ∧
    t.host.rspCons = 0 ∧ t.host.ntfProd = 0 ∧ t.host.ntfCons = 0 ∧ t.host.irq = 0 ∧ t.host.busMaster = false ∧ (down = true → t.num K.hostLink = 0))) ∧
  (∀ (bme : Option Bool) (s : State), s.serving = false →
    Does (.pcieConfigRequest bme) s (fun t => Out.pcie "crs" [] ∈ t.out ∧ t.host = s.host ∧ SameObjects s t)) ∧
  (∀ s : State, s.serving = true → Does (.pcieConfigRequest (some true)) s (fun t =>
    Out.pcie "cfg" pcieIdentity ∈ t.out ∧ t.host.busMaster = true ∧ SameObjects s t)) ∧
  (∀ s : State, s.serving = true → Does (.pcieConfigRequest (some false)) s (fun t => t.host.busMaster = false)) ∧
  (∀ (v : Nat) (slots : List Slot) (s : State), s.serving = true → indexStep s.host.reqCons v = 0 →
    Does (.mbReqProd v slots) s (fun t => t.host.reqProd = v % 65536 ∧ t.host.reqCons = s.host.reqCons ∧ SameObjects s t)) ∧
  (∀ (v : Nat) (slot : Slot) (s : State), s.serving = true → indexStep s.host.reqCons v = 1 → s.num (K.mrFrozen 1) ≠ 0 →
    s.host.held = [] → s.host.rspProd < s.host.rspCons + 2048 → leAt (padTo 64 slot) 0 1 / 32 ≠ 6 →
    Does (.mbReqProd v [slot]) s (fun t => t.host.reqCons = (s.host.reqCons + 1) % 65536 ∧ SameObjects s t ∧
      ∃ kind seq i sub, Out.response 1 kind seq i sub stFrozen 0 false [] ∈ t.out)) ∧
  (∀ (v : Nat) (slots : List Slot) (s : State), s.serving = true → 2048 < indexStep s.host.reqCons v → s.num (K.mrFrozen 1) = 0 →
    Does (.mbReqProd v slots) s (fun t => t.num (K.mrFrozen 1) = (stMalformed : Nat) ∧ t.num (K.mrLevel 1) = 0 ∧ t.host.reqCons = s.host.reqCons)) ∧
  (∀ (rsp ntf : Nat) (s : State), s.serving = true → s.host.held = [] → s.host.rspCons + indexStep s.host.rspCons rsp ≤ s.host.rspProd →
    s.host.ntfCons + indexStep s.host.ntfCons ntf ≤ s.host.ntfProd → Does (.mbRspCons rsp ntf) s (fun t =>
      t.host.rspCons = s.host.rspCons + indexStep s.host.rspCons rsp ∧ t.host.ntfCons = s.host.ntfCons + indexStep s.host.ntfCons ntf ∧ SameObjects s t)) ∧
  (∀ (i v : Nat) (s : State), Does (.irqCause i v) s (fun t => SameObjects s t ∧
    t = { s with host := { s.host with irq := maskOff s.host.irq ((v % 2 ^ 32) * 2 ^ (32 * i)) } })) ∧
  (∀ s : State, Does .mirrorRefresh s (fun t => t.host.mirrorSeq = s.host.mirrorSeq + 2 ∧ t.host.mirrorTb = s.tbNow ∧ t.host.mirrorOt = s.time.ot ∧
    SameObjects s t)) ∧
  (∀ (e rptr : Nat) (first inv step : Report) (b : DmaBlock) (rest : List DmaBlock) (s : State), e < 32 → s.num (K.dmaState e) = 1 → fullOf s e = b :: rest →
    rptrOf s e ≤ rptr → rptr ≤ wptrOf s e → wptrOf s e < rptr + s.nat (K.dmaRingBlocks e) → Does (.dmaBlockWrite e first rptr inv step) s (fun t =>
      wptrOf t e = wptrOf s e + 1 ∧ rptrOf t e = rptr ∧ fullOf t e = rest ∧ t.num (K.dmaBlocks e) = min (s.num (K.dmaBlocks e) + 1) (maxWord 64) ∧
      SameBut [K.dmaBlocks e] s t)) ∧
  (∀ (e rptr : Nat) (first inv step : Report) (b : DmaBlock) (rest : List DmaBlock) (s : State), e < 32 → s.num (K.dmaState e) = 1 → fullOf s e = b :: rest →
    rptr < rptrOf s e → ringFull s e = true → s.num (K.dmaOverflow e) = 0 → Does (.dmaBlockWrite e first rptr inv step) s (fun t =>
      t.num (K.dmaState e) = 2 ∧ SameBut [K.dmaState e, K.hostDmaLoad] s t)) ∧
  (∀ (e : Nat) (f : Frame) (w : Who) (s u : State), reaches (K.dmaRun e) f s = some (w, .num 1, u) → u.num (K.pdState 82) = 3 →
    dmaMayStart u e = true → Does (.dmaRunStart e f) s (fun t => Answered t w stOk ∧ t.num (K.dmaState e) = 1 ∧ t.num (K.dmaBlocks e) = 0 ∧
      wptrOf t e = 0 ∧ rptrOf t e = 0 ∧ SameBut [K.dmaState e, K.dmaBlocks e, K.dmaDropped e, K.dmaRate e, K.hostDmaLoad] u t)) ∧
  (∀ (e : Nat) (f : Frame) (w : Who) (s u : State), reaches (K.dmaRun e) f s = some (w, .num 1, u) → u.num (K.pdState 82) = 3 →
    dmaMayStart u e = false → Does (.dmaRunStart e f) s (fun t => Answered t w stRange ∧ SameObjects u t)) ∧
  (∀ (e : Nat) (f : Frame) (w : Who) (s u : State), reaches (K.dmaRun e) f s = some (w, .num 0, u) → u.num (K.pdState 82) = 3 →
    u.num (K.dmaState e) = 1 → Does (.dmaRunStop e f) s (fun t => Answered t w stOk ∧ t.num (K.dmaState e) = 0 ∧
      SameBut [K.dmaState e, K.dmaBlocks e, K.hostDmaLoad] u t)) ∧
  (∀ (link : Nat) (s : State), dmaRunning s = [] → s.num K.hostLink ≠ 0 → Does (.pcieLinkRetrain link) s (fun t => t.num K.hostLink = (link : Nat) ∧
    t.num K.hostDmaCap = wholeRate (dmaCap link) ∧ t.num K.hostRetrains = min (s.num K.hostRetrains + 1) (maxWord 32) ∧
    SameBut [K.hostLink, K.hostDmaCap, K.hostRetrains] s t)) ∧
  (∀ (s : State), Does .busMasterDisable s (fun t => t.host.busMaster = false))

/-! ### The Cloister (R370 to R387) -/

/-- Signed records are accepted or rejected (R373 to R382); levels are unlocked by challenge and response (R376, R377); tamper seals (R372);
firmware is written, committed and confirmed (R383). The signature, the key and the digest are the part's own: free values of Config
(log entry 2), so each clause says what follows from either answer of theirs. -/
def Obligations.CloisterAnswers : Prop :=
  (∀ (f : Frame) (w : Who) (b : List Byte) (s u : State), reaches K.secRootInstall f s = some (w, .oct b, u) → rootFormat b = true →
    leAt b 7 1 = 0xFF → leAt b 5 1 = 0 → u.num K.secState = 0 → w.tunnel = false → w.flow = 1 ∨ w.flow = 2 →
    Does (.secRootInstall f) s (fun t => (ownSerial (leAt b 8 8) = true → Answered t w stOk ∧ t.num K.secState = 1 ∧ t.sec.enrolled = true) ∧
      (ownSerial (leAt b 8 8) = false → Answered t w stRange))) ∧
  (∀ (f : Frame) (w : Who) (b : List Byte) (s u : State), reaches K.secRootInstall f s = some (w, .oct b, u) → rootFormat b = false →
    Does (.secRootInstall f) s (fun t => Answered t w stRange)) ∧
  (∀ (f : Frame) (w : Who) (b : List Byte) (s u : State), reaches K.secCredInstall f s = some (w, .oct b, u) → credFormat b = true →
    Does (.secCredInstall f) s (fun t =>
      (recordFault u (ownSerial (leAt b 8 8)) (leAt b 5 1) (leAt b 16 4) (b.take 136) (b.drop 136) = none → Config.unwrapOk b = true →
        Answered t w stOk ∧ t.bit K.secCredLevels (leAt b 4 1) = true ∧ t.num (K.secRevSeqN (leAt b 5 1)) = (leAt b 16 4 : Nat)) ∧
      (recordFault u (ownSerial (leAt b 8 8)) (leAt b 5 1) (leAt b 16 4) (b.take 136) (b.drop 136) ≠ none ∨ Config.unwrapOk b = false →
        Answered t w stRange))) ∧
  (∀ (f : Frame) (w : Who) (l : Nat) (s u : State), reaches K.secUnlock f s = some (w, .num (l : Int), u) → u.num K.secState ≠ 2 →
    lockedOut u = false → u.bit K.secCredLevels l = true → w.tunnel = false → Does (.secUnlock f) s (fun t => Answered t w stOk ∧
      (∃ c, (t.master w.flow).challenge = some (l, c, u.time.now + 10 * secTicks) ∧ c.length = 16) ∧ (t.master w.flow).auth = 1 ∧ SameObjects u t)) ∧
  (∀ (f : Frame) (w : Who) (l : Nat) (s u : State), reaches K.secUnlock f s = some (w, .num (l : Int), u) →
    u.num K.secState = 2 ∨ lockedOut u = true ∨ u.bit K.secCredLevels l = false →
    Does (.secUnlock f) s (fun t => Answered t w stRange ∧ SameObjects u t)) ∧
  (∀ (f : Frame) (w : Who) (v : Val) (l due : Nat) (c : List Byte) (s u : State), reaches K.secResponse f s = some (w, v, u) →
    (u.master w.flow).challenge = some (l, c, due) → u.time.now < due → Does (.secResponse f) s (fun t => Answered t w stOk ∧
      (v.octs = expectedResponse u w.flow l c → t.num (K.mrLevel w.flow) = (l : Nat)) ∧
      (v.octs ≠ expectedResponse u w.flow l c → (t.master w.flow).auth = 3 ∧ (t.master w.flow).challenge = none))) ∧
  (∀ (f : Frame) (w : Who) (v : Val) (s u : State), reaches K.secResponse f s = some (w, v, u) → (u.master w.flow).challenge = none →
    Does (.secResponse f) s (fun t => Answered t w stOk ∧ (t.master w.flow).auth = 3 ∧
      t.num K.secAuthFails = min (u.nat K.secAuthFails + 1) 255)) ∧
  (∀ (m l due : Nat) (c : List Byte) (s : State), (s.master m).challenge = some (l, c, due) → due ≤ s.time.now →
    Does (.challengeExpire m) s (fun t => (t.master m).challenge = none ∧ (t.master m).auth = 4 ∧ SameObjects s t)) ∧
  (∀ s : State, s.num K.secLockoutEnd ≠ 0 → lockedOut s = false → Does .lockoutEnd s (fun t => t.num K.secLockoutEnd = 0 ∧ SameBut [K.secLockoutEnd] s t)) ∧
  (∀ (f : Frame) (w : Who) (b : List Byte) (n : Nat) (s u : State), reaches K.secPermitInstall f s = some (w, .oct b, u) → permitFormat b = true →
    heldPermits u = [] → idRevoked u (pmRoot b) (pmId b) = false → permitSlot u = some n → Does (.secPermitInstall f) s (fun t =>
      (ownSerial (leAt b 8 8) = true → signedBy u (pmRoot b) (b.take 64) (b.drop 64) = true → Answered t w stOk ∧ t.oct (K.secPermit n) = b ∧
        t.num (K.secPermitState n) = 1) ∧
      (ownSerial (leAt b 8 8) = false ∨ signedBy u (pmRoot b) (b.take 64) (b.drop 64) = false → Answered t w stRange))) ∧
  (∀ (f : Frame) (w : Who) (b : List Byte) (s u : State), reaches K.secRevoke f s = some (w, .oct b, u) → revokeFormat b = true →
    Does (.secRevoke f) s (fun t =>
      (recordFault u (ownSerial (leAt b 8 8) || decide (leAt b 8 8 = 0)) (leAt b 5 1) (leAt b 16 4) (b.take (b.length - 64)) (b.drop (b.length - 64)) = none →
        Answered t w stOk ∧ t.num (K.secRevSeqN (leAt b 5 1)) = (leAt b 16 4 : Nat)) ∧
      (recordFault u (ownSerial (leAt b 8 8) || decide (leAt b 8 8 = 0)) (leAt b 5 1) (leAt b 16 4) (b.take (b.length - 64)) (b.drop (b.length - 64)) ≠ none →
        Answered t w stRange))) ∧
  (∀ (cause offset : Nat) (s : State), Does (.tamper cause offset) s (fun t => t.num K.secState = 2)) ∧
  (∀ (f : Frame) (w : Who) (b : List Byte) (s u : State), reaches K.secFwWrite f s = some (w, .oct b, u) →
    u.nat K.secFwOffset + b.length ≤ 2 ^ 24 → Does (.secFwWrite f) s (fun t => Answered t w stOk ∧ t.num K.secFwStatus = 1 ∧
      t.num K.secFwOffset = (u.nat K.secFwOffset + b.length : Nat) ∧ SameBut [K.secFwOffset, K.secFwStatus] u t)) ∧
  (∀ (f : Frame) (w : Who) (v : Val) (s u : State), reaches K.secFwCommit f s = some (w, v, u) → Does (.secFwCommit f) s (fun t =>
    Answered t w stOk ∧ t.num K.secFwStatus = if imageOk u (1 - fwRunning u) then 3 else 5)) ∧
  (∀ (f : Frame) (w : Who) (v : Val) (s u : State), reaches K.secFwConfirm f s = some (w, v, u) → Does (.secFwConfirm f) s (fun t =>
    Answered t w stOk ∧ t.sec.confirmed = true ∧ t.num K.secFwSvn = (fwField u (fwRunning u) 12 2 : Nat)))

/-! ### Supplies, resets, boot and domains (R388 to R401) -/

/-- Resets hold the part in stage 0 and their release starts boot at stage 1 (R389 to R391); boot advances stage by stage (R392, R393);
domains are powered and slices checked (R396); repairs are declared (R401, R410). -/
def Obligations.PartResetsAndBoots : Prop :=
  (∀ s : State, s.boot.por = true → s.boot.porst = false → s.boot.warm = false → Does .powerOnResetRelease s (fun t =>
    t.num K.pdBootStage = 1 ∧ t.boot.por = false ∧ t.num K.pdLastReset = if s.boot.allDown then 1 else 2)) ∧
  (∀ s : State, s.boot.porst = true → Does .powerOnResetRelease s (fun t => t = s)) ∧
  (∀ s : State, s.boot.por = false → s.boot.porst = false → Does .porstNAssert s (fun t => t.num K.pdBootStage = 0 ∧ t.boot.cause = 2 ∧
    t.boot.porst = true ∧ t.tx.slots = [] ∧ t.tx.accepted = [] ∧ t.jr.writing = [])) ∧
  (∀ s : State, s.boot.por = false → s.boot.porst = false → s.boot.warm = false → Does .warmrstNAssert s (fun t => t.num K.pdBootStage = 0 ∧
    t.boot.cause = 3 ∧ t.boot.warm = true ∧ t.tx.slots = [])) ∧
  (∀ s : State, Does (.powerOnResetAssert true) s (fun t => t.num K.pdBootStage = 0 ∧ t.boot.cause = 1 ∧ t.boot.por = true ∧ t.log.buffer = [] ∧
    t.jtag = .idcode ∧ t.num K.recBuffered = 0)) ∧
  (∀ s : State, s.boot.por = false → s.boot.porst = false → Does (.powerOnResetAssert false) s (fun t => t.num K.pdBootStage = 0 ∧ t.boot.cause = 2 ∧
    t.boot.por = true)) ∧
  (∀ s : State, s.boot.porst = true → s.boot.por = false → s.boot.warm = false → Does (.resetRelease true) s (fun t => t.num K.pdBootStage = 1 ∧
    t.boot.porst = false ∧ SameBut [K.pdBootStage, K.pdLastReset] s t)) ∧
  (∀ s : State, s.boot.warm = true → s.boot.por = false → s.boot.porst = false → Does (.resetRelease false) s (fun t => t.num K.pdBootStage = 1 ∧
    t.boot.warm = false ∧ SameBut [K.pdBootStage, K.pdLastReset] s t)) ∧
  (∀ (refclk : Bool) (readErr : Nat) (bad : List Nat) (s : State), s.nat K.pdBootStage = 1 → Does (.bootStageAdvance refclk readErr bad) s (fun t =>
    t.num K.pdBootStage = if s.boot.cause = 3 then 3 else 2)) ∧
  (∀ (refclk : Bool) (readErr : Nat) (bad : List Nat) (s : State), s.nat K.pdBootStage = 2 →
    refclk = true ∨ s.boot.stageAt + secTicks ≤ s.time.now → Does (.bootStageAdvance refclk readErr bad) s (fun t =>
    t.num K.pdBootStage = 3)) ∧
  (∀ (refclk : Bool) (readErr : Nat) (bad : List Nat) (s : State), s.nat K.pdBootStage = 3 → Does (.bootStageAdvance refclk readErr bad) s (fun t =>
    (∀ n back, bootSlot readErr s = some (n, back) → t.num K.pdBootStage = 4 ∧ t.num K.secFwSlot = (n + (if back then 128 else 0) : Nat)) ∧
    (bootSlot readErr s = none → t.num K.pdBootStage = 7))) ∧
  (∀ (refclk : Bool) (readErr : Nat) (bad : List Nat) (s : State), s.nat K.pdBootStage = 4 → Does (.bootStageAdvance refclk readErr bad) s (fun t =>
    t.num K.pdBootStage = 5)) ∧
  (∀ (refclk : Bool) (readErr : Nat) (bad : List Nat) (s : State), s.nat K.pdBootStage = 5 → Does (.bootStageAdvance refclk readErr bad) s (fun t =>
    t.num K.pdBootStage = 6 ∧ Printed t "ok ready" [] [])) ∧
  (∀ s : State, s.num K.pdBootStage = 7 → s.boot.reportAt + 10 * secTicks ≤ s.time.now → Does .bootFailReport s (fun t =>
    Printed t "!boot fail" (s.boot.fails.map (fun r => (r : Int))) [] ∧ SameObjects s t)) ∧
  (∀ (d due : Nat) (s : State), d < 64 → Tab.get (fun _ => none) s.domDue d = some due → due ≤ s.time.now → s.num (K.pdState d) = dsPowering →
    Does (.domainPowered d) s (fun t => t.num (K.pdState d) = dsChecking ∧ SameBut [K.pdState d] s t)) ∧
  (∀ (d due : Nat) (s : State), 80 ≤ d → Tab.get (fun _ => none) s.domDue d = some due → due ≤ s.time.now → s.num (K.pdState d) = dsPowering →
    Does (.domainPowered d) s (fun t => t.num (K.pdState d) = dsOn ∧ SameBut [K.pdState d] s t)) ∧
  (∀ (sl due : Nat) (s : State), sl < 64 → Tab.get (fun _ => none) s.domDue sl = some due → due ≤ s.time.now → s.num (K.pdState sl) = dsChecking →
    startedIn s sl = [] → Does (.sliceCheck sl true) s (fun t => t.num (K.pdState sl) = dsOn ∧ SameBut [K.pdState sl] s t)) ∧
  (∀ (f : Frame) (w : Who) (v : Val) (s u : State), reaches K.pdRepair f s = some (w, v, u) → u.num K.pdRepairGen ≠ 65535 →
    (∀ p, p < 32 → u.num (K.portState p) = psOff ∨ u.num (K.portState p) = psSleep) → Does (.pdRepair f) s (fun t => Answered t w stOk ∧
      t.num K.pdRepairGen = (u.nat K.pdRepairGen + 1 : Nat) ∧ t.oct K.rpNote = []))

/-! ### Field service (R403 to R412) -/

/-- Self-tests run, pass, fail and are aborted (R158, R406, R407). -/
def Obligations.SelfTestsRun : Prop :=
  (∀ (f : Frame) (w : Who) (n : Nat) (s u : State), reaches K.stRun f s = some (w, .num (n : Int), u) → u.panel.test = none →
    testAllowed u (n / 256) (n % 256) = true → Does (.stRun f) s (fun t => Answered t w stOk ∧ t.num K.stState = 1 ∧ t.num K.stBlock = (n : Nat) ∧
      t.num K.stStep = 0)) ∧
  (∀ (f : Frame) (w : Who) (n : Nat) (s u : State), reaches K.stRun f s = some (w, .num (n : Int), u) → u.panel.test = none →
    testAllowed u (n / 256) (n % 256) = false → Does (.stRun f) s (fun t => Answered t w stRange ∧ SameObjects u t)) ∧
  (∀ (f : Frame) (w : Who) (v : Val) (x : SelfTest) (s u : State), reaches K.stRun f s = some (w, v, u) → u.panel.test = some x →
    Does (.stRun f) s (fun t => Answered t w stBusy ∧ SameObjects u t)) ∧
  (∀ (p : Nat) (f : Frame) (w : Who) (v : Val) (s u : State), p < 32 → reaches (K.portLoopbackTest p) f s = some (w, v, u) → u.panel.test = none →
    testAllowed u 1 p = true → Does (.portLoopbackTest p f) s (fun t => Answered t w stOk ∧ t.num K.stState = 1 ∧
      t.num K.stBlock = (256 + p : Nat))) ∧
  (∀ (p : Nat) (f : Frame) (w : Who) (v : Val) (s u : State), p < 32 → reaches (K.portLoopbackTest p) f s = some (w, v, u) → u.panel.test = none →
    testAllowed u 1 p = false → Does (.portLoopbackTest p f) s (fun t => Answered t w stRange ∧ SameObjects u t)) ∧
  (∀ (step : Nat) (x : SelfTest) (s : State), s.panel.test = some x → step ≠ 0 →
    Does (.selftestComplete step) s (fun t => t.num K.stState = 3 ∧ t.num K.stStep = (step : Nat) ∧ (∃ b, t.panel.blink = some b ∧ b.step = step))) ∧
  (∀ (x : SelfTest) (s : State), s.panel.test = some x → testOver s x = true → x.late = false →
    Does (.selftestComplete 0) s (fun t => t.num K.stState = 2 ∧ t.num K.stStep = 0)) ∧
  (∀ (step : Nat) (s : State), s.panel.test = none → Does (.selftestComplete step) s (fun t => t = s)) ∧
  (∀ (f : Frame) (w : Who) (x : SelfTest) (s u : State), reaches K.stAbort f s = some (w, .num 1, u) → u.panel.test = some x → testOver u x = false →
    Does (.stAbort f) s (fun t => Answered t w stOk ∧ t.num K.stState = 4)) ∧
  (∀ (f : Frame) (w : Who) (x : SelfTest) (s u : State), reaches K.stAbort f s = some (w, .num 1, u) → u.panel.test = some x → testOver u x = true →
    Does (.stAbort f) s (fun t => Answered t w stAbortLate ∧ t.panel.test = some { x with late := true } ∧ SameBut [K.txAbortsLate] u t)) ∧
  (∀ (b : Blink) (s : State), s.panel.blink = some b → b.start + 12 * secTicks ≤ s.time.now →
    Does .blinkCodeEnd s (fun t => t.panel.blink = none ∧ SameObjects s t))

/-- Meters, LEDs and keys follow what they show and feel (R404, R405, R408, R409); a qualified press begins a Banister hold and its end
releases it (R411); crossing errors degrade a die (R25, R26); JTAG takes its instruction (R385). -/
def Obligations.PanelFollows : Prop :=
  (∀ s : State, s.serving = false → Does .meterUpdate s (fun t => (∀ m, m < 2 → t.num (K.mtrStatus m) = 0 ∧ t.num (K.mtrVolts m) = 0) ∧
    SameBut [K.mtrStatus 0, K.mtrVolts 0, K.mtrStatus 1, K.mtrVolts 1] s t)) ∧
  (∀ (r : ObjRow) (s : State), s.serving = true → s.panel.test = none → s.nat (K.mtrSource 0) ≠ 0 → noValue s (s.nat (K.mtrSource 0)) = false →
    Dict.rowOf (s.nat (K.mtrSource 0)) = some r → measuredLive s (s.nat (K.mtrSource 0)) = false → Does .meterUpdate s (fun t =>
      t.num (K.mtrVolts 0) =
        clampI (meterVolts s 0 (s.nat (K.mtrSource 0)) (s.readNum 0 (s.nat (K.mtrSource 0)))) 0 163840 ∧
      SameBut [K.mtrStatus 0, K.mtrVolts 0, K.mtrStatus 1, K.mtrVolts 1] s t)) ∧
  (∀ s : State, Does .ledUpdate s (fun t => t.num K.ledLevels = (((List.range 16).map (fun n => if ledLit s n then 2 ^ n else 0)).sum : Nat) ∧
    SameBut [K.ledLevels] s t)) ∧
  (∀ (k : Nat) (raw : Int) (raws : List Int) (s : State), k < 8 → s.serving = true → raws[k]? = some raw → Does (.keyScan raws) s (fun t =>
    (t.key k).touched = keyTouched s k raw ∧ SameObjects s t)) ∧
  (∀ (k : Nat) (s : State), k < 8 → s.serving = true → s.num (K.keyState k) = 0 → (s.key k).touched = true → settled s k = true →
    Does (.keyPress k) s (fun t => t.num (K.keyState k) = 1 ∧ t.num (K.keyPresses k) = min (s.num (K.keyPresses k) + 1) (maxWord 32) ∧
      (t.key k).pressedAt = s.time.now ∧ SameBut [K.keyState k, K.keyPresses k] s t)) ∧
  (∀ (k : Nat) (s : State), k < 8 → s.serving = true → s.num (K.keyState k) ≠ 0 → (s.key k).touched = false → settled s k = true →
    Does (.keyRelease k) s (fun t => t.num (K.keyState k) = 0)) ∧
  (∀ (k : Nat) (s : State), k < 8 → s.num (K.keyState k) = 1 → (s.key k).pressedAt + 60 * secTicks < s.time.now →
    Does (.keyStuck k) s (fun t => t.num (K.keyState k) = 2)) ∧
  (∀ (k : Nat) (s : State), qualifies s k = true → s.num K.banState = 0 → Does (.banisterOn k) s (fun t => t.num K.banState = 1)) ∧
  (∀ (k : Nat) (s : State), qualifies s k = true → s.num K.banState ≠ 0 → secondPress s k = false →
    Does (.banisterOn k) s (fun t => t.num K.banEnd = (s.time.ot + 1024 * s.nat K.banTime : Nat) ∧ t.num K.banState = s.num K.banState)) ∧
  (∀ (s : State), s.num K.banState ≠ 0 → s.num K.banEnd ≤ s.time.ot → Does .banisterOff s (fun t => t.num K.banState = 0 ∧ t.num K.banEnd = 0)) ∧
  (∀ (k : Nat) (s : State), s.num K.banState ≠ 0 → qualifies s k = true → secondPress s k = true →
    Does .banisterOff s (fun t => t.num K.banState = 0 ∧ t.num K.banEnd = 0)) ∧
  (∀ (d : Nat) (s : State), d < 6 → ((Tab.get (fun _ => []) s.parity d).filter (fun x => decide (s.time.now < x + secTicks))).length < 16 →
    Does (.busParityError d) s (fun t => t.num K.dieBusErrorCount = min (s.num K.dieBusErrorCount + 1) (maxWord 32) ∧
      SameBut [K.dieBusErrorCount] s t)) ∧
  (∀ (d : Nat) (s : State), d < 6 → 16 ≤ ((Tab.get (fun _ => []) s.parity d).filter (fun x => decide (s.time.now < x + secTicks))).length →
    s.bit (dieKey d) 3 = false → Does (.busParityError d) s (fun t => t.bit (dieKey d) 3 = true)) ∧
  (∀ (i : Jtag) (s : State), Does (.jtagInstruction i) s (fun t => t.jtag = i ∧ SameObjects s t))

/-- The service commands of the console (R403): each prints its line; those that write pass the tests of R43 first. -/
def Obligations.ConsoleServesItsCommands : Prop :=
  (∀ s : State, consoleReady s = true → Does .help s (fun t => Printed t "ok" [] [] ∧ SameObjects (atConsole s) t)) ∧
  (∀ s : State, consoleReady s = true → Does .ver s (fun t => SameObjects (atConsole s) t ∧
    Printed t "ok" [(stOk : Int), s.num K.idFwVersion, (Config.serial.toNat : Int)] (s.oct K.idPart ++ s.oct K.idSilicon))) ∧
  (∀ s : State, consoleReady s = true → Does .st s (fun t => SameObjects (atConsole s) t ∧
    Printed t "ok" [(stOk : Int), s.num K.pdBootStage, s.num K.tbState, s.num K.tbTrace, s.num K.thLevel, s.num K.fltSevereCount, s.num K.fltSticky,
      banLeft s] [])) ∧
  (∀ (p : Nat) (s : State), consoleReady s = true → p < 32 → Does (.port p) s (fun t => SameObjects (atConsole s) t ∧
    ∃ rest, Printed t "ok" ((stOk : Int) :: s.num (K.portState p) :: (portMutesNow s p : Int) :: rest) [])) ∧
  (∀ (p : Nat) (s : State), consoleReady s = true → 32 ≤ p → Does (.port p) s (fun t => Printed t "err" [(stNoObject : Int)] [])) ∧
  (∀ (c : Nat) (s : State), consoleReady s = true → c < 512 → Does (.ch c) s (fun t => SameObjects (atConsole s) t ∧
    ∃ rest, Printed t "ok" ((stOk : Int) :: chStateNow s c :: (chMutesNow s c : Int) :: rest) [])) ∧
  (∀ (n : Nat) (s : State), consoleReady s = true → 1 ≤ n → n ≤ 64 → Does (.log n) s (fun t => Printed t "ok" [] [] ∧
    SameObjects (atConsole s) t ∧ ∀ e, e ∈ readable s → s.nat K.recNext ≤ e.1 + n →
      Printed t "!rec" [(e.1 : Int), e.2.pcc, e.2.ot, e.2.code, e.2.source, e.2.flags, e.2.p0, e.2.p1, e.2.p2, e.2.p3] [])) ∧
  (∀ (k ms : Nat) (r : ObjRow) (s : State), consoleReady s = true → Dict.rowOf k = some r → r.access ≠ .wo → 100 ≤ ms → ms ≤ 60000 →
    Does (.watch k ms) s (fun t => t.con.watch = some (k, ms, s.time.now) ∧ Printed t "ok" [(stOk : Int)] [])) ∧
  (∀ (k ms last : Nat) (r : ObjRow) (s : State), consoleReady s = true → s.con.watch = some (k, ms, last) → last + ms * msTicks ≤ s.time.now →
    Dict.rowOf k = some r → Does .watchPrint s (fun t => t.con.watch = some (k, ms, s.time.now) ∧ ∃ b, Printed t "ok" [(stOk : Int)] b)) ∧
  (∀ s : State, Does .watchEnd s (fun t => t.con.watch = none ∧ SameObjects s t)) ∧
  (∀ (m k : Nat) (scale offset : Int) (v1 v2 v3 : Val) (s : State), consoleReady s = true → m < 2 →
    admits (K.mtrSource m) (leBytes 4 (k : Nat)) (conWho s) (atConsole s) = some v1 →
    admits (K.mtrScale m) (leBytes 4 scale) (conWho s) (atConsole s) = some v2 →
    admits (K.mtrOffset m) (leBytes 4 offset) (conWho s) (atConsole s) = some v3 → Does (.meter m k scale offset) s (fun t =>
      t.num (K.mtrSource m) = (k : Nat) ∧ t.num (K.mtrScale m) = scale ∧ t.num (K.mtrOffset m) = offset ∧
      SameBut [K.mtrSource m, K.mtrScale m, K.mtrOffset m] (atConsole s) t)) ∧
  (∀ (kind inst : Nat) (s : State), consoleReady s = true → inst < 256 →
    admits K.stRun (leBytes 2 ((kind * 256 + inst : Nat) : Int)) (conWho s) (atConsole s) = some (.num ((kind * 256 + inst : Nat) : Int)) →
    s.panel.test = none → testAllowed (atConsole s) kind inst = true → Does (.test kind inst) s (fun t =>
      t.num K.stState = 1 ∧ t.num K.stBlock = (kind * 256 + inst : Nat))) ∧
  (∀ (x : SelfTest) (s : State), consoleReady s = true → admits K.stAbort [1] (conWho s) (atConsole s) = some (.num 1) → s.panel.test = some x →
    testOver (atConsole s) x = false → Does .testAbort s (fun t => t.num K.stState = 4)) ∧
  (∀ (l : Nat) (s : State), consoleReady s = true → admits K.secUnlock (leBytes 1 (l : Int)) (conWho s) (atConsole s) = some (.num (l : Int)) →
    s.num K.secState ≠ 2 → lockedOut s = false → s.bit K.secCredLevels l = true → Does (.unlock l) s (fun t => (t.master 2).auth = 1 ∧
      ∃ c, (t.master 2).challenge = some (l, c, s.time.now + 10 * secTicks) ∧ Printed t "ok" [(stOk : Int)] c)) ∧
  (∀ (b : List Byte) (v : Val) (s : State), consoleReady s = true → admits K.secResponse b (conWho s) (atConsole s) = some v →
    (s.master 2).challenge = none → Does (.resp b) s (fun t => (t.master 2).auth = 3 ∧ Printed t "ok" [(stOk : Int)] [])) ∧
  (∀ (b : List Byte) (s : State), consoleReady s = true → admits K.rpNote b (conWho s) (atConsole s) = some (.oct b) →
    Does (.note b) s (fun t => t.oct K.rpNote = b ∧ SameBut [K.rpNote] (atConsole s) t ∧ Printed t "ok" [(stOk : Int)] [])) ∧
  (∀ (v : Val) (s : State), consoleReady s = true → admits K.pdRepair [1] (conWho s) (atConsole s) = some v → s.num K.pdRepairGen ≠ 65535 →
    (∀ p, p < 32 → s.num (K.portState p) = psOff ∨ s.num (K.portState p) = psSleep) → Does .repair s (fun t =>
      t.num K.pdRepairGen = (s.nat K.pdRepairGen + 1 : Nat) ∧ Printed t "ok" [(stOk : Int)] [])) ∧
  (∀ s : State, consoleReady s = true → Does .ledger s (fun t => SameObjects (atConsole s) t ∧ Printed t "ok" [] [] ∧
    ∀ b, b ∈ ledgerList s → Printed t "" [] b))
end

