-- ==== Sys2Proof/Laws/Tab.lean ====
section
/-! SUPPORT. Sparse tables: a read after a write, and the canonical form that every write keeps. -/

namespace Sys2Proof.Machine

variable {α : Type}

/-- Every key of a table lies above k. -/
def Tab.above (k : Nat) (t : Tab α) : Prop := ∀ e ∈ t, k < e.1

theorem Tab.sorted_cons_iff (k : Nat) (v : α) (t : Tab α) : Tab.sorted ((k, v) :: t) = true ↔ Tab.above k t ∧ Tab.sorted t = true := by
  induction t generalizing k v with
  | nil => simp [Tab.sorted, Tab.above]
  | cons e t ih =>
    obtain ⟨j, w⟩ := e
    constructor
    · intro h
      simp only [Tab.sorted, Bool.and_eq_true, decide_eq_true_eq] at h
      refine ⟨?_, h.2⟩
      have h2 := (ih j w).1 h.2
      intro e he
      rcases List.mem_cons.1 he with rfl | he
      · exact h.1
      · exact lt_trans h.1 (h2.1 e he)
    · rintro ⟨h1, h2⟩
      simp only [Tab.sorted, Bool.and_eq_true, decide_eq_true_eq]
      exact ⟨h1 (j, w) (by simp), h2⟩

theorem Tab.find?_above {k : Nat} {t : Tab α} (h : Tab.above k t) : Tab.find? t k = none := by
  induction t with
  | nil => rfl
  | cons e t ih =>
    obtain ⟨j, w⟩ := e
    have hj : k < j := h (j, w) (by simp)
    have : j ≠ k := by omega
    simp only [Tab.find?, this, if_false]
    exact ih (fun e he => h e (List.mem_cons_of_mem _ he))

theorem Tab.find?_insert (k j : Nat) (v : α) (t : Tab α) : Tab.find? (Tab.insert k v t) j = if j = k then some v else Tab.find? t j := by
  induction t with
  | nil =>
    by_cases h : j = k
    · simp [Tab.insert, Tab.find?, h]
    · have h' : ¬ k = j := fun e => h e.symm
      simp [Tab.insert, Tab.find?, h, h']
  | cons e t ih =>
    obtain ⟨i, w⟩ := e
    simp only [Tab.insert]
    by_cases h1 : k < i
    · simp only [h1, if_true, Tab.find?]
      by_cases h : j = k
      · simp [h]
      · have h' : ¬ k = j := fun e => h e.symm
        simp [h, h']
    · by_cases h2 : i = k
      · subst h2
        simp only [lt_irrefl, if_false, if_true, Tab.find?]
        by_cases h : j = i
        · simp [h]
        · have h' : ¬ i = j := fun e => h e.symm
          simp [h, h']
      · simp only [h1, h2, if_false, Tab.find?, ih]
        by_cases h3 : i = j
        · subst h3; simp [h2]
        · simp [h3]

theorem Tab.find?_erase (k j : Nat) (t : Tab α) : Tab.find? (Tab.erase k t) j = if j = k then none else Tab.find? t j := by
  induction t with
  | nil => simp [Tab.erase, Tab.find?]
  | cons e t ih =>
    obtain ⟨i, w⟩ := e
    simp only [Tab.erase]
    by_cases h1 : i = k
    · subst h1
      simp only [if_true, ih, Tab.find?]
      by_cases h2 : j = i
      · simp [h2]
      · have h' : ¬ i = j := fun e => h2 e.symm
        simp [h2, h']
    · simp only [h1, if_false, Tab.find?, ih]
      by_cases h3 : i = j
      · subst h3; simp [h1]
      · simp [h3]

/-- A read after a write: the value written at its key, and what stood there elsewhere. -/
theorem Tab.get_put [DecidableEq α] (d : Nat → α) (k j : Nat) (v : α) (t : Tab α) :
    Tab.get d (Tab.put d k v t) j = if j = k then v else Tab.get d t j := by
  unfold Tab.get Tab.put
  by_cases hv : v = d k
  · simp only [hv, if_true, Tab.find?_erase]
    by_cases h : j = k
    · simp [h]
    · simp [h]
  · simp only [hv, if_false, Tab.find?_insert]
    by_cases h : j = k <;> simp [h]

theorem Tab.above_insert {m k : Nat} {v : α} {t : Tab α} (h : Tab.above m t) (hk : m < k) : Tab.above m (Tab.insert k v t) := by
  induction t with
  | nil => intro e he; simp [Tab.insert] at he; subst he; exact hk
  | cons e t ih =>
    obtain ⟨i, w⟩ := e
    simp only [Tab.insert]
    have hi : m < i := h (i, w) (by simp)
    have ht : Tab.above m t := fun e he => h e (List.mem_cons_of_mem _ he)
    split
    · intro e he
      rcases List.mem_cons.1 he with rfl | he
      · exact hk
      · exact h e he
    · split
      · intro e he
        rcases List.mem_cons.1 he with rfl | he
        · exact hk
        · exact ht e he
      · intro e he
        rcases List.mem_cons.1 he with rfl | he
        · exact hi
        · exact ih ht e he

theorem Tab.sorted_insert (k : Nat) (v : α) {t : Tab α} (hs : Tab.sorted t = true) : Tab.sorted (Tab.insert k v t) = true := by
  induction t with
  | nil => rfl
  | cons e t ih =>
    obtain ⟨i, w⟩ := e
    have h := (Tab.sorted_cons_iff i w t).1 hs
    simp only [Tab.insert]
    split
    · next h1 => exact (Tab.sorted_cons_iff k v _).2 ⟨fun e he => by
        rcases List.mem_cons.1 he with rfl | he
        · exact h1
        · exact lt_trans h1 (h.1 e he), hs⟩
    · split
      · next h1 h2 => subst h2; exact (Tab.sorted_cons_iff _ v _).2 h
      · next h1 h2 => exact (Tab.sorted_cons_iff i w _).2 ⟨Tab.above_insert h.1 (by omega), ih h.2⟩

theorem Tab.mem_erase {k : Nat} {t : Tab α} {e : Nat × α} (h : e ∈ Tab.erase k t) : e ∈ t := by
  induction t with
  | nil => simp [Tab.erase] at h
  | cons x t ih =>
    obtain ⟨i, w⟩ := x
    simp only [Tab.erase] at h
    split at h
    · exact List.mem_cons_of_mem _ (ih h)
    · rcases List.mem_cons.1 h with rfl | h
      · simp
      · exact List.mem_cons_of_mem _ (ih h)

theorem Tab.sorted_erase (k : Nat) {t : Tab α} (hs : Tab.sorted t = true) : Tab.sorted (Tab.erase k t) = true := by
  induction t with
  | nil => rfl
  | cons e t ih =>
    obtain ⟨i, w⟩ := e
    have h := (Tab.sorted_cons_iff i w t).1 hs
    simp only [Tab.erase]
    split
    · exact ih h.2
    · exact (Tab.sorted_cons_iff i w _).2 ⟨fun e he => h.1 e (Tab.mem_erase he), ih h.2⟩

theorem Tab.mem_insert {k : Nat} {v : α} {t : Tab α} {e : Nat × α} (h : e ∈ Tab.insert k v t) : e = (k, v) ∨ e ∈ t := by
  induction t with
  | nil => simp [Tab.insert] at h; exact .inl h
  | cons x t ih =>
    obtain ⟨i, w⟩ := x
    simp only [Tab.insert] at h
    split at h
    · rcases List.mem_cons.1 h with rfl | h
      · exact .inl rfl
      · exact .inr h
    · split at h
      · rcases List.mem_cons.1 h with rfl | h
        · exact .inl rfl
        · exact .inr (List.mem_cons_of_mem _ h)
      · rcases List.mem_cons.1 h with rfl | h
        · exact .inr (by simp)
        · rcases ih h with h | h
          · exact .inl h
          · exact .inr (List.mem_cons_of_mem _ h)

theorem Tab.sorted_put [DecidableEq α] (d : Nat → α) (k : Nat) (v : α) {t : Tab α} (hs : Tab.sorted t = true) :
    Tab.sorted (Tab.put d k v t) = true := by
  unfold Tab.put
  split
  · exact Tab.sorted_erase k hs
  · exact Tab.sorted_insert k v hs

/-- Every write keeps the canonical form. -/
theorem Tab.wf_put [DecidableEq α] (d : Nat → α) (k : Nat) (v : α) {t : Tab α} (h : Tab.wf d t = true) : Tab.wf d (Tab.put d k v t) = true := by
  unfold Tab.wf at *
  simp only [Bool.and_eq_true, List.all_eq_true, decide_eq_true_eq] at *
  refine ⟨Tab.sorted_put d k v h.1, ?_⟩
  intro e he
  unfold Tab.put at he
  split at he
  · exact h.2 e (Tab.mem_erase he)
  · next hv =>
    rcases Tab.mem_insert he with rfl | he
    · exact hv
    · exact h.2 e he

theorem Tab.wf_nil [DecidableEq α] (d : Nat → α) : Tab.wf d ([] : Tab α) = true := rfl

theorem Tab.above_filter {k : Nat} {t : Tab α} (p : Nat × α → Bool) (h : Tab.above k t) : Tab.above k (t.filter p) :=
  fun e he => h e (List.mem_filter.1 he).1

theorem Tab.sorted_filter (p : Nat × α → Bool) {t : Tab α} (hs : Tab.sorted t = true) : Tab.sorted (t.filter p) = true := by
  induction t with
  | nil => rfl
  | cons e t ih =>
    obtain ⟨i, w⟩ := e
    have h := (Tab.sorted_cons_iff i w t).1 hs
    by_cases hp : p (i, w) = true
    · rw [List.filter_cons_of_pos hp]
      exact (Tab.sorted_cons_iff i w _).2 ⟨Tab.above_filter p h.1, ih h.2⟩
    · rw [List.filter_cons_of_neg hp]
      exact ih h.2

/-- Dropping entries keeps the canonical form. -/
theorem Tab.wf_filter [DecidableEq α] (d : Nat → α) (p : Nat × α → Bool) {t : Tab α} (h : Tab.wf d t = true) : Tab.wf d (t.filter p) = true := by
  unfold Tab.wf at *
  simp only [Bool.and_eq_true, List.all_eq_true, decide_eq_true_eq] at *
  exact ⟨Tab.sorted_filter p h.1, fun e he => h.2 e (List.mem_filter.1 he).1⟩

end Sys2Proof.Machine
end

