-- ==== Sys2Proof/Laws/State.lean ====
section
/-! SUPPORT. What each named update of the state leaves: one lemma per field per update, and the reads after writes. -/

namespace Sys2Proof.Machine

/-! ### Fields -/


@[simp] theorem State.set_pending (s : State) (k : Nat) (v : Int) : (s.set k v).pending = s.pending := rfl
@[simp] theorem State.set_blob (s : State) (k : Nat) (v : Int) : (s.set k v).blob = s.blob := rfl
@[simp] theorem State.set_before (s : State) (k : Nat) (v : Int) : (s.set k v).before = s.before := rfl
@[simp] theorem State.set_snap (s : State) (k : Nat) (v : Int) : (s.set k v).snap = s.snap := rfl
@[simp] theorem State.set_chansBefore (s : State) (k : Nat) (v : Int) : (s.set k v).chansBefore = s.chansBefore := rfl
@[simp] theorem State.set_free (s : State) (k : Nat) (v : Int) : (s.set k v).free = s.free := rfl
@[simp] theorem State.set_out (s : State) (k : Nat) (v : Int) : (s.set k v).out = s.out := rfl
@[simp] theorem State.set_masters (s : State) (k : Nat) (v : Int) : (s.set k v).masters = s.masters := rfl
@[simp] theorem State.set_time (s : State) (k : Nat) (v : Int) : (s.set k v).time = s.time := rfl
@[simp] theorem State.set_links (s : State) (k : Nat) (v : Int) : (s.set k v).links = s.links := rfl
@[simp] theorem State.set_dups (s : State) (k : Nat) (v : Int) : (s.set k v).dups = s.dups := rfl
@[simp] theorem State.set_tx (s : State) (k : Nat) (v : Int) : (s.set k v).tx = s.tx := rfl
@[simp] theorem State.set_jr (s : State) (k : Nat) (v : Int) : (s.set k v).jr = s.jr := rfl
@[simp] theorem State.set_log (s : State) (k : Nat) (v : Int) : (s.set k v).log = s.log := rfl
@[simp] theorem State.set_flt (s : State) (k : Nat) (v : Int) : (s.set k v).flt = s.flt := rfl
@[simp] theorem State.set_chans (s : State) (k : Nat) (v : Int) : (s.set k v).chans = s.chans := rfl
@[simp] theorem State.set_ports (s : State) (k : Nat) (v : Int) : (s.set k v).ports = s.ports := rfl
@[simp] theorem State.set_rails (s : State) (k : Nat) (v : Int) : (s.set k v).rails = s.rails := rfl
@[simp] theorem State.set_feeds (s : State) (k : Nat) (v : Int) : (s.set k v).feeds = s.feeds := rfl
@[simp] theorem State.set_eng (s : State) (k : Nat) (v : Int) : (s.set k v).eng = s.eng := rfl
@[simp] theorem State.set_tms (s : State) (k : Nat) (v : Int) : (s.set k v).tms = s.tms := rfl
@[simp] theorem State.set_th (s : State) (k : Nat) (v : Int) : (s.set k v).th = s.th := rfl
@[simp] theorem State.set_domDue (s : State) (k : Nat) (v : Int) : (s.set k v).domDue = s.domDue := rfl
@[simp] theorem State.set_emRun (s : State) (k : Nat) (v : Int) : (s.set k v).emRun = s.emRun := rfl
@[simp] theorem State.set_obs (s : State) (k : Nat) (v : Int) : (s.set k v).obs = s.obs := rfl
@[simp] theorem State.set_gal (s : State) (k : Nat) (v : Int) : (s.set k v).gal = s.gal := rfl
@[simp] theorem State.set_sec (s : State) (k : Nat) (v : Int) : (s.set k v).sec = s.sec := rfl
@[simp] theorem State.set_host (s : State) (k : Nat) (v : Int) : (s.set k v).host = s.host := rfl
@[simp] theorem State.set_can (s : State) (k : Nat) (v : Int) : (s.set k v).can = s.can := rfl
@[simp] theorem State.set_con (s : State) (k : Nat) (v : Int) : (s.set k v).con = s.con := rfl
@[simp] theorem State.set_walkers (s : State) (k : Nat) (v : Int) : (s.set k v).walkers = s.walkers := rfl
@[simp] theorem State.set_boot (s : State) (k : Nat) (v : Int) : (s.set k v).boot = s.boot := rfl
@[simp] theorem State.set_panel (s : State) (k : Nat) (v : Int) : (s.set k v).panel = s.panel := rfl
@[simp] theorem State.set_parity (s : State) (k : Nat) (v : Int) : (s.set k v).parity = s.parity := rfl
@[simp] theorem State.set_fades (s : State) (k : Nat) (v : Int) : (s.set k v).fades = s.fades := rfl
@[simp] theorem State.set_loads (s : State) (k : Nat) (v : Int) : (s.set k v).loads = s.loads := rfl
@[simp] theorem State.set_jtag (s : State) (k : Nat) (v : Int) : (s.set k v).jtag = s.jtag := rfl
@[simp] theorem State.set_wing (s : State) (k : Nat) (v : Int) : (s.set k v).wing = s.wing := rfl
@[simp] theorem State.set_path (s : State) (k : Nat) (v : Int) : (s.set k v).path = s.path := rfl
@[simp] theorem State.set_calStore (s : State) (k : Nat) (v : Int) : (s.set k v).calStore = s.calStore := rfl

@[simp] theorem State.setOct_pending (s : State) (k : Nat) (b : List Byte) : (s.setOct k b).pending = s.pending := rfl
@[simp] theorem State.setOct_obj (s : State) (k : Nat) (b : List Byte) : (s.setOct k b).obj = s.obj := rfl
@[simp] theorem State.setOct_before (s : State) (k : Nat) (b : List Byte) : (s.setOct k b).before = s.before := rfl
@[simp] theorem State.setOct_snap (s : State) (k : Nat) (b : List Byte) : (s.setOct k b).snap = s.snap := rfl
@[simp] theorem State.setOct_chansBefore (s : State) (k : Nat) (b : List Byte) : (s.setOct k b).chansBefore = s.chansBefore := rfl
@[simp] theorem State.setOct_free (s : State) (k : Nat) (b : List Byte) : (s.setOct k b).free = s.free := rfl
@[simp] theorem State.setOct_out (s : State) (k : Nat) (b : List Byte) : (s.setOct k b).out = s.out := rfl
@[simp] theorem State.setOct_masters (s : State) (k : Nat) (b : List Byte) : (s.setOct k b).masters = s.masters := rfl
@[simp] theorem State.setOct_time (s : State) (k : Nat) (b : List Byte) : (s.setOct k b).time = s.time := rfl
@[simp] theorem State.setOct_links (s : State) (k : Nat) (b : List Byte) : (s.setOct k b).links = s.links := rfl
@[simp] theorem State.setOct_dups (s : State) (k : Nat) (b : List Byte) : (s.setOct k b).dups = s.dups := rfl
@[simp] theorem State.setOct_tx (s : State) (k : Nat) (b : List Byte) : (s.setOct k b).tx = s.tx := rfl
@[simp] theorem State.setOct_jr (s : State) (k : Nat) (b : List Byte) : (s.setOct k b).jr = s.jr := rfl
@[simp] theorem State.setOct_log (s : State) (k : Nat) (b : List Byte) : (s.setOct k b).log = s.log := rfl
@[simp] theorem State.setOct_flt (s : State) (k : Nat) (b : List Byte) : (s.setOct k b).flt = s.flt := rfl
@[simp] theorem State.setOct_chans (s : State) (k : Nat) (b : List Byte) : (s.setOct k b).chans = s.chans := rfl
@[simp] theorem State.setOct_ports (s : State) (k : Nat) (b : List Byte) : (s.setOct k b).ports = s.ports := rfl
@[simp] theorem State.setOct_rails (s : State) (k : Nat) (b : List Byte) : (s.setOct k b).rails = s.rails := rfl
@[simp] theorem State.setOct_feeds (s : State) (k : Nat) (b : List Byte) : (s.setOct k b).feeds = s.feeds := rfl
@[simp] theorem State.setOct_eng (s : State) (k : Nat) (b : List Byte) : (s.setOct k b).eng = s.eng := rfl
@[simp] theorem State.setOct_tms (s : State) (k : Nat) (b : List Byte) : (s.setOct k b).tms = s.tms := rfl
@[simp] theorem State.setOct_th (s : State) (k : Nat) (b : List Byte) : (s.setOct k b).th = s.th := rfl
@[simp] theorem State.setOct_domDue (s : State) (k : Nat) (b : List Byte) : (s.setOct k b).domDue = s.domDue := rfl
@[simp] theorem State.setOct_emRun (s : State) (k : Nat) (b : List Byte) : (s.setOct k b).emRun = s.emRun := rfl
@[simp] theorem State.setOct_obs (s : State) (k : Nat) (b : List Byte) : (s.setOct k b).obs = s.obs := rfl
@[simp] theorem State.setOct_gal (s : State) (k : Nat) (b : List Byte) : (s.setOct k b).gal = s.gal := rfl
@[simp] theorem State.setOct_sec (s : State) (k : Nat) (b : List Byte) : (s.setOct k b).sec = s.sec := rfl
@[simp] theorem State.setOct_host (s : State) (k : Nat) (b : List Byte) : (s.setOct k b).host = s.host := rfl
@[simp] theorem State.setOct_can (s : State) (k : Nat) (b : List Byte) : (s.setOct k b).can = s.can := rfl
@[simp] theorem State.setOct_con (s : State) (k : Nat) (b : List Byte) : (s.setOct k b).con = s.con := rfl
@[simp] theorem State.setOct_walkers (s : State) (k : Nat) (b : List Byte) : (s.setOct k b).walkers = s.walkers := rfl
@[simp] theorem State.setOct_boot (s : State) (k : Nat) (b : List Byte) : (s.setOct k b).boot = s.boot := rfl
@[simp] theorem State.setOct_panel (s : State) (k : Nat) (b : List Byte) : (s.setOct k b).panel = s.panel := rfl
@[simp] theorem State.setOct_parity (s : State) (k : Nat) (b : List Byte) : (s.setOct k b).parity = s.parity := rfl
@[simp] theorem State.setOct_fades (s : State) (k : Nat) (b : List Byte) : (s.setOct k b).fades = s.fades := rfl
@[simp] theorem State.setOct_loads (s : State) (k : Nat) (b : List Byte) : (s.setOct k b).loads = s.loads := rfl
@[simp] theorem State.setOct_jtag (s : State) (k : Nat) (b : List Byte) : (s.setOct k b).jtag = s.jtag := rfl
@[simp] theorem State.setOct_wing (s : State) (k : Nat) (b : List Byte) : (s.setOct k b).wing = s.wing := rfl
@[simp] theorem State.setOct_path (s : State) (k : Nat) (b : List Byte) : (s.setOct k b).path = s.path := rfl
@[simp] theorem State.setOct_calStore (s : State) (k : Nat) (b : List Byte) : (s.setOct k b).calStore = s.calStore := rfl

@[simp] theorem State.drawn_pending (s : State) : (s.drawn).pending = s.pending := rfl
@[simp] theorem State.drawn_obj (s : State) : (s.drawn).obj = s.obj := rfl
@[simp] theorem State.drawn_blob (s : State) : (s.drawn).blob = s.blob := rfl
@[simp] theorem State.drawn_before (s : State) : (s.drawn).before = s.before := rfl
@[simp] theorem State.drawn_snap (s : State) : (s.drawn).snap = s.snap := rfl
@[simp] theorem State.drawn_chansBefore (s : State) : (s.drawn).chansBefore = s.chansBefore := rfl
@[simp] theorem State.drawn_out (s : State) : (s.drawn).out = s.out := rfl
@[simp] theorem State.drawn_masters (s : State) : (s.drawn).masters = s.masters := rfl
@[simp] theorem State.drawn_time (s : State) : (s.drawn).time = s.time := rfl
@[simp] theorem State.drawn_links (s : State) : (s.drawn).links = s.links := rfl
@[simp] theorem State.drawn_dups (s : State) : (s.drawn).dups = s.dups := rfl
@[simp] theorem State.drawn_tx (s : State) : (s.drawn).tx = s.tx := rfl
@[simp] theorem State.drawn_jr (s : State) : (s.drawn).jr = s.jr := rfl
@[simp] theorem State.drawn_log (s : State) : (s.drawn).log = s.log := rfl
@[simp] theorem State.drawn_flt (s : State) : (s.drawn).flt = s.flt := rfl
@[simp] theorem State.drawn_chans (s : State) : (s.drawn).chans = s.chans := rfl
@[simp] theorem State.drawn_ports (s : State) : (s.drawn).ports = s.ports := rfl
@[simp] theorem State.drawn_rails (s : State) : (s.drawn).rails = s.rails := rfl
@[simp] theorem State.drawn_feeds (s : State) : (s.drawn).feeds = s.feeds := rfl
@[simp] theorem State.drawn_eng (s : State) : (s.drawn).eng = s.eng := rfl
@[simp] theorem State.drawn_tms (s : State) : (s.drawn).tms = s.tms := rfl
@[simp] theorem State.drawn_th (s : State) : (s.drawn).th = s.th := rfl
@[simp] theorem State.drawn_domDue (s : State) : (s.drawn).domDue = s.domDue := rfl
@[simp] theorem State.drawn_emRun (s : State) : (s.drawn).emRun = s.emRun := rfl
@[simp] theorem State.drawn_obs (s : State) : (s.drawn).obs = s.obs := rfl
@[simp] theorem State.drawn_gal (s : State) : (s.drawn).gal = s.gal := rfl
@[simp] theorem State.drawn_sec (s : State) : (s.drawn).sec = s.sec := rfl
@[simp] theorem State.drawn_host (s : State) : (s.drawn).host = s.host := rfl
@[simp] theorem State.drawn_can (s : State) : (s.drawn).can = s.can := rfl
@[simp] theorem State.drawn_con (s : State) : (s.drawn).con = s.con := rfl
@[simp] theorem State.drawn_walkers (s : State) : (s.drawn).walkers = s.walkers := rfl
@[simp] theorem State.drawn_boot (s : State) : (s.drawn).boot = s.boot := rfl
@[simp] theorem State.drawn_panel (s : State) : (s.drawn).panel = s.panel := rfl
@[simp] theorem State.drawn_parity (s : State) : (s.drawn).parity = s.parity := rfl
@[simp] theorem State.drawn_fades (s : State) : (s.drawn).fades = s.fades := rfl
@[simp] theorem State.drawn_loads (s : State) : (s.drawn).loads = s.loads := rfl
@[simp] theorem State.drawn_jtag (s : State) : (s.drawn).jtag = s.jtag := rfl
@[simp] theorem State.drawn_wing (s : State) : (s.drawn).wing = s.wing := rfl
@[simp] theorem State.drawn_path (s : State) : (s.drawn).path = s.path := rfl
@[simp] theorem State.drawn_calStore (s : State) : (s.drawn).calStore = s.calStore := rfl

@[simp] theorem State.emit_pending (s : State) (o : Out) : (s.emit o).pending = s.pending := rfl
@[simp] theorem State.emit_obj (s : State) (o : Out) : (s.emit o).obj = s.obj := rfl
@[simp] theorem State.emit_blob (s : State) (o : Out) : (s.emit o).blob = s.blob := rfl
@[simp] theorem State.emit_before (s : State) (o : Out) : (s.emit o).before = s.before := rfl
@[simp] theorem State.emit_snap (s : State) (o : Out) : (s.emit o).snap = s.snap := rfl
@[simp] theorem State.emit_chansBefore (s : State) (o : Out) : (s.emit o).chansBefore = s.chansBefore := rfl
@[simp] theorem State.emit_free (s : State) (o : Out) : (s.emit o).free = s.free := rfl
@[simp] theorem State.emit_masters (s : State) (o : Out) : (s.emit o).masters = s.masters := rfl
@[simp] theorem State.emit_time (s : State) (o : Out) : (s.emit o).time = s.time := rfl
@[simp] theorem State.emit_links (s : State) (o : Out) : (s.emit o).links = s.links := rfl
@[simp] theorem State.emit_dups (s : State) (o : Out) : (s.emit o).dups = s.dups := rfl
@[simp] theorem State.emit_tx (s : State) (o : Out) : (s.emit o).tx = s.tx := rfl
@[simp] theorem State.emit_jr (s : State) (o : Out) : (s.emit o).jr = s.jr := rfl
@[simp] theorem State.emit_log (s : State) (o : Out) : (s.emit o).log = s.log := rfl
@[simp] theorem State.emit_flt (s : State) (o : Out) : (s.emit o).flt = s.flt := rfl
@[simp] theorem State.emit_chans (s : State) (o : Out) : (s.emit o).chans = s.chans := rfl
@[simp] theorem State.emit_ports (s : State) (o : Out) : (s.emit o).ports = s.ports := rfl
@[simp] theorem State.emit_rails (s : State) (o : Out) : (s.emit o).rails = s.rails := rfl
@[simp] theorem State.emit_feeds (s : State) (o : Out) : (s.emit o).feeds = s.feeds := rfl
@[simp] theorem State.emit_eng (s : State) (o : Out) : (s.emit o).eng = s.eng := rfl
@[simp] theorem State.emit_tms (s : State) (o : Out) : (s.emit o).tms = s.tms := rfl
@[simp] theorem State.emit_th (s : State) (o : Out) : (s.emit o).th = s.th := rfl
@[simp] theorem State.emit_domDue (s : State) (o : Out) : (s.emit o).domDue = s.domDue := rfl
@[simp] theorem State.emit_emRun (s : State) (o : Out) : (s.emit o).emRun = s.emRun := rfl
@[simp] theorem State.emit_obs (s : State) (o : Out) : (s.emit o).obs = s.obs := rfl
@[simp] theorem State.emit_gal (s : State) (o : Out) : (s.emit o).gal = s.gal := rfl
@[simp] theorem State.emit_sec (s : State) (o : Out) : (s.emit o).sec = s.sec := rfl
@[simp] theorem State.emit_host (s : State) (o : Out) : (s.emit o).host = s.host := rfl
@[simp] theorem State.emit_can (s : State) (o : Out) : (s.emit o).can = s.can := rfl
@[simp] theorem State.emit_con (s : State) (o : Out) : (s.emit o).con = s.con := rfl
@[simp] theorem State.emit_walkers (s : State) (o : Out) : (s.emit o).walkers = s.walkers := rfl
@[simp] theorem State.emit_boot (s : State) (o : Out) : (s.emit o).boot = s.boot := rfl
@[simp] theorem State.emit_panel (s : State) (o : Out) : (s.emit o).panel = s.panel := rfl
@[simp] theorem State.emit_parity (s : State) (o : Out) : (s.emit o).parity = s.parity := rfl
@[simp] theorem State.emit_fades (s : State) (o : Out) : (s.emit o).fades = s.fades := rfl
@[simp] theorem State.emit_loads (s : State) (o : Out) : (s.emit o).loads = s.loads := rfl
@[simp] theorem State.emit_jtag (s : State) (o : Out) : (s.emit o).jtag = s.jtag := rfl
@[simp] theorem State.emit_wing (s : State) (o : Out) : (s.emit o).wing = s.wing := rfl
@[simp] theorem State.emit_path (s : State) (o : Out) : (s.emit o).path = s.path := rfl
@[simp] theorem State.emit_calStore (s : State) (o : Out) : (s.emit o).calStore = s.calStore := rfl

@[simp] theorem State.setMaster_pending (s : State) (m : Nat) (x : Master) : (s.setMaster m x).pending = s.pending := rfl
@[simp] theorem State.setMaster_obj (s : State) (m : Nat) (x : Master) : (s.setMaster m x).obj = s.obj := rfl
@[simp] theorem State.setMaster_blob (s : State) (m : Nat) (x : Master) : (s.setMaster m x).blob = s.blob := rfl
@[simp] theorem State.setMaster_before (s : State) (m : Nat) (x : Master) : (s.setMaster m x).before = s.before := rfl
@[simp] theorem State.setMaster_snap (s : State) (m : Nat) (x : Master) : (s.setMaster m x).snap = s.snap := rfl
@[simp] theorem State.setMaster_chansBefore (s : State) (m : Nat) (x : Master) : (s.setMaster m x).chansBefore = s.chansBefore := rfl
@[simp] theorem State.setMaster_free (s : State) (m : Nat) (x : Master) : (s.setMaster m x).free = s.free := rfl
@[simp] theorem State.setMaster_out (s : State) (m : Nat) (x : Master) : (s.setMaster m x).out = s.out := rfl
@[simp] theorem State.setMaster_time (s : State) (m : Nat) (x : Master) : (s.setMaster m x).time = s.time := rfl
@[simp] theorem State.setMaster_links (s : State) (m : Nat) (x : Master) : (s.setMaster m x).links = s.links := rfl
@[simp] theorem State.setMaster_dups (s : State) (m : Nat) (x : Master) : (s.setMaster m x).dups = s.dups := rfl
@[simp] theorem State.setMaster_tx (s : State) (m : Nat) (x : Master) : (s.setMaster m x).tx = s.tx := rfl
@[simp] theorem State.setMaster_jr (s : State) (m : Nat) (x : Master) : (s.setMaster m x).jr = s.jr := rfl
@[simp] theorem State.setMaster_log (s : State) (m : Nat) (x : Master) : (s.setMaster m x).log = s.log := rfl
@[simp] theorem State.setMaster_flt (s : State) (m : Nat) (x : Master) : (s.setMaster m x).flt = s.flt := rfl
@[simp] theorem State.setMaster_chans (s : State) (m : Nat) (x : Master) : (s.setMaster m x).chans = s.chans := rfl
@[simp] theorem State.setMaster_ports (s : State) (m : Nat) (x : Master) : (s.setMaster m x).ports = s.ports := rfl
@[simp] theorem State.setMaster_rails (s : State) (m : Nat) (x : Master) : (s.setMaster m x).rails = s.rails := rfl
@[simp] theorem State.setMaster_feeds (s : State) (m : Nat) (x : Master) : (s.setMaster m x).feeds = s.feeds := rfl
@[simp] theorem State.setMaster_eng (s : State) (m : Nat) (x : Master) : (s.setMaster m x).eng = s.eng := rfl
@[simp] theorem State.setMaster_tms (s : State) (m : Nat) (x : Master) : (s.setMaster m x).tms = s.tms := rfl
@[simp] theorem State.setMaster_th (s : State) (m : Nat) (x : Master) : (s.setMaster m x).th = s.th := rfl
@[simp] theorem State.setMaster_domDue (s : State) (m : Nat) (x : Master) : (s.setMaster m x).domDue = s.domDue := rfl
@[simp] theorem State.setMaster_emRun (s : State) (m : Nat) (x : Master) : (s.setMaster m x).emRun = s.emRun := rfl
@[simp] theorem State.setMaster_obs (s : State) (m : Nat) (x : Master) : (s.setMaster m x).obs = s.obs := rfl
@[simp] theorem State.setMaster_gal (s : State) (m : Nat) (x : Master) : (s.setMaster m x).gal = s.gal := rfl
@[simp] theorem State.setMaster_sec (s : State) (m : Nat) (x : Master) : (s.setMaster m x).sec = s.sec := rfl
@[simp] theorem State.setMaster_host (s : State) (m : Nat) (x : Master) : (s.setMaster m x).host = s.host := rfl
@[simp] theorem State.setMaster_can (s : State) (m : Nat) (x : Master) : (s.setMaster m x).can = s.can := rfl
@[simp] theorem State.setMaster_con (s : State) (m : Nat) (x : Master) : (s.setMaster m x).con = s.con := rfl
@[simp] theorem State.setMaster_walkers (s : State) (m : Nat) (x : Master) : (s.setMaster m x).walkers = s.walkers := rfl
@[simp] theorem State.setMaster_boot (s : State) (m : Nat) (x : Master) : (s.setMaster m x).boot = s.boot := rfl
@[simp] theorem State.setMaster_panel (s : State) (m : Nat) (x : Master) : (s.setMaster m x).panel = s.panel := rfl
@[simp] theorem State.setMaster_parity (s : State) (m : Nat) (x : Master) : (s.setMaster m x).parity = s.parity := rfl
@[simp] theorem State.setMaster_fades (s : State) (m : Nat) (x : Master) : (s.setMaster m x).fades = s.fades := rfl
@[simp] theorem State.setMaster_loads (s : State) (m : Nat) (x : Master) : (s.setMaster m x).loads = s.loads := rfl
@[simp] theorem State.setMaster_jtag (s : State) (m : Nat) (x : Master) : (s.setMaster m x).jtag = s.jtag := rfl
@[simp] theorem State.setMaster_wing (s : State) (m : Nat) (x : Master) : (s.setMaster m x).wing = s.wing := rfl
@[simp] theorem State.setMaster_path (s : State) (m : Nat) (x : Master) : (s.setMaster m x).path = s.path := rfl
@[simp] theorem State.setMaster_calStore (s : State) (m : Nat) (x : Master) : (s.setMaster m x).calStore = s.calStore := rfl

@[simp] theorem State.setChan_pending (s : State) (c : Nat) (x : Chan) : (s.setChan c x).pending = s.pending := rfl
@[simp] theorem State.setChan_obj (s : State) (c : Nat) (x : Chan) : (s.setChan c x).obj = s.obj := rfl
@[simp] theorem State.setChan_blob (s : State) (c : Nat) (x : Chan) : (s.setChan c x).blob = s.blob := rfl
@[simp] theorem State.setChan_before (s : State) (c : Nat) (x : Chan) : (s.setChan c x).before = s.before := rfl
@[simp] theorem State.setChan_snap (s : State) (c : Nat) (x : Chan) : (s.setChan c x).snap = s.snap := rfl
@[simp] theorem State.setChan_chansBefore (s : State) (c : Nat) (x : Chan) : (s.setChan c x).chansBefore = s.chansBefore := rfl
@[simp] theorem State.setChan_free (s : State) (c : Nat) (x : Chan) : (s.setChan c x).free = s.free := rfl
@[simp] theorem State.setChan_out (s : State) (c : Nat) (x : Chan) : (s.setChan c x).out = s.out := rfl
@[simp] theorem State.setChan_masters (s : State) (c : Nat) (x : Chan) : (s.setChan c x).masters = s.masters := rfl
@[simp] theorem State.setChan_time (s : State) (c : Nat) (x : Chan) : (s.setChan c x).time = s.time := rfl
@[simp] theorem State.setChan_links (s : State) (c : Nat) (x : Chan) : (s.setChan c x).links = s.links := rfl
@[simp] theorem State.setChan_dups (s : State) (c : Nat) (x : Chan) : (s.setChan c x).dups = s.dups := rfl
@[simp] theorem State.setChan_tx (s : State) (c : Nat) (x : Chan) : (s.setChan c x).tx = s.tx := rfl
@[simp] theorem State.setChan_jr (s : State) (c : Nat) (x : Chan) : (s.setChan c x).jr = s.jr := rfl
@[simp] theorem State.setChan_log (s : State) (c : Nat) (x : Chan) : (s.setChan c x).log = s.log := rfl
@[simp] theorem State.setChan_flt (s : State) (c : Nat) (x : Chan) : (s.setChan c x).flt = s.flt := rfl
@[simp] theorem State.setChan_ports (s : State) (c : Nat) (x : Chan) : (s.setChan c x).ports = s.ports := rfl
@[simp] theorem State.setChan_rails (s : State) (c : Nat) (x : Chan) : (s.setChan c x).rails = s.rails := rfl
@[simp] theorem State.setChan_feeds (s : State) (c : Nat) (x : Chan) : (s.setChan c x).feeds = s.feeds := rfl
@[simp] theorem State.setChan_eng (s : State) (c : Nat) (x : Chan) : (s.setChan c x).eng = s.eng := rfl
@[simp] theorem State.setChan_tms (s : State) (c : Nat) (x : Chan) : (s.setChan c x).tms = s.tms := rfl
@[simp] theorem State.setChan_th (s : State) (c : Nat) (x : Chan) : (s.setChan c x).th = s.th := rfl
@[simp] theorem State.setChan_domDue (s : State) (c : Nat) (x : Chan) : (s.setChan c x).domDue = s.domDue := rfl
@[simp] theorem State.setChan_emRun (s : State) (c : Nat) (x : Chan) : (s.setChan c x).emRun = s.emRun := rfl
@[simp] theorem State.setChan_obs (s : State) (c : Nat) (x : Chan) : (s.setChan c x).obs = s.obs := rfl
@[simp] theorem State.setChan_gal (s : State) (c : Nat) (x : Chan) : (s.setChan c x).gal = s.gal := rfl
@[simp] theorem State.setChan_sec (s : State) (c : Nat) (x : Chan) : (s.setChan c x).sec = s.sec := rfl
@[simp] theorem State.setChan_host (s : State) (c : Nat) (x : Chan) : (s.setChan c x).host = s.host := rfl
@[simp] theorem State.setChan_can (s : State) (c : Nat) (x : Chan) : (s.setChan c x).can = s.can := rfl
@[simp] theorem State.setChan_con (s : State) (c : Nat) (x : Chan) : (s.setChan c x).con = s.con := rfl
@[simp] theorem State.setChan_walkers (s : State) (c : Nat) (x : Chan) : (s.setChan c x).walkers = s.walkers := rfl
@[simp] theorem State.setChan_boot (s : State) (c : Nat) (x : Chan) : (s.setChan c x).boot = s.boot := rfl
@[simp] theorem State.setChan_panel (s : State) (c : Nat) (x : Chan) : (s.setChan c x).panel = s.panel := rfl
@[simp] theorem State.setChan_parity (s : State) (c : Nat) (x : Chan) : (s.setChan c x).parity = s.parity := rfl
@[simp] theorem State.setChan_fades (s : State) (c : Nat) (x : Chan) : (s.setChan c x).fades = s.fades := rfl
@[simp] theorem State.setChan_loads (s : State) (c : Nat) (x : Chan) : (s.setChan c x).loads = s.loads := rfl
@[simp] theorem State.setChan_jtag (s : State) (c : Nat) (x : Chan) : (s.setChan c x).jtag = s.jtag := rfl
@[simp] theorem State.setChan_wing (s : State) (c : Nat) (x : Chan) : (s.setChan c x).wing = s.wing := rfl
@[simp] theorem State.setChan_path (s : State) (c : Nat) (x : Chan) : (s.setChan c x).path = s.path := rfl
@[simp] theorem State.setChan_calStore (s : State) (c : Nat) (x : Chan) : (s.setChan c x).calStore = s.calStore := rfl

@[simp] theorem State.setWing_pending (s : State) (p : Nat) (x : WingPath) : (s.setWing p x).pending = s.pending := rfl
@[simp] theorem State.setWing_obj (s : State) (p : Nat) (x : WingPath) : (s.setWing p x).obj = s.obj := rfl
@[simp] theorem State.setWing_blob (s : State) (p : Nat) (x : WingPath) : (s.setWing p x).blob = s.blob := rfl
@[simp] theorem State.setWing_before (s : State) (p : Nat) (x : WingPath) : (s.setWing p x).before = s.before := rfl
@[simp] theorem State.setWing_snap (s : State) (p : Nat) (x : WingPath) : (s.setWing p x).snap = s.snap := rfl
@[simp] theorem State.setWing_chansBefore (s : State) (p : Nat) (x : WingPath) : (s.setWing p x).chansBefore = s.chansBefore := rfl
@[simp] theorem State.setWing_free (s : State) (p : Nat) (x : WingPath) : (s.setWing p x).free = s.free := rfl
@[simp] theorem State.setWing_out (s : State) (p : Nat) (x : WingPath) : (s.setWing p x).out = s.out := rfl
@[simp] theorem State.setWing_masters (s : State) (p : Nat) (x : WingPath) : (s.setWing p x).masters = s.masters := rfl
@[simp] theorem State.setWing_time (s : State) (p : Nat) (x : WingPath) : (s.setWing p x).time = s.time := rfl
@[simp] theorem State.setWing_links (s : State) (p : Nat) (x : WingPath) : (s.setWing p x).links = s.links := rfl
@[simp] theorem State.setWing_dups (s : State) (p : Nat) (x : WingPath) : (s.setWing p x).dups = s.dups := rfl
@[simp] theorem State.setWing_tx (s : State) (p : Nat) (x : WingPath) : (s.setWing p x).tx = s.tx := rfl
@[simp] theorem State.setWing_jr (s : State) (p : Nat) (x : WingPath) : (s.setWing p x).jr = s.jr := rfl
@[simp] theorem State.setWing_log (s : State) (p : Nat) (x : WingPath) : (s.setWing p x).log = s.log := rfl
@[simp] theorem State.setWing_flt (s : State) (p : Nat) (x : WingPath) : (s.setWing p x).flt = s.flt := rfl
@[simp] theorem State.setWing_chans (s : State) (p : Nat) (x : WingPath) : (s.setWing p x).chans = s.chans := rfl
@[simp] theorem State.setWing_ports (s : State) (p : Nat) (x : WingPath) : (s.setWing p x).ports = s.ports := rfl
@[simp] theorem State.setWing_rails (s : State) (p : Nat) (x : WingPath) : (s.setWing p x).rails = s.rails := rfl
@[simp] theorem State.setWing_feeds (s : State) (p : Nat) (x : WingPath) : (s.setWing p x).feeds = s.feeds := rfl
@[simp] theorem State.setWing_eng (s : State) (p : Nat) (x : WingPath) : (s.setWing p x).eng = s.eng := rfl
@[simp] theorem State.setWing_tms (s : State) (p : Nat) (x : WingPath) : (s.setWing p x).tms = s.tms := rfl
@[simp] theorem State.setWing_th (s : State) (p : Nat) (x : WingPath) : (s.setWing p x).th = s.th := rfl
@[simp] theorem State.setWing_domDue (s : State) (p : Nat) (x : WingPath) : (s.setWing p x).domDue = s.domDue := rfl
@[simp] theorem State.setWing_emRun (s : State) (p : Nat) (x : WingPath) : (s.setWing p x).emRun = s.emRun := rfl
@[simp] theorem State.setWing_obs (s : State) (p : Nat) (x : WingPath) : (s.setWing p x).obs = s.obs := rfl
@[simp] theorem State.setWing_gal (s : State) (p : Nat) (x : WingPath) : (s.setWing p x).gal = s.gal := rfl
@[simp] theorem State.setWing_sec (s : State) (p : Nat) (x : WingPath) : (s.setWing p x).sec = s.sec := rfl
@[simp] theorem State.setWing_host (s : State) (p : Nat) (x : WingPath) : (s.setWing p x).host = s.host := rfl
@[simp] theorem State.setWing_can (s : State) (p : Nat) (x : WingPath) : (s.setWing p x).can = s.can := rfl
@[simp] theorem State.setWing_con (s : State) (p : Nat) (x : WingPath) : (s.setWing p x).con = s.con := rfl
@[simp] theorem State.setWing_walkers (s : State) (p : Nat) (x : WingPath) : (s.setWing p x).walkers = s.walkers := rfl
@[simp] theorem State.setWing_boot (s : State) (p : Nat) (x : WingPath) : (s.setWing p x).boot = s.boot := rfl
@[simp] theorem State.setWing_panel (s : State) (p : Nat) (x : WingPath) : (s.setWing p x).panel = s.panel := rfl
@[simp] theorem State.setWing_parity (s : State) (p : Nat) (x : WingPath) : (s.setWing p x).parity = s.parity := rfl
@[simp] theorem State.setWing_fades (s : State) (p : Nat) (x : WingPath) : (s.setWing p x).fades = s.fades := rfl
@[simp] theorem State.setWing_loads (s : State) (p : Nat) (x : WingPath) : (s.setWing p x).loads = s.loads := rfl
@[simp] theorem State.setWing_jtag (s : State) (p : Nat) (x : WingPath) : (s.setWing p x).jtag = s.jtag := rfl
@[simp] theorem State.setWing_path (s : State) (p : Nat) (x : WingPath) : (s.setWing p x).path = s.path := rfl
@[simp] theorem State.setWing_calStore (s : State) (p : Nat) (x : WingPath) : (s.setWing p x).calStore = s.calStore := rfl

@[simp] theorem State.setPath_pending (s : State) (c : Nat) (x : Path) : (s.setPath c x).pending = s.pending := rfl
@[simp] theorem State.setPath_obj (s : State) (c : Nat) (x : Path) : (s.setPath c x).obj = s.obj := rfl
@[simp] theorem State.setPath_blob (s : State) (c : Nat) (x : Path) : (s.setPath c x).blob = s.blob := rfl
@[simp] theorem State.setPath_before (s : State) (c : Nat) (x : Path) : (s.setPath c x).before = s.before := rfl
@[simp] theorem State.setPath_snap (s : State) (c : Nat) (x : Path) : (s.setPath c x).snap = s.snap := rfl
@[simp] theorem State.setPath_chansBefore (s : State) (c : Nat) (x : Path) : (s.setPath c x).chansBefore = s.chansBefore := rfl
@[simp] theorem State.setPath_free (s : State) (c : Nat) (x : Path) : (s.setPath c x).free = s.free := rfl
@[simp] theorem State.setPath_out (s : State) (c : Nat) (x : Path) : (s.setPath c x).out = s.out := rfl
@[simp] theorem State.setPath_masters (s : State) (c : Nat) (x : Path) : (s.setPath c x).masters = s.masters := rfl
@[simp] theorem State.setPath_time (s : State) (c : Nat) (x : Path) : (s.setPath c x).time = s.time := rfl
@[simp] theorem State.setPath_links (s : State) (c : Nat) (x : Path) : (s.setPath c x).links = s.links := rfl
@[simp] theorem State.setPath_dups (s : State) (c : Nat) (x : Path) : (s.setPath c x).dups = s.dups := rfl
@[simp] theorem State.setPath_tx (s : State) (c : Nat) (x : Path) : (s.setPath c x).tx = s.tx := rfl
@[simp] theorem State.setPath_jr (s : State) (c : Nat) (x : Path) : (s.setPath c x).jr = s.jr := rfl
@[simp] theorem State.setPath_log (s : State) (c : Nat) (x : Path) : (s.setPath c x).log = s.log := rfl
@[simp] theorem State.setPath_flt (s : State) (c : Nat) (x : Path) : (s.setPath c x).flt = s.flt := rfl
@[simp] theorem State.setPath_chans (s : State) (c : Nat) (x : Path) : (s.setPath c x).chans = s.chans := rfl
@[simp] theorem State.setPath_ports (s : State) (c : Nat) (x : Path) : (s.setPath c x).ports = s.ports := rfl
@[simp] theorem State.setPath_rails (s : State) (c : Nat) (x : Path) : (s.setPath c x).rails = s.rails := rfl
@[simp] theorem State.setPath_feeds (s : State) (c : Nat) (x : Path) : (s.setPath c x).feeds = s.feeds := rfl
@[simp] theorem State.setPath_eng (s : State) (c : Nat) (x : Path) : (s.setPath c x).eng = s.eng := rfl
@[simp] theorem State.setPath_tms (s : State) (c : Nat) (x : Path) : (s.setPath c x).tms = s.tms := rfl
@[simp] theorem State.setPath_th (s : State) (c : Nat) (x : Path) : (s.setPath c x).th = s.th := rfl
@[simp] theorem State.setPath_domDue (s : State) (c : Nat) (x : Path) : (s.setPath c x).domDue = s.domDue := rfl
@[simp] theorem State.setPath_emRun (s : State) (c : Nat) (x : Path) : (s.setPath c x).emRun = s.emRun := rfl
@[simp] theorem State.setPath_obs (s : State) (c : Nat) (x : Path) : (s.setPath c x).obs = s.obs := rfl
@[simp] theorem State.setPath_gal (s : State) (c : Nat) (x : Path) : (s.setPath c x).gal = s.gal := rfl
@[simp] theorem State.setPath_sec (s : State) (c : Nat) (x : Path) : (s.setPath c x).sec = s.sec := rfl
@[simp] theorem State.setPath_host (s : State) (c : Nat) (x : Path) : (s.setPath c x).host = s.host := rfl
@[simp] theorem State.setPath_can (s : State) (c : Nat) (x : Path) : (s.setPath c x).can = s.can := rfl
@[simp] theorem State.setPath_con (s : State) (c : Nat) (x : Path) : (s.setPath c x).con = s.con := rfl
@[simp] theorem State.setPath_walkers (s : State) (c : Nat) (x : Path) : (s.setPath c x).walkers = s.walkers := rfl
@[simp] theorem State.setPath_boot (s : State) (c : Nat) (x : Path) : (s.setPath c x).boot = s.boot := rfl
@[simp] theorem State.setPath_panel (s : State) (c : Nat) (x : Path) : (s.setPath c x).panel = s.panel := rfl
@[simp] theorem State.setPath_parity (s : State) (c : Nat) (x : Path) : (s.setPath c x).parity = s.parity := rfl
@[simp] theorem State.setPath_fades (s : State) (c : Nat) (x : Path) : (s.setPath c x).fades = s.fades := rfl
@[simp] theorem State.setPath_loads (s : State) (c : Nat) (x : Path) : (s.setPath c x).loads = s.loads := rfl
@[simp] theorem State.setPath_jtag (s : State) (c : Nat) (x : Path) : (s.setPath c x).jtag = s.jtag := rfl
@[simp] theorem State.setPath_wing (s : State) (c : Nat) (x : Path) : (s.setPath c x).wing = s.wing := rfl
@[simp] theorem State.setPath_calStore (s : State) (c : Nat) (x : Path) : (s.setPath c x).calStore = s.calStore := rfl

@[simp] theorem State.setPort_pending (s : State) (p : Nat) (x : Port) : (s.setPort p x).pending = s.pending := rfl
@[simp] theorem State.setPort_obj (s : State) (p : Nat) (x : Port) : (s.setPort p x).obj = s.obj := rfl
@[simp] theorem State.setPort_blob (s : State) (p : Nat) (x : Port) : (s.setPort p x).blob = s.blob := rfl
@[simp] theorem State.setPort_before (s : State) (p : Nat) (x : Port) : (s.setPort p x).before = s.before := rfl
@[simp] theorem State.setPort_snap (s : State) (p : Nat) (x : Port) : (s.setPort p x).snap = s.snap := rfl
@[simp] theorem State.setPort_chansBefore (s : State) (p : Nat) (x : Port) : (s.setPort p x).chansBefore = s.chansBefore := rfl
@[simp] theorem State.setPort_free (s : State) (p : Nat) (x : Port) : (s.setPort p x).free = s.free := rfl
@[simp] theorem State.setPort_out (s : State) (p : Nat) (x : Port) : (s.setPort p x).out = s.out := rfl
@[simp] theorem State.setPort_masters (s : State) (p : Nat) (x : Port) : (s.setPort p x).masters = s.masters := rfl
@[simp] theorem State.setPort_time (s : State) (p : Nat) (x : Port) : (s.setPort p x).time = s.time := rfl
@[simp] theorem State.setPort_links (s : State) (p : Nat) (x : Port) : (s.setPort p x).links = s.links := rfl
@[simp] theorem State.setPort_dups (s : State) (p : Nat) (x : Port) : (s.setPort p x).dups = s.dups := rfl
@[simp] theorem State.setPort_tx (s : State) (p : Nat) (x : Port) : (s.setPort p x).tx = s.tx := rfl
@[simp] theorem State.setPort_jr (s : State) (p : Nat) (x : Port) : (s.setPort p x).jr = s.jr := rfl
@[simp] theorem State.setPort_log (s : State) (p : Nat) (x : Port) : (s.setPort p x).log = s.log := rfl
@[simp] theorem State.setPort_flt (s : State) (p : Nat) (x : Port) : (s.setPort p x).flt = s.flt := rfl
@[simp] theorem State.setPort_chans (s : State) (p : Nat) (x : Port) : (s.setPort p x).chans = s.chans := rfl
@[simp] theorem State.setPort_rails (s : State) (p : Nat) (x : Port) : (s.setPort p x).rails = s.rails := rfl
@[simp] theorem State.setPort_feeds (s : State) (p : Nat) (x : Port) : (s.setPort p x).feeds = s.feeds := rfl
@[simp] theorem State.setPort_eng (s : State) (p : Nat) (x : Port) : (s.setPort p x).eng = s.eng := rfl
@[simp] theorem State.setPort_tms (s : State) (p : Nat) (x : Port) : (s.setPort p x).tms = s.tms := rfl
@[simp] theorem State.setPort_th (s : State) (p : Nat) (x : Port) : (s.setPort p x).th = s.th := rfl
@[simp] theorem State.setPort_domDue (s : State) (p : Nat) (x : Port) : (s.setPort p x).domDue = s.domDue := rfl
@[simp] theorem State.setPort_emRun (s : State) (p : Nat) (x : Port) : (s.setPort p x).emRun = s.emRun := rfl
@[simp] theorem State.setPort_obs (s : State) (p : Nat) (x : Port) : (s.setPort p x).obs = s.obs := rfl
@[simp] theorem State.setPort_gal (s : State) (p : Nat) (x : Port) : (s.setPort p x).gal = s.gal := rfl
@[simp] theorem State.setPort_sec (s : State) (p : Nat) (x : Port) : (s.setPort p x).sec = s.sec := rfl
@[simp] theorem State.setPort_host (s : State) (p : Nat) (x : Port) : (s.setPort p x).host = s.host := rfl
@[simp] theorem State.setPort_can (s : State) (p : Nat) (x : Port) : (s.setPort p x).can = s.can := rfl
@[simp] theorem State.setPort_con (s : State) (p : Nat) (x : Port) : (s.setPort p x).con = s.con := rfl
@[simp] theorem State.setPort_walkers (s : State) (p : Nat) (x : Port) : (s.setPort p x).walkers = s.walkers := rfl
@[simp] theorem State.setPort_boot (s : State) (p : Nat) (x : Port) : (s.setPort p x).boot = s.boot := rfl
@[simp] theorem State.setPort_panel (s : State) (p : Nat) (x : Port) : (s.setPort p x).panel = s.panel := rfl
@[simp] theorem State.setPort_parity (s : State) (p : Nat) (x : Port) : (s.setPort p x).parity = s.parity := rfl
@[simp] theorem State.setPort_fades (s : State) (p : Nat) (x : Port) : (s.setPort p x).fades = s.fades := rfl
@[simp] theorem State.setPort_loads (s : State) (p : Nat) (x : Port) : (s.setPort p x).loads = s.loads := rfl
@[simp] theorem State.setPort_jtag (s : State) (p : Nat) (x : Port) : (s.setPort p x).jtag = s.jtag := rfl
@[simp] theorem State.setPort_wing (s : State) (p : Nat) (x : Port) : (s.setPort p x).wing = s.wing := rfl
@[simp] theorem State.setPort_path (s : State) (p : Nat) (x : Port) : (s.setPort p x).path = s.path := rfl
@[simp] theorem State.setPort_calStore (s : State) (p : Nat) (x : Port) : (s.setPort p x).calStore = s.calStore := rfl

@[simp] theorem State.setRail_pending (s : State) (r : Nat) (x : Rail) : (s.setRail r x).pending = s.pending := rfl
@[simp] theorem State.setRail_obj (s : State) (r : Nat) (x : Rail) : (s.setRail r x).obj = s.obj := rfl
@[simp] theorem State.setRail_blob (s : State) (r : Nat) (x : Rail) : (s.setRail r x).blob = s.blob := rfl
@[simp] theorem State.setRail_before (s : State) (r : Nat) (x : Rail) : (s.setRail r x).before = s.before := rfl
@[simp] theorem State.setRail_snap (s : State) (r : Nat) (x : Rail) : (s.setRail r x).snap = s.snap := rfl
@[simp] theorem State.setRail_chansBefore (s : State) (r : Nat) (x : Rail) : (s.setRail r x).chansBefore = s.chansBefore := rfl
@[simp] theorem State.setRail_free (s : State) (r : Nat) (x : Rail) : (s.setRail r x).free = s.free := rfl
@[simp] theorem State.setRail_out (s : State) (r : Nat) (x : Rail) : (s.setRail r x).out = s.out := rfl
@[simp] theorem State.setRail_masters (s : State) (r : Nat) (x : Rail) : (s.setRail r x).masters = s.masters := rfl
@[simp] theorem State.setRail_time (s : State) (r : Nat) (x : Rail) : (s.setRail r x).time = s.time := rfl
@[simp] theorem State.setRail_links (s : State) (r : Nat) (x : Rail) : (s.setRail r x).links = s.links := rfl
@[simp] theorem State.setRail_dups (s : State) (r : Nat) (x : Rail) : (s.setRail r x).dups = s.dups := rfl
@[simp] theorem State.setRail_tx (s : State) (r : Nat) (x : Rail) : (s.setRail r x).tx = s.tx := rfl
@[simp] theorem State.setRail_jr (s : State) (r : Nat) (x : Rail) : (s.setRail r x).jr = s.jr := rfl
@[simp] theorem State.setRail_log (s : State) (r : Nat) (x : Rail) : (s.setRail r x).log = s.log := rfl
@[simp] theorem State.setRail_flt (s : State) (r : Nat) (x : Rail) : (s.setRail r x).flt = s.flt := rfl
@[simp] theorem State.setRail_chans (s : State) (r : Nat) (x : Rail) : (s.setRail r x).chans = s.chans := rfl
@[simp] theorem State.setRail_ports (s : State) (r : Nat) (x : Rail) : (s.setRail r x).ports = s.ports := rfl
@[simp] theorem State.setRail_feeds (s : State) (r : Nat) (x : Rail) : (s.setRail r x).feeds = s.feeds := rfl
@[simp] theorem State.setRail_eng (s : State) (r : Nat) (x : Rail) : (s.setRail r x).eng = s.eng := rfl
@[simp] theorem State.setRail_tms (s : State) (r : Nat) (x : Rail) : (s.setRail r x).tms = s.tms := rfl
@[simp] theorem State.setRail_th (s : State) (r : Nat) (x : Rail) : (s.setRail r x).th = s.th := rfl
@[simp] theorem State.setRail_domDue (s : State) (r : Nat) (x : Rail) : (s.setRail r x).domDue = s.domDue := rfl
@[simp] theorem State.setRail_emRun (s : State) (r : Nat) (x : Rail) : (s.setRail r x).emRun = s.emRun := rfl
@[simp] theorem State.setRail_obs (s : State) (r : Nat) (x : Rail) : (s.setRail r x).obs = s.obs := rfl
@[simp] theorem State.setRail_gal (s : State) (r : Nat) (x : Rail) : (s.setRail r x).gal = s.gal := rfl
@[simp] theorem State.setRail_sec (s : State) (r : Nat) (x : Rail) : (s.setRail r x).sec = s.sec := rfl
@[simp] theorem State.setRail_host (s : State) (r : Nat) (x : Rail) : (s.setRail r x).host = s.host := rfl
@[simp] theorem State.setRail_can (s : State) (r : Nat) (x : Rail) : (s.setRail r x).can = s.can := rfl
@[simp] theorem State.setRail_con (s : State) (r : Nat) (x : Rail) : (s.setRail r x).con = s.con := rfl
@[simp] theorem State.setRail_walkers (s : State) (r : Nat) (x : Rail) : (s.setRail r x).walkers = s.walkers := rfl
@[simp] theorem State.setRail_boot (s : State) (r : Nat) (x : Rail) : (s.setRail r x).boot = s.boot := rfl
@[simp] theorem State.setRail_panel (s : State) (r : Nat) (x : Rail) : (s.setRail r x).panel = s.panel := rfl
@[simp] theorem State.setRail_parity (s : State) (r : Nat) (x : Rail) : (s.setRail r x).parity = s.parity := rfl
@[simp] theorem State.setRail_fades (s : State) (r : Nat) (x : Rail) : (s.setRail r x).fades = s.fades := rfl
@[simp] theorem State.setRail_loads (s : State) (r : Nat) (x : Rail) : (s.setRail r x).loads = s.loads := rfl
@[simp] theorem State.setRail_jtag (s : State) (r : Nat) (x : Rail) : (s.setRail r x).jtag = s.jtag := rfl
@[simp] theorem State.setRail_wing (s : State) (r : Nat) (x : Rail) : (s.setRail r x).wing = s.wing := rfl
@[simp] theorem State.setRail_path (s : State) (r : Nat) (x : Rail) : (s.setRail r x).path = s.path := rfl
@[simp] theorem State.setRail_calStore (s : State) (r : Nat) (x : Rail) : (s.setRail r x).calStore = s.calStore := rfl

@[simp] theorem State.setFeed_pending (s : State) (f : Nat) (x : Feed) : (s.setFeed f x).pending = s.pending := rfl
@[simp] theorem State.setFeed_obj (s : State) (f : Nat) (x : Feed) : (s.setFeed f x).obj = s.obj := rfl
@[simp] theorem State.setFeed_blob (s : State) (f : Nat) (x : Feed) : (s.setFeed f x).blob = s.blob := rfl
@[simp] theorem State.setFeed_before (s : State) (f : Nat) (x : Feed) : (s.setFeed f x).before = s.before := rfl
@[simp] theorem State.setFeed_snap (s : State) (f : Nat) (x : Feed) : (s.setFeed f x).snap = s.snap := rfl
@[simp] theorem State.setFeed_chansBefore (s : State) (f : Nat) (x : Feed) : (s.setFeed f x).chansBefore = s.chansBefore := rfl
@[simp] theorem State.setFeed_free (s : State) (f : Nat) (x : Feed) : (s.setFeed f x).free = s.free := rfl
@[simp] theorem State.setFeed_out (s : State) (f : Nat) (x : Feed) : (s.setFeed f x).out = s.out := rfl
@[simp] theorem State.setFeed_masters (s : State) (f : Nat) (x : Feed) : (s.setFeed f x).masters = s.masters := rfl
@[simp] theorem State.setFeed_time (s : State) (f : Nat) (x : Feed) : (s.setFeed f x).time = s.time := rfl
@[simp] theorem State.setFeed_links (s : State) (f : Nat) (x : Feed) : (s.setFeed f x).links = s.links := rfl
@[simp] theorem State.setFeed_dups (s : State) (f : Nat) (x : Feed) : (s.setFeed f x).dups = s.dups := rfl
@[simp] theorem State.setFeed_tx (s : State) (f : Nat) (x : Feed) : (s.setFeed f x).tx = s.tx := rfl
@[simp] theorem State.setFeed_jr (s : State) (f : Nat) (x : Feed) : (s.setFeed f x).jr = s.jr := rfl
@[simp] theorem State.setFeed_log (s : State) (f : Nat) (x : Feed) : (s.setFeed f x).log = s.log := rfl
@[simp] theorem State.setFeed_flt (s : State) (f : Nat) (x : Feed) : (s.setFeed f x).flt = s.flt := rfl
@[simp] theorem State.setFeed_chans (s : State) (f : Nat) (x : Feed) : (s.setFeed f x).chans = s.chans := rfl
@[simp] theorem State.setFeed_ports (s : State) (f : Nat) (x : Feed) : (s.setFeed f x).ports = s.ports := rfl
@[simp] theorem State.setFeed_rails (s : State) (f : Nat) (x : Feed) : (s.setFeed f x).rails = s.rails := rfl
@[simp] theorem State.setFeed_eng (s : State) (f : Nat) (x : Feed) : (s.setFeed f x).eng = s.eng := rfl
@[simp] theorem State.setFeed_tms (s : State) (f : Nat) (x : Feed) : (s.setFeed f x).tms = s.tms := rfl
@[simp] theorem State.setFeed_th (s : State) (f : Nat) (x : Feed) : (s.setFeed f x).th = s.th := rfl
@[simp] theorem State.setFeed_domDue (s : State) (f : Nat) (x : Feed) : (s.setFeed f x).domDue = s.domDue := rfl
@[simp] theorem State.setFeed_emRun (s : State) (f : Nat) (x : Feed) : (s.setFeed f x).emRun = s.emRun := rfl
@[simp] theorem State.setFeed_obs (s : State) (f : Nat) (x : Feed) : (s.setFeed f x).obs = s.obs := rfl
@[simp] theorem State.setFeed_gal (s : State) (f : Nat) (x : Feed) : (s.setFeed f x).gal = s.gal := rfl
@[simp] theorem State.setFeed_sec (s : State) (f : Nat) (x : Feed) : (s.setFeed f x).sec = s.sec := rfl
@[simp] theorem State.setFeed_host (s : State) (f : Nat) (x : Feed) : (s.setFeed f x).host = s.host := rfl
@[simp] theorem State.setFeed_can (s : State) (f : Nat) (x : Feed) : (s.setFeed f x).can = s.can := rfl
@[simp] theorem State.setFeed_con (s : State) (f : Nat) (x : Feed) : (s.setFeed f x).con = s.con := rfl
@[simp] theorem State.setFeed_walkers (s : State) (f : Nat) (x : Feed) : (s.setFeed f x).walkers = s.walkers := rfl
@[simp] theorem State.setFeed_boot (s : State) (f : Nat) (x : Feed) : (s.setFeed f x).boot = s.boot := rfl
@[simp] theorem State.setFeed_panel (s : State) (f : Nat) (x : Feed) : (s.setFeed f x).panel = s.panel := rfl
@[simp] theorem State.setFeed_parity (s : State) (f : Nat) (x : Feed) : (s.setFeed f x).parity = s.parity := rfl
@[simp] theorem State.setFeed_fades (s : State) (f : Nat) (x : Feed) : (s.setFeed f x).fades = s.fades := rfl
@[simp] theorem State.setFeed_loads (s : State) (f : Nat) (x : Feed) : (s.setFeed f x).loads = s.loads := rfl
@[simp] theorem State.setFeed_jtag (s : State) (f : Nat) (x : Feed) : (s.setFeed f x).jtag = s.jtag := rfl
@[simp] theorem State.setFeed_wing (s : State) (f : Nat) (x : Feed) : (s.setFeed f x).wing = s.wing := rfl
@[simp] theorem State.setFeed_path (s : State) (f : Nat) (x : Feed) : (s.setFeed f x).path = s.path := rfl
@[simp] theorem State.setFeed_calStore (s : State) (f : Nat) (x : Feed) : (s.setFeed f x).calStore = s.calStore := rfl

@[simp] theorem State.setLink_pending (s : State) (l : Nat) (x : Link) : (s.setLink l x).pending = s.pending := rfl
@[simp] theorem State.setLink_obj (s : State) (l : Nat) (x : Link) : (s.setLink l x).obj = s.obj := rfl
@[simp] theorem State.setLink_blob (s : State) (l : Nat) (x : Link) : (s.setLink l x).blob = s.blob := rfl
@[simp] theorem State.setLink_before (s : State) (l : Nat) (x : Link) : (s.setLink l x).before = s.before := rfl
@[simp] theorem State.setLink_snap (s : State) (l : Nat) (x : Link) : (s.setLink l x).snap = s.snap := rfl
@[simp] theorem State.setLink_chansBefore (s : State) (l : Nat) (x : Link) : (s.setLink l x).chansBefore = s.chansBefore := rfl
@[simp] theorem State.setLink_free (s : State) (l : Nat) (x : Link) : (s.setLink l x).free = s.free := rfl
@[simp] theorem State.setLink_out (s : State) (l : Nat) (x : Link) : (s.setLink l x).out = s.out := rfl
@[simp] theorem State.setLink_masters (s : State) (l : Nat) (x : Link) : (s.setLink l x).masters = s.masters := rfl
@[simp] theorem State.setLink_time (s : State) (l : Nat) (x : Link) : (s.setLink l x).time = s.time := rfl
@[simp] theorem State.setLink_dups (s : State) (l : Nat) (x : Link) : (s.setLink l x).dups = s.dups := rfl
@[simp] theorem State.setLink_tx (s : State) (l : Nat) (x : Link) : (s.setLink l x).tx = s.tx := rfl
@[simp] theorem State.setLink_jr (s : State) (l : Nat) (x : Link) : (s.setLink l x).jr = s.jr := rfl
@[simp] theorem State.setLink_log (s : State) (l : Nat) (x : Link) : (s.setLink l x).log = s.log := rfl
@[simp] theorem State.setLink_flt (s : State) (l : Nat) (x : Link) : (s.setLink l x).flt = s.flt := rfl
@[simp] theorem State.setLink_chans (s : State) (l : Nat) (x : Link) : (s.setLink l x).chans = s.chans := rfl
@[simp] theorem State.setLink_ports (s : State) (l : Nat) (x : Link) : (s.setLink l x).ports = s.ports := rfl
@[simp] theorem State.setLink_rails (s : State) (l : Nat) (x : Link) : (s.setLink l x).rails = s.rails := rfl
@[simp] theorem State.setLink_feeds (s : State) (l : Nat) (x : Link) : (s.setLink l x).feeds = s.feeds := rfl
@[simp] theorem State.setLink_eng (s : State) (l : Nat) (x : Link) : (s.setLink l x).eng = s.eng := rfl
@[simp] theorem State.setLink_tms (s : State) (l : Nat) (x : Link) : (s.setLink l x).tms = s.tms := rfl
@[simp] theorem State.setLink_th (s : State) (l : Nat) (x : Link) : (s.setLink l x).th = s.th := rfl
@[simp] theorem State.setLink_domDue (s : State) (l : Nat) (x : Link) : (s.setLink l x).domDue = s.domDue := rfl
@[simp] theorem State.setLink_emRun (s : State) (l : Nat) (x : Link) : (s.setLink l x).emRun = s.emRun := rfl
@[simp] theorem State.setLink_obs (s : State) (l : Nat) (x : Link) : (s.setLink l x).obs = s.obs := rfl
@[simp] theorem State.setLink_gal (s : State) (l : Nat) (x : Link) : (s.setLink l x).gal = s.gal := rfl
@[simp] theorem State.setLink_sec (s : State) (l : Nat) (x : Link) : (s.setLink l x).sec = s.sec := rfl
@[simp] theorem State.setLink_host (s : State) (l : Nat) (x : Link) : (s.setLink l x).host = s.host := rfl
@[simp] theorem State.setLink_can (s : State) (l : Nat) (x : Link) : (s.setLink l x).can = s.can := rfl
@[simp] theorem State.setLink_con (s : State) (l : Nat) (x : Link) : (s.setLink l x).con = s.con := rfl
@[simp] theorem State.setLink_walkers (s : State) (l : Nat) (x : Link) : (s.setLink l x).walkers = s.walkers := rfl
@[simp] theorem State.setLink_boot (s : State) (l : Nat) (x : Link) : (s.setLink l x).boot = s.boot := rfl
@[simp] theorem State.setLink_panel (s : State) (l : Nat) (x : Link) : (s.setLink l x).panel = s.panel := rfl
@[simp] theorem State.setLink_parity (s : State) (l : Nat) (x : Link) : (s.setLink l x).parity = s.parity := rfl
@[simp] theorem State.setLink_fades (s : State) (l : Nat) (x : Link) : (s.setLink l x).fades = s.fades := rfl
@[simp] theorem State.setLink_loads (s : State) (l : Nat) (x : Link) : (s.setLink l x).loads = s.loads := rfl
@[simp] theorem State.setLink_jtag (s : State) (l : Nat) (x : Link) : (s.setLink l x).jtag = s.jtag := rfl
@[simp] theorem State.setLink_wing (s : State) (l : Nat) (x : Link) : (s.setLink l x).wing = s.wing := rfl
@[simp] theorem State.setLink_path (s : State) (l : Nat) (x : Link) : (s.setLink l x).path = s.path := rfl
@[simp] theorem State.setLink_calStore (s : State) (l : Nat) (x : Link) : (s.setLink l x).calStore = s.calStore := rfl

@[simp] theorem State.setTm_pending (s : State) (m : Nat) (x : Modulator) : (s.setTm m x).pending = s.pending := rfl
@[simp] theorem State.setTm_obj (s : State) (m : Nat) (x : Modulator) : (s.setTm m x).obj = s.obj := rfl
@[simp] theorem State.setTm_blob (s : State) (m : Nat) (x : Modulator) : (s.setTm m x).blob = s.blob := rfl
@[simp] theorem State.setTm_before (s : State) (m : Nat) (x : Modulator) : (s.setTm m x).before = s.before := rfl
@[simp] theorem State.setTm_snap (s : State) (m : Nat) (x : Modulator) : (s.setTm m x).snap = s.snap := rfl
@[simp] theorem State.setTm_chansBefore (s : State) (m : Nat) (x : Modulator) : (s.setTm m x).chansBefore = s.chansBefore := rfl
@[simp] theorem State.setTm_free (s : State) (m : Nat) (x : Modulator) : (s.setTm m x).free = s.free := rfl
@[simp] theorem State.setTm_out (s : State) (m : Nat) (x : Modulator) : (s.setTm m x).out = s.out := rfl
@[simp] theorem State.setTm_masters (s : State) (m : Nat) (x : Modulator) : (s.setTm m x).masters = s.masters := rfl
@[simp] theorem State.setTm_time (s : State) (m : Nat) (x : Modulator) : (s.setTm m x).time = s.time := rfl
@[simp] theorem State.setTm_links (s : State) (m : Nat) (x : Modulator) : (s.setTm m x).links = s.links := rfl
@[simp] theorem State.setTm_dups (s : State) (m : Nat) (x : Modulator) : (s.setTm m x).dups = s.dups := rfl
@[simp] theorem State.setTm_tx (s : State) (m : Nat) (x : Modulator) : (s.setTm m x).tx = s.tx := rfl
@[simp] theorem State.setTm_jr (s : State) (m : Nat) (x : Modulator) : (s.setTm m x).jr = s.jr := rfl
@[simp] theorem State.setTm_log (s : State) (m : Nat) (x : Modulator) : (s.setTm m x).log = s.log := rfl
@[simp] theorem State.setTm_flt (s : State) (m : Nat) (x : Modulator) : (s.setTm m x).flt = s.flt := rfl
@[simp] theorem State.setTm_chans (s : State) (m : Nat) (x : Modulator) : (s.setTm m x).chans = s.chans := rfl
@[simp] theorem State.setTm_ports (s : State) (m : Nat) (x : Modulator) : (s.setTm m x).ports = s.ports := rfl
@[simp] theorem State.setTm_rails (s : State) (m : Nat) (x : Modulator) : (s.setTm m x).rails = s.rails := rfl
@[simp] theorem State.setTm_feeds (s : State) (m : Nat) (x : Modulator) : (s.setTm m x).feeds = s.feeds := rfl
@[simp] theorem State.setTm_eng (s : State) (m : Nat) (x : Modulator) : (s.setTm m x).eng = s.eng := rfl
@[simp] theorem State.setTm_th (s : State) (m : Nat) (x : Modulator) : (s.setTm m x).th = s.th := rfl
@[simp] theorem State.setTm_domDue (s : State) (m : Nat) (x : Modulator) : (s.setTm m x).domDue = s.domDue := rfl
@[simp] theorem State.setTm_emRun (s : State) (m : Nat) (x : Modulator) : (s.setTm m x).emRun = s.emRun := rfl
@[simp] theorem State.setTm_obs (s : State) (m : Nat) (x : Modulator) : (s.setTm m x).obs = s.obs := rfl
@[simp] theorem State.setTm_gal (s : State) (m : Nat) (x : Modulator) : (s.setTm m x).gal = s.gal := rfl
@[simp] theorem State.setTm_sec (s : State) (m : Nat) (x : Modulator) : (s.setTm m x).sec = s.sec := rfl
@[simp] theorem State.setTm_host (s : State) (m : Nat) (x : Modulator) : (s.setTm m x).host = s.host := rfl
@[simp] theorem State.setTm_can (s : State) (m : Nat) (x : Modulator) : (s.setTm m x).can = s.can := rfl
@[simp] theorem State.setTm_con (s : State) (m : Nat) (x : Modulator) : (s.setTm m x).con = s.con := rfl
@[simp] theorem State.setTm_walkers (s : State) (m : Nat) (x : Modulator) : (s.setTm m x).walkers = s.walkers := rfl
@[simp] theorem State.setTm_boot (s : State) (m : Nat) (x : Modulator) : (s.setTm m x).boot = s.boot := rfl
@[simp] theorem State.setTm_panel (s : State) (m : Nat) (x : Modulator) : (s.setTm m x).panel = s.panel := rfl
@[simp] theorem State.setTm_parity (s : State) (m : Nat) (x : Modulator) : (s.setTm m x).parity = s.parity := rfl
@[simp] theorem State.setTm_fades (s : State) (m : Nat) (x : Modulator) : (s.setTm m x).fades = s.fades := rfl
@[simp] theorem State.setTm_loads (s : State) (m : Nat) (x : Modulator) : (s.setTm m x).loads = s.loads := rfl
@[simp] theorem State.setTm_jtag (s : State) (m : Nat) (x : Modulator) : (s.setTm m x).jtag = s.jtag := rfl
@[simp] theorem State.setTm_wing (s : State) (m : Nat) (x : Modulator) : (s.setTm m x).wing = s.wing := rfl
@[simp] theorem State.setTm_path (s : State) (m : Nat) (x : Modulator) : (s.setTm m x).path = s.path := rfl
@[simp] theorem State.setTm_calStore (s : State) (m : Nat) (x : Modulator) : (s.setTm m x).calStore = s.calStore := rfl

@[simp] theorem State.setWalker_pending (s : State) (p : Nat) (x : Walker) : (s.setWalker p x).pending = s.pending := rfl
@[simp] theorem State.setWalker_obj (s : State) (p : Nat) (x : Walker) : (s.setWalker p x).obj = s.obj := rfl
@[simp] theorem State.setWalker_blob (s : State) (p : Nat) (x : Walker) : (s.setWalker p x).blob = s.blob := rfl
@[simp] theorem State.setWalker_before (s : State) (p : Nat) (x : Walker) : (s.setWalker p x).before = s.before := rfl
@[simp] theorem State.setWalker_snap (s : State) (p : Nat) (x : Walker) : (s.setWalker p x).snap = s.snap := rfl
@[simp] theorem State.setWalker_chansBefore (s : State) (p : Nat) (x : Walker) : (s.setWalker p x).chansBefore = s.chansBefore := rfl
@[simp] theorem State.setWalker_free (s : State) (p : Nat) (x : Walker) : (s.setWalker p x).free = s.free := rfl
@[simp] theorem State.setWalker_out (s : State) (p : Nat) (x : Walker) : (s.setWalker p x).out = s.out := rfl
@[simp] theorem State.setWalker_masters (s : State) (p : Nat) (x : Walker) : (s.setWalker p x).masters = s.masters := rfl
@[simp] theorem State.setWalker_time (s : State) (p : Nat) (x : Walker) : (s.setWalker p x).time = s.time := rfl
@[simp] theorem State.setWalker_links (s : State) (p : Nat) (x : Walker) : (s.setWalker p x).links = s.links := rfl
@[simp] theorem State.setWalker_dups (s : State) (p : Nat) (x : Walker) : (s.setWalker p x).dups = s.dups := rfl
@[simp] theorem State.setWalker_tx (s : State) (p : Nat) (x : Walker) : (s.setWalker p x).tx = s.tx := rfl
@[simp] theorem State.setWalker_jr (s : State) (p : Nat) (x : Walker) : (s.setWalker p x).jr = s.jr := rfl
@[simp] theorem State.setWalker_log (s : State) (p : Nat) (x : Walker) : (s.setWalker p x).log = s.log := rfl
@[simp] theorem State.setWalker_flt (s : State) (p : Nat) (x : Walker) : (s.setWalker p x).flt = s.flt := rfl
@[simp] theorem State.setWalker_chans (s : State) (p : Nat) (x : Walker) : (s.setWalker p x).chans = s.chans := rfl
@[simp] theorem State.setWalker_ports (s : State) (p : Nat) (x : Walker) : (s.setWalker p x).ports = s.ports := rfl
@[simp] theorem State.setWalker_rails (s : State) (p : Nat) (x : Walker) : (s.setWalker p x).rails = s.rails := rfl
@[simp] theorem State.setWalker_feeds (s : State) (p : Nat) (x : Walker) : (s.setWalker p x).feeds = s.feeds := rfl
@[simp] theorem State.setWalker_eng (s : State) (p : Nat) (x : Walker) : (s.setWalker p x).eng = s.eng := rfl
@[simp] theorem State.setWalker_tms (s : State) (p : Nat) (x : Walker) : (s.setWalker p x).tms = s.tms := rfl
@[simp] theorem State.setWalker_th (s : State) (p : Nat) (x : Walker) : (s.setWalker p x).th = s.th := rfl
@[simp] theorem State.setWalker_domDue (s : State) (p : Nat) (x : Walker) : (s.setWalker p x).domDue = s.domDue := rfl
@[simp] theorem State.setWalker_emRun (s : State) (p : Nat) (x : Walker) : (s.setWalker p x).emRun = s.emRun := rfl
@[simp] theorem State.setWalker_obs (s : State) (p : Nat) (x : Walker) : (s.setWalker p x).obs = s.obs := rfl
@[simp] theorem State.setWalker_gal (s : State) (p : Nat) (x : Walker) : (s.setWalker p x).gal = s.gal := rfl
@[simp] theorem State.setWalker_sec (s : State) (p : Nat) (x : Walker) : (s.setWalker p x).sec = s.sec := rfl
@[simp] theorem State.setWalker_host (s : State) (p : Nat) (x : Walker) : (s.setWalker p x).host = s.host := rfl
@[simp] theorem State.setWalker_can (s : State) (p : Nat) (x : Walker) : (s.setWalker p x).can = s.can := rfl
@[simp] theorem State.setWalker_con (s : State) (p : Nat) (x : Walker) : (s.setWalker p x).con = s.con := rfl
@[simp] theorem State.setWalker_boot (s : State) (p : Nat) (x : Walker) : (s.setWalker p x).boot = s.boot := rfl
@[simp] theorem State.setWalker_panel (s : State) (p : Nat) (x : Walker) : (s.setWalker p x).panel = s.panel := rfl
@[simp] theorem State.setWalker_parity (s : State) (p : Nat) (x : Walker) : (s.setWalker p x).parity = s.parity := rfl
@[simp] theorem State.setWalker_fades (s : State) (p : Nat) (x : Walker) : (s.setWalker p x).fades = s.fades := rfl
@[simp] theorem State.setWalker_loads (s : State) (p : Nat) (x : Walker) : (s.setWalker p x).loads = s.loads := rfl
@[simp] theorem State.setWalker_jtag (s : State) (p : Nat) (x : Walker) : (s.setWalker p x).jtag = s.jtag := rfl
@[simp] theorem State.setWalker_wing (s : State) (p : Nat) (x : Walker) : (s.setWalker p x).wing = s.wing := rfl
@[simp] theorem State.setWalker_path (s : State) (p : Nat) (x : Walker) : (s.setWalker p x).path = s.path := rfl
@[simp] theorem State.setWalker_calStore (s : State) (p : Nat) (x : Walker) : (s.setWalker p x).calStore = s.calStore := rfl

@[simp] theorem State.setKey_pending (s : State) (k : Nat) (x : Key) : (s.setKey k x).pending = s.pending := rfl
@[simp] theorem State.setKey_obj (s : State) (k : Nat) (x : Key) : (s.setKey k x).obj = s.obj := rfl
@[simp] theorem State.setKey_blob (s : State) (k : Nat) (x : Key) : (s.setKey k x).blob = s.blob := rfl
@[simp] theorem State.setKey_before (s : State) (k : Nat) (x : Key) : (s.setKey k x).before = s.before := rfl
@[simp] theorem State.setKey_snap (s : State) (k : Nat) (x : Key) : (s.setKey k x).snap = s.snap := rfl
@[simp] theorem State.setKey_chansBefore (s : State) (k : Nat) (x : Key) : (s.setKey k x).chansBefore = s.chansBefore := rfl
@[simp] theorem State.setKey_free (s : State) (k : Nat) (x : Key) : (s.setKey k x).free = s.free := rfl
@[simp] theorem State.setKey_out (s : State) (k : Nat) (x : Key) : (s.setKey k x).out = s.out := rfl
@[simp] theorem State.setKey_masters (s : State) (k : Nat) (x : Key) : (s.setKey k x).masters = s.masters := rfl
@[simp] theorem State.setKey_time (s : State) (k : Nat) (x : Key) : (s.setKey k x).time = s.time := rfl
@[simp] theorem State.setKey_links (s : State) (k : Nat) (x : Key) : (s.setKey k x).links = s.links := rfl
@[simp] theorem State.setKey_dups (s : State) (k : Nat) (x : Key) : (s.setKey k x).dups = s.dups := rfl
@[simp] theorem State.setKey_tx (s : State) (k : Nat) (x : Key) : (s.setKey k x).tx = s.tx := rfl
@[simp] theorem State.setKey_jr (s : State) (k : Nat) (x : Key) : (s.setKey k x).jr = s.jr := rfl
@[simp] theorem State.setKey_log (s : State) (k : Nat) (x : Key) : (s.setKey k x).log = s.log := rfl
@[simp] theorem State.setKey_flt (s : State) (k : Nat) (x : Key) : (s.setKey k x).flt = s.flt := rfl
@[simp] theorem State.setKey_chans (s : State) (k : Nat) (x : Key) : (s.setKey k x).chans = s.chans := rfl
@[simp] theorem State.setKey_ports (s : State) (k : Nat) (x : Key) : (s.setKey k x).ports = s.ports := rfl
@[simp] theorem State.setKey_rails (s : State) (k : Nat) (x : Key) : (s.setKey k x).rails = s.rails := rfl
@[simp] theorem State.setKey_feeds (s : State) (k : Nat) (x : Key) : (s.setKey k x).feeds = s.feeds := rfl
@[simp] theorem State.setKey_eng (s : State) (k : Nat) (x : Key) : (s.setKey k x).eng = s.eng := rfl
@[simp] theorem State.setKey_tms (s : State) (k : Nat) (x : Key) : (s.setKey k x).tms = s.tms := rfl
@[simp] theorem State.setKey_th (s : State) (k : Nat) (x : Key) : (s.setKey k x).th = s.th := rfl
@[simp] theorem State.setKey_domDue (s : State) (k : Nat) (x : Key) : (s.setKey k x).domDue = s.domDue := rfl
@[simp] theorem State.setKey_emRun (s : State) (k : Nat) (x : Key) : (s.setKey k x).emRun = s.emRun := rfl
@[simp] theorem State.setKey_obs (s : State) (k : Nat) (x : Key) : (s.setKey k x).obs = s.obs := rfl
@[simp] theorem State.setKey_gal (s : State) (k : Nat) (x : Key) : (s.setKey k x).gal = s.gal := rfl
@[simp] theorem State.setKey_sec (s : State) (k : Nat) (x : Key) : (s.setKey k x).sec = s.sec := rfl
@[simp] theorem State.setKey_host (s : State) (k : Nat) (x : Key) : (s.setKey k x).host = s.host := rfl
@[simp] theorem State.setKey_can (s : State) (k : Nat) (x : Key) : (s.setKey k x).can = s.can := rfl
@[simp] theorem State.setKey_con (s : State) (k : Nat) (x : Key) : (s.setKey k x).con = s.con := rfl
@[simp] theorem State.setKey_walkers (s : State) (k : Nat) (x : Key) : (s.setKey k x).walkers = s.walkers := rfl
@[simp] theorem State.setKey_boot (s : State) (k : Nat) (x : Key) : (s.setKey k x).boot = s.boot := rfl
@[simp] theorem State.setKey_parity (s : State) (k : Nat) (x : Key) : (s.setKey k x).parity = s.parity := rfl
@[simp] theorem State.setKey_fades (s : State) (k : Nat) (x : Key) : (s.setKey k x).fades = s.fades := rfl
@[simp] theorem State.setKey_loads (s : State) (k : Nat) (x : Key) : (s.setKey k x).loads = s.loads := rfl
@[simp] theorem State.setKey_jtag (s : State) (k : Nat) (x : Key) : (s.setKey k x).jtag = s.jtag := rfl
@[simp] theorem State.setKey_wing (s : State) (k : Nat) (x : Key) : (s.setKey k x).wing = s.wing := rfl
@[simp] theorem State.setKey_path (s : State) (k : Nat) (x : Key) : (s.setKey k x).path = s.path := rfl
@[simp] theorem State.setKey_calStore (s : State) (k : Nat) (x : Key) : (s.setKey k x).calStore = s.calStore := rfl

@[simp] theorem State.setSlot_pending (s : State) (i : Nat) (t : Option Tx) : (setSlot i t s).pending = s.pending := rfl
@[simp] theorem State.setSlot_obj (s : State) (i : Nat) (t : Option Tx) : (setSlot i t s).obj = s.obj := rfl
@[simp] theorem State.setSlot_blob (s : State) (i : Nat) (t : Option Tx) : (setSlot i t s).blob = s.blob := rfl
@[simp] theorem State.setSlot_before (s : State) (i : Nat) (t : Option Tx) : (setSlot i t s).before = s.before := rfl
@[simp] theorem State.setSlot_snap (s : State) (i : Nat) (t : Option Tx) : (setSlot i t s).snap = s.snap := rfl
@[simp] theorem State.setSlot_chansBefore (s : State) (i : Nat) (t : Option Tx) : (setSlot i t s).chansBefore = s.chansBefore := rfl
@[simp] theorem State.setSlot_free (s : State) (i : Nat) (t : Option Tx) : (setSlot i t s).free = s.free := rfl
@[simp] theorem State.setSlot_out (s : State) (i : Nat) (t : Option Tx) : (setSlot i t s).out = s.out := rfl
@[simp] theorem State.setSlot_masters (s : State) (i : Nat) (t : Option Tx) : (setSlot i t s).masters = s.masters := rfl
@[simp] theorem State.setSlot_time (s : State) (i : Nat) (t : Option Tx) : (setSlot i t s).time = s.time := rfl
@[simp] theorem State.setSlot_links (s : State) (i : Nat) (t : Option Tx) : (setSlot i t s).links = s.links := rfl
@[simp] theorem State.setSlot_dups (s : State) (i : Nat) (t : Option Tx) : (setSlot i t s).dups = s.dups := rfl
@[simp] theorem State.setSlot_jr (s : State) (i : Nat) (t : Option Tx) : (setSlot i t s).jr = s.jr := rfl
@[simp] theorem State.setSlot_log (s : State) (i : Nat) (t : Option Tx) : (setSlot i t s).log = s.log := rfl
@[simp] theorem State.setSlot_flt (s : State) (i : Nat) (t : Option Tx) : (setSlot i t s).flt = s.flt := rfl
@[simp] theorem State.setSlot_chans (s : State) (i : Nat) (t : Option Tx) : (setSlot i t s).chans = s.chans := rfl
@[simp] theorem State.setSlot_ports (s : State) (i : Nat) (t : Option Tx) : (setSlot i t s).ports = s.ports := rfl
@[simp] theorem State.setSlot_rails (s : State) (i : Nat) (t : Option Tx) : (setSlot i t s).rails = s.rails := rfl
@[simp] theorem State.setSlot_feeds (s : State) (i : Nat) (t : Option Tx) : (setSlot i t s).feeds = s.feeds := rfl
@[simp] theorem State.setSlot_eng (s : State) (i : Nat) (t : Option Tx) : (setSlot i t s).eng = s.eng := rfl
@[simp] theorem State.setSlot_tms (s : State) (i : Nat) (t : Option Tx) : (setSlot i t s).tms = s.tms := rfl
@[simp] theorem State.setSlot_th (s : State) (i : Nat) (t : Option Tx) : (setSlot i t s).th = s.th := rfl
@[simp] theorem State.setSlot_domDue (s : State) (i : Nat) (t : Option Tx) : (setSlot i t s).domDue = s.domDue := rfl
@[simp] theorem State.setSlot_emRun (s : State) (i : Nat) (t : Option Tx) : (setSlot i t s).emRun = s.emRun := rfl
@[simp] theorem State.setSlot_obs (s : State) (i : Nat) (t : Option Tx) : (setSlot i t s).obs = s.obs := rfl
@[simp] theorem State.setSlot_gal (s : State) (i : Nat) (t : Option Tx) : (setSlot i t s).gal = s.gal := rfl
@[simp] theorem State.setSlot_sec (s : State) (i : Nat) (t : Option Tx) : (setSlot i t s).sec = s.sec := rfl
@[simp] theorem State.setSlot_host (s : State) (i : Nat) (t : Option Tx) : (setSlot i t s).host = s.host := rfl
@[simp] theorem State.setSlot_can (s : State) (i : Nat) (t : Option Tx) : (setSlot i t s).can = s.can := rfl
@[simp] theorem State.setSlot_con (s : State) (i : Nat) (t : Option Tx) : (setSlot i t s).con = s.con := rfl
@[simp] theorem State.setSlot_walkers (s : State) (i : Nat) (t : Option Tx) : (setSlot i t s).walkers = s.walkers := rfl
@[simp] theorem State.setSlot_boot (s : State) (i : Nat) (t : Option Tx) : (setSlot i t s).boot = s.boot := rfl
@[simp] theorem State.setSlot_panel (s : State) (i : Nat) (t : Option Tx) : (setSlot i t s).panel = s.panel := rfl
@[simp] theorem State.setSlot_parity (s : State) (i : Nat) (t : Option Tx) : (setSlot i t s).parity = s.parity := rfl
@[simp] theorem State.setSlot_fades (s : State) (i : Nat) (t : Option Tx) : (setSlot i t s).fades = s.fades := rfl
@[simp] theorem State.setSlot_loads (s : State) (i : Nat) (t : Option Tx) : (setSlot i t s).loads = s.loads := rfl
@[simp] theorem State.setSlot_jtag (s : State) (i : Nat) (t : Option Tx) : (setSlot i t s).jtag = s.jtag := rfl
@[simp] theorem State.setSlot_wing (s : State) (i : Nat) (t : Option Tx) : (setSlot i t s).wing = s.wing := rfl
@[simp] theorem State.setSlot_path (s : State) (i : Nat) (t : Option Tx) : (setSlot i t s).path = s.path := rfl
@[simp] theorem State.setSlot_calStore (s : State) (i : Nat) (t : Option Tx) : (setSlot i t s).calStore = s.calStore := rfl

@[simp] theorem State.putDomDue_pending (s : State) (d : Nat) (v : Option Nat) : (putDomDue d v s).pending = s.pending := rfl
@[simp] theorem State.putDomDue_obj (s : State) (d : Nat) (v : Option Nat) : (putDomDue d v s).obj = s.obj := rfl
@[simp] theorem State.putDomDue_blob (s : State) (d : Nat) (v : Option Nat) : (putDomDue d v s).blob = s.blob := rfl
@[simp] theorem State.putDomDue_before (s : State) (d : Nat) (v : Option Nat) : (putDomDue d v s).before = s.before := rfl
@[simp] theorem State.putDomDue_snap (s : State) (d : Nat) (v : Option Nat) : (putDomDue d v s).snap = s.snap := rfl
@[simp] theorem State.putDomDue_chansBefore (s : State) (d : Nat) (v : Option Nat) : (putDomDue d v s).chansBefore = s.chansBefore := rfl
@[simp] theorem State.putDomDue_free (s : State) (d : Nat) (v : Option Nat) : (putDomDue d v s).free = s.free := rfl
@[simp] theorem State.putDomDue_out (s : State) (d : Nat) (v : Option Nat) : (putDomDue d v s).out = s.out := rfl
@[simp] theorem State.putDomDue_masters (s : State) (d : Nat) (v : Option Nat) : (putDomDue d v s).masters = s.masters := rfl
@[simp] theorem State.putDomDue_time (s : State) (d : Nat) (v : Option Nat) : (putDomDue d v s).time = s.time := rfl
@[simp] theorem State.putDomDue_links (s : State) (d : Nat) (v : Option Nat) : (putDomDue d v s).links = s.links := rfl
@[simp] theorem State.putDomDue_dups (s : State) (d : Nat) (v : Option Nat) : (putDomDue d v s).dups = s.dups := rfl
@[simp] theorem State.putDomDue_tx (s : State) (d : Nat) (v : Option Nat) : (putDomDue d v s).tx = s.tx := rfl
@[simp] theorem State.putDomDue_jr (s : State) (d : Nat) (v : Option Nat) : (putDomDue d v s).jr = s.jr := rfl
@[simp] theorem State.putDomDue_log (s : State) (d : Nat) (v : Option Nat) : (putDomDue d v s).log = s.log := rfl
@[simp] theorem State.putDomDue_flt (s : State) (d : Nat) (v : Option Nat) : (putDomDue d v s).flt = s.flt := rfl
@[simp] theorem State.putDomDue_chans (s : State) (d : Nat) (v : Option Nat) : (putDomDue d v s).chans = s.chans := rfl
@[simp] theorem State.putDomDue_ports (s : State) (d : Nat) (v : Option Nat) : (putDomDue d v s).ports = s.ports := rfl
@[simp] theorem State.putDomDue_rails (s : State) (d : Nat) (v : Option Nat) : (putDomDue d v s).rails = s.rails := rfl
@[simp] theorem State.putDomDue_feeds (s : State) (d : Nat) (v : Option Nat) : (putDomDue d v s).feeds = s.feeds := rfl
@[simp] theorem State.putDomDue_eng (s : State) (d : Nat) (v : Option Nat) : (putDomDue d v s).eng = s.eng := rfl
@[simp] theorem State.putDomDue_tms (s : State) (d : Nat) (v : Option Nat) : (putDomDue d v s).tms = s.tms := rfl
@[simp] theorem State.putDomDue_th (s : State) (d : Nat) (v : Option Nat) : (putDomDue d v s).th = s.th := rfl
@[simp] theorem State.putDomDue_emRun (s : State) (d : Nat) (v : Option Nat) : (putDomDue d v s).emRun = s.emRun := rfl
@[simp] theorem State.putDomDue_obs (s : State) (d : Nat) (v : Option Nat) : (putDomDue d v s).obs = s.obs := rfl
@[simp] theorem State.putDomDue_gal (s : State) (d : Nat) (v : Option Nat) : (putDomDue d v s).gal = s.gal := rfl
@[simp] theorem State.putDomDue_sec (s : State) (d : Nat) (v : Option Nat) : (putDomDue d v s).sec = s.sec := rfl
@[simp] theorem State.putDomDue_host (s : State) (d : Nat) (v : Option Nat) : (putDomDue d v s).host = s.host := rfl
@[simp] theorem State.putDomDue_can (s : State) (d : Nat) (v : Option Nat) : (putDomDue d v s).can = s.can := rfl
@[simp] theorem State.putDomDue_con (s : State) (d : Nat) (v : Option Nat) : (putDomDue d v s).con = s.con := rfl
@[simp] theorem State.putDomDue_walkers (s : State) (d : Nat) (v : Option Nat) : (putDomDue d v s).walkers = s.walkers := rfl
@[simp] theorem State.putDomDue_boot (s : State) (d : Nat) (v : Option Nat) : (putDomDue d v s).boot = s.boot := rfl
@[simp] theorem State.putDomDue_panel (s : State) (d : Nat) (v : Option Nat) : (putDomDue d v s).panel = s.panel := rfl
@[simp] theorem State.putDomDue_parity (s : State) (d : Nat) (v : Option Nat) : (putDomDue d v s).parity = s.parity := rfl
@[simp] theorem State.putDomDue_fades (s : State) (d : Nat) (v : Option Nat) : (putDomDue d v s).fades = s.fades := rfl
@[simp] theorem State.putDomDue_loads (s : State) (d : Nat) (v : Option Nat) : (putDomDue d v s).loads = s.loads := rfl
@[simp] theorem State.putDomDue_jtag (s : State) (d : Nat) (v : Option Nat) : (putDomDue d v s).jtag = s.jtag := rfl
@[simp] theorem State.putDomDue_wing (s : State) (d : Nat) (v : Option Nat) : (putDomDue d v s).wing = s.wing := rfl
@[simp] theorem State.putDomDue_path (s : State) (d : Nat) (v : Option Nat) : (putDomDue d v s).path = s.path := rfl
@[simp] theorem State.putDomDue_calStore (s : State) (d : Nat) (v : Option Nat) : (putDomDue d v s).calStore = s.calStore := rfl

@[simp] theorem State.putHolders_pending (s : State) (d : Nat) (l : List Holder) : (putHolders d l s).pending = s.pending := rfl
@[simp] theorem State.putHolders_obj (s : State) (d : Nat) (l : List Holder) : (putHolders d l s).obj = s.obj := rfl
@[simp] theorem State.putHolders_blob (s : State) (d : Nat) (l : List Holder) : (putHolders d l s).blob = s.blob := rfl
@[simp] theorem State.putHolders_before (s : State) (d : Nat) (l : List Holder) : (putHolders d l s).before = s.before := rfl
@[simp] theorem State.putHolders_snap (s : State) (d : Nat) (l : List Holder) : (putHolders d l s).snap = s.snap := rfl
@[simp] theorem State.putHolders_chansBefore (s : State) (d : Nat) (l : List Holder) : (putHolders d l s).chansBefore = s.chansBefore := rfl
@[simp] theorem State.putHolders_free (s : State) (d : Nat) (l : List Holder) : (putHolders d l s).free = s.free := rfl
@[simp] theorem State.putHolders_out (s : State) (d : Nat) (l : List Holder) : (putHolders d l s).out = s.out := rfl
@[simp] theorem State.putHolders_masters (s : State) (d : Nat) (l : List Holder) : (putHolders d l s).masters = s.masters := rfl
@[simp] theorem State.putHolders_time (s : State) (d : Nat) (l : List Holder) : (putHolders d l s).time = s.time := rfl
@[simp] theorem State.putHolders_links (s : State) (d : Nat) (l : List Holder) : (putHolders d l s).links = s.links := rfl
@[simp] theorem State.putHolders_dups (s : State) (d : Nat) (l : List Holder) : (putHolders d l s).dups = s.dups := rfl
@[simp] theorem State.putHolders_tx (s : State) (d : Nat) (l : List Holder) : (putHolders d l s).tx = s.tx := rfl
@[simp] theorem State.putHolders_jr (s : State) (d : Nat) (l : List Holder) : (putHolders d l s).jr = s.jr := rfl
@[simp] theorem State.putHolders_log (s : State) (d : Nat) (l : List Holder) : (putHolders d l s).log = s.log := rfl
@[simp] theorem State.putHolders_chans (s : State) (d : Nat) (l : List Holder) : (putHolders d l s).chans = s.chans := rfl
@[simp] theorem State.putHolders_ports (s : State) (d : Nat) (l : List Holder) : (putHolders d l s).ports = s.ports := rfl
@[simp] theorem State.putHolders_rails (s : State) (d : Nat) (l : List Holder) : (putHolders d l s).rails = s.rails := rfl
@[simp] theorem State.putHolders_feeds (s : State) (d : Nat) (l : List Holder) : (putHolders d l s).feeds = s.feeds := rfl
@[simp] theorem State.putHolders_eng (s : State) (d : Nat) (l : List Holder) : (putHolders d l s).eng = s.eng := rfl
@[simp] theorem State.putHolders_tms (s : State) (d : Nat) (l : List Holder) : (putHolders d l s).tms = s.tms := rfl
@[simp] theorem State.putHolders_th (s : State) (d : Nat) (l : List Holder) : (putHolders d l s).th = s.th := rfl
@[simp] theorem State.putHolders_domDue (s : State) (d : Nat) (l : List Holder) : (putHolders d l s).domDue = s.domDue := rfl
@[simp] theorem State.putHolders_emRun (s : State) (d : Nat) (l : List Holder) : (putHolders d l s).emRun = s.emRun := rfl
@[simp] theorem State.putHolders_obs (s : State) (d : Nat) (l : List Holder) : (putHolders d l s).obs = s.obs := rfl
@[simp] theorem State.putHolders_gal (s : State) (d : Nat) (l : List Holder) : (putHolders d l s).gal = s.gal := rfl
@[simp] theorem State.putHolders_sec (s : State) (d : Nat) (l : List Holder) : (putHolders d l s).sec = s.sec := rfl
@[simp] theorem State.putHolders_host (s : State) (d : Nat) (l : List Holder) : (putHolders d l s).host = s.host := rfl
@[simp] theorem State.putHolders_can (s : State) (d : Nat) (l : List Holder) : (putHolders d l s).can = s.can := rfl
@[simp] theorem State.putHolders_con (s : State) (d : Nat) (l : List Holder) : (putHolders d l s).con = s.con := rfl
@[simp] theorem State.putHolders_walkers (s : State) (d : Nat) (l : List Holder) : (putHolders d l s).walkers = s.walkers := rfl
@[simp] theorem State.putHolders_boot (s : State) (d : Nat) (l : List Holder) : (putHolders d l s).boot = s.boot := rfl
@[simp] theorem State.putHolders_panel (s : State) (d : Nat) (l : List Holder) : (putHolders d l s).panel = s.panel := rfl
@[simp] theorem State.putHolders_parity (s : State) (d : Nat) (l : List Holder) : (putHolders d l s).parity = s.parity := rfl
@[simp] theorem State.putHolders_fades (s : State) (d : Nat) (l : List Holder) : (putHolders d l s).fades = s.fades := rfl
@[simp] theorem State.putHolders_loads (s : State) (d : Nat) (l : List Holder) : (putHolders d l s).loads = s.loads := rfl
@[simp] theorem State.putHolders_jtag (s : State) (d : Nat) (l : List Holder) : (putHolders d l s).jtag = s.jtag := rfl
@[simp] theorem State.putHolders_wing (s : State) (d : Nat) (l : List Holder) : (putHolders d l s).wing = s.wing := rfl
@[simp] theorem State.putHolders_path (s : State) (d : Nat) (l : List Holder) : (putHolders d l s).path = s.path := rfl
@[simp] theorem State.putHolders_calStore (s : State) (d : Nat) (l : List Holder) : (putHolders d l s).calStore = s.calStore := rfl

@[simp] theorem State.putEmRun_pending (s : State) (m : Nat) (v : Option Nat) : (putEmRun m v s).pending = s.pending := rfl
@[simp] theorem State.putEmRun_obj (s : State) (m : Nat) (v : Option Nat) : (putEmRun m v s).obj = s.obj := rfl
@[simp] theorem State.putEmRun_blob (s : State) (m : Nat) (v : Option Nat) : (putEmRun m v s).blob = s.blob := rfl
@[simp] theorem State.putEmRun_before (s : State) (m : Nat) (v : Option Nat) : (putEmRun m v s).before = s.before := rfl
@[simp] theorem State.putEmRun_snap (s : State) (m : Nat) (v : Option Nat) : (putEmRun m v s).snap = s.snap := rfl
@[simp] theorem State.putEmRun_chansBefore (s : State) (m : Nat) (v : Option Nat) : (putEmRun m v s).chansBefore = s.chansBefore := rfl
@[simp] theorem State.putEmRun_free (s : State) (m : Nat) (v : Option Nat) : (putEmRun m v s).free = s.free := rfl
@[simp] theorem State.putEmRun_out (s : State) (m : Nat) (v : Option Nat) : (putEmRun m v s).out = s.out := rfl
@[simp] theorem State.putEmRun_masters (s : State) (m : Nat) (v : Option Nat) : (putEmRun m v s).masters = s.masters := rfl
@[simp] theorem State.putEmRun_time (s : State) (m : Nat) (v : Option Nat) : (putEmRun m v s).time = s.time := rfl
@[simp] theorem State.putEmRun_links (s : State) (m : Nat) (v : Option Nat) : (putEmRun m v s).links = s.links := rfl
@[simp] theorem State.putEmRun_dups (s : State) (m : Nat) (v : Option Nat) : (putEmRun m v s).dups = s.dups := rfl
@[simp] theorem State.putEmRun_tx (s : State) (m : Nat) (v : Option Nat) : (putEmRun m v s).tx = s.tx := rfl
@[simp] theorem State.putEmRun_jr (s : State) (m : Nat) (v : Option Nat) : (putEmRun m v s).jr = s.jr := rfl
@[simp] theorem State.putEmRun_log (s : State) (m : Nat) (v : Option Nat) : (putEmRun m v s).log = s.log := rfl
@[simp] theorem State.putEmRun_flt (s : State) (m : Nat) (v : Option Nat) : (putEmRun m v s).flt = s.flt := rfl
@[simp] theorem State.putEmRun_chans (s : State) (m : Nat) (v : Option Nat) : (putEmRun m v s).chans = s.chans := rfl
@[simp] theorem State.putEmRun_ports (s : State) (m : Nat) (v : Option Nat) : (putEmRun m v s).ports = s.ports := rfl
@[simp] theorem State.putEmRun_rails (s : State) (m : Nat) (v : Option Nat) : (putEmRun m v s).rails = s.rails := rfl
@[simp] theorem State.putEmRun_feeds (s : State) (m : Nat) (v : Option Nat) : (putEmRun m v s).feeds = s.feeds := rfl
@[simp] theorem State.putEmRun_eng (s : State) (m : Nat) (v : Option Nat) : (putEmRun m v s).eng = s.eng := rfl
@[simp] theorem State.putEmRun_tms (s : State) (m : Nat) (v : Option Nat) : (putEmRun m v s).tms = s.tms := rfl
@[simp] theorem State.putEmRun_th (s : State) (m : Nat) (v : Option Nat) : (putEmRun m v s).th = s.th := rfl
@[simp] theorem State.putEmRun_domDue (s : State) (m : Nat) (v : Option Nat) : (putEmRun m v s).domDue = s.domDue := rfl
@[simp] theorem State.putEmRun_obs (s : State) (m : Nat) (v : Option Nat) : (putEmRun m v s).obs = s.obs := rfl
@[simp] theorem State.putEmRun_gal (s : State) (m : Nat) (v : Option Nat) : (putEmRun m v s).gal = s.gal := rfl
@[simp] theorem State.putEmRun_sec (s : State) (m : Nat) (v : Option Nat) : (putEmRun m v s).sec = s.sec := rfl
@[simp] theorem State.putEmRun_host (s : State) (m : Nat) (v : Option Nat) : (putEmRun m v s).host = s.host := rfl
@[simp] theorem State.putEmRun_can (s : State) (m : Nat) (v : Option Nat) : (putEmRun m v s).can = s.can := rfl
@[simp] theorem State.putEmRun_con (s : State) (m : Nat) (v : Option Nat) : (putEmRun m v s).con = s.con := rfl
@[simp] theorem State.putEmRun_walkers (s : State) (m : Nat) (v : Option Nat) : (putEmRun m v s).walkers = s.walkers := rfl
@[simp] theorem State.putEmRun_boot (s : State) (m : Nat) (v : Option Nat) : (putEmRun m v s).boot = s.boot := rfl
@[simp] theorem State.putEmRun_panel (s : State) (m : Nat) (v : Option Nat) : (putEmRun m v s).panel = s.panel := rfl
@[simp] theorem State.putEmRun_parity (s : State) (m : Nat) (v : Option Nat) : (putEmRun m v s).parity = s.parity := rfl
@[simp] theorem State.putEmRun_fades (s : State) (m : Nat) (v : Option Nat) : (putEmRun m v s).fades = s.fades := rfl
@[simp] theorem State.putEmRun_loads (s : State) (m : Nat) (v : Option Nat) : (putEmRun m v s).loads = s.loads := rfl
@[simp] theorem State.putEmRun_jtag (s : State) (m : Nat) (v : Option Nat) : (putEmRun m v s).jtag = s.jtag := rfl
@[simp] theorem State.putEmRun_wing (s : State) (m : Nat) (v : Option Nat) : (putEmRun m v s).wing = s.wing := rfl
@[simp] theorem State.putEmRun_path (s : State) (m : Nat) (v : Option Nat) : (putEmRun m v s).path = s.path := rfl
@[simp] theorem State.putEmRun_calStore (s : State) (m : Nat) (v : Option Nat) : (putEmRun m v s).calStore = s.calStore := rfl

/-! ### Objects: every update of an object is a `set`, a `setOct` or both -/

@[simp] theorem State.num_set (s : State) (k j : Nat) (v : Int) : (s.set k v).num j = if j = k then v else s.num j := Tab.get_put _ _ _ _ _

@[simp] theorem State.oct_setOct (s : State) (k j : Nat) (b : List Byte) : (s.setOct k b).oct j = if j = k then b else s.oct j := Tab.get_put _ _ _ _ _

@[simp] theorem State.oct_set (s : State) (k j : Nat) (v : Int) : (s.set k v).oct j = s.oct j := rfl

@[simp] theorem State.num_setOct (s : State) (k j : Nat) (b : List Byte) : (s.setOct k b).num j = s.num j := rfl

theorem State.num_congr {s t : State} (h : s.obj = t.obj) (k : Nat) : s.num k = t.num k := by unfold State.num; rw [h]

theorem State.oct_congr {s t : State} (h : s.blob = t.blob) (k : Nat) : s.oct k = t.oct k := by unfold State.oct; rw [h]

theorem State.nat_def (s : State) (k : Nat) : s.nat k = (s.num k).toNat := rfl

theorem State.setFlag_eq (s : State) (k : Nat) (b : Bool) : s.setFlag k b = s.set k (if b then 1 else 0) := rfl

theorem State.setBit_eq (s : State) (k b : Nat) : s.setBit k b = s.set k (bitSet (s.nat k) b : Nat) := rfl

theorem State.clrBit_eq (s : State) (k b : Nat) : s.clrBit k b = s.set k (bitClr (s.nat k) b : Nat) := rfl

theorem State.putBit_eq (s : State) (k b : Nat) (v : Bool) : s.putBit k b v = s.set k (bitPut (s.nat k) b v : Nat) := rfl

theorem State.inc_eq (s : State) (k n : Nat) : s.inc k n = s.set k (min (s.num k + 1) (maxWord n)) := rfl

theorem State.incBy_eq (s : State) (k n : Nat) (d : Int) : s.incBy k n d = s.set k (min (s.num k + d) (maxWord n)) := rfl

theorem State.sticky_eq (s : State) (b : Nat) : s.sticky b = s.set K.fltSticky (bitSet (s.nat K.fltSticky) b : Nat) := rfl

theorem State.say_eq (s : State) (w : String) (l : List Int) : s.say w l = s.emit (.line w l []) := rfl

@[simp] theorem State.drawn_num (s : State) (j : Nat) : (s.drawn).num j = s.num j := rfl
@[simp] theorem State.drawn_oct (s : State) (j : Nat) : (s.drawn).oct j = s.oct j := rfl
@[simp] theorem State.emit_num (s : State) (o : Out) (j : Nat) : (s.emit o).num j = s.num j := rfl
@[simp] theorem State.emit_oct (s : State) (o : Out) (j : Nat) : (s.emit o).oct j = s.oct j := rfl
@[simp] theorem State.setMaster_num (s : State) (m : Nat) (x : Master) (j : Nat) : (s.setMaster m x).num j = s.num j := rfl
@[simp] theorem State.setMaster_oct (s : State) (m : Nat) (x : Master) (j : Nat) : (s.setMaster m x).oct j = s.oct j := rfl
@[simp] theorem State.setChan_num (s : State) (c : Nat) (x : Chan) (j : Nat) : (s.setChan c x).num j = s.num j := rfl
@[simp] theorem State.setChan_oct (s : State) (c : Nat) (x : Chan) (j : Nat) : (s.setChan c x).oct j = s.oct j := rfl
@[simp] theorem State.setWing_num (s : State) (p : Nat) (x : WingPath) (j : Nat) : (s.setWing p x).num j = s.num j := rfl
@[simp] theorem State.setWing_oct (s : State) (p : Nat) (x : WingPath) (j : Nat) : (s.setWing p x).oct j = s.oct j := rfl
@[simp] theorem State.setPath_num (s : State) (c : Nat) (x : Path) (j : Nat) : (s.setPath c x).num j = s.num j := rfl
@[simp] theorem State.setPath_oct (s : State) (c : Nat) (x : Path) (j : Nat) : (s.setPath c x).oct j = s.oct j := rfl
@[simp] theorem State.setPort_num (s : State) (p : Nat) (x : Port) (j : Nat) : (s.setPort p x).num j = s.num j := rfl
@[simp] theorem State.setPort_oct (s : State) (p : Nat) (x : Port) (j : Nat) : (s.setPort p x).oct j = s.oct j := rfl
@[simp] theorem State.setRail_num (s : State) (r : Nat) (x : Rail) (j : Nat) : (s.setRail r x).num j = s.num j := rfl
@[simp] theorem State.setRail_oct (s : State) (r : Nat) (x : Rail) (j : Nat) : (s.setRail r x).oct j = s.oct j := rfl
@[simp] theorem State.setFeed_num (s : State) (f : Nat) (x : Feed) (j : Nat) : (s.setFeed f x).num j = s.num j := rfl
@[simp] theorem State.setFeed_oct (s : State) (f : Nat) (x : Feed) (j : Nat) : (s.setFeed f x).oct j = s.oct j := rfl
@[simp] theorem State.setLink_num (s : State) (l : Nat) (x : Link) (j : Nat) : (s.setLink l x).num j = s.num j := rfl
@[simp] theorem State.setLink_oct (s : State) (l : Nat) (x : Link) (j : Nat) : (s.setLink l x).oct j = s.oct j := rfl
@[simp] theorem State.setTm_num (s : State) (m : Nat) (x : Modulator) (j : Nat) : (s.setTm m x).num j = s.num j := rfl
@[simp] theorem State.setTm_oct (s : State) (m : Nat) (x : Modulator) (j : Nat) : (s.setTm m x).oct j = s.oct j := rfl
@[simp] theorem State.setWalker_num (s : State) (p : Nat) (x : Walker) (j : Nat) : (s.setWalker p x).num j = s.num j := rfl
@[simp] theorem State.setWalker_oct (s : State) (p : Nat) (x : Walker) (j : Nat) : (s.setWalker p x).oct j = s.oct j := rfl
@[simp] theorem State.setKey_num (s : State) (k : Nat) (x : Key) (j : Nat) : (s.setKey k x).num j = s.num j := rfl
@[simp] theorem State.setKey_oct (s : State) (k : Nat) (x : Key) (j : Nat) : (s.setKey k x).oct j = s.oct j := rfl
@[simp] theorem State.setSlot_num (s : State) (i : Nat) (t : Option Tx) (j : Nat) : (setSlot i t s).num j = s.num j := rfl
@[simp] theorem State.setSlot_oct (s : State) (i : Nat) (t : Option Tx) (j : Nat) : (setSlot i t s).oct j = s.oct j := rfl
@[simp] theorem State.putDomDue_num (s : State) (d : Nat) (v : Option Nat) (j : Nat) : (putDomDue d v s).num j = s.num j := rfl
@[simp] theorem State.putDomDue_oct (s : State) (d : Nat) (v : Option Nat) (j : Nat) : (putDomDue d v s).oct j = s.oct j := rfl
@[simp] theorem State.putHolders_num (s : State) (d : Nat) (l : List Holder) (j : Nat) : (putHolders d l s).num j = s.num j := rfl
@[simp] theorem State.putHolders_oct (s : State) (d : Nat) (l : List Holder) (j : Nat) : (putHolders d l s).oct j = s.oct j := rfl
@[simp] theorem State.putEmRun_num (s : State) (m : Nat) (v : Option Nat) (j : Nat) : (putEmRun m v s).num j = s.num j := rfl
@[simp] theorem State.putEmRun_oct (s : State) (m : Nat) (v : Option Nat) (j : Nat) : (putEmRun m v s).oct j = s.oct j := rfl

/-! ### Records: a read after a write -/

@[simp] theorem State.master_setMaster (s : State) (i j : Nat) (x : Master) : (s.setMaster i x).master j = if j = i then x else s.master j := Tab.get_put _ _ _ _ _
@[simp] theorem State.chan_setChan (s : State) (i j : Nat) (x : Chan) : (s.setChan i x).chan j = if j = i then x else s.chan j := Tab.get_put _ _ _ _ _
@[simp] theorem State.port_setPort (s : State) (i j : Nat) (x : Port) : (s.setPort i x).port j = if j = i then x else s.port j := Tab.get_put _ _ _ _ _
@[simp] theorem State.rail_setRail (s : State) (i j : Nat) (x : Rail) : (s.setRail i x).rail j = if j = i then x else s.rail j := Tab.get_put _ _ _ _ _
@[simp] theorem State.feed_setFeed (s : State) (i j : Nat) (x : Feed) : (s.setFeed i x).feed j = if j = i then x else s.feed j := Tab.get_put _ _ _ _ _
@[simp] theorem State.link_setLink (s : State) (i j : Nat) (x : Link) : (s.setLink i x).link j = if j = i then x else s.link j := Tab.get_put _ _ _ _ _
@[simp] theorem State.tm_setTm (s : State) (i j : Nat) (x : Modulator) : (s.setTm i x).tm j = if j = i then x else s.tm j := Tab.get_put _ _ _ _ _
@[simp] theorem State.walker_setWalker (s : State) (i j : Nat) (x : Walker) : (s.setWalker i x).walker j = if j = i then x else s.walker j := Tab.get_put _ _ _ _ _
@[simp] theorem State.key_setKey (s : State) (i j : Nat) (x : Key) : (s.setKey i x).key j = if j = i then x else s.key j := Tab.get_put _ _ _ _ _
@[simp] theorem State.wingOf_setWing (s : State) (i j : Nat) (x : WingPath) : (s.setWing i x).wingOf j = if j = i then x else s.wingOf j := Tab.get_put _ _ _ _ _
@[simp] theorem State.pathOf_setPath (s : State) (i j : Nat) (x : Path) : (s.setPath i x).pathOf j = if j = i then x else s.pathOf j := Tab.get_put _ _ _ _ _
@[simp] theorem State.slot_setSlot (s : State) (i j : Nat) (t : Option Tx) : (setSlot i t s).slot j = if j = i then t else s.slot j := Tab.get_put _ _ _ _ _
@[simp] theorem State.master_set (s : State) (k : Nat) (v : Int) (j : Nat) : (s.set k v).master j = s.master j := rfl
@[simp] theorem State.master_setOct (s : State) (k : Nat) (b : List Byte) (j : Nat) : (s.setOct k b).master j = s.master j := rfl
@[simp] theorem State.master_drawn (s : State) (j : Nat) : (s.drawn).master j = s.master j := rfl
@[simp] theorem State.master_emit (s : State) (o : Out) (j : Nat) : (s.emit o).master j = s.master j := rfl
@[simp] theorem State.master_setChan (s : State) (c : Nat) (x : Chan) (j : Nat) : (s.setChan c x).master j = s.master j := rfl
@[simp] theorem State.master_setWing (s : State) (p : Nat) (x : WingPath) (j : Nat) : (s.setWing p x).master j = s.master j := rfl
@[simp] theorem State.master_setPath (s : State) (c : Nat) (x : Path) (j : Nat) : (s.setPath c x).master j = s.master j := rfl
@[simp] theorem State.master_setPort (s : State) (p : Nat) (x : Port) (j : Nat) : (s.setPort p x).master j = s.master j := rfl
@[simp] theorem State.master_setRail (s : State) (r : Nat) (x : Rail) (j : Nat) : (s.setRail r x).master j = s.master j := rfl
@[simp] theorem State.master_setFeed (s : State) (f : Nat) (x : Feed) (j : Nat) : (s.setFeed f x).master j = s.master j := rfl
@[simp] theorem State.master_setLink (s : State) (l : Nat) (x : Link) (j : Nat) : (s.setLink l x).master j = s.master j := rfl
@[simp] theorem State.master_setTm (s : State) (m : Nat) (x : Modulator) (j : Nat) : (s.setTm m x).master j = s.master j := rfl
@[simp] theorem State.master_setWalker (s : State) (p : Nat) (x : Walker) (j : Nat) : (s.setWalker p x).master j = s.master j := rfl
@[simp] theorem State.master_setKey (s : State) (k : Nat) (x : Key) (j : Nat) : (s.setKey k x).master j = s.master j := rfl
@[simp] theorem State.master_setSlot (s : State) (i : Nat) (t : Option Tx) (j : Nat) : (setSlot i t s).master j = s.master j := rfl
@[simp] theorem State.master_putDomDue (s : State) (d : Nat) (v : Option Nat) (j : Nat) : (putDomDue d v s).master j = s.master j := rfl
@[simp] theorem State.master_putHolders (s : State) (d : Nat) (l : List Holder) (j : Nat) : (putHolders d l s).master j = s.master j := rfl
@[simp] theorem State.master_putEmRun (s : State) (m : Nat) (v : Option Nat) (j : Nat) : (putEmRun m v s).master j = s.master j := rfl
@[simp] theorem State.chan_set (s : State) (k : Nat) (v : Int) (j : Nat) : (s.set k v).chan j = s.chan j := rfl
@[simp] theorem State.chan_setOct (s : State) (k : Nat) (b : List Byte) (j : Nat) : (s.setOct k b).chan j = s.chan j := rfl
@[simp] theorem State.chan_drawn (s : State) (j : Nat) : (s.drawn).chan j = s.chan j := rfl
@[simp] theorem State.chan_emit (s : State) (o : Out) (j : Nat) : (s.emit o).chan j = s.chan j := rfl
@[simp] theorem State.chan_setMaster (s : State) (m : Nat) (x : Master) (j : Nat) : (s.setMaster m x).chan j = s.chan j := rfl
@[simp] theorem State.chan_setWing (s : State) (p : Nat) (x : WingPath) (j : Nat) : (s.setWing p x).chan j = s.chan j := rfl
@[simp] theorem State.chan_setPath (s : State) (c : Nat) (x : Path) (j : Nat) : (s.setPath c x).chan j = s.chan j := rfl
@[simp] theorem State.chan_setPort (s : State) (p : Nat) (x : Port) (j : Nat) : (s.setPort p x).chan j = s.chan j := rfl
@[simp] theorem State.chan_setRail (s : State) (r : Nat) (x : Rail) (j : Nat) : (s.setRail r x).chan j = s.chan j := rfl
@[simp] theorem State.chan_setFeed (s : State) (f : Nat) (x : Feed) (j : Nat) : (s.setFeed f x).chan j = s.chan j := rfl
@[simp] theorem State.chan_setLink (s : State) (l : Nat) (x : Link) (j : Nat) : (s.setLink l x).chan j = s.chan j := rfl
@[simp] theorem State.chan_setTm (s : State) (m : Nat) (x : Modulator) (j : Nat) : (s.setTm m x).chan j = s.chan j := rfl
@[simp] theorem State.chan_setWalker (s : State) (p : Nat) (x : Walker) (j : Nat) : (s.setWalker p x).chan j = s.chan j := rfl
@[simp] theorem State.chan_setKey (s : State) (k : Nat) (x : Key) (j : Nat) : (s.setKey k x).chan j = s.chan j := rfl
@[simp] theorem State.chan_setSlot (s : State) (i : Nat) (t : Option Tx) (j : Nat) : (setSlot i t s).chan j = s.chan j := rfl
@[simp] theorem State.chan_putDomDue (s : State) (d : Nat) (v : Option Nat) (j : Nat) : (putDomDue d v s).chan j = s.chan j := rfl
@[simp] theorem State.chan_putHolders (s : State) (d : Nat) (l : List Holder) (j : Nat) : (putHolders d l s).chan j = s.chan j := rfl
@[simp] theorem State.chan_putEmRun (s : State) (m : Nat) (v : Option Nat) (j : Nat) : (putEmRun m v s).chan j = s.chan j := rfl
@[simp] theorem State.port_set (s : State) (k : Nat) (v : Int) (j : Nat) : (s.set k v).port j = s.port j := rfl
@[simp] theorem State.port_setOct (s : State) (k : Nat) (b : List Byte) (j : Nat) : (s.setOct k b).port j = s.port j := rfl
@[simp] theorem State.port_drawn (s : State) (j : Nat) : (s.drawn).port j = s.port j := rfl
@[simp] theorem State.port_emit (s : State) (o : Out) (j : Nat) : (s.emit o).port j = s.port j := rfl
@[simp] theorem State.port_setMaster (s : State) (m : Nat) (x : Master) (j : Nat) : (s.setMaster m x).port j = s.port j := rfl
@[simp] theorem State.port_setChan (s : State) (c : Nat) (x : Chan) (j : Nat) : (s.setChan c x).port j = s.port j := rfl
@[simp] theorem State.port_setWing (s : State) (p : Nat) (x : WingPath) (j : Nat) : (s.setWing p x).port j = s.port j := rfl
@[simp] theorem State.port_setPath (s : State) (c : Nat) (x : Path) (j : Nat) : (s.setPath c x).port j = s.port j := rfl
@[simp] theorem State.port_setRail (s : State) (r : Nat) (x : Rail) (j : Nat) : (s.setRail r x).port j = s.port j := rfl
@[simp] theorem State.port_setFeed (s : State) (f : Nat) (x : Feed) (j : Nat) : (s.setFeed f x).port j = s.port j := rfl
@[simp] theorem State.port_setLink (s : State) (l : Nat) (x : Link) (j : Nat) : (s.setLink l x).port j = s.port j := rfl
@[simp] theorem State.port_setTm (s : State) (m : Nat) (x : Modulator) (j : Nat) : (s.setTm m x).port j = s.port j := rfl
@[simp] theorem State.port_setWalker (s : State) (p : Nat) (x : Walker) (j : Nat) : (s.setWalker p x).port j = s.port j := rfl
@[simp] theorem State.port_setKey (s : State) (k : Nat) (x : Key) (j : Nat) : (s.setKey k x).port j = s.port j := rfl
@[simp] theorem State.port_setSlot (s : State) (i : Nat) (t : Option Tx) (j : Nat) : (setSlot i t s).port j = s.port j := rfl
@[simp] theorem State.port_putDomDue (s : State) (d : Nat) (v : Option Nat) (j : Nat) : (putDomDue d v s).port j = s.port j := rfl
@[simp] theorem State.port_putHolders (s : State) (d : Nat) (l : List Holder) (j : Nat) : (putHolders d l s).port j = s.port j := rfl
@[simp] theorem State.port_putEmRun (s : State) (m : Nat) (v : Option Nat) (j : Nat) : (putEmRun m v s).port j = s.port j := rfl
@[simp] theorem State.rail_set (s : State) (k : Nat) (v : Int) (j : Nat) : (s.set k v).rail j = s.rail j := rfl
@[simp] theorem State.rail_setOct (s : State) (k : Nat) (b : List Byte) (j : Nat) : (s.setOct k b).rail j = s.rail j := rfl
@[simp] theorem State.rail_drawn (s : State) (j : Nat) : (s.drawn).rail j = s.rail j := rfl
@[simp] theorem State.rail_emit (s : State) (o : Out) (j : Nat) : (s.emit o).rail j = s.rail j := rfl
@[simp] theorem State.rail_setMaster (s : State) (m : Nat) (x : Master) (j : Nat) : (s.setMaster m x).rail j = s.rail j := rfl
@[simp] theorem State.rail_setChan (s : State) (c : Nat) (x : Chan) (j : Nat) : (s.setChan c x).rail j = s.rail j := rfl
@[simp] theorem State.rail_setWing (s : State) (p : Nat) (x : WingPath) (j : Nat) : (s.setWing p x).rail j = s.rail j := rfl
@[simp] theorem State.rail_setPath (s : State) (c : Nat) (x : Path) (j : Nat) : (s.setPath c x).rail j = s.rail j := rfl
@[simp] theorem State.rail_setPort (s : State) (p : Nat) (x : Port) (j : Nat) : (s.setPort p x).rail j = s.rail j := rfl
@[simp] theorem State.rail_setFeed (s : State) (f : Nat) (x : Feed) (j : Nat) : (s.setFeed f x).rail j = s.rail j := rfl
@[simp] theorem State.rail_setLink (s : State) (l : Nat) (x : Link) (j : Nat) : (s.setLink l x).rail j = s.rail j := rfl
@[simp] theorem State.rail_setTm (s : State) (m : Nat) (x : Modulator) (j : Nat) : (s.setTm m x).rail j = s.rail j := rfl
@[simp] theorem State.rail_setWalker (s : State) (p : Nat) (x : Walker) (j : Nat) : (s.setWalker p x).rail j = s.rail j := rfl
@[simp] theorem State.rail_setKey (s : State) (k : Nat) (x : Key) (j : Nat) : (s.setKey k x).rail j = s.rail j := rfl
@[simp] theorem State.rail_setSlot (s : State) (i : Nat) (t : Option Tx) (j : Nat) : (setSlot i t s).rail j = s.rail j := rfl
@[simp] theorem State.rail_putDomDue (s : State) (d : Nat) (v : Option Nat) (j : Nat) : (putDomDue d v s).rail j = s.rail j := rfl
@[simp] theorem State.rail_putHolders (s : State) (d : Nat) (l : List Holder) (j : Nat) : (putHolders d l s).rail j = s.rail j := rfl
@[simp] theorem State.rail_putEmRun (s : State) (m : Nat) (v : Option Nat) (j : Nat) : (putEmRun m v s).rail j = s.rail j := rfl
@[simp] theorem State.feed_set (s : State) (k : Nat) (v : Int) (j : Nat) : (s.set k v).feed j = s.feed j := rfl
@[simp] theorem State.feed_setOct (s : State) (k : Nat) (b : List Byte) (j : Nat) : (s.setOct k b).feed j = s.feed j := rfl
@[simp] theorem State.feed_drawn (s : State) (j : Nat) : (s.drawn).feed j = s.feed j := rfl
@[simp] theorem State.feed_emit (s : State) (o : Out) (j : Nat) : (s.emit o).feed j = s.feed j := rfl
@[simp] theorem State.feed_setMaster (s : State) (m : Nat) (x : Master) (j : Nat) : (s.setMaster m x).feed j = s.feed j := rfl
@[simp] theorem State.feed_setChan (s : State) (c : Nat) (x : Chan) (j : Nat) : (s.setChan c x).feed j = s.feed j := rfl
@[simp] theorem State.feed_setWing (s : State) (p : Nat) (x : WingPath) (j : Nat) : (s.setWing p x).feed j = s.feed j := rfl
@[simp] theorem State.feed_setPath (s : State) (c : Nat) (x : Path) (j : Nat) : (s.setPath c x).feed j = s.feed j := rfl
@[simp] theorem State.feed_setPort (s : State) (p : Nat) (x : Port) (j : Nat) : (s.setPort p x).feed j = s.feed j := rfl
@[simp] theorem State.feed_setRail (s : State) (r : Nat) (x : Rail) (j : Nat) : (s.setRail r x).feed j = s.feed j := rfl
@[simp] theorem State.feed_setLink (s : State) (l : Nat) (x : Link) (j : Nat) : (s.setLink l x).feed j = s.feed j := rfl
@[simp] theorem State.feed_setTm (s : State) (m : Nat) (x : Modulator) (j : Nat) : (s.setTm m x).feed j = s.feed j := rfl
@[simp] theorem State.feed_setWalker (s : State) (p : Nat) (x : Walker) (j : Nat) : (s.setWalker p x).feed j = s.feed j := rfl
@[simp] theorem State.feed_setKey (s : State) (k : Nat) (x : Key) (j : Nat) : (s.setKey k x).feed j = s.feed j := rfl
@[simp] theorem State.feed_setSlot (s : State) (i : Nat) (t : Option Tx) (j : Nat) : (setSlot i t s).feed j = s.feed j := rfl
@[simp] theorem State.feed_putDomDue (s : State) (d : Nat) (v : Option Nat) (j : Nat) : (putDomDue d v s).feed j = s.feed j := rfl
@[simp] theorem State.feed_putHolders (s : State) (d : Nat) (l : List Holder) (j : Nat) : (putHolders d l s).feed j = s.feed j := rfl
@[simp] theorem State.feed_putEmRun (s : State) (m : Nat) (v : Option Nat) (j : Nat) : (putEmRun m v s).feed j = s.feed j := rfl
@[simp] theorem State.link_set (s : State) (k : Nat) (v : Int) (j : Nat) : (s.set k v).link j = s.link j := rfl
@[simp] theorem State.link_setOct (s : State) (k : Nat) (b : List Byte) (j : Nat) : (s.setOct k b).link j = s.link j := rfl
@[simp] theorem State.link_drawn (s : State) (j : Nat) : (s.drawn).link j = s.link j := rfl
@[simp] theorem State.link_emit (s : State) (o : Out) (j : Nat) : (s.emit o).link j = s.link j := rfl
@[simp] theorem State.link_setMaster (s : State) (m : Nat) (x : Master) (j : Nat) : (s.setMaster m x).link j = s.link j := rfl
@[simp] theorem State.link_setChan (s : State) (c : Nat) (x : Chan) (j : Nat) : (s.setChan c x).link j = s.link j := rfl
@[simp] theorem State.link_setWing (s : State) (p : Nat) (x : WingPath) (j : Nat) : (s.setWing p x).link j = s.link j := rfl
@[simp] theorem State.link_setPath (s : State) (c : Nat) (x : Path) (j : Nat) : (s.setPath c x).link j = s.link j := rfl
@[simp] theorem State.link_setPort (s : State) (p : Nat) (x : Port) (j : Nat) : (s.setPort p x).link j = s.link j := rfl
@[simp] theorem State.link_setRail (s : State) (r : Nat) (x : Rail) (j : Nat) : (s.setRail r x).link j = s.link j := rfl
@[simp] theorem State.link_setFeed (s : State) (f : Nat) (x : Feed) (j : Nat) : (s.setFeed f x).link j = s.link j := rfl
@[simp] theorem State.link_setTm (s : State) (m : Nat) (x : Modulator) (j : Nat) : (s.setTm m x).link j = s.link j := rfl
@[simp] theorem State.link_setWalker (s : State) (p : Nat) (x : Walker) (j : Nat) : (s.setWalker p x).link j = s.link j := rfl
@[simp] theorem State.link_setKey (s : State) (k : Nat) (x : Key) (j : Nat) : (s.setKey k x).link j = s.link j := rfl
@[simp] theorem State.link_setSlot (s : State) (i : Nat) (t : Option Tx) (j : Nat) : (setSlot i t s).link j = s.link j := rfl
@[simp] theorem State.link_putDomDue (s : State) (d : Nat) (v : Option Nat) (j : Nat) : (putDomDue d v s).link j = s.link j := rfl
@[simp] theorem State.link_putHolders (s : State) (d : Nat) (l : List Holder) (j : Nat) : (putHolders d l s).link j = s.link j := rfl
@[simp] theorem State.link_putEmRun (s : State) (m : Nat) (v : Option Nat) (j : Nat) : (putEmRun m v s).link j = s.link j := rfl
@[simp] theorem State.tm_set (s : State) (k : Nat) (v : Int) (j : Nat) : (s.set k v).tm j = s.tm j := rfl
@[simp] theorem State.tm_setOct (s : State) (k : Nat) (b : List Byte) (j : Nat) : (s.setOct k b).tm j = s.tm j := rfl
@[simp] theorem State.tm_drawn (s : State) (j : Nat) : (s.drawn).tm j = s.tm j := rfl
@[simp] theorem State.tm_emit (s : State) (o : Out) (j : Nat) : (s.emit o).tm j = s.tm j := rfl
@[simp] theorem State.tm_setMaster (s : State) (m : Nat) (x : Master) (j : Nat) : (s.setMaster m x).tm j = s.tm j := rfl
@[simp] theorem State.tm_setChan (s : State) (c : Nat) (x : Chan) (j : Nat) : (s.setChan c x).tm j = s.tm j := rfl
@[simp] theorem State.tm_setWing (s : State) (p : Nat) (x : WingPath) (j : Nat) : (s.setWing p x).tm j = s.tm j := rfl
@[simp] theorem State.tm_setPath (s : State) (c : Nat) (x : Path) (j : Nat) : (s.setPath c x).tm j = s.tm j := rfl
@[simp] theorem State.tm_setPort (s : State) (p : Nat) (x : Port) (j : Nat) : (s.setPort p x).tm j = s.tm j := rfl
@[simp] theorem State.tm_setRail (s : State) (r : Nat) (x : Rail) (j : Nat) : (s.setRail r x).tm j = s.tm j := rfl
@[simp] theorem State.tm_setFeed (s : State) (f : Nat) (x : Feed) (j : Nat) : (s.setFeed f x).tm j = s.tm j := rfl
@[simp] theorem State.tm_setLink (s : State) (l : Nat) (x : Link) (j : Nat) : (s.setLink l x).tm j = s.tm j := rfl
@[simp] theorem State.tm_setWalker (s : State) (p : Nat) (x : Walker) (j : Nat) : (s.setWalker p x).tm j = s.tm j := rfl
@[simp] theorem State.tm_setKey (s : State) (k : Nat) (x : Key) (j : Nat) : (s.setKey k x).tm j = s.tm j := rfl
@[simp] theorem State.tm_setSlot (s : State) (i : Nat) (t : Option Tx) (j : Nat) : (setSlot i t s).tm j = s.tm j := rfl
@[simp] theorem State.tm_putDomDue (s : State) (d : Nat) (v : Option Nat) (j : Nat) : (putDomDue d v s).tm j = s.tm j := rfl
@[simp] theorem State.tm_putHolders (s : State) (d : Nat) (l : List Holder) (j : Nat) : (putHolders d l s).tm j = s.tm j := rfl
@[simp] theorem State.tm_putEmRun (s : State) (m : Nat) (v : Option Nat) (j : Nat) : (putEmRun m v s).tm j = s.tm j := rfl
@[simp] theorem State.walker_set (s : State) (k : Nat) (v : Int) (j : Nat) : (s.set k v).walker j = s.walker j := rfl
@[simp] theorem State.walker_setOct (s : State) (k : Nat) (b : List Byte) (j : Nat) : (s.setOct k b).walker j = s.walker j := rfl
@[simp] theorem State.walker_drawn (s : State) (j : Nat) : (s.drawn).walker j = s.walker j := rfl
@[simp] theorem State.walker_emit (s : State) (o : Out) (j : Nat) : (s.emit o).walker j = s.walker j := rfl
@[simp] theorem State.walker_setMaster (s : State) (m : Nat) (x : Master) (j : Nat) : (s.setMaster m x).walker j = s.walker j := rfl
@[simp] theorem State.walker_setChan (s : State) (c : Nat) (x : Chan) (j : Nat) : (s.setChan c x).walker j = s.walker j := rfl
@[simp] theorem State.walker_setWing (s : State) (p : Nat) (x : WingPath) (j : Nat) : (s.setWing p x).walker j = s.walker j := rfl
@[simp] theorem State.walker_setPath (s : State) (c : Nat) (x : Path) (j : Nat) : (s.setPath c x).walker j = s.walker j := rfl
@[simp] theorem State.walker_setPort (s : State) (p : Nat) (x : Port) (j : Nat) : (s.setPort p x).walker j = s.walker j := rfl
@[simp] theorem State.walker_setRail (s : State) (r : Nat) (x : Rail) (j : Nat) : (s.setRail r x).walker j = s.walker j := rfl
@[simp] theorem State.walker_setFeed (s : State) (f : Nat) (x : Feed) (j : Nat) : (s.setFeed f x).walker j = s.walker j := rfl
@[simp] theorem State.walker_setLink (s : State) (l : Nat) (x : Link) (j : Nat) : (s.setLink l x).walker j = s.walker j := rfl
@[simp] theorem State.walker_setTm (s : State) (m : Nat) (x : Modulator) (j : Nat) : (s.setTm m x).walker j = s.walker j := rfl
@[simp] theorem State.walker_setKey (s : State) (k : Nat) (x : Key) (j : Nat) : (s.setKey k x).walker j = s.walker j := rfl
@[simp] theorem State.walker_setSlot (s : State) (i : Nat) (t : Option Tx) (j : Nat) : (setSlot i t s).walker j = s.walker j := rfl
@[simp] theorem State.walker_putDomDue (s : State) (d : Nat) (v : Option Nat) (j : Nat) : (putDomDue d v s).walker j = s.walker j := rfl
@[simp] theorem State.walker_putHolders (s : State) (d : Nat) (l : List Holder) (j : Nat) : (putHolders d l s).walker j = s.walker j := rfl
@[simp] theorem State.walker_putEmRun (s : State) (m : Nat) (v : Option Nat) (j : Nat) : (putEmRun m v s).walker j = s.walker j := rfl
@[simp] theorem State.key_set (s : State) (k : Nat) (v : Int) (j : Nat) : (s.set k v).key j = s.key j := rfl
@[simp] theorem State.key_setOct (s : State) (k : Nat) (b : List Byte) (j : Nat) : (s.setOct k b).key j = s.key j := rfl
@[simp] theorem State.key_drawn (s : State) (j : Nat) : (s.drawn).key j = s.key j := rfl
@[simp] theorem State.key_emit (s : State) (o : Out) (j : Nat) : (s.emit o).key j = s.key j := rfl
@[simp] theorem State.key_setMaster (s : State) (m : Nat) (x : Master) (j : Nat) : (s.setMaster m x).key j = s.key j := rfl
@[simp] theorem State.key_setChan (s : State) (c : Nat) (x : Chan) (j : Nat) : (s.setChan c x).key j = s.key j := rfl
@[simp] theorem State.key_setWing (s : State) (p : Nat) (x : WingPath) (j : Nat) : (s.setWing p x).key j = s.key j := rfl
@[simp] theorem State.key_setPath (s : State) (c : Nat) (x : Path) (j : Nat) : (s.setPath c x).key j = s.key j := rfl
@[simp] theorem State.key_setPort (s : State) (p : Nat) (x : Port) (j : Nat) : (s.setPort p x).key j = s.key j := rfl
@[simp] theorem State.key_setRail (s : State) (r : Nat) (x : Rail) (j : Nat) : (s.setRail r x).key j = s.key j := rfl
@[simp] theorem State.key_setFeed (s : State) (f : Nat) (x : Feed) (j : Nat) : (s.setFeed f x).key j = s.key j := rfl
@[simp] theorem State.key_setLink (s : State) (l : Nat) (x : Link) (j : Nat) : (s.setLink l x).key j = s.key j := rfl
@[simp] theorem State.key_setTm (s : State) (m : Nat) (x : Modulator) (j : Nat) : (s.setTm m x).key j = s.key j := rfl
@[simp] theorem State.key_setWalker (s : State) (p : Nat) (x : Walker) (j : Nat) : (s.setWalker p x).key j = s.key j := rfl
@[simp] theorem State.key_setSlot (s : State) (i : Nat) (t : Option Tx) (j : Nat) : (setSlot i t s).key j = s.key j := rfl
@[simp] theorem State.key_putDomDue (s : State) (d : Nat) (v : Option Nat) (j : Nat) : (putDomDue d v s).key j = s.key j := rfl
@[simp] theorem State.key_putHolders (s : State) (d : Nat) (l : List Holder) (j : Nat) : (putHolders d l s).key j = s.key j := rfl
@[simp] theorem State.key_putEmRun (s : State) (m : Nat) (v : Option Nat) (j : Nat) : (putEmRun m v s).key j = s.key j := rfl
@[simp] theorem State.wingOf_set (s : State) (k : Nat) (v : Int) (j : Nat) : (s.set k v).wingOf j = s.wingOf j := rfl
@[simp] theorem State.wingOf_setOct (s : State) (k : Nat) (b : List Byte) (j : Nat) : (s.setOct k b).wingOf j = s.wingOf j := rfl
@[simp] theorem State.wingOf_drawn (s : State) (j : Nat) : (s.drawn).wingOf j = s.wingOf j := rfl
@[simp] theorem State.wingOf_emit (s : State) (o : Out) (j : Nat) : (s.emit o).wingOf j = s.wingOf j := rfl
@[simp] theorem State.wingOf_setMaster (s : State) (m : Nat) (x : Master) (j : Nat) : (s.setMaster m x).wingOf j = s.wingOf j := rfl
@[simp] theorem State.wingOf_setChan (s : State) (c : Nat) (x : Chan) (j : Nat) : (s.setChan c x).wingOf j = s.wingOf j := rfl
@[simp] theorem State.wingOf_setPath (s : State) (c : Nat) (x : Path) (j : Nat) : (s.setPath c x).wingOf j = s.wingOf j := rfl
@[simp] theorem State.wingOf_setPort (s : State) (p : Nat) (x : Port) (j : Nat) : (s.setPort p x).wingOf j = s.wingOf j := rfl
@[simp] theorem State.wingOf_setRail (s : State) (r : Nat) (x : Rail) (j : Nat) : (s.setRail r x).wingOf j = s.wingOf j := rfl
@[simp] theorem State.wingOf_setFeed (s : State) (f : Nat) (x : Feed) (j : Nat) : (s.setFeed f x).wingOf j = s.wingOf j := rfl
@[simp] theorem State.wingOf_setLink (s : State) (l : Nat) (x : Link) (j : Nat) : (s.setLink l x).wingOf j = s.wingOf j := rfl
@[simp] theorem State.wingOf_setTm (s : State) (m : Nat) (x : Modulator) (j : Nat) : (s.setTm m x).wingOf j = s.wingOf j := rfl
@[simp] theorem State.wingOf_setWalker (s : State) (p : Nat) (x : Walker) (j : Nat) : (s.setWalker p x).wingOf j = s.wingOf j := rfl
@[simp] theorem State.wingOf_setKey (s : State) (k : Nat) (x : Key) (j : Nat) : (s.setKey k x).wingOf j = s.wingOf j := rfl
@[simp] theorem State.wingOf_setSlot (s : State) (i : Nat) (t : Option Tx) (j : Nat) : (setSlot i t s).wingOf j = s.wingOf j := rfl
@[simp] theorem State.wingOf_putDomDue (s : State) (d : Nat) (v : Option Nat) (j : Nat) : (putDomDue d v s).wingOf j = s.wingOf j := rfl
@[simp] theorem State.wingOf_putHolders (s : State) (d : Nat) (l : List Holder) (j : Nat) : (putHolders d l s).wingOf j = s.wingOf j := rfl
@[simp] theorem State.wingOf_putEmRun (s : State) (m : Nat) (v : Option Nat) (j : Nat) : (putEmRun m v s).wingOf j = s.wingOf j := rfl
@[simp] theorem State.pathOf_set (s : State) (k : Nat) (v : Int) (j : Nat) : (s.set k v).pathOf j = s.pathOf j := rfl
@[simp] theorem State.pathOf_setOct (s : State) (k : Nat) (b : List Byte) (j : Nat) : (s.setOct k b).pathOf j = s.pathOf j := rfl
@[simp] theorem State.pathOf_drawn (s : State) (j : Nat) : (s.drawn).pathOf j = s.pathOf j := rfl
@[simp] theorem State.pathOf_emit (s : State) (o : Out) (j : Nat) : (s.emit o).pathOf j = s.pathOf j := rfl
@[simp] theorem State.pathOf_setMaster (s : State) (m : Nat) (x : Master) (j : Nat) : (s.setMaster m x).pathOf j = s.pathOf j := rfl
@[simp] theorem State.pathOf_setChan (s : State) (c : Nat) (x : Chan) (j : Nat) : (s.setChan c x).pathOf j = s.pathOf j := rfl
@[simp] theorem State.pathOf_setWing (s : State) (p : Nat) (x : WingPath) (j : Nat) : (s.setWing p x).pathOf j = s.pathOf j := rfl
@[simp] theorem State.pathOf_setPort (s : State) (p : Nat) (x : Port) (j : Nat) : (s.setPort p x).pathOf j = s.pathOf j := rfl
@[simp] theorem State.pathOf_setRail (s : State) (r : Nat) (x : Rail) (j : Nat) : (s.setRail r x).pathOf j = s.pathOf j := rfl
@[simp] theorem State.pathOf_setFeed (s : State) (f : Nat) (x : Feed) (j : Nat) : (s.setFeed f x).pathOf j = s.pathOf j := rfl
@[simp] theorem State.pathOf_setLink (s : State) (l : Nat) (x : Link) (j : Nat) : (s.setLink l x).pathOf j = s.pathOf j := rfl
@[simp] theorem State.pathOf_setTm (s : State) (m : Nat) (x : Modulator) (j : Nat) : (s.setTm m x).pathOf j = s.pathOf j := rfl
@[simp] theorem State.pathOf_setWalker (s : State) (p : Nat) (x : Walker) (j : Nat) : (s.setWalker p x).pathOf j = s.pathOf j := rfl
@[simp] theorem State.pathOf_setKey (s : State) (k : Nat) (x : Key) (j : Nat) : (s.setKey k x).pathOf j = s.pathOf j := rfl
@[simp] theorem State.pathOf_setSlot (s : State) (i : Nat) (t : Option Tx) (j : Nat) : (setSlot i t s).pathOf j = s.pathOf j := rfl
@[simp] theorem State.pathOf_putDomDue (s : State) (d : Nat) (v : Option Nat) (j : Nat) : (putDomDue d v s).pathOf j = s.pathOf j := rfl
@[simp] theorem State.pathOf_putHolders (s : State) (d : Nat) (l : List Holder) (j : Nat) : (putHolders d l s).pathOf j = s.pathOf j := rfl
@[simp] theorem State.pathOf_putEmRun (s : State) (m : Nat) (v : Option Nat) (j : Nat) : (putEmRun m v s).pathOf j = s.pathOf j := rfl

end Sys2Proof.Machine
end

