-- ==== Sys2Proof/Laws/Bits.lean ====
section
/-! SUPPORT. Bits of words, and what the bit and counter operations of an object come to. -/

namespace Sys2Proof.Machine

/-! ### Words -/

theorem testBit_bitSet (w b j : Nat) : (bitSet w b).testBit j = (w.testBit j || decide (b = j)) := by
  simp [bitSet, Nat.testBit_or, Nat.testBit_two_pow]

theorem or_eq_add_of_disjoint (x : Nat) : ∀ y, x &&& y = 0 → x ||| y = x + y := by
  induction x using Nat.strongRecOn with
  | ind x ih =>
    intro y h
    by_cases hx : x = 0
    · subst hx; simp
    have h1 := ih (x / 2) (by omega) (y / 2) (by rw [← Nat.and_div_two, h])
    have h2 : (x ||| y) / 2 = x / 2 ||| y / 2 := Nat.or_div_two
    have h3 : (x ||| y).testBit 0 = (x.testBit 0 || y.testBit 0) := Nat.testBit_or x y 0
    have h4 : (x &&& y).testBit 0 = (x.testBit 0 && y.testBit 0) := Nat.testBit_and x y 0
    rw [h] at h4
    simp only [Nat.testBit_zero, Nat.zero_mod] at h3 h4
    have h5 : x % 2 = 0 ∨ x % 2 = 1 := by omega
    have h6 : y % 2 = 0 ∨ y % 2 = 1 := by omega
    have h7 : (x ||| y) % 2 = 0 ∨ (x ||| y) % 2 = 1 := by omega
    rcases h5 with h5 | h5 <;> rcases h6 with h6 | h6 <;> rcases h7 with h7 | h7 <;> simp [h5, h6, h7] at h3 h4 <;> omega

theorem bitClr_eq_xor (w b : Nat) : bitClr w b = w &&& (w ^^^ 2 ^ b) := by
  unfold bitClr
  split
  · next h =>
    have h1 : w &&& 2 ^ b = 2 ^ b := by
      apply Nat.eq_of_testBit_eq; intro j
      simp only [Nat.testBit_and, Nat.testBit_two_pow]
      by_cases hj : b = j
      · subst hj; simp [h]
      · simp [hj]
    have h2 : w = (w &&& (w ^^^ 2 ^ b)) + 2 ^ b := by
      have h3 : (w &&& (w ^^^ 2 ^ b)) &&& 2 ^ b = 0 := by
        apply Nat.eq_of_testBit_eq; intro j
        simp only [Nat.testBit_and, Nat.testBit_xor, Nat.testBit_two_pow, Nat.zero_testBit]
        by_cases hj : b = j
        · subst hj; simp [h]
        · simp [hj]
      have h4 : (w &&& (w ^^^ 2 ^ b)) ||| 2 ^ b = w := by
        apply Nat.eq_of_testBit_eq; intro j
        simp only [Nat.testBit_or, Nat.testBit_and, Nat.testBit_xor, Nat.testBit_two_pow]
        by_cases hj : b = j
        · subst hj; simp [h]
        · simp [hj]
      have h5 := or_eq_add_of_disjoint (w &&& (w ^^^ 2 ^ b)) (2 ^ b) h3
      omega
    omega
  · next h =>
    apply Nat.eq_of_testBit_eq; intro j
    simp only [Nat.testBit_and, Nat.testBit_xor, Nat.testBit_two_pow]
    by_cases hj : b = j
    · subst hj; simp [h]
    · simp [hj]

theorem testBit_bitClr (w b j : Nat) : (bitClr w b).testBit j = (w.testBit j && !decide (b = j)) := by
  rw [bitClr_eq_xor]
  simp only [Nat.testBit_and, Nat.testBit_xor, Nat.testBit_two_pow]
  cases w.testBit j <;> cases decide (b = j) <;> rfl

theorem testBit_bitPut (w b j : Nat) (v : Bool) : (bitPut w b v).testBit j = if b = j then v else w.testBit j := by
  unfold bitPut
  split
  · next h => subst h; by_cases hj : b = j <;> simp [testBit_bitSet, hj]
  · next h => by_cases hj : b = j <;> simp_all [testBit_bitClr]

/-! ### Objects -/

theorem State.nat_set (s : State) (k j : Nat) (v : Int) : (s.set k v).nat j = if j = k then v.toNat else s.nat j := by
  unfold State.nat; rw [State.num_set]; split <;> rfl

theorem State.flag_set (s : State) (k j : Nat) (v : Int) : (s.set k v).flag j = if j = k then decide (v ≠ 0) else s.flag j := by
  unfold State.flag; rw [State.num_set]; split <;> rfl

theorem State.bit_set (s : State) (k j b : Nat) (v : Int) : (s.set k v).bit j b = if j = k then v.toNat.testBit b else s.bit j b := by
  unfold State.bit; rw [State.nat_set]; split <;> rfl

@[simp] theorem State.num_inc (s : State) (k n j : Nat) : (s.inc k n).num j = if j = k then min (s.num k + 1) (maxWord n) else s.num j := State.num_set _ _ _ _

@[simp] theorem State.num_incBy (s : State) (k n j : Nat) (d : Int) : (s.incBy k n d).num j = if j = k then min (s.num k + d) (maxWord n) else s.num j :=
  State.num_set _ _ _ _

@[simp] theorem State.num_setBit (s : State) (k b j : Nat) : (s.setBit k b).num j = if j = k then (bitSet (s.nat k) b : Int) else s.num j := State.num_set _ _ _ _

@[simp] theorem State.num_clrBit (s : State) (k b j : Nat) : (s.clrBit k b).num j = if j = k then (bitClr (s.nat k) b : Int) else s.num j := State.num_set _ _ _ _

@[simp] theorem State.num_putBit (s : State) (k b j : Nat) (v : Bool) : (s.putBit k b v).num j = if j = k then (bitPut (s.nat k) b v : Int) else s.num j :=
  State.num_set _ _ _ _

@[simp] theorem State.num_setFlag (s : State) (k j : Nat) (b : Bool) : (s.setFlag k b).num j = if j = k then (if b then 1 else 0) else s.num j :=
  State.num_set _ _ _ _

theorem State.bit_setBit (s : State) (k b j c : Nat) : (s.setBit k b).bit j c = if j = k then (s.bit k c || decide (b = c)) else s.bit j c := by
  unfold State.setBit; rw [State.bit_set]; simp [testBit_bitSet, State.bit]

theorem State.bit_clrBit (s : State) (k b j c : Nat) : (s.clrBit k b).bit j c = if j = k then (s.bit k c && !decide (b = c)) else s.bit j c := by
  unfold State.clrBit; rw [State.bit_set]; simp [testBit_bitClr, State.bit]

theorem State.bit_putBit (s : State) (k b j c : Nat) (v : Bool) : (s.putBit k b v).bit j c = if j = k then (if b = c then v else s.bit k c) else s.bit j c := by
  unfold State.putBit; rw [State.bit_set]; simp [testBit_bitPut, State.bit]

@[simp] theorem State.bit_setBit_self (s : State) (k b : Nat) : (s.setBit k b).bit k b = true := by simp [State.bit_setBit]

@[simp] theorem State.bit_clrBit_self (s : State) (k b : Nat) : (s.clrBit k b).bit k b = false := by simp [State.bit_clrBit]

@[simp] theorem State.bit_putBit_self (s : State) (k b : Nat) (v : Bool) : (s.putBit k b v).bit k b = v := by simp [State.bit_putBit]

end Sys2Proof.Machine
end

