-- ==== Sys2Proof/Laws/Keeps.lean ====
section
/-! SUPPORT. No operation takes a command from the queue or puts one into it, and each keeps the object tables in their canonical form: the
relation Keeps, its lemmas, and one lemma per operation of the general modules. -/

set_option linter.all false

namespace Sys2Proof.Machine

/-- From s to t no command has joined or left the queue, and canonical tables have stayed canonical. -/
def Keeps (s t : State) : Prop := t.pending = s.pending ∧ (Canonical s → Canonical t)

theorem keeps_refl (s : State) : Keeps s s := ⟨rfl, id⟩
theorem keeps_mk {s0 s t : State} (h1 : t.pending = s.pending) (h2 : t.obj = s.obj) (h3 : t.blob = s.blob) (h : Keeps s0 s) : Keeps s0 t := by
  obtain ⟨a, b⟩ := h
  refine ⟨h1.trans a, fun c => ?_⟩
  have := b c
  unfold Canonical at *
  rw [h2, h3]; exact this
theorem keeps_upd {s0 s : State} {before : Tab Int} {snap : Tab Int} {chansBefore : Tab Chan} {free : Nat} {out : List Out} {masters : Tab Master} {time : Time} {links : Tab Link} {dups : List Nat} {tx : Vestibule} {jr : Journal} {log : Recorder} {flt : Faults} {chans : Tab Chan} {ports : Tab Port} {rails : Tab Rail} {feeds : Tab Feed} {eng : Engine} {tms : Tab Modulator} {th : Thermal} {domDue : Tab (Option Nat)} {emRun : Tab (Option Nat)} {obs : Tab Obs} {gal : Gallery} {sec : Cloister} {host : HostIf} {can : Can} {con : Console} {walkers : Tab Walker} {boot : Boot} {panel : Panel} {parity : Tab (List Nat)} {fades : Tab Nat} {loads : Tab (Option Nat)} {jtag : Jtag} {wing : Tab WingPath} {path : Tab Path} {calStore : Tab Int} (h : Keeps s0 s) :
    Keeps s0 (State.mk s.pending s.obj s.blob before snap chansBefore free out masters time links dups tx jr log flt chans ports rails feeds eng tms th domDue emRun obs gal sec host can con walkers boot panel parity fades loads jtag wing path calStore) :=
  ⟨h.1, h.2⟩
theorem keeps_upd_iff {s0 s : State} {before : Tab Int} {snap : Tab Int} {chansBefore : Tab Chan} {free : Nat} {out : List Out} {masters : Tab Master} {time : Time} {links : Tab Link} {dups : List Nat} {tx : Vestibule} {jr : Journal} {log : Recorder} {flt : Faults} {chans : Tab Chan} {ports : Tab Port} {rails : Tab Rail} {feeds : Tab Feed} {eng : Engine} {tms : Tab Modulator} {th : Thermal} {domDue : Tab (Option Nat)} {emRun : Tab (Option Nat)} {obs : Tab Obs} {gal : Gallery} {sec : Cloister} {host : HostIf} {can : Can} {con : Console} {walkers : Tab Walker} {boot : Boot} {panel : Panel} {parity : Tab (List Nat)} {fades : Tab Nat} {loads : Tab (Option Nat)} {jtag : Jtag} {wing : Tab WingPath} {path : Tab Path} {calStore : Tab Int} :
    Keeps s0 (State.mk s.pending s.obj s.blob before snap chansBefore free out masters time links dups tx jr log flt chans ports rails feeds eng tms th domDue emRun obs gal sec host can con walkers boot panel parity fades loads jtag wing path calStore) ↔ Keeps s0 s :=
  ⟨fun h => ⟨h.1, h.2⟩, fun h => ⟨h.1, h.2⟩⟩
theorem keeps_ite {c : Prop} [Decidable c] {s0 s t : State} (h1 : Keeps s0 s) (h2 : Keeps s0 t) : Keeps s0 (if c then s else t) := by
  split <;> assumption
theorem keeps_ite_st {c : Prop} [Decidable c] {s0 : State} {s t : Reply} (h1 : Keeps s0 s.st) (h2 : Keeps s0 t.st) : Keeps s0 (if c then s else t).st := by
  split <;> assumption
theorem forL_keeps {α : Type} {s0 : State} {f : α → State → State} (hf : ∀ a s, Keeps s0 s → Keeps s0 (f a s)) {l : List α} {s : State} (h : Keeps s0 s) :
    Keeps s0 (forL l f s) := by
  unfold forL
  induction l generalizing s with
  | nil => exact h
  | cons a l ih => exact ih (hf a s h)
theorem forN_keeps {s0 : State} {f : Nat → State → State} (hf : ∀ a s, Keeps s0 s → Keeps s0 (f a s)) {n : Nat} {s : State} (h : Keeps s0 s) :
    Keeps s0 (forN n f s) := forL_keeps (l := List.range n) hf h
theorem State_set_keeps {s0 s : State} (k : Nat) (v : Int) (h : Keeps s0 s) : Keeps s0 (s.set k v) := by
  refine ⟨h.1, fun c => ⟨Tab.wf_put _ _ _ (h.2 c).1, (h.2 c).2⟩⟩
theorem State_setOct_keeps {s0 s : State} (k : Nat) (v : List Byte) (h : Keeps s0 s) : Keeps s0 (s.setOct k v) := by
  refine ⟨h.1, fun c => ⟨(h.2 c).1, Tab.wf_put _ _ _ (h.2 c).2⟩⟩

theorem State_setFlag_keeps (k : Nat) (b : Bool) {s0 s : State} (hk : Keeps s0 s) : Keeps s0 (State.setFlag s k b) := by
  unfold State.setFlag
  try dsimp only
  repeat' (first | with_reducible assumption | with_reducible apply State_set_keeps | with_reducible apply keeps_ite | split | intro _)

theorem State_setBit_keeps (k : Nat) (b : Nat) {s0 s : State} (hk : Keeps s0 s) : Keeps s0 (State.setBit s k b) := by
  unfold State.setBit
  try dsimp only
  repeat' (first | with_reducible assumption | with_reducible apply State_set_keeps | intro _)

theorem State_clrBit_keeps (k : Nat) (b : Nat) {s0 s : State} (hk : Keeps s0 s) : Keeps s0 (State.clrBit s k b) := by
  unfold State.clrBit
  try dsimp only
  repeat' (first | with_reducible assumption | with_reducible apply State_set_keeps | intro _)

theorem State_putBit_keeps (k : Nat) (b : Nat) (v : Bool) {s0 s : State} (hk : Keeps s0 s) : Keeps s0 (State.putBit s k b v) := by
  unfold State.putBit
  try dsimp only
  repeat' (first | with_reducible assumption | with_reducible apply State_set_keeps | intro _)

theorem State_setVal_keeps (k : Nat) (v : Val) {s0 s : State} (hk : Keeps s0 s) : Keeps s0 (s.setVal k v) := by
  cases v
  · exact State_set_keeps _ _ hk
  · exact State_setOct_keeps _ _ hk

theorem State_inc_keeps (k : Nat) (n : Nat) {s0 s : State} (hk : Keeps s0 s) : Keeps s0 (State.inc s k n) := by
  unfold State.inc
  try dsimp only
  repeat' (first | with_reducible assumption | with_reducible apply State_set_keeps | intro _)

theorem State_incBy_keeps (k : Nat) (n : Nat) (d : Int) {s0 s : State} (hk : Keeps s0 s) : Keeps s0 (State.incBy s k n d) := by
  unfold State.incBy
  try dsimp only
  repeat' (first | with_reducible assumption | with_reducible apply State_set_keeps | intro _)

theorem State_drawn_keeps  {s0 s : State} (hk : Keeps s0 s) : Keeps s0 (State.drawn s) := by
  unfold State.drawn
  try dsimp only
  repeat' (first | with_reducible assumption | simp only [keeps_upd_iff] | intro _)

theorem State_setMaster_keeps (m : Nat) (x : Master) {s0 s : State} (hk : Keeps s0 s) : Keeps s0 (State.setMaster s m x) := by
  unfold State.setMaster
  try dsimp only
  repeat' (first | with_reducible assumption | simp only [keeps_upd_iff] | intro _)

theorem State_emit_keeps (o : Out) {s0 s : State} (hk : Keeps s0 s) : Keeps s0 (State.emit s o) := by
  unfold State.emit
  try dsimp only
  repeat' (first | with_reducible assumption | simp only [keeps_upd_iff] | intro _)

theorem State_say_keeps (w : String) (nums : List Int) {s0 s : State} (hk : Keeps s0 s) : Keeps s0 (State.say s w nums) := by
  unfold State.say
  try dsimp only
  repeat' (first | with_reducible assumption | with_reducible apply State_emit_keeps | intro _)

theorem irq_keeps (v : Nat) {s0 s : State} (hk : Keeps s0 s) : Keeps s0 (irq v s) := by
  unfold irq
  try dsimp only
  repeat' (first | with_reducible assumption | with_reducible apply State_emit_keeps | with_reducible apply keeps_ite | split | simp only [keeps_upd_iff] | intro _)

theorem State_setWing_keeps (p : Nat) (x : WingPath) {s0 s : State} (hk : Keeps s0 s) : Keeps s0 (State.setWing s p x) := by
  unfold State.setWing
  try dsimp only
  repeat' (first | with_reducible assumption | simp only [keeps_upd_iff] | intro _)

theorem State_setPath_keeps (c : Nat) (x : Path) {s0 s : State} (hk : Keeps s0 s) : Keeps s0 (State.setPath s c x) := by
  unfold State.setPath
  try dsimp only
  repeat' (first | with_reducible assumption | simp only [keeps_upd_iff] | intro _)

theorem putResponse_keeps (o : Out) {s0 s : State} (hk : Keeps s0 s) : Keeps s0 (putResponse o s) := by
  unfold putResponse
  try dsimp only
  repeat' (first | with_reducible assumption | with_reducible apply irq_keeps | with_reducible apply State_emit_keeps | simp only [keeps_upd_iff] | intro _)

theorem ringFrame_keeps (o : Out) {s0 s : State} (hk : Keeps s0 s) : Keeps s0 (ringFrame o s) := by
  unfold ringFrame
  try dsimp only
  repeat' (first | with_reducible assumption | with_reducible apply putResponse_keeps | with_reducible apply keeps_ite | split | simp only [keeps_upd_iff] | intro _)

theorem State_sticky_keeps (b : Nat) {s0 s : State} (hk : Keeps s0 s) : Keeps s0 (State.sticky s b) := by
  unfold State.sticky
  try dsimp only
  repeat' (first | with_reducible assumption | with_reducible apply State_setBit_keeps | intro _)

theorem State_setChan_keeps (c : Nat) (x : Chan) {s0 s : State} (hk : Keeps s0 s) : Keeps s0 (State.setChan s c x) := by
  unfold State.setChan
  try dsimp only
  repeat' (first | with_reducible assumption | simp only [keeps_upd_iff] | intro _)

theorem setGain_keeps (c : Nat) (g : Int) {s0 s : State} (hk : Keeps s0 s) : Keeps s0 (setGain c g s) := by
  unfold setGain
  try dsimp only
  repeat' (first | with_reducible assumption | with_reducible apply State_putBit_keeps | with_reducible apply State_set_keeps | intro _)

theorem reload_keeps (c : Nat) {s0 s : State} (hk : Keeps s0 s) : Keeps s0 (reload c s) := by
  unfold reload
  try dsimp only
  repeat' (first | with_reducible assumption | with_reducible apply setGain_keeps | with_reducible apply State_drawn_keeps | with_reducible apply State_setChan_keeps | with_reducible apply State_inc_keeps | with_reducible apply State_set_keeps | simp only [keeps_upd_iff] | intro _)

theorem markWindow_keeps (c : Nat) {s0 s : State} (hk : Keeps s0 s) : Keeps s0 (markWindow c s) := by
  unfold markWindow
  try dsimp only
  repeat' (first | with_reducible assumption | with_reducible apply State_setChan_keeps | with_reducible apply keeps_ite | split | simp only [keeps_upd_iff] | intro _)

theorem raiseCh_keeps (c : Nat) (b : Nat) {s0 s : State} (hk : Keeps s0 s) : Keeps s0 (raiseCh c b s) := by
  unfold raiseCh
  try dsimp only
  repeat' (first | with_reducible assumption | with_reducible apply State_setChan_keeps | with_reducible apply State_setBit_keeps | with_reducible apply keeps_ite | split | simp only [keeps_upd_iff] | intro _)

theorem releaseCh_keeps (c : Nat) (b : Nat) {s0 s : State} (hk : Keeps s0 s) : Keeps s0 (releaseCh c b s) := by
  unfold releaseCh
  try dsimp only
  repeat' (first | with_reducible assumption | with_reducible apply reload_keeps | with_reducible apply markWindow_keeps | with_reducible apply State_clrBit_keeps | with_reducible apply State_setChan_keeps | with_reducible apply keeps_ite | split | simp only [keeps_upd_iff] | intro _)

theorem raisePort_keeps (p : Nat) (b : Nat) {s0 s : State} (hk : Keeps s0 s) : Keeps s0 (raisePort p b s) := by
  unfold raisePort
  try dsimp only
  repeat' (first | with_reducible assumption | with_reducible apply irq_keeps | with_reducible apply State_setBit_keeps | with_reducible apply keeps_ite | split | intro _)

theorem releasePort_keeps (p : Nat) (b : Nat) {s0 s : State} (hk : Keeps s0 s) : Keeps s0 (releasePort p b s) := by
  unfold releasePort
  try dsimp only
  repeat' (first | with_reducible assumption | with_reducible apply irq_keeps | with_reducible apply State_clrBit_keeps | with_reducible apply keeps_ite | split | intro _)

theorem setPortState_keeps (p : Nat) (v : Int) {s0 s : State} (hk : Keeps s0 s) : Keeps s0 (setPortState p v s) := by
  unfold setPortState
  try dsimp only
  repeat' (first | with_reducible assumption | with_reducible apply irq_keeps | with_reducible apply State_set_keeps | intro _)

theorem holdPort_keeps (p : Nat) (h : Holder) {s0 s : State} (hk : Keeps s0 s) : Keeps s0 (holdPort p h s) := by
  unfold holdPort
  try dsimp only
  repeat' (first | with_reducible assumption | with_reducible apply raisePort_keeps | simp only [keeps_upd_iff] | intro _)

theorem holdChan_keeps (c : Nat) (h : Holder) {s0 s : State} (hk : Keeps s0 s) : Keeps s0 (holdChan c h s) := by
  unfold holdChan
  try dsimp only
  repeat' (first | with_reducible assumption | with_reducible apply raiseCh_keeps | simp only [keeps_upd_iff] | intro _)

theorem unholdPort_keeps (p : Nat) (h : Holder) {s0 s : State} (hk : Keeps s0 s) : Keeps s0 (unholdPort p h s) := by
  unfold unholdPort
  try dsimp only
  repeat' (first | with_reducible assumption | with_reducible apply releasePort_keeps | with_reducible apply keeps_ite | split | simp only [keeps_upd_iff] | intro _)

theorem unholdChan_keeps (c : Nat) (h : Holder) {s0 s : State} (hk : Keeps s0 s) : Keeps s0 (unholdChan c h s) := by
  unfold unholdChan
  try dsimp only
  repeat' (first | with_reducible assumption | with_reducible apply releaseCh_keeps | with_reducible apply keeps_ite | split | simp only [keeps_upd_iff] | intro _)

theorem setGal_keeps (v : Int) {s0 s : State} (hk : Keeps s0 s) : Keeps s0 (setGal v s) := by
  unfold setGal
  try dsimp only
  repeat' (first | with_reducible assumption | with_reducible apply irq_keeps | with_reducible apply State_set_keeps | intro _)

theorem galTrigger_keeps (reason : Nat) {s0 s : State} (hk : Keeps s0 s) : Keeps s0 (galTrigger reason s) := by
  unfold galTrigger
  try dsimp only
  repeat' (first | with_reducible assumption | with_reducible apply setGal_keeps | with_reducible apply State_set_keeps | with_reducible apply State_setBit_keeps | with_reducible apply State_inc_keeps | with_reducible apply keeps_ite | split | simp only [keeps_upd_iff] | intro _)

theorem startFlush_keeps  {s0 s : State} (hk : Keeps s0 s) : Keeps s0 (startFlush s) := by
  unfold startFlush
  try dsimp only
  repeat' (first | with_reducible assumption | with_reducible apply keeps_ite | split | simp only [keeps_upd_iff] | intro _)

theorem bufferRec_keeps (r : Rec) {s0 s : State} (hk : Keeps s0 s) : Keeps s0 (bufferRec r s) := by
  unfold bufferRec
  try dsimp only
  repeat' (first | with_reducible assumption | with_reducible apply startFlush_keeps | with_reducible apply State_emit_keeps | with_reducible apply State_set_keeps | with_reducible apply keeps_ite | split | simp only [keeps_upd_iff] | intro _)

theorem countDrop_keeps  {s0 s : State} (hk : Keeps s0 s) : Keeps s0 (countDrop s) := by
  unfold countDrop
  try dsimp only
  repeat' (first | with_reducible assumption | with_reducible apply State_inc_keeps | simp only [keeps_upd_iff] | intro _)

theorem placeRec_keeps (r : Rec) {s0 s : State} (hk : Keeps s0 s) : Keeps s0 (placeRec r s) := by
  unfold placeRec
  try dsimp only
  repeat' (first | with_reducible assumption | with_reducible apply bufferRec_keeps | with_reducible apply countDrop_keeps | with_reducible apply keeps_ite | split | simp only [keeps_upd_iff] | intro _)

theorem enterOne_keeps (r : Rec) {s0 s : State} (hk : Keeps s0 s) : Keeps s0 (enterOne r s) := by
  unfold enterOne
  try dsimp only
  repeat' (first | with_reducible assumption | with_reducible apply placeRec_keeps | with_reducible apply keeps_ite | split | simp only [keeps_upd_iff] | intro _)

theorem enterRec_keeps (r : Rec) {s0 s : State} (hk : Keeps s0 s) : Keeps s0 (enterRec r s) := by
  unfold enterRec
  try dsimp only
  repeat' (first | with_reducible assumption | with_reducible apply enterOne_keeps | with_reducible apply State_set_keeps | with_reducible apply keeps_ite | split | intro _)

theorem event_keeps (code : Nat) (p0 : Nat) (p1 : Nat) (p2 : Nat) (p3 : Nat) {s0 s : State} (hk : Keeps s0 s) : Keeps s0 (event code p0 p1 p2 p3 s) := by
  unfold event
  try dsimp only
  repeat' (first | with_reducible assumption | with_reducible apply enterRec_keeps | intro _)

theorem notifyOne_keeps (r : Rec) (m : Nat) {s0 s : State} (hk : Keeps s0 s) : Keeps s0 (notifyOne r m s) := by
  unfold notifyOne
  try dsimp only
  repeat' (first | with_reducible assumption | with_reducible apply irq_keeps | with_reducible apply State_setMaster_keeps | with_reducible apply State_inc_keeps | with_reducible apply State_emit_keeps | with_reducible apply keeps_ite | split | simp only [keeps_upd_iff] | intro _)

theorem notifyAll_keeps (r : Rec) {s0 s : State} (hk : Keeps s0 s) : Keeps s0 (notifyAll r s) := by
  unfold notifyAll
  try dsimp only
  repeat' (first | with_reducible assumption | with_reducible apply notifyOne_keeps | with_reducible apply irq_keeps | with_reducible refine forL_keeps (fun _ _ _ => ?_) ?_ | with_reducible apply keeps_ite | split | intro _)

theorem setSource_keeps (w : Nat) (v : Int) {s0 s : State} (hk : Keeps s0 s) : Keeps s0 (setSource w v s) := by
  unfold setSource
  try dsimp only
  repeat' (first | with_reducible assumption | with_reducible apply State_set_keeps | with_reducible apply keeps_ite | split | intro _)

theorem shedSlice_keeps (sl : Nat) (w : Nat) {s0 s : State} (hk : Keeps s0 s) : Keeps s0 (shedSlice sl w s) := by
  unfold shedSlice
  try dsimp only
  repeat' (first | with_reducible assumption | with_reducible apply holdChan_keeps | with_reducible apply State_set_keeps | with_reducible refine forL_keeps (fun _ _ _ => ?_) ?_ | with_reducible apply keeps_ite | split | simp only [keeps_upd_iff] | intro _)

theorem State_setRail_keeps (r : Nat) (x : Rail) {s0 s : State} (hk : Keeps s0 s) : Keeps s0 (State.setRail s r x) := by
  unfold State.setRail
  try dsimp only
  repeat' (first | with_reducible assumption | simp only [keeps_upd_iff] | intro _)

theorem State_setFeed_keeps (f : Nat) (x : Feed) {s0 s : State} (hk : Keeps s0 s) : Keeps s0 (State.setFeed s f x) := by
  unfold State.setFeed
  try dsimp only
  repeat' (first | with_reducible assumption | simp only [keeps_upd_iff] | intro _)

theorem moveRef_keeps (r : Nat) (delay : Nat) (rate : Nat) (goal : Nat) {s0 s : State} (hk : Keeps s0 s) : Keeps s0 (moveRef r delay rate goal s) := by
  unfold moveRef
  try dsimp only
  repeat' (first | with_reducible assumption | with_reducible apply State_setRail_keeps | with_reducible apply State_set_keeps | simp only [keeps_upd_iff] | intro _)

theorem railOffRamp_keeps (r : Nat) {s0 s : State} (hk : Keeps s0 s) : Keeps s0 (railOffRamp r s) := by
  unfold railOffRamp
  try dsimp only
  repeat' (first | with_reducible assumption | with_reducible apply moveRef_keeps | with_reducible apply State_setRail_keeps | with_reducible apply State_set_keeps | with_reducible apply keeps_ite | split | simp only [keeps_upd_iff] | intro _)

theorem enterFeed_keeps (f : Nat) (v : Int) {s0 s : State} (hk : Keeps s0 s) : Keeps s0 (enterFeed f v s) := by
  unfold enterFeed
  try dsimp only
  repeat' (first | with_reducible assumption | with_reducible apply State_setFeed_keeps | with_reducible apply State_set_keeps | with_reducible apply keeps_ite | split | simp only [keeps_upd_iff] | intro _)

theorem stopPart_keeps  {s0 s : State} (hk : Keeps s0 s) : Keeps s0 (stopPart s) := by
  unfold stopPart
  try dsimp only
  repeat' (first | with_reducible assumption | with_reducible apply railOffRamp_keeps | with_reducible apply enterFeed_keeps | with_reducible apply State_set_keeps | with_reducible refine forN_keeps (fun _ _ _ => ?_) ?_ | with_reducible apply keeps_ite | split | intro _)

theorem react_keeps (kind : Nat) (inst : Nat) (cls : Nat) {s0 s : State} (hk : Keeps s0 s) : Keeps s0 (react kind inst cls s) := by
  unfold react
  try dsimp only
  repeat' (first | with_reducible assumption | with_reducible apply holdChan_keeps | with_reducible apply holdPort_keeps | with_reducible apply shedSlice_keeps | with_reducible apply stopPart_keeps | with_reducible apply keeps_ite | split | simp only [keeps_upd_iff] | intro _)

theorem galFault_keeps (w : Nat) (cls : Nat) {s0 s : State} (hk : Keeps s0 s) : Keeps s0 (galFault w cls s) := by
  unfold galFault
  try dsimp only
  repeat' (first | with_reducible assumption | with_reducible apply galTrigger_keeps | with_reducible apply keeps_ite | split | intro _)

theorem stickyClass_keeps (cls : Nat) {s0 s : State} (hk : Keeps s0 s) : Keeps s0 (stickyClass cls s) := by
  unfold stickyClass
  try dsimp only
  repeat' (first | with_reducible assumption | with_reducible apply State_sticky_keeps | with_reducible apply keeps_ite | split | intro _)

theorem faultRecord_keeps (kind : Nat) (inst : Nat) (cls : Nat) (esc : Nat) (code : Nat) (p0 : Nat) (p1 : Nat) (p2 : Nat) (p3 : Nat) {s0 s : State} (hk : Keeps s0 s) : Keeps s0 (faultRecord kind inst cls esc code p0 p1 p2 p3 s) := by
  unfold faultRecord
  try dsimp only
  repeat' (first | with_reducible assumption | with_reducible apply galFault_keeps | with_reducible apply notifyAll_keeps | with_reducible apply enterRec_keeps | with_reducible apply stickyClass_keeps | with_reducible apply react_keeps | with_reducible apply State_inc_keeps | intro _)

theorem startHold_keeps (w : Nat) {s0 s : State} (hk : Keeps s0 s) : Keeps s0 (startHold w s) := by
  unfold startHold
  try dsimp only
  repeat' (first | with_reducible assumption | simp only [keeps_upd_iff] | intro _)

theorem sourceAfter_keeps (kind : Nat) (inst : Nat) (cls : Nat) {s0 s : State} (hk : Keeps s0 s) : Keeps s0 (sourceAfter kind inst cls s) := by
  unfold sourceAfter
  try dsimp only
  repeat' (first | with_reducible assumption | with_reducible apply setSource_keeps | with_reducible apply startHold_keeps | with_reducible apply keeps_ite | split | intro _)

theorem escalate_keeps (kind : Nat) (inst : Nat) (cls : Nat) (code : Nat) (p0 : Nat) (p1 : Nat) (p2 : Nat) (p3 : Nat) {s0 s : State} (hk : Keeps s0 s) : Keeps s0 (escalate kind inst cls code p0 p1 p2 p3 s) := by
  unfold escalate
  try dsimp only
  repeat' (first | with_reducible assumption | with_reducible apply setSource_keeps | with_reducible apply faultRecord_keeps | with_reducible apply keeps_ite | split | simp only [keeps_upd_iff] | intro _)

theorem fault_keeps (kind : Nat) (inst : Nat) (cls : Nat) (code : Nat) (p0 : Nat) (p1 : Nat) (p2 : Nat) (p3 : Nat) {s0 s : State} (hk : Keeps s0 s) : Keeps s0 (fault kind inst cls code p0 p1 p2 p3 s) := by
  unfold fault
  try dsimp only
  repeat' (first | with_reducible assumption | with_reducible apply sourceAfter_keeps | with_reducible apply faultRecord_keeps | with_reducible apply escalate_keeps | with_reducible apply State_inc_keeps | intro _)

theorem State_setPort_keeps (p : Nat) (x : Port) {s0 s : State} (hk : Keeps s0 s) : Keeps s0 (State.setPort s p x) := by
  unfold State.setPort
  try dsimp only
  repeat' (first | with_reducible assumption | simp only [keeps_upd_iff] | intro _)

theorem showPermit_keeps (c : Nat) (n : Option Nat) {s0 s : State} (hk : Keeps s0 s) : Keeps s0 (showPermit c n s) := by
  unfold showPermit
  try dsimp only
  repeat' (first | with_reducible assumption | with_reducible apply State_set_keeps | split | simp only [keeps_upd_iff] | intro _)

theorem takePermit_keeps (c : Nat) {s0 s : State} (hk : Keeps s0 s) : Keeps s0 (takePermit c s) := by
  unfold takePermit
  try dsimp only
  repeat' (first | with_reducible assumption | with_reducible apply showPermit_keeps | with_reducible apply releaseCh_keeps | with_reducible apply raiseCh_keeps | split | simp only [keeps_upd_iff] | intro _)

theorem reviewPermit_keeps (c : Nat) {s0 s : State} (hk : Keeps s0 s) : Keeps s0 (reviewPermit c s) := by
  unfold reviewPermit
  try dsimp only
  repeat' (first | with_reducible assumption | with_reducible apply takePermit_keeps | with_reducible apply fault_keeps | with_reducible apply keeps_ite | split | intro _)

theorem showRefs_keeps (c : Nat) {s0 s : State} (hk : Keeps s0 s) : Keeps s0 (showRefs c s) := by
  unfold showRefs
  try dsimp only
  repeat' (first | with_reducible assumption | with_reducible apply State_set_keeps | with_reducible refine forN_keeps (fun _ _ _ => ?_) ?_ | split | simp only [keeps_upd_iff] | intro _)

theorem placeBranch_keeps (c : Nat) (n : Nat) {s0 s : State} (hk : Keeps s0 s) : Keeps s0 (placeBranch c n s) := by
  unfold placeBranch
  try dsimp only
  repeat' (first | with_reducible assumption | with_reducible apply State_set_keeps | split | simp only [keeps_upd_iff] | intro _)

theorem unplace_keeps (c : Nat) {s0 s : State} (hk : Keeps s0 s) : Keeps s0 (unplace c s) := by
  unfold unplace
  try dsimp only
  repeat' (first | with_reducible assumption | with_reducible apply State_set_keeps | with_reducible refine forN_keeps (fun _ _ _ => ?_) ?_ | intro _)

theorem placeChannel_keeps (c : Nat) {s0 s : State} (hk : Keeps s0 s) : Keeps s0 (placeChannel c s) := by
  unfold placeChannel
  try dsimp only
  repeat' (first | with_reducible assumption | with_reducible apply placeBranch_keeps | with_reducible apply fault_keeps | with_reducible refine forL_keeps (fun _ _ _ => ?_) ?_ | with_reducible apply keeps_ite | split | intro _)

theorem placeAll_keeps (cs : List Nat) {s0 s : State} (hk : Keeps s0 s) : Keeps s0 (placeAll cs s) := by
  unfold placeAll
  try dsimp only
  repeat' (first | with_reducible assumption | with_reducible apply placeChannel_keeps | with_reducible apply unplace_keeps | with_reducible refine forL_keeps (fun _ _ _ => ?_) ?_ | intro _)

theorem clearTaps_keeps (c : Nat) {s0 s : State} (hk : Keeps s0 s) : Keeps s0 (clearTaps c s) := by
  unfold clearTaps
  try dsimp only
  repeat' (first | with_reducible assumption | with_reducible apply State_setPath_keeps | simp only [keeps_upd_iff] | intro _)

theorem tapReset_keeps (c : Nat) {s0 s : State} (hk : Keeps s0 s) : Keeps s0 (tapReset c s) := by
  unfold tapReset
  try dsimp only
  repeat' (first | with_reducible assumption | with_reducible apply clearTaps_keeps | with_reducible apply State_setChan_keeps | with_reducible apply State_set_keeps | with_reducible apply State_inc_keeps | with_reducible refine forN_keeps (fun _ _ _ => ?_) ?_ | with_reducible apply keeps_ite | split | simp only [keeps_upd_iff] | intro _)

theorem clearRecord_keeps (c : Nat) (n : Nat) {s0 s : State} (hk : Keeps s0 s) : Keeps s0 (clearRecord c n s) := by
  unfold clearRecord
  try dsimp only
  repeat' (first | with_reducible assumption | with_reducible apply State_clrBit_keeps | intro _)

theorem clearFilters_keeps (c : Nat) {s0 s : State} (hk : Keeps s0 s) : Keeps s0 (clearFilters c s) := by
  unfold clearFilters
  try dsimp only
  repeat' (first | with_reducible assumption | with_reducible apply State_setPath_keeps | simp only [keeps_upd_iff] | intro _)

theorem syncReset_keeps (c : Nat) {s0 s : State} (hk : Keeps s0 s) : Keeps s0 (syncReset c s) := by
  unfold syncReset
  try dsimp only
  repeat' (first | with_reducible assumption | with_reducible apply clearFilters_keeps | with_reducible apply raiseCh_keeps | with_reducible apply State_setChan_keeps | with_reducible apply State_set_keeps | with_reducible apply State_inc_keeps | simp only [keeps_upd_iff] | intro _)

theorem execSettlingEnd_keeps (c : Nat) {s t : State} (h : execSettlingEnd c s = .next t) : Keeps s t := by
  unfold execSettlingEnd at h
  injection h with h
  subst h
  try dsimp only
  repeat' (first | with_reducible assumption | with_reducible exact keeps_refl _ | with_reducible apply releaseCh_keeps | with_reducible apply keeps_ite | split | intro _)

theorem inputReturns_keeps (p : Nat) {s0 s : State} (hk : Keeps s0 s) : Keeps s0 (inputReturns p s) := by
  unfold inputReturns
  try dsimp only
  repeat' (first | with_reducible assumption | with_reducible apply syncReset_keeps | with_reducible refine forL_keeps (fun _ _ _ => ?_) ?_ | intro _)

theorem reviewChrysalis_keeps (c : Nat) {s0 s : State} (hk : Keeps s0 s) : Keeps s0 (reviewChrysalis c s) := by
  unfold reviewChrysalis
  try dsimp only
  repeat' (first | with_reducible assumption | with_reducible apply raiseCh_keeps | with_reducible apply releaseCh_keeps | with_reducible apply keeps_ite | split | intro _)

theorem startChannel_keeps (c : Nat) {s0 s : State} (hk : Keeps s0 s) : Keeps s0 (startChannel c s) := by
  unfold startChannel
  try dsimp only
  repeat' (first | with_reducible assumption | with_reducible apply showPermit_keeps | with_reducible apply showRefs_keeps | with_reducible apply tapReset_keeps | with_reducible apply syncReset_keeps | with_reducible apply setGain_keeps | with_reducible apply State_set_keeps | with_reducible apply State_setChan_keeps | with_reducible apply keeps_ite | split | simp only [keeps_upd_iff] | intro _)

theorem stopChannel_keeps (c : Nat) {s0 s : State} (hk : Keeps s0 s) : Keeps s0 (stopChannel c s) := by
  unfold stopChannel
  try dsimp only
  repeat' (first | with_reducible assumption | with_reducible apply unplace_keeps | with_reducible apply State_set_keeps | with_reducible apply State_setPath_keeps | with_reducible apply State_setChan_keeps | simp only [keeps_upd_iff] | intro _)

theorem endFade_keeps (sl : Nat) {s0 s : State} (hk : Keeps s0 s) : Keeps s0 (endFade sl s) := by
  unfold endFade
  try dsimp only
  repeat' (first | with_reducible assumption | with_reducible apply State_setChan_keeps | with_reducible apply State_set_keeps | with_reducible refine forL_keeps (fun _ _ _ => ?_) ?_ | simp only [keeps_upd_iff] | intro _)

theorem beginFade_keeps (sl : Nat) (f : Nat) {s0 o : State} (hk : Keeps s0 o) : Keeps s0 (beginFade sl f o) := by
  unfold beginFade
  try dsimp only
  repeat' (first | with_reducible assumption | with_reducible apply State_setPath_keeps | with_reducible apply State_setChan_keeps | with_reducible apply State_set_keeps | with_reducible refine forL_keeps (fun _ _ _ => ?_) ?_ | simp only [keeps_upd_iff] | intro _)

theorem execFadeEnd_keeps (sl : Nat) {s t : State} (h : execFadeEnd sl s = .next t) : Keeps s t := by
  unfold execFadeEnd at h
  injection h with h
  subst h
  try dsimp only
  repeat' (first | with_reducible assumption | with_reducible exact keeps_refl _ | with_reducible apply endFade_keeps | with_reducible apply keeps_ite | split | simp only [keeps_upd_iff] | intro _)

theorem bindSlot_keeps (m : Nat) (bus : Nat) (node : Nat) {s0 s : State} (hk : Keeps s0 s) : Keeps s0 (bindSlot m bus node s) := by
  unfold bindSlot
  try dsimp only
  repeat' (first | with_reducible assumption | with_reducible apply State_setMaster_keeps | with_reducible apply State_set_keeps | simp only [keeps_upd_iff] | intro _)

theorem whoSends_keeps (o : Origin) {s0 s : State} (hk : Keeps s0 s) : Keeps s0 (whoSends o s).2 := by
  unfold whoSends
  repeat' (first | with_reducible assumption | with_reducible apply bindSlot_keeps | split)

theorem respond_keeps (w : Who) (kind : Nat) (f : Frame) (status : Nat) (payload : List Byte) {s0 s : State} (hk : Keeps s0 s) : Keeps s0 (respond w kind f status payload s) := by
  unfold respond
  try dsimp only
  repeat' (first | with_reducible assumption | with_reducible apply ringFrame_keeps | with_reducible apply State_emit_keeps | with_reducible refine forL_keeps (fun _ _ _ => ?_) ?_ | with_reducible apply keeps_ite | split | intro _)

theorem noSlot_keeps (o : Origin) (kind : Nat) (seq : Nat) (index : Nat) (sub : Nat) {s0 s : State} (hk : Keeps s0 s) : Keeps s0 (noSlot o kind seq index sub s) := by
  unfold noSlot
  try dsimp only
  repeat' (first | with_reducible assumption | with_reducible apply State_emit_keeps | split | simp only [keeps_upd_iff] | intro _)

theorem answer_keeps (w : Who) (kind : Nat) (f : Frame) (status : Nat) (payload : List Byte) {s0 s : State} (hk : Keeps s0 s) : Keeps s0 (answer w kind f status payload s) := by
  unfold answer
  try dsimp only
  repeat' (first | with_reducible assumption | with_reducible apply respond_keeps | with_reducible apply State_setMaster_keeps | simp only [keeps_upd_iff] | intro _)

theorem freeze_keeps (m : Nat) (code : Nat) {s0 s : State} (hk : Keeps s0 s) : Keeps s0 (freeze m code s) := by
  unfold freeze
  try dsimp only
  repeat' (first | with_reducible assumption | with_reducible apply fault_keeps | with_reducible apply event_keeps | with_reducible apply State_inc_keeps | with_reducible apply State_sticky_keeps | with_reducible apply State_set_keeps | with_reducible apply keeps_ite | split | intro _)

theorem violate_keeps (w : Who) (kind : Nat) (f : Frame) (code : Nat) {s0 s : State} (hk : Keeps s0 s) : Keeps s0 (violate w kind f code s) := by
  unfold violate
  try dsimp only
  repeat' (first | with_reducible assumption | with_reducible apply answer_keeps | with_reducible apply freeze_keeps | with_reducible apply keeps_ite | split | intro _)

theorem keepTokens_keeps (ms : List Nat) {s0 s : State} (hk : Keeps s0 s) : Keeps s0 (keepTokens ms s) := by
  unfold keepTokens
  try dsimp only
  repeat' (first | with_reducible assumption | with_reducible apply State_setMaster_keeps | with_reducible refine forL_keeps (fun _ _ _ => ?_) ?_ | simp only [keeps_upd_iff] | intro _)

theorem takeToken_keeps (m : Nat) {s0 s : State} (hk : Keeps s0 s) : Keeps s0 (takeToken m s) := by
  unfold takeToken
  try dsimp only
  repeat' (first | with_reducible assumption | with_reducible apply State_setMaster_keeps | with_reducible apply keeps_ite | split | simp only [keeps_upd_iff] | intro _)

theorem Reply_no_keeps (status : Nat) {s0 s : State} (hk : Keeps s0 s) : Keeps s0 (Reply.no s status).st := by
  unfold Reply.no
  try dsimp only
  repeat' (first | with_reducible assumption | intro _)

theorem Reply_ok_keeps  {s0 s : State} (hk : Keeps s0 s) : Keeps s0 (Reply.ok s).st := by
  unfold Reply.ok
  try dsimp only
  repeat' (first | with_reducible assumption | intro _)

theorem Reply_late_keeps  {s0 s : State} (hk : Keeps s0 s) : Keeps s0 (Reply.late s).st := by
  unfold Reply.late
  try dsimp only
  repeat' (first | with_reducible assumption | with_reducible apply State_inc_keeps | intro _)

theorem Reply_violation_keeps (w : Who) (code : Nat) {s0 s : State} (hk : Keeps s0 s) : Keeps s0 (Reply.violation w s code).st := by
  unfold Reply.violation
  try dsimp only
  repeat' (first | with_reducible assumption | with_reducible apply freeze_keeps | with_reducible apply keeps_ite_st | split | intro _)

theorem examineWrite_keeps (kind : Nat) (w : Who) (f : Frame) (act : Who → ObjRow → Nat → Val → State → Reply) {s0 s : State} (hk : Keeps s0 s) (hf : ∀ a0 a1 a2 a3 s, Keeps s0 s → Keeps s0 (act a0 a1 a2 a3 s).st) : Keeps s0 (examineWrite kind w f s act).st := by
  unfold examineWrite
  try dsimp only
  repeat' (first | with_reducible assumption | refine hf _ _ _ _ _ ?_ | with_reducible apply Reply_no_keeps | with_reducible apply Reply_violation_keeps | with_reducible apply Reply_ok_keeps | with_reducible apply keeps_ite_st | split | simp only [keeps_upd_iff] | intro _)

theorem finish_keeps (w : Who) (kind : Nat) (f : Frame) (r : Reply) {s0 : State} (hk : Keeps s0 r.st) : Keeps s0 (finish w kind f r) := by
  unfold finish
  repeat' (first | with_reducible assumption | with_reducible apply answer_keeps | with_reducible apply State_setMaster_keeps | split)

theorem markSeq_keeps (w : Who) (seq : Nat) {s0 s : State} (hk : Keeps s0 s) : Keeps s0 (markSeq w seq s) := by
  unfold markSeq
  try dsimp only
  repeat' (first | with_reducible assumption | with_reducible apply State_setMaster_keeps | simp only [keeps_upd_iff] | intro _)

theorem request_keeps (kind : Nat) (f : Frame) (body : Who → Frame → State → Reply) {s0 s : State} (hk : Keeps s0 s) (hf : ∀ a0 a1 s, Keeps s0 s → Keeps s0 (body a0 a1 s).st) : Keeps s0 (request kind f s body) := by
  unfold request
  try dsimp only
  repeat' (first | with_reducible assumption | refine hf _ _ _ ?_ | with_reducible apply noSlot_keeps | with_reducible apply respond_keeps | with_reducible apply violate_keeps | with_reducible apply answer_keeps | with_reducible apply markSeq_keeps | with_reducible apply freeze_keeps | with_reducible apply takeToken_keeps | with_reducible apply finish_keeps | with_reducible apply State_set_keeps | with_reducible apply State_setMaster_keeps | (have hw := whoSends_keeps f.org hk; rw [‹whoSends _ _ = _›] at hw; exact hw) | with_reducible apply keeps_ite | split | simp only [keeps_upd_iff] | intro _)

theorem requestWrite_keeps (k : Nat) (f : Frame) (act : Who → Val → State → Reply) {s0 s : State} (hk : Keeps s0 s) (hf : ∀ a0 a1 s, Keeps s0 s → Keeps s0 (act a0 a1 s).st) : Keeps s0 (requestWrite k f s act) := by
  unfold requestWrite
  try dsimp only
  repeat' (first | with_reducible assumption | refine hf _ _ _ ?_ | with_reducible apply request_keeps | with_reducible apply examineWrite_keeps | simp only [keeps_upd_iff] | intro _)

theorem setSlot_keeps (i : Nat) (t : Option Tx) {s0 s : State} (hk : Keeps s0 s) : Keeps s0 (setSlot i t s) := by
  unfold setSlot
  try dsimp only
  repeat' (first | with_reducible assumption | simp only [keeps_upd_iff] | intro _)

theorem sendDown_keeps (code : Nat) (nums : List Int) {s0 s : State} (hk : Keeps s0 s) : Keeps s0 (sendDown code nums s) := by
  unfold sendDown
  try dsimp only
  repeat' (first | with_reducible assumption | with_reducible apply State_emit_keeps | with_reducible refine forL_keeps (fun _ _ _ => ?_) ?_ | intro _)

theorem abortSlot_keeps (i : Nat) (t : Tx) {s0 s : State} (hk : Keeps s0 s) : Keeps s0 (abortSlot i t s) := by
  unfold abortSlot
  try dsimp only
  repeat' (first | with_reducible assumption | with_reducible apply sendDown_keeps | with_reducible apply setSlot_keeps | with_reducible apply State_emit_keeps | with_reducible apply State_inc_keeps | with_reducible apply keeps_ite | split | intro _)

theorem abortOpen_keeps (flow : Nat) {s0 s : State} (hk : Keeps s0 s) : Keeps s0 (abortOpen flow s) := by
  unfold abortOpen
  try dsimp only
  repeat' (first | with_reducible assumption | with_reducible apply abortSlot_keeps | split | simp only [keeps_upd_iff] | intro _)

theorem unfreeze_keeps (m : Nat) {s0 s : State} (hk : Keeps s0 s) : Keeps s0 (unfreeze m s) := by
  unfold unfreeze
  try dsimp only
  repeat' (first | with_reducible assumption | with_reducible apply State_setMaster_keeps | with_reducible apply State_set_keeps | simp only [keeps_upd_iff] | intro _)

theorem resetMaster_keeps (m : Nat) {s0 s : State} (hk : Keeps s0 s) : Keeps s0 (resetMaster m s) := by
  unfold resetMaster
  try dsimp only
  repeat' (first | with_reducible assumption | with_reducible apply unfreeze_keeps | with_reducible apply abortOpen_keeps | intro _)

theorem resetCan_keeps (bus : Nat) {s0 s : State} (hk : Keeps s0 s) : Keeps s0 (resetCan bus s) := by
  unfold resetCan
  try dsimp only
  repeat' (first | with_reducible assumption | with_reducible apply resetMaster_keeps | with_reducible refine forL_keeps (fun _ _ _ => ?_) ?_ | intro _)

theorem unfreezeEffect_keeps (m : Nat) (w : Who) (x1 : Val) {s0 s : State} (hk : Keeps s0 s) : Keeps s0 (unfreezeEffect m w x1 s).st := by
  unfold unfreezeEffect
  try dsimp only
  repeat' (first | with_reducible assumption | with_reducible apply unfreeze_keeps | with_reducible apply Reply_ok_keeps | with_reducible apply Reply_violation_keeps | with_reducible apply keeps_ite_st | split | intro _)

theorem execMrUnfreeze_keeps (m : Nat) (f : Frame) {s t : State} (h : execMrUnfreeze m f s = .next t) : Keeps s t := by
  unfold execMrUnfreeze at h
  injection h with h
  subst h
  try dsimp only
  repeat' (first | with_reducible assumption | with_reducible exact keeps_refl _ | with_reducible apply requestWrite_keeps | with_reducible apply unfreezeEffect_keeps | intro _)

theorem canResetEffect_keeps (bus : Nat) (x1 : Who) (x2 : Val) {s0 s : State} (hk : Keeps s0 s) : Keeps s0 (canResetEffect bus x1 x2 s).st := by
  unfold canResetEffect
  try dsimp only
  repeat' (first | with_reducible assumption | with_reducible apply resetCan_keeps | with_reducible apply Reply_ok_keeps | intro _)

theorem execDzCanaReset_keeps (f : Frame) {s t : State} (h : execDzCanaReset f s = .next t) : Keeps s t := by
  unfold execDzCanaReset at h
  injection h with h
  subst h
  try dsimp only
  repeat' (first | with_reducible assumption | with_reducible exact keeps_refl _ | with_reducible apply requestWrite_keeps | with_reducible apply canResetEffect_keeps | intro _)

theorem execDzCanbReset_keeps (f : Frame) {s t : State} (h : execDzCanbReset f s = .next t) : Keeps s t := by
  unfold execDzCanbReset at h
  injection h with h
  subst h
  try dsimp only
  repeat' (first | with_reducible assumption | with_reducible exact keeps_refl _ | with_reducible apply requestWrite_keeps | with_reducible apply canResetEffect_keeps | intro _)

theorem execCanBusOffRecovery_keeps (bus : Nat) {s t : State} (h : execCanBusOffRecovery bus s = .next t) : Keeps s t := by
  unfold execCanBusOffRecovery at h
  injection h with h
  subst h
  try dsimp only
  repeat' (first | with_reducible assumption | with_reducible exact keeps_refl _ | with_reducible apply resetCan_keeps | intro _)

theorem execConsoleBreak_keeps (ms : Nat) {s t : State} (h : execConsoleBreak ms s = .next t) : Keeps s t := by
  unfold execConsoleBreak at h
  injection h with h
  subst h
  try dsimp only
  repeat' (first | with_reducible assumption | with_reducible exact keeps_refl _ | with_reducible apply resetMaster_keeps | with_reducible apply keeps_ite | split | intro _)

theorem execCanSlotRelease_keeps (m : Nat) {s t : State} (h : execCanSlotRelease m s = .next t) : Keeps s t := by
  unfold execCanSlotRelease at h
  injection h with h
  subst h
  try dsimp only
  repeat' (first | with_reducible assumption | with_reducible exact keeps_refl _ | with_reducible apply State_setMaster_keeps | with_reducible apply State_set_keeps | with_reducible apply keeps_ite | split | intro _)

theorem execCanSettingApply_keeps  {s t : State} (h : execCanSettingApply s = .next t) : Keeps s t := by
  unfold execCanSettingApply at h
  injection h with h
  subst h
  try dsimp only
  repeat' (first | with_reducible assumption | with_reducible exact keeps_refl _ | simp only [keeps_upd_iff] | intro _)

theorem execMasterIdleRelock_keeps (m : Nat) {s t : State} (h : execMasterIdleRelock m s = .next t) : Keeps s t := by
  unfold execMasterIdleRelock at h
  injection h with h
  subst h
  try dsimp only
  repeat' (first | with_reducible assumption | with_reducible exact keeps_refl _ | with_reducible apply State_set_keeps | with_reducible apply keeps_ite | split | intro _)

theorem execTokenRefill_keeps  {s t : State} (h : execTokenRefill s = .next t) : Keeps s t := by
  unfold execTokenRefill at h
  injection h with h
  subst h
  try dsimp only
  repeat' (first | with_reducible assumption | with_reducible exact keeps_refl _ | with_reducible apply State_setMaster_keeps | with_reducible refine forL_keeps (fun _ _ _ => ?_) ?_ | simp only [keeps_upd_iff] | intro _)

theorem execConsoleOverrun_keeps  {s t : State} (h : execConsoleOverrun s = .next t) : Keeps s t := by
  unfold execConsoleOverrun at h
  injection h with h
  subst h
  try dsimp only
  repeat' (first | with_reducible assumption | with_reducible exact keeps_refl _ | with_reducible apply State_say_keeps | simp only [keeps_upd_iff] | intro _)

theorem State_setLink_keeps (l : Nat) (x : Link) {s0 s : State} (hk : Keeps s0 s) : Keeps s0 (State.setLink s l x) := by
  unfold State.setLink
  try dsimp only
  repeat' (first | with_reducible assumption | simp only [keeps_upd_iff] | intro _)

theorem entryDone_keeps (n : Nat) (held : Bool) {s0 s : State} (hk : Keeps s0 s) : Keeps s0 (entryDone n held s) := by
  unfold entryDone
  try dsimp only
  repeat' (first | with_reducible assumption | with_reducible apply State_inc_keeps | with_reducible apply State_set_keeps | with_reducible apply keeps_ite | split | intro _)

end Sys2Proof.Machine
end

