-- ==== Sys2Proof/Laws/KeepsBlocks.lean ====
section
/-! SUPPORT. Keeps (Laws/Keeps.lean) for the operations of the blocks, one lemma per operation and per command. -/

set_option linter.all false

namespace Sys2Proof.Machine

theorem freeHold_keeps (p : Nat) {s0 s : State} (hk : Keeps s0 s) : Keeps s0 (freeHold p s) := by
  unfold freeHold
  try dsimp only
  repeat' (first | with_reducible assumption | with_reducible apply releasePort_keeps | with_reducible apply keeps_ite | split | intro _)

theorem raiseHold_keeps (p : Nat) {s0 s : State} (hk : Keeps s0 s) : Keeps s0 (raiseHold p s) := by
  unfold raiseHold
  try dsimp only
  repeat' (first | with_reducible assumption | with_reducible apply raisePort_keeps | with_reducible apply State_setPort_keeps | with_reducible apply keeps_ite | split | simp only [keeps_upd_iff] | intro _)

theorem windowEnd_keeps (p : Nat) {s0 s : State} (hk : Keeps s0 s) : Keeps s0 (windowEnd p s) := by
  unfold windowEnd
  try dsimp only
  repeat' (first | with_reducible assumption | with_reducible apply event_keeps | with_reducible apply freeHold_keeps | with_reducible apply State_sticky_keeps | with_reducible apply State_inc_keeps | with_reducible apply State_set_keeps | with_reducible apply State_setPort_keeps | with_reducible apply keeps_ite | split | simp only [keeps_upd_iff] | intro _)

theorem beginMove_keeps (p : Nat) (dest : Int) {s0 s : State} (hk : Keeps s0 s) : Keeps s0 (beginMove p dest s) := by
  unfold beginMove
  try dsimp only
  repeat' (first | with_reducible assumption | with_reducible apply windowEnd_keeps | with_reducible apply raiseHold_keeps | with_reducible apply State_setPort_keeps | with_reducible apply State_set_keeps | with_reducible apply keeps_ite | split | simp only [keeps_upd_iff] | intro _)

theorem holdInCal_keeps (p : Nat) {s0 s : State} (hk : Keeps s0 s) : Keeps s0 (holdInCal p s) := by
  unfold holdInCal
  try dsimp only
  repeat' (first | with_reducible assumption | with_reducible apply raiseHold_keeps | with_reducible apply keeps_ite | split | intro _)

theorem moveOn_keeps (p : Nat) {s0 s : State} (hk : Keeps s0 s) : Keeps s0 (moveOn p s) := by
  unfold moveOn
  try dsimp only
  repeat' (first | with_reducible assumption | with_reducible apply holdInCal_keeps | with_reducible apply beginMove_keeps | with_reducible apply keeps_ite | split | intro _)

theorem retarget_keeps (p : Nat) {s0 s : State} (hk : Keeps s0 s) : Keeps s0 (retarget p s) := by
  unfold retarget
  try dsimp only
  repeat' (first | with_reducible assumption | with_reducible apply moveOn_keeps | intro _)

theorem arrive_keeps (p : Nat) (v : Int) {s0 s : State} (hk : Keeps s0 s) : Keeps s0 (arrive p v s) := by
  unfold arrive
  try dsimp only
  repeat' (first | with_reducible assumption | with_reducible apply setPortState_keeps | with_reducible apply State_set_keeps | with_reducible apply State_inc_keeps | intro _)

theorem clearPortRecords_keeps (p : Nat) {s0 s : State} (hk : Keeps s0 s) : Keeps s0 (clearPortRecords p s) := by
  unfold clearPortRecords
  try dsimp only
  repeat' (first | with_reducible assumption | with_reducible apply clearRecord_keeps | with_reducible refine forN_keeps (fun _ _ _ => ?_) ?_ | with_reducible apply keeps_ite | split | intro _)

theorem leaveChrysalis_keeps (p : Nat) {s0 s : State} (hk : Keeps s0 s) : Keeps s0 (leaveChrysalis p s) := by
  unfold leaveChrysalis
  try dsimp only
  repeat' (first | with_reducible assumption | with_reducible apply clearPortRecords_keeps | with_reducible apply State_setPort_keeps | with_reducible apply State_setOct_keeps | with_reducible apply keeps_ite | split | simp only [keeps_upd_iff] | intro _)

theorem enterChrysalis_keeps (p : Nat) {s0 s : State} (hk : Keeps s0 s) : Keeps s0 (enterChrysalis p s) := by
  unfold enterChrysalis
  try dsimp only
  repeat' (first | with_reducible assumption | with_reducible apply beginMove_keeps | with_reducible apply keeps_ite | split | intro _)

theorem putCalStatus_keeps (p : Nat) (v : Int) {s0 s : State} (hk : Keeps s0 s) : Keeps s0 (putCalStatus p v s) := by
  unfold putCalStatus
  try dsimp only
  repeat' (first | with_reducible assumption | with_reducible apply State_set_keeps | with_reducible apply keeps_ite | split | intro _)

theorem joinPending_keeps (p : Nat) (mask : Nat) {s0 s : State} (hk : Keeps s0 s) : Keeps s0 (joinPending p mask s) := by
  unfold joinPending
  try dsimp only
  repeat' (first | with_reducible assumption | with_reducible apply State_setPort_keeps | with_reducible apply State_set_keeps | with_reducible apply keeps_ite | split | simp only [keeps_upd_iff] | intro _)

theorem markStale_keeps (p : Nat) (mask : Nat) {s0 s : State} (hk : Keeps s0 s) : Keeps s0 (markStale p mask s) := by
  unfold markStale
  try dsimp only
  repeat' (first | with_reducible assumption | with_reducible apply joinPending_keeps | with_reducible apply putCalStatus_keeps | with_reducible apply enterChrysalis_keeps | with_reducible apply State_setPort_keeps | with_reducible apply State_set_keeps | with_reducible apply keeps_ite | split | simp only [keeps_upd_iff] | intro _)

theorem returnFinds_keeps (p : Nat) (rows : Nat) {s0 s : State} (hk : Keeps s0 s) : Keeps s0 (returnFinds p rows s) := by
  unfold returnFinds
  try dsimp only
  repeat' (first | with_reducible assumption | with_reducible apply markStale_keeps | with_reducible apply fault_keeps | with_reducible apply State_set_keeps | with_reducible apply keeps_ite | split | intro _)

theorem returnCheck_keeps (p : Nat) (cold : Bool) {s0 s : State} (hk : Keeps s0 s) : Keeps s0 (returnCheck p cold s) := by
  unfold returnCheck
  try dsimp only
  repeat' (first | with_reducible assumption | with_reducible apply returnFinds_keeps | with_reducible apply enterChrysalis_keeps | with_reducible apply State_setPort_keeps | with_reducible apply keeps_ite | split | simp only [keeps_upd_iff] | intro _)

theorem decideFeed_keeps (p : Nat) (differs : Bool) {s0 s : State} (hk : Keeps s0 s) : Keeps s0 (decideFeed p differs s) := by
  unfold decideFeed
  try dsimp only
  repeat' (first | with_reducible assumption | with_reducible apply returnFinds_keeps | with_reducible apply State_setPort_keeps | with_reducible apply keeps_ite | split | simp only [keeps_upd_iff] | intro _)

theorem settleChrysalis_keeps (p : Nat) {s0 s : State} (hk : Keeps s0 s) : Keeps s0 (settleChrysalis p s) := by
  unfold settleChrysalis
  try dsimp only
  repeat' (first | with_reducible assumption | with_reducible apply moveOn_keeps | with_reducible apply beginMove_keeps | with_reducible apply keeps_ite | split | intro _)

theorem execReturnFeedWaitTimeout_keeps (p : Nat) {s t : State} (h : execReturnFeedWaitTimeout p s = .next t) : Keeps s t := by
  unfold execReturnFeedWaitTimeout at h
  injection h with h
  subst h
  try dsimp only
  repeat' (first | with_reducible assumption | with_reducible exact keeps_refl _ | with_reducible apply settleChrysalis_keeps | with_reducible apply decideFeed_keeps | with_reducible apply keeps_ite | split | simp only [keeps_upd_iff] | intro _)

theorem openTxWindow_keeps (p : Nat) {s0 s : State} (hk : Keeps s0 s) : Keeps s0 (openTxWindow p s) := by
  unfold openTxWindow
  try dsimp only
  repeat' (first | with_reducible assumption | with_reducible apply State_setPort_keeps | with_reducible apply keeps_ite | split | simp only [keeps_upd_iff] | intro _)

theorem reached_keeps (p : Nat) (frm : Int) (v : Int) {s0 s : State} (hk : Keeps s0 s) : Keeps s0 (reached p frm v s) := by
  unfold reached
  try dsimp only
  repeat' (first | with_reducible assumption | with_reducible apply freeHold_keeps | with_reducible apply reviewChrysalis_keeps | with_reducible apply returnCheck_keeps | with_reducible apply leaveChrysalis_keeps | with_reducible apply inputReturns_keeps | with_reducible apply openTxWindow_keeps | with_reducible apply State_set_keeps | with_reducible apply State_setPort_keeps | with_reducible refine forL_keeps (fun _ _ _ => ?_) ?_ | with_reducible apply keeps_ite | split | simp only [keeps_upd_iff] | intro _)

theorem synCalBegin_keeps (p : Nat) {s0 s : State} (hk : Keeps s0 s) : Keeps s0 (synCalBegin p s) := by
  unfold synCalBegin
  try dsimp only
  repeat' (first | with_reducible assumption | with_reducible apply State_set_keeps | with_reducible refine forL_keeps (fun _ _ _ => ?_) ?_ | with_reducible apply keeps_ite | split | intro _)

theorem synCalEnd_keeps (p : Nat) {s0 s : State} (hk : Keeps s0 s) : Keeps s0 (synCalEnd p s) := by
  unfold synCalEnd
  try dsimp only
  repeat' (first | with_reducible assumption | with_reducible apply State_set_keeps | with_reducible refine forL_keeps (fun _ _ _ => ?_) ?_ | with_reducible apply keeps_ite | split | intro _)

theorem leaveCal_keeps (p : Nat) {s0 s : State} (hk : Keeps s0 s) : Keeps s0 (leaveCal p s) := by
  unfold leaveCal
  try dsimp only
  repeat' (first | with_reducible assumption | with_reducible apply synCalEnd_keeps | with_reducible apply beginMove_keeps | with_reducible apply keeps_ite | split | intro _)

theorem freeClock_keeps (p : Nat) {s0 s : State} (hk : Keeps s0 s) : Keeps s0 (freeClock p s) := by
  unfold freeClock
  try dsimp only
  repeat' (first | with_reducible assumption | with_reducible apply releasePort_keeps | with_reducible apply keeps_ite | split | intro _)

theorem execPortTransitionDone_keeps (p : Nat) {s t : State} (h : execPortTransitionDone p s = .next t) : Keeps s t := by
  unfold execPortTransitionDone at h
  injection h with h
  subst h
  try dsimp only
  repeat' (first | with_reducible assumption | with_reducible exact keeps_refl _ | with_reducible apply reached_keeps | with_reducible apply arrive_keeps | with_reducible apply freeClock_keeps | with_reducible apply holdInCal_keeps | with_reducible apply synCalBegin_keeps | with_reducible apply leaveCal_keeps | with_reducible apply moveOn_keeps | with_reducible apply settleChrysalis_keeps | with_reducible apply enterChrysalis_keeps | with_reducible apply State_setPort_keeps | with_reducible apply keeps_ite | split | simp only [keeps_upd_iff] | intro _)

theorem execTxWindowEnd_keeps (p : Nat) {s t : State} (h : execTxWindowEnd p s = .next t) : Keeps s t := by
  unfold execTxWindowEnd at h
  injection h with h
  subst h
  try dsimp only
  repeat' (first | with_reducible assumption | with_reducible exact keeps_refl _ | with_reducible apply moveOn_keeps | with_reducible apply State_set_keeps | with_reducible apply keeps_ite | split | intro _)

theorem putSynDue_keeps (tx : Bool) (p : Nat) (due : Nat) {s0 s : State} (hk : Keeps s0 s) : Keeps s0 (putSynDue tx p due s) := by
  unfold putSynDue
  try dsimp only
  repeat' (first | with_reducible assumption | with_reducible apply State_setPort_keeps | with_reducible apply keeps_ite | split | simp only [keeps_upd_iff] | intro _)

theorem addPending_keeps (p : Nat) (kind : Nat) {s0 s : State} (hk : Keeps s0 s) : Keeps s0 (addPending p kind s) := by
  unfold addPending
  try dsimp only
  repeat' (first | with_reducible assumption | with_reducible apply joinPending_keeps | with_reducible apply putCalStatus_keeps | with_reducible apply keeps_ite | split | intro _)

theorem retune_keeps (tx : Bool) (p : Nat) (old : Int) (new : Int) {s0 s : State} (hk : Keeps s0 s) : Keeps s0 (retune tx p old new s) := by
  unfold retune
  try dsimp only
  repeat' (first | with_reducible assumption | with_reducible apply putSynDue_keeps | with_reducible apply addPending_keeps | with_reducible apply raiseHold_keeps | with_reducible apply State_inc_keeps | with_reducible apply State_set_keeps | with_reducible apply keeps_ite | split | intro _)

theorem synLocked_keeps (tx : Bool) (p : Nat) {s0 s : State} (hk : Keeps s0 s) : Keeps s0 (synLocked tx p s) := by
  unfold synLocked
  try dsimp only
  repeat' (first | with_reducible assumption | with_reducible apply tapReset_keeps | with_reducible apply freeHold_keeps | with_reducible apply State_set_keeps | with_reducible refine forL_keeps (fun _ _ _ => ?_) ?_ | with_reducible apply keeps_ite | split | intro _)

theorem execSynthRetuneDone_keeps (tx : Bool) (p : Nat) {s t : State} (h : execSynthRetuneDone tx p s = .next t) : Keeps s t := by
  unfold execSynthRetuneDone at h
  injection h with h
  subst h
  try dsimp only
  repeat' (first | with_reducible assumption | with_reducible exact keeps_refl _ | with_reducible apply synLocked_keeps | with_reducible apply keeps_ite | split | intro _)

theorem execSynthLockLoss_keeps (tx : Bool) (p : Nat) {s t : State} (h : execSynthLockLoss tx p s = .next t) : Keeps s t := by
  unfold execSynthLockLoss at h
  injection h with h
  subst h
  try dsimp only
  repeat' (first | with_reducible assumption | with_reducible exact keeps_refl _ | with_reducible apply raiseHold_keeps | with_reducible apply fault_keeps | with_reducible apply putSynDue_keeps | with_reducible apply addPending_keeps | with_reducible apply State_sticky_keeps | with_reducible apply State_inc_keeps | with_reducible apply State_set_keeps | with_reducible apply keeps_ite | split | intro _)

theorem execSynthRelockDone_keeps (tx : Bool) (p : Nat) {s t : State} (h : execSynthRelockDone tx p s = .next t) : Keeps s t := by
  unfold execSynthRelockDone at h
  injection h with h
  subst h
  try dsimp only
  repeat' (first | with_reducible assumption | with_reducible exact keeps_refl _ | with_reducible apply synLocked_keeps | with_reducible apply inputReturns_keeps | with_reducible apply keeps_ite | split | intro _)

theorem calBegin_keeps (p : Nat) (kind : Nat) {s0 s : State} (hk : Keeps s0 s) : Keeps s0 (calBegin p kind s) := by
  unfold calBegin
  try dsimp only
  repeat' (first | with_reducible assumption | with_reducible apply moveOn_keeps | with_reducible apply putCalStatus_keeps | with_reducible apply State_setPort_keeps | with_reducible apply State_clrBit_keeps | with_reducible apply State_set_keeps | with_reducible apply keeps_ite | split | simp only [keeps_upd_iff] | intro _)

theorem calStartEffect_keeps (p : Nat) (x1 : Who) (v : Val) {s0 s : State} (hk : Keeps s0 s) : Keeps s0 (calStartEffect p x1 v s).st := by
  unfold calStartEffect
  try dsimp only
  repeat' (first | with_reducible assumption | with_reducible apply addPending_keeps | with_reducible apply Reply_ok_keeps | intro _)

theorem execCalStart_keeps (p : Nat) (f : Frame) {s t : State} (h : execCalStart p f s = .next t) : Keeps s t := by
  unfold execCalStart at h
  injection h with h
  subst h
  try dsimp only
  repeat' (first | with_reducible assumption | with_reducible exact keeps_refl _ | with_reducible apply requestWrite_keeps | with_reducible apply calStartEffect_keeps | intro _)

theorem calAbortEffect_keeps (p : Nat) (x1 : Who) (v : Val) {s0 s : State} (hk : Keeps s0 s) : Keeps s0 (calAbortEffect p x1 v s).st := by
  unfold calAbortEffect
  try dsimp only
  repeat' (first | with_reducible assumption | with_reducible apply putCalStatus_keeps | with_reducible apply leaveCal_keeps | with_reducible apply Reply_ok_keeps | with_reducible apply Reply_late_keeps | with_reducible apply State_set_keeps | with_reducible apply State_setPort_keeps | with_reducible apply keeps_ite_st | split | simp only [keeps_upd_iff] | intro _)

theorem execCalAbort_keeps (p : Nat) (f : Frame) {s t : State} (h : execCalAbort p f s = .next t) : Keeps s t := by
  unfold execCalAbort at h
  injection h with h
  subst h
  try dsimp only
  repeat' (first | with_reducible assumption | with_reducible exact keeps_refl _ | with_reducible apply requestWrite_keeps | with_reducible apply calAbortEffect_keeps | intro _)

theorem execCalPendingStart_keeps (p : Nat) {s t : State} (h : execCalPendingStart p s = .next t) : Keeps s t := by
  unfold execCalPendingStart at h
  injection h with h
  subst h
  try dsimp only
  repeat' (first | with_reducible assumption | with_reducible exact keeps_refl _ | with_reducible apply calBegin_keeps | with_reducible apply keeps_ite | split | simp only [keeps_upd_iff] | intro _)

theorem execCalPieceDone_keeps (p : Nat) {s t : State} (h : execCalPieceDone p s = .next t) : Keeps s t := by
  unfold execCalPieceDone at h
  injection h with h
  subst h
  try dsimp only
  repeat' (first | with_reducible assumption | with_reducible exact keeps_refl _ | with_reducible apply joinPending_keeps | with_reducible apply leaveCal_keeps | with_reducible apply putCalStatus_keeps | with_reducible apply State_set_keeps | with_reducible apply keeps_ite | split | intro _)

theorem putFails_keeps (p : Nat) (k : Nat) (n : Nat) {s0 s : State} (hk : Keeps s0 s) : Keeps s0 (putFails p k n s) := by
  unfold putFails
  try dsimp only
  repeat' (first | with_reducible assumption | with_reducible apply State_setPort_keeps | with_reducible apply State_set_keeps | simp only [keeps_upd_iff] | intro _)

theorem storeLoss_keeps (p : Nat) (k : Nat) (r : CalResult) {s0 s : State} (hk : Keeps s0 s) : Keeps s0 (storeLoss p k r s) := by
  unfold storeLoss
  try dsimp only
  repeat' (first | with_reducible assumption | with_reducible apply State_set_keeps | with_reducible apply keeps_ite | split | intro _)

theorem storeResult_keeps (p : Nat) (k : Nat) (r : CalResult) {s0 s : State} (hk : Keeps s0 s) : Keeps s0 (storeResult p k r s) := by
  unfold storeResult
  try dsimp only
  repeat' (first | with_reducible assumption | with_reducible apply storeLoss_keeps | with_reducible apply State_drawn_keeps | with_reducible apply State_set_keeps | with_reducible apply keeps_ite | split | simp only [keeps_upd_iff] | intro _)

theorem calPass_keeps (p : Nat) (k : Nat) (r : CalResult) {s0 s : State} (hk : Keeps s0 s) : Keeps s0 (calPass p k r s) := by
  unfold calPass
  try dsimp only
  repeat' (first | with_reducible assumption | with_reducible apply storeResult_keeps | with_reducible apply putFails_keeps | with_reducible apply putCalStatus_keeps | with_reducible apply returnFinds_keeps | with_reducible apply State_clrBit_keeps | with_reducible apply State_set_keeps | with_reducible apply keeps_ite | split | intro _)

theorem calFail_keeps (p : Nat) (k : Nat) (r : CalResult) {s0 s : State} (hk : Keeps s0 s) : Keeps s0 (calFail p k r s) := by
  unfold calFail
  try dsimp only
  repeat' (first | with_reducible assumption | with_reducible apply fault_keeps | with_reducible apply storeLoss_keeps | with_reducible apply putFails_keeps | with_reducible apply returnFinds_keeps | with_reducible apply markStale_keeps | with_reducible apply joinPending_keeps | with_reducible apply putCalStatus_keeps | with_reducible apply State_sticky_keeps | with_reducible apply State_inc_keeps | with_reducible apply State_set_keeps | with_reducible apply keeps_ite | split | intro _)

theorem execCalComplete_keeps (p : Nat) (pass : Bool) (loss : Int) (image : Int) (rxTemp : Int) (txTemp : Int) {s t : State} (h : execCalComplete p pass loss image rxTemp txTemp s = .next t) : Keeps s t := by
  unfold execCalComplete at h
  injection h with h
  subst h
  try dsimp only
  repeat' (first | with_reducible assumption | with_reducible exact keeps_refl _ | with_reducible apply leaveCal_keeps | with_reducible apply calPass_keeps | with_reducible apply calFail_keeps | with_reducible apply State_setPort_keeps | with_reducible apply keeps_ite | split | simp only [keeps_upd_iff] | intro _)

theorem execCalOverdue_keeps (p : Nat) {s t : State} (h : execCalOverdue p s = .next t) : Keeps s t := by
  unfold execCalOverdue at h
  injection h with h
  subst h
  try dsimp only
  repeat' (first | with_reducible assumption | with_reducible exact keeps_refl _ | with_reducible apply fault_keeps | with_reducible apply putCalStatus_keeps | with_reducible apply State_setPort_keeps | with_reducible apply keeps_ite | split | simp only [keeps_upd_iff] | intro _)

theorem shedPhase_keeps (r : Nat) (k : Nat) (byLoad : Bool) {s0 s : State} (hk : Keeps s0 s) : Keeps s0 (shedPhase r k byLoad s) := by
  unfold shedPhase
  try dsimp only
  repeat' (first | with_reducible assumption | with_reducible apply State_setRail_keeps | with_reducible apply keeps_ite | split | simp only [keeps_upd_iff] | intro _)

theorem readdPhases_keeps (r : Nat) (l : List Nat) {s0 s : State} (hk : Keeps s0 s) : Keeps s0 (readdPhases r l s) := by
  unfold readdPhases
  try dsimp only
  repeat' (first | with_reducible assumption | with_reducible apply State_setRail_keeps | with_reducible apply State_set_keeps | simp only [keeps_upd_iff] | intro _)

theorem schedulePhases_keeps (r : Nat) (n : Nat) {s0 s : State} (hk : Keeps s0 s) : Keeps s0 (schedulePhases r n s) := by
  unfold schedulePhases
  try dsimp only
  repeat' (first | with_reducible assumption | with_reducible apply readdPhases_keeps | with_reducible apply shedPhase_keeps | with_reducible refine forL_keeps (fun _ _ _ => ?_) ?_ | with_reducible apply keeps_ite | split | intro _)

theorem selectSetpoint_keeps (r : Nat) (n : Nat) {s0 s : State} (hk : Keeps s0 s) : Keeps s0 (selectSetpoint r n s) := by
  unfold selectSetpoint
  try dsimp only
  repeat' (first | with_reducible assumption | with_reducible apply moveRef_keeps | with_reducible apply schedulePhases_keeps | with_reducible apply State_set_keeps | with_reducible apply State_setRail_keeps | with_reducible apply keeps_ite | split | simp only [keeps_upd_iff] | intro _)

theorem railSelect_keeps (r : Nat) (n : Nat) {s0 s : State} (hk : Keeps s0 s) : Keeps s0 (railSelect r n s) := by
  unfold railSelect
  try dsimp only
  repeat' (first | with_reducible assumption | with_reducible apply selectSetpoint_keeps | with_reducible apply keeps_ite | split | intro _)

theorem execRailMoveEnd_keeps (r : Nat) {s t : State} (h : execRailMoveEnd r s = .next t) : Keeps s t := by
  unfold execRailMoveEnd at h
  injection h with h
  subst h
  try dsimp only
  repeat' (first | with_reducible assumption | with_reducible exact keeps_refl _ | with_reducible apply State_setRail_keeps | with_reducible apply State_set_keeps | with_reducible apply keeps_ite | split | simp only [keeps_upd_iff] | intro _)

theorem takeVsel_keeps (r : Nat) (v : Nat) {s0 s : State} (hk : Keeps s0 s) : Keeps s0 (takeVsel r v s) := by
  unfold takeVsel
  try dsimp only
  repeat' (first | with_reducible assumption | with_reducible apply selectSetpoint_keeps | with_reducible apply State_setRail_keeps | with_reducible apply keeps_ite | split | simp only [keeps_upd_iff] | intro _)

theorem execVselAccept_keeps (v : Nat) {s t : State} (h : execVselAccept v s = .next t) : Keeps s t := by
  unfold execVselAccept at h
  injection h with h
  subst h
  try dsimp only
  repeat' (first | with_reducible assumption | with_reducible exact keeps_refl _ | with_reducible apply takeVsel_keeps | with_reducible apply State_set_keeps | with_reducible refine forN_keeps (fun _ _ _ => ?_) ?_ | with_reducible apply keeps_ite | split | intro _)

theorem execVselDeferredApply_keeps (r : Nat) {s t : State} (h : execVselDeferredApply r s = .next t) : Keeps s t := by
  unfold execVselDeferredApply at h
  injection h with h
  subst h
  try dsimp only
  repeat' (first | with_reducible assumption | with_reducible exact keeps_refl _ | with_reducible apply selectSetpoint_keeps | with_reducible apply State_setRail_keeps | with_reducible apply keeps_ite | split | simp only [keeps_upd_iff] | intro _)

theorem execRailAutoShed_keeps (r : Nat) (mean : Int) {s t : State} (h : execRailAutoShed r mean s = .next t) : Keeps s t := by
  unfold execRailAutoShed at h
  injection h with h
  subst h
  try dsimp only
  repeat' (first | with_reducible assumption | with_reducible exact keeps_refl _ | with_reducible apply shedPhase_keeps | with_reducible apply keeps_ite | split | simp only [keeps_upd_iff] | intro _)

theorem execPhaseShedDone_keeps (r : Nat) (k : Nat) {s t : State} (h : execPhaseShedDone r k s = .next t) : Keeps s t := by
  unfold execPhaseShedDone at h
  injection h with h
  subst h
  try dsimp only
  repeat' (first | with_reducible assumption | with_reducible exact keeps_refl _ | with_reducible apply State_setRail_keeps | with_reducible apply State_clrBit_keeps | with_reducible apply keeps_ite | split | simp only [keeps_upd_iff] | intro _)

theorem execKeepoutReadd_keeps (r : Nat) {s t : State} (h : execKeepoutReadd r s = .next t) : Keeps s t := by
  unfold execKeepoutReadd at h
  injection h with h
  subst h
  try dsimp only
  repeat' (first | with_reducible assumption | with_reducible exact keeps_refl _ | with_reducible apply readdPhases_keeps | with_reducible apply keeps_ite | split | intro _)

theorem execLoadStepReadd_keeps (r : Nat) {s t : State} (h : execLoadStepReadd r s = .next t) : Keeps s t := by
  unfold execLoadStepReadd at h
  injection h with h
  subst h
  try dsimp only
  repeat' (first | with_reducible assumption | with_reducible exact keeps_refl _ | with_reducible apply readdPhases_keeps | with_reducible apply fault_keeps | with_reducible apply State_inc_keeps | with_reducible apply keeps_ite | split | intro _)

theorem execPhaseBalance_keeps (r : Nat) {s t : State} (h : execPhaseBalance r s = .next t) : Keeps s t := by
  unfold execPhaseBalance at h
  injection h with h
  subst h
  try dsimp only
  repeat' (first | with_reducible assumption | with_reducible exact keeps_refl _ | with_reducible apply State_setRail_keeps | with_reducible apply State_set_keeps | with_reducible refine forN_keeps (fun _ _ _ => ?_) ?_ | with_reducible apply keeps_ite | split | simp only [keeps_upd_iff] | intro _)

theorem enterRail_keeps (r : Nat) (v : Int) {s0 s : State} (hk : Keeps s0 s) : Keeps s0 (enterRail r v s) := by
  unfold enterRail
  try dsimp only
  repeat' (first | with_reducible assumption | with_reducible apply State_setRail_keeps | with_reducible apply State_set_keeps | simp only [keeps_upd_iff] | intro _)

theorem execRailStart_keeps (r : Nat) {s t : State} (h : execRailStart r s = .next t) : Keeps s t := by
  unfold execRailStart at h
  injection h with h
  subst h
  try dsimp only
  repeat' (first | with_reducible assumption | with_reducible exact keeps_refl _ | with_reducible apply enterRail_keeps | with_reducible apply State_set_keeps | with_reducible apply keeps_ite | split | intro _)

theorem startRamp_keeps (r : Nat) (sensed : Nat) {s0 s : State} (hk : Keeps s0 s) : Keeps s0 (startRamp r sensed s) := by
  unfold startRamp
  try dsimp only
  repeat' (first | with_reducible assumption | with_reducible apply State_set_keeps | with_reducible apply State_setRail_keeps | simp only [keeps_upd_iff] | intro _)

theorem execRailOnDelayEnd_keeps (r : Nat) (sensed : Nat) {s t : State} (h : execRailOnDelayEnd r sensed s = .next t) : Keeps s t := by
  unfold execRailOnDelayEnd at h
  injection h with h
  subst h
  try dsimp only
  repeat' (first | with_reducible assumption | with_reducible exact keeps_refl _ | with_reducible apply startRamp_keeps | with_reducible apply keeps_ite | split | intro _)

theorem execRailRampDone_keeps (r : Nat) {s t : State} (h : execRailRampDone r s = .next t) : Keeps s t := by
  unfold execRailRampDone at h
  injection h with h
  subst h
  try dsimp only
  repeat' (first | with_reducible assumption | with_reducible exact keeps_refl _ | with_reducible apply enterRail_keeps | with_reducible apply State_set_keeps | with_reducible apply keeps_ite | split | intro _)

theorem execRailQualified_keeps (r : Nat) {s t : State} (h : execRailQualified r s = .next t) : Keeps s t := by
  unfold execRailQualified at h
  injection h with h
  subst h
  try dsimp only
  repeat' (first | with_reducible assumption | with_reducible exact keeps_refl _ | with_reducible apply enterRail_keeps | with_reducible apply State_set_keeps | with_reducible apply keeps_ite | split | intro _)

theorem execRailFaultCondition_keeps (r : Nat) (cause : Nat) {s t : State} (h : execRailFaultCondition r cause s = .next t) : Keeps s t := by
  unfold execRailFaultCondition at h
  injection h with h
  subst h
  try dsimp only
  repeat' (first | with_reducible assumption | with_reducible exact keeps_refl _ | with_reducible apply enterRail_keeps | with_reducible apply State_setRail_keeps | with_reducible apply State_set_keeps | with_reducible apply keeps_ite | split | simp only [keeps_upd_iff] | intro _)

theorem execRailFaultClear_keeps (r : Nat) (cause : Nat) {s t : State} (h : execRailFaultClear r cause s = .next t) : Keeps s t := by
  unfold execRailFaultClear at h
  injection h with h
  subst h
  try dsimp only
  repeat' (first | with_reducible assumption | with_reducible exact keeps_refl _ | with_reducible apply enterRail_keeps | with_reducible apply State_setRail_keeps | with_reducible apply keeps_ite | split | simp only [keeps_upd_iff] | intro _)

theorem latchRail_keeps (r : Nat) {s0 s : State} (hk : Keeps s0 s) : Keeps s0 (latchRail r s) := by
  unfold latchRail
  try dsimp only
  repeat' (first | with_reducible assumption | with_reducible apply enterRail_keeps | with_reducible apply fault_keeps | intro _)

theorem execRailFaultTimerExpired_keeps (r : Nat) (cause : Nat) {s t : State} (h : execRailFaultTimerExpired r cause s = .next t) : Keeps s t := by
  unfold execRailFaultTimerExpired at h
  injection h with h
  subst h
  try dsimp only
  repeat' (first | with_reducible assumption | with_reducible exact keeps_refl _ | with_reducible apply enterRail_keeps | with_reducible apply fault_keeps | with_reducible apply latchRail_keeps | with_reducible apply State_sticky_keeps | with_reducible apply State_inc_keeps | with_reducible apply State_set_keeps | with_reducible apply State_setRail_keeps | with_reducible apply keeps_ite | split | simp only [keeps_upd_iff] | intro _)

theorem execRailRetry_keeps (r : Nat) (sensed : Nat) {s t : State} (h : execRailRetry r sensed s = .next t) : Keeps s t := by
  unfold execRailRetry at h
  injection h with h
  subst h
  try dsimp only
  repeat' (first | with_reducible assumption | with_reducible exact keeps_refl _ | with_reducible apply latchRail_keeps | with_reducible apply startRamp_keeps | with_reducible apply State_set_keeps | with_reducible apply keeps_ite | split | intro _)

theorem execRailOffRampDone_keeps (r : Nat) {s t : State} (h : execRailOffRampDone r s = .next t) : Keeps s t := by
  unfold execRailOffRampDone at h
  injection h with h
  subst h
  try dsimp only
  repeat' (first | with_reducible assumption | with_reducible exact keeps_refl _ | with_reducible apply enterRail_keeps | with_reducible apply State_set_keeps | with_reducible apply keeps_ite | split | intro _)

theorem railDisabled_keeps (r : Nat) {s0 s : State} (hk : Keeps s0 s) : Keeps s0 (railDisabled r s) := by
  unfold railDisabled
  try dsimp only
  repeat' (first | with_reducible assumption | with_reducible apply railOffRamp_keeps | with_reducible apply enterRail_keeps | with_reducible apply State_set_keeps | with_reducible apply keeps_ite | split | intro _)

theorem execRemoteSenseFail_keeps (r : Nat) {s t : State} (h : execRemoteSenseFail r s = .next t) : Keeps s t := by
  unfold execRemoteSenseFail at h
  injection h with h
  subst h
  try dsimp only
  repeat' (first | with_reducible assumption | with_reducible exact keeps_refl _ | with_reducible apply fault_keeps | with_reducible apply State_sticky_keeps | with_reducible apply State_set_keeps | with_reducible apply keeps_ite | split | intro _)

theorem execPhaseFail_keeps (r : Nat) (k : Nat) (ipk : Nat) {s t : State} (h : execPhaseFail r k ipk s = .next t) : Keeps s t := by
  unfold execPhaseFail at h
  injection h with h
  subst h
  try dsimp only
  repeat' (first | with_reducible assumption | with_reducible exact keeps_refl _ | with_reducible apply fault_keeps | with_reducible apply State_sticky_keeps | with_reducible apply State_setBit_keeps | with_reducible apply State_clrBit_keeps | with_reducible apply State_setRail_keeps | with_reducible apply State_set_keeps | with_reducible apply keeps_ite | split | simp only [keeps_upd_iff] | intro _)

theorem execRailTelemetryUpdate_keeps (r : Nat) (ipk : Nat) (peak : Nat) {s t : State} (h : execRailTelemetryUpdate r ipk peak s = .next t) : Keeps s t := by
  unfold execRailTelemetryUpdate at h
  injection h with h
  subst h
  try dsimp only
  repeat' (first | with_reducible assumption | with_reducible exact keeps_refl _ | with_reducible apply State_set_keeps | with_reducible apply keeps_ite | split | intro _)

theorem peakClearEffect_keeps (r : Nat) (x1 : Who) (v : Val) {s0 s : State} (hk : Keeps s0 s) : Keeps s0 (peakClearEffect r x1 v s).st := by
  unfold peakClearEffect
  try dsimp only
  repeat' (first | with_reducible assumption | with_reducible apply Reply_ok_keeps | with_reducible apply State_set_keeps | with_reducible apply keeps_ite_st | split | intro _)

theorem execRlPeakClear_keeps (r : Nat) (f : Frame) {s t : State} (h : execRlPeakClear r f s = .next t) : Keeps s t := by
  unfold execRlPeakClear at h
  injection h with h
  subst h
  try dsimp only
  repeat' (first | with_reducible assumption | with_reducible exact keeps_refl _ | with_reducible apply requestWrite_keeps | with_reducible apply peakClearEffect_keeps | intro _)

theorem railBase_keeps (r : Nat) {s0 s : State} (hk : Keeps s0 s) : Keeps s0 (railBase r s) := by
  unfold railBase
  try dsimp only
  repeat' (first | with_reducible assumption | with_reducible apply State_setRail_keeps | with_reducible apply keeps_ite | split | simp only [keeps_upd_iff] | intro _)

theorem phaseTick_keeps (r : Nat) (k : Nat) {s0 s : State} (hk : Keeps s0 s) : Keeps s0 (phaseTick r k s) := by
  unfold phaseTick
  try dsimp only
  repeat' (first | with_reducible assumption | with_reducible apply State_setRail_keeps | with_reducible apply keeps_ite | split | simp only [keeps_upd_iff] | intro _)

theorem railTick_keeps (r : Nat) {s0 s : State} (hk : Keeps s0 s) : Keeps s0 (railTick r s) := by
  unfold railTick
  try dsimp only
  repeat' (first | with_reducible assumption | with_reducible apply phaseTick_keeps | with_reducible apply railBase_keeps | with_reducible apply State_setRail_keeps | with_reducible refine forL_keeps (fun _ _ _ => ?_) ?_ | with_reducible apply keeps_ite | split | simp only [keeps_upd_iff] | intro _)

theorem railsTick_keeps  {s0 s : State} (hk : Keeps s0 s) : Keeps s0 (railsTick s) := by
  unfold railsTick
  try dsimp only
  repeat' (first | with_reducible assumption | with_reducible apply railTick_keeps | with_reducible refine forN_keeps (fun _ _ _ => ?_) ?_ | intro _)

theorem reviewRequired_keeps (f : Nat) {s0 s : State} (hk : Keeps s0 s) : Keeps s0 (reviewRequired f s) := by
  unfold reviewRequired
  try dsimp only
  repeat' (first | with_reducible assumption | with_reducible apply holdPort_keeps | with_reducible apply unholdPort_keeps | with_reducible apply keeps_ite | split | intro _)

theorem feedTo_keeps (f : Nat) (v : Int) {s0 s : State} (hk : Keeps s0 s) : Keeps s0 (feedTo f v s) := by
  unfold feedTo
  try dsimp only
  repeat' (first | with_reducible assumption | with_reducible apply reviewRequired_keeps | with_reducible apply enterFeed_keeps | intro _)

theorem feedDetect_keeps (f : Nat) {s0 s : State} (hk : Keeps s0 s) : Keeps s0 (feedDetect f s) := by
  unfold feedDetect
  try dsimp only
  repeat' (first | with_reducible assumption | with_reducible apply feedTo_keeps | with_reducible apply State_set_keeps | intro _)

theorem restoreRetries_keeps (f : Nat) {s0 s : State} (hk : Keeps s0 s) : Keeps s0 (restoreRetries f s) := by
  unfold restoreRetries
  try dsimp only
  repeat' (first | with_reducible assumption | with_reducible apply State_set_keeps | intro _)

theorem latchFeed_keeps (f : Nat) {s0 s : State} (hk : Keeps s0 s) : Keeps s0 (latchFeed f s) := by
  unfold latchFeed
  try dsimp only
  repeat' (first | with_reducible assumption | with_reducible apply feedTo_keeps | with_reducible apply fault_keeps | intro _)

theorem feedFault_keeps (f : Nat) (cause : Nat) {s0 s : State} (hk : Keeps s0 s) : Keeps s0 (feedFault f cause s) := by
  unfold feedFault
  try dsimp only
  repeat' (first | with_reducible assumption | with_reducible apply fault_keeps | with_reducible apply latchFeed_keeps | with_reducible apply feedTo_keeps | with_reducible apply State_sticky_keeps | with_reducible apply State_inc_keeps | with_reducible apply State_set_keeps | with_reducible apply keeps_ite | split | intro _)

theorem feedEnabled_keeps (f : Nat) {s0 s : State} (hk : Keeps s0 s) : Keeps s0 (feedEnabled f s) := by
  unfold feedEnabled
  try dsimp only
  repeat' (first | with_reducible assumption | with_reducible apply feedTo_keeps | with_reducible apply feedDetect_keeps | with_reducible apply keeps_ite | split | intro _)

theorem feedDisabled_keeps (f : Nat) {s0 s : State} (hk : Keeps s0 s) : Keeps s0 (feedDisabled f s) := by
  unfold feedDisabled
  try dsimp only
  repeat' (first | with_reducible assumption | with_reducible apply feedTo_keeps | with_reducible apply restoreRetries_keeps | with_reducible apply State_set_keeps | with_reducible apply keeps_ite | split | intro _)

theorem feedSwitch_keeps (f : Nat) (v : Nat) {s0 s : State} (hk : Keeps s0 s) : Keeps s0 (feedSwitch f v s) := by
  unfold feedSwitch
  try dsimp only
  repeat' (first | with_reducible assumption | with_reducible apply feedEnabled_keeps | with_reducible apply feedDisabled_keeps | with_reducible apply State_set_keeps | with_reducible apply keeps_ite | split | intro _)

theorem feedsTick_keeps  {s0 s : State} (hk : Keeps s0 s) : Keeps s0 (feedsTick s) := by
  unfold feedsTick
  try dsimp only
  repeat' (first | with_reducible assumption | with_reducible apply State_setFeed_keeps | with_reducible refine forN_keeps (fun _ _ _ => ?_) ?_ | with_reducible apply keeps_ite | split | simp only [keeps_upd_iff] | intro _)

theorem execFeedSignatureReading_keeps (f : Nat) (mv : Nat) {s t : State} (h : execFeedSignatureReading f mv s = .next t) : Keeps s t := by
  unfold execFeedSignatureReading at h
  injection h with h
  subst h
  try dsimp only
  repeat' (first | with_reducible assumption | with_reducible exact keeps_refl _ | with_reducible apply settleChrysalis_keeps | with_reducible apply decideFeed_keeps | with_reducible apply State_setFeed_keeps | with_reducible apply State_set_keeps | with_reducible apply keeps_ite | split | simp only [keeps_upd_iff] | intro _)

theorem execFeedDetected_keeps (f : Nat) (vin : Nat) {s t : State} (h : execFeedDetected f vin s = .next t) : Keeps s t := by
  unfold execFeedDetected at h
  injection h with h
  subst h
  try dsimp only
  repeat' (first | with_reducible assumption | with_reducible exact keeps_refl _ | with_reducible apply feedTo_keeps | with_reducible apply keeps_ite | split | intro _)

theorem execFeedClassified_keeps (f : Nat) (ma : Nat) {s t : State} (h : execFeedClassified f ma s = .next t) : Keeps s t := by
  unfold execFeedClassified at h
  injection h with h
  subst h
  try dsimp only
  repeat' (first | with_reducible assumption | with_reducible exact keeps_refl _ | with_reducible apply feedTo_keeps | with_reducible apply feedFault_keeps | with_reducible apply State_set_keeps | with_reducible apply keeps_ite | split | simp only [keeps_upd_iff] | intro _)

theorem execFeedOn_keeps (f : Nat) {s t : State} (h : execFeedOn f s = .next t) : Keeps s t := by
  unfold execFeedOn at h
  injection h with h
  subst h
  try dsimp only
  repeat' (first | with_reducible assumption | with_reducible exact keeps_refl _ | with_reducible apply feedTo_keeps | with_reducible apply State_set_keeps | with_reducible apply keeps_ite | split | intro _)

theorem execFeedInrushTimeout_keeps (f : Nat) {s t : State} (h : execFeedInrushTimeout f s = .next t) : Keeps s t := by
  unfold execFeedInrushTimeout at h
  injection h with h
  subst h
  try dsimp only
  repeat' (first | with_reducible assumption | with_reducible exact keeps_refl _ | with_reducible apply feedFault_keeps | with_reducible apply keeps_ite | split | intro _)

theorem execFeedFault_keeps (f : Nat) (cause : Nat) {s t : State} (h : execFeedFault f cause s = .next t) : Keeps s t := by
  unfold execFeedFault at h
  injection h with h
  subst h
  try dsimp only
  repeat' (first | with_reducible assumption | with_reducible exact keeps_refl _ | with_reducible apply feedFault_keeps | with_reducible apply keeps_ite | split | intro _)

theorem execFeedOcTimeout_keeps (f : Nat) {s t : State} (h : execFeedOcTimeout f s = .next t) : Keeps s t := by
  unfold execFeedOcTimeout at h
  injection h with h
  subst h
  try dsimp only
  repeat' (first | with_reducible assumption | with_reducible exact keeps_refl _ | with_reducible apply feedFault_keeps | with_reducible apply keeps_ite | split | intro _)

theorem execFeedLoadRemoved_keeps (f : Nat) {s t : State} (h : execFeedLoadRemoved f s = .next t) : Keeps s t := by
  unfold execFeedLoadRemoved at h
  injection h with h
  subst h
  try dsimp only
  repeat' (first | with_reducible assumption | with_reducible exact keeps_refl _ | with_reducible apply feedDetect_keeps | with_reducible apply fault_keeps | with_reducible apply State_inc_keeps | with_reducible apply keeps_ite | split | intro _)

theorem updateJunction_keeps (f : Nat) {s0 s : State} (hk : Keeps s0 s) : Keeps s0 (updateJunction f s) := by
  unfold updateJunction
  try dsimp only
  repeat' (first | with_reducible assumption | with_reducible apply State_setFeed_keeps | with_reducible apply State_setFlag_keeps | with_reducible apply State_set_keeps | with_reducible apply keeps_ite | split | simp only [keeps_upd_iff] | intro _)

theorem judgeFeed_keeps (f : Nat) {s0 s : State} (hk : Keeps s0 s) : Keeps s0 (judgeFeed f s) := by
  unfold judgeFeed
  try dsimp only
  repeat' (first | with_reducible assumption | with_reducible apply State_setFeed_keeps | simp only [keeps_upd_iff] | intro _)

theorem execFeedSoaUpdate_keeps (f : Nat) (vin : Int) (vout : Int) (amps : Int) {s t : State} (h : execFeedSoaUpdate f vin vout amps s = .next t) : Keeps s t := by
  unfold execFeedSoaUpdate at h
  injection h with h
  subst h
  try dsimp only
  repeat' (first | with_reducible assumption | with_reducible exact keeps_refl _ | with_reducible apply judgeFeed_keeps | with_reducible apply updateJunction_keeps | with_reducible apply State_set_keeps | intro _)

theorem execFeedRetry_keeps (f : Nat) {s t : State} (h : execFeedRetry f s = .next t) : Keeps s t := by
  unfold execFeedRetry at h
  injection h with h
  subst h
  try dsimp only
  repeat' (first | with_reducible assumption | with_reducible exact keeps_refl _ | with_reducible apply feedTo_keeps | with_reducible apply State_set_keeps | with_reducible apply keeps_ite | split | intro _)

theorem execFeedRetriesRestore_keeps (f : Nat) {s t : State} (h : execFeedRetriesRestore f s = .next t) : Keeps s t := by
  unfold execFeedRetriesRestore at h
  injection h with h
  subst h
  try dsimp only
  repeat' (first | with_reducible assumption | with_reducible exact keeps_refl _ | with_reducible apply restoreRetries_keeps | with_reducible apply keeps_ite | split | intro _)

theorem execFeedLeakSeal_keeps (f : Nat) {s t : State} (h : execFeedLeakSeal f s = .next t) : Keeps s t := by
  unfold execFeedLeakSeal at h
  injection h with h
  subst h
  try dsimp only
  repeat' (first | with_reducible assumption | with_reducible exact keeps_refl _ | with_reducible apply feedTo_keeps | with_reducible apply fault_keeps | with_reducible apply State_set_keeps | with_reducible apply State_sticky_keeps | with_reducible apply State_setBit_keeps | with_reducible apply keeps_ite | split | intro _)

theorem execOpenCableRelease_keeps (p : Nat) {s t : State} (h : execOpenCableRelease p s = .next t) : Keeps s t := by
  unfold execOpenCableRelease at h
  injection h with h
  subst h
  try dsimp only
  repeat' (first | with_reducible assumption | with_reducible exact keeps_refl _ | with_reducible apply releasePort_keeps | with_reducible apply State_setPort_keeps | with_reducible apply keeps_ite | split | simp only [keeps_upd_iff] | intro _)

theorem fdAbortEffect_keeps (f : Nat) (x1 : Who) (v : Val) {s0 s : State} (hk : Keeps s0 s) : Keeps s0 (fdAbortEffect f x1 v s).st := by
  unfold fdAbortEffect
  try dsimp only
  repeat' (first | with_reducible assumption | with_reducible apply feedTo_keeps | with_reducible apply Reply_ok_keeps | with_reducible apply State_set_keeps | with_reducible apply Reply_late_keeps | with_reducible apply Reply_no_keeps | with_reducible apply keeps_ite_st | split | intro _)

theorem execFdAbort_keeps (f : Nat) (fr : Frame) {s t : State} (h : execFdAbort f fr s = .next t) : Keeps s t := by
  unfold execFdAbort at h
  injection h with h
  subst h
  try dsimp only
  repeat' (first | with_reducible assumption | with_reducible exact keeps_refl _ | with_reducible apply requestWrite_keeps | with_reducible apply fdAbortEffect_keeps | intro _)

theorem fdRestartEffect_keeps (f : Nat) (x1 : Who) (v : Val) {s0 s : State} (hk : Keeps s0 s) : Keeps s0 (fdRestartEffect f x1 v s).st := by
  unfold fdRestartEffect
  try dsimp only
  repeat' (first | with_reducible assumption | with_reducible apply feedDetect_keeps | with_reducible apply restoreRetries_keeps | with_reducible apply Reply_ok_keeps | with_reducible apply Reply_no_keeps | with_reducible apply keeps_ite_st | split | intro _)

theorem execFdRestart_keeps (f : Nat) (fr : Frame) {s t : State} (h : execFdRestart f fr s = .next t) : Keeps s t := by
  unfold execFdRestart at h
  injection h with h
  subst h
  try dsimp only
  repeat' (first | with_reducible assumption | with_reducible exact keeps_refl _ | with_reducible apply requestWrite_keeps | with_reducible apply fdRestartEffect_keeps | intro _)

theorem demonstrate_keeps (c : Nat) (w : EstWindow) {s0 s : State} (hk : Keeps s0 s) : Keeps s0 (demonstrate c w s) := by
  unfold demonstrate
  try dsimp only
  repeat' (first | with_reducible assumption | with_reducible apply State_setChan_keeps | with_reducible refine forL_keeps (fun _ _ _ => ?_) ?_ | with_reducible apply keeps_ite | split | simp only [keeps_upd_iff] | intro _)

theorem fireDetector_keeps (c : Nat) (det : Nat) {s0 s : State} (hk : Keeps s0 s) : Keeps s0 (fireDetector c det s) := by
  unfold fireDetector
  try dsimp only
  repeat' (first | with_reducible assumption | with_reducible apply State_setChan_keeps | with_reducible apply keeps_ite | split | simp only [keeps_upd_iff] | intro _)

theorem validWindow_keeps (c : Nat) (w : EstWindow) (m : Int) {s0 s : State} (hk : Keeps s0 s) : Keeps s0 (validWindow c w m s) := by
  unfold validWindow
  try dsimp only
  repeat' (first | with_reducible assumption | with_reducible apply demonstrate_keeps | with_reducible apply fireDetector_keeps | with_reducible apply State_setChan_keeps | with_reducible apply State_set_keeps | with_reducible apply keeps_ite | split | simp only [keeps_upd_iff] | intro _)

theorem invalidWindow_keeps (c : Nat) (w : EstWindow) {s0 s : State} (hk : Keeps s0 s) : Keeps s0 (invalidWindow c w s) := by
  unfold invalidWindow
  try dsimp only
  repeat' (first | with_reducible assumption | with_reducible apply State_setChan_keeps | with_reducible apply State_set_keeps | with_reducible apply keeps_ite | split | simp only [keeps_upd_iff] | intro _)

theorem diverge_keeps (c : Nat) {s0 s : State} (hk : Keeps s0 s) : Keeps s0 (diverge c s) := by
  unfold diverge
  try dsimp only
  repeat' (first | with_reducible assumption | with_reducible apply tapReset_keeps | with_reducible apply fault_keeps | with_reducible apply State_setChan_keeps | with_reducible apply State_inc_keeps | with_reducible apply keeps_ite | split | simp only [keeps_upd_iff] | intro _)

theorem execEstimatorWindowEnd_keeps (c : Nat) (w : EstWindow) {s t : State} (h : execEstimatorWindowEnd c w s = .next t) : Keeps s t := by
  unfold execEstimatorWindowEnd at h
  injection h with h
  subst h
  try dsimp only
  repeat' (first | with_reducible assumption | with_reducible exact keeps_refl _ | with_reducible apply validWindow_keeps | with_reducible apply invalidWindow_keeps | with_reducible apply State_setPath_keeps | with_reducible apply keeps_ite | split | simp only [keeps_upd_iff] | intro _)

theorem execCancellerConverged_keeps (c : Nat) {s t : State} (h : execCancellerConverged c s = .next t) : Keeps s t := by
  unfold execCancellerConverged at h
  injection h with h
  subst h
  try dsimp only
  repeat' (first | with_reducible assumption | with_reducible exact keeps_refl _ | with_reducible apply State_setChan_keeps | with_reducible apply State_set_keeps | with_reducible apply keeps_ite | split | simp only [keeps_upd_iff] | intro _)

theorem execMarginExpired_keeps (c : Nat) {s t : State} (h : execMarginExpired c s = .next t) : Keeps s t := by
  unfold execMarginExpired at h
  injection h with h
  subst h
  try dsimp only
  repeat' (first | with_reducible assumption | with_reducible exact keeps_refl _ | with_reducible apply State_set_keeps | with_reducible apply keeps_ite | split | intro _)

theorem writeRecord_keeps (c : Nat) (n : Nat) (iso : Int) (depth : Int) {s0 s : State} (hk : Keeps s0 s) : Keeps s0 (writeRecord c n iso depth s) := by
  unfold writeRecord
  try dsimp only
  repeat' (first | with_reducible assumption | with_reducible apply State_set_keeps | with_reducible apply State_setBit_keeps | intro _)

theorem execDemoWindowEnd_keeps (c : Nat) {s t : State} (h : execDemoWindowEnd c s = .next t) : Keeps s t := by
  unfold execDemoWindowEnd at h
  injection h with h
  subst h
  try dsimp only
  repeat' (first | with_reducible assumption | with_reducible exact keeps_refl _ | with_reducible apply writeRecord_keeps | with_reducible apply State_setChan_keeps | with_reducible refine forN_keeps (fun _ _ _ => ?_) ?_ | with_reducible apply keeps_ite | split | simp only [keeps_upd_iff] | intro _)

theorem cxResetEffect_keeps (c : Nat) (x1 : Who) (x2 : Val) {s0 s : State} (hk : Keeps s0 s) : Keeps s0 (cxResetEffect c x1 x2 s).st := by
  unfold cxResetEffect
  try dsimp only
  repeat' (first | with_reducible assumption | with_reducible apply tapReset_keeps | with_reducible apply Reply_ok_keeps | intro _)

theorem execCxReset_keeps (c : Nat) (f : Frame) {s t : State} (h : execCxReset c f s = .next t) : Keeps s t := by
  unfold execCxReset at h
  injection h with h
  subst h
  try dsimp only
  repeat' (first | with_reducible assumption | with_reducible exact keeps_refl _ | with_reducible apply requestWrite_keeps | with_reducible apply cxResetEffect_keeps | intro _)

theorem execBranchDeferredPlace_keeps (c : Nat) (n : Nat) {s t : State} (h : execBranchDeferredPlace c n s = .next t) : Keeps s t := by
  unfold execBranchDeferredPlace at h
  injection h with h
  subst h
  try dsimp only
  repeat' (first | with_reducible assumption | with_reducible exact keeps_refl _ | with_reducible apply placeBranch_keeps | with_reducible apply State_setPath_keeps | with_reducible apply keeps_ite | split | simp only [keeps_upd_iff] | intro _)

theorem shedCanceller_keeps (c : Nat) {s0 s : State} (hk : Keeps s0 s) : Keeps s0 (shedCanceller c s) := by
  unfold shedCanceller
  try dsimp only
  repeat' (first | with_reducible assumption | with_reducible apply raiseCh_keeps | with_reducible apply clearTaps_keeps | with_reducible apply State_setChan_keeps | with_reducible apply State_setBit_keeps | with_reducible apply State_set_keeps | simp only [keeps_upd_iff] | intro _)

theorem unshedCanceller_keeps (c : Nat) {s0 s : State} (hk : Keeps s0 s) : Keeps s0 (unshedCanceller c s) := by
  unfold unshedCanceller
  try dsimp only
  repeat' (first | with_reducible assumption | with_reducible apply tapReset_keeps | with_reducible apply releaseCh_keeps | with_reducible apply State_clrBit_keeps | with_reducible apply State_set_keeps | with_reducible apply keeps_ite | split | intro _)

theorem poolOff_keeps (sp : Nat) {s0 s : State} (hk : Keeps s0 s) : Keeps s0 (poolOff sp s) := by
  unfold poolOff
  try dsimp only
  repeat' (first | with_reducible assumption | with_reducible apply shedCanceller_keeps | with_reducible apply State_clrBit_keeps | with_reducible apply State_inc_keeps | with_reducible refine forL_keeps (fun _ _ _ => ?_) ?_ | with_reducible apply keeps_ite | split | intro _)

theorem poolOn_keeps (sp : Nat) {s0 s : State} (hk : Keeps s0 s) : Keeps s0 (poolOn sp s) := by
  unfold poolOn
  try dsimp only
  repeat' (first | with_reducible assumption | with_reducible apply unshedCanceller_keeps | with_reducible apply State_setBit_keeps | with_reducible refine forL_keeps (fun _ _ _ => ?_) ?_ | with_reducible apply keeps_ite | split | intro _)

theorem notchStep_keeps (c i : Nat) (e : Int) {s0 s : State} (hk : Keeps s0 s) : Keeps s0 (notchStep s c i e).2 := by
  unfold notchStep
  exact State_setChan_keeps _ _ hk

theorem reviewNotches_keeps (c : Nat) {s0 s : State} (hk : Keeps s0 s) : Keeps s0 (reviewNotches c s) := by
  unfold reviewNotches
  try dsimp only
  repeat' (first | with_reducible assumption | with_reducible apply fault_keeps | with_reducible apply State_setChan_keeps | with_reducible apply State_set_keeps | with_reducible apply keeps_ite | split | simp only [keeps_upd_iff] | intro _)

theorem countUpdate_keeps (cost : Nat) {s0 s : State} (hk : Keeps s0 s) : Keeps s0 (countUpdate cost s) := by
  unfold countUpdate
  try dsimp only
  repeat' (first | with_reducible assumption | with_reducible apply State_set_keeps | simp only [keeps_upd_iff] | intro _)

theorem foldl_keeps {α β : Type} {s0 : State} {f : β × State → α → β × State} (hf : ∀ a x, Keeps s0 a.2 → Keeps s0 (f a x).2) (l : List α) (a : β × State)
    (h : Keeps s0 a.2) : Keeps s0 (l.foldl f a).2 := by
  induction l generalizing a with
  | nil => exact h
  | cons x l ih => exact ih _ (hf a x h)
theorem requestLoops_keeps (c : Nat) (m : GainMeas) {s0 s : State} (hk : Keeps s0 s) : Keeps s0 (requestLoops c m s).2 := by
  unfold requestLoops
  refine foldl_keeps (fun a i h => ?_) _ _ hk
  dsimp only
  split
  · exact State_set_keeps _ _ (State_set_keeps _ _ h)
  · refine State_set_keeps _ _ (State_set_keeps _ _ ?_)
    split
    · exact notchStep_keeps _ _ _ h
    · exact h

theorem supervise_keeps (c : Nat) (len : Nat) (m : GainMeas) {s0 s : State} (hk : Keeps s0 s) : Keeps s0 (supervise c len m s) := by
  unfold supervise
  try dsimp only
  repeat' (first | with_reducible assumption | with_reducible apply State_set_keeps | with_reducible apply State_setChan_keeps | with_reducible apply keeps_ite | split | simp only [keeps_upd_iff] | intro _)

theorem openWindow_keeps (c : Nat) {s0 s : State} (hk : Keeps s0 s) : Keeps s0 (openWindow c s) := by
  unfold openWindow
  try dsimp only
  repeat' (first | with_reducible assumption | with_reducible apply State_set_keeps | with_reducible apply State_setChan_keeps | with_reducible apply keeps_ite | split | simp only [keeps_upd_iff] | intro _)

theorem stepMultiplier_keeps (c : Nat) (lock : Bool) {s0 s : State} (hk : Keeps s0 s) : Keeps s0 (stepMultiplier c lock s) := by
  unfold stepMultiplier
  try dsimp only
  repeat' (first | with_reducible assumption | with_reducible apply State_setChan_keeps | with_reducible apply keeps_ite | split | simp only [keeps_upd_iff] | intro _)

theorem applyRate_keeps (c : Nat) (x : Pend) {s0 s : State} (hk : Keeps s0 s) : Keeps s0 (applyRate c x s) := by
  unfold applyRate
  try dsimp only
  repeat' (first | with_reducible assumption | with_reducible apply stepMultiplier_keeps | with_reducible apply setGain_keeps | with_reducible apply State_set_keeps | with_reducible apply State_inc_keeps | with_reducible apply keeps_ite | split | intro _)

theorem settlePending_keeps (c : Nat) {s0 s : State} (hk : Keeps s0 s) : Keeps s0 (settlePending c s) := by
  unfold settlePending
  try dsimp only
  repeat' (first | with_reducible assumption | with_reducible apply applyRate_keeps | with_reducible apply State_setChan_keeps | with_reducible apply State_inc_keeps | with_reducible apply keeps_ite | split | simp only [keeps_upd_iff] | intro _)

theorem execGainUpdate_keeps (c : Nat) (m : GainMeas) {s t : State} (h : execGainUpdate c m s = .next t) : Keeps s t := by
  unfold execGainUpdate at h
  injection h with h
  subst h
  try dsimp only
  repeat' (first | with_reducible assumption | with_reducible exact keeps_refl _ | with_reducible apply settlePending_keeps | with_reducible apply openWindow_keeps | with_reducible apply reviewNotches_keeps | with_reducible apply requestLoops_keeps | with_reducible apply countUpdate_keeps | with_reducible apply supervise_keeps | with_reducible apply State_set_keeps | with_reducible apply State_setChan_keeps | with_reducible apply keeps_ite | split | simp only [keeps_upd_iff] | intro _)

theorem execRateApplication_keeps (c : Nat) {s t : State} (h : execRateApplication c s = .next t) : Keeps s t := by
  unfold execRateApplication at h
  injection h with h
  subst h
  try dsimp only
  repeat' (first | with_reducible assumption | with_reducible exact keeps_refl _ | with_reducible apply settlePending_keeps | intro _)

theorem execFeTrip_keeps (c : Nat) {s t : State} (h : execFeTrip c s = .next t) : Keeps s t := by
  unfold execFeTrip at h
  injection h with h
  subst h
  try dsimp only
  repeat' (first | with_reducible assumption | with_reducible exact keeps_refl _ | with_reducible apply fault_keeps | with_reducible apply State_inc_keeps | with_reducible apply State_setChan_keeps | with_reducible apply keeps_ite | split | simp only [keeps_upd_iff] | intro _)

theorem execEngineFallback_keeps  {s t : State} (h : execEngineFallback s = .next t) : Keeps s t := by
  unfold execEngineFallback at h
  injection h with h
  subst h
  try dsimp only
  repeat' (first | with_reducible assumption | with_reducible exact keeps_refl _ | with_reducible apply fault_keeps | with_reducible apply State_sticky_keeps | with_reducible apply State_inc_keeps | with_reducible apply State_set_keeps | with_reducible apply keeps_ite | split | intro _)

theorem execEngineFallbackExit_keeps  {s t : State} (h : execEngineFallbackExit s = .next t) : Keeps s t := by
  unfold execEngineFallbackExit at h
  injection h with h
  subst h
  try dsimp only
  repeat' (first | with_reducible assumption | with_reducible exact keeps_refl _ | with_reducible apply State_set_keeps | with_reducible apply keeps_ite | split | intro _)

theorem hmRelease_keeps (p : Nat) {s0 s : State} (hk : Keeps s0 s) : Keeps s0 (hmRelease p s) := by
  unfold hmRelease
  try dsimp only
  repeat' (first | with_reducible assumption | with_reducible apply releasePort_keeps | with_reducible apply State_set_keeps | intro _)

theorem hmTrip_keeps (p : Nat) (cond : Nat) {s0 s : State} (hk : Keeps s0 s) : Keeps s0 (hmTrip p cond s) := by
  unfold hmTrip
  try dsimp only
  repeat' (first | with_reducible assumption | with_reducible apply fault_keeps | with_reducible apply event_keeps | with_reducible apply galTrigger_keeps | with_reducible apply raisePort_keeps | with_reducible apply State_setPort_keeps | with_reducible apply State_sticky_keeps | with_reducible apply State_inc_keeps | with_reducible apply State_set_keeps | with_reducible apply keeps_ite | split | simp only [keeps_upd_iff] | intro _)

theorem execHawkmothTrip_keeps (p : Nat) (cond : Nat) {s t : State} (h : execHawkmothTrip p cond s = .next t) : Keeps s t := by
  unfold execHawkmothTrip at h
  injection h with h
  subst h
  try dsimp only
  repeat' (first | with_reducible assumption | with_reducible exact keeps_refl _ | with_reducible apply hmTrip_keeps | with_reducible apply State_setWing_keeps | with_reducible apply keeps_ite | split | simp only [keeps_upd_iff] | intro _)

theorem execHawkmothRelease_keeps (p : Nat) {s t : State} (h : execHawkmothRelease p s = .next t) : Keeps s t := by
  unfold execHawkmothRelease at h
  injection h with h
  subst h
  try dsimp only
  repeat' (first | with_reducible assumption | with_reducible exact keeps_refl _ | with_reducible apply hmRelease_keeps | with_reducible apply keeps_ite | split | intro _)

theorem hmClearEffect_keeps (p : Nat) (x1 : Who) (x2 : Val) {s0 s : State} (hk : Keeps s0 s) : Keeps s0 (hmClearEffect p x1 x2 s).st := by
  unfold hmClearEffect
  try dsimp only
  repeat' (first | with_reducible assumption | with_reducible apply hmRelease_keeps | with_reducible apply Reply_ok_keeps | with_reducible apply keeps_ite_st | split | intro _)

theorem execHmClear_keeps (p : Nat) (f : Frame) {s t : State} (h : execHmClear p f s = .next t) : Keeps s t := by
  unfold execHmClear at h
  injection h with h
  subst h
  try dsimp only
  repeat' (first | with_reducible assumption | with_reducible exact keeps_refl _ | with_reducible apply requestWrite_keeps | with_reducible apply hmClearEffect_keeps | intro _)

theorem execMuteNAssert_keeps  {s t : State} (h : execMuteNAssert s = .next t) : Keeps s t := by
  unfold execMuteNAssert at h
  injection h with h
  subst h
  try dsimp only
  repeat' (first | with_reducible assumption | with_reducible exact keeps_refl _ | with_reducible apply fault_keeps | with_reducible apply raisePort_keeps | with_reducible apply State_sticky_keeps | with_reducible apply State_inc_keeps | with_reducible apply State_set_keeps | with_reducible refine forN_keeps (fun _ _ _ => ?_) ?_ | with_reducible apply keeps_ite | split | intro _)

theorem execMuteNRelease_keeps  {s t : State} (h : execMuteNRelease s = .next t) : Keeps s t := by
  unfold execMuteNRelease at h
  injection h with h
  subst h
  try dsimp only
  repeat' (first | with_reducible assumption | with_reducible exact keeps_refl _ | with_reducible apply releasePort_keeps | with_reducible apply State_set_keeps | with_reducible refine forN_keeps (fun _ _ _ => ?_) ?_ | with_reducible apply keeps_ite | split | intro _)

theorem raiseCause_keeps (c : Nat) (b : Nat) {s0 s : State} (hk : Keeps s0 s) : Keeps s0 (raiseCause c b s) := by
  unfold raiseCause
  try dsimp only
  repeat' (first | with_reducible assumption | with_reducible apply raiseCh_keeps | with_reducible apply State_setBit_keeps | intro _)

theorem releaseCause_keeps (c : Nat) (b : Nat) {s0 s : State} (hk : Keeps s0 s) : Keeps s0 (releaseCause c b s) := by
  unfold releaseCause
  try dsimp only
  repeat' (first | with_reducible assumption | with_reducible apply releaseCh_keeps | with_reducible apply State_clrBit_keeps | with_reducible apply keeps_ite | split | intro _)

theorem oscTrip_keeps (c : Nat) (det : Nat) {s0 s : State} (hk : Keeps s0 s) : Keeps s0 (oscTrip c det s) := by
  unfold oscTrip
  try dsimp only
  repeat' (first | with_reducible assumption | with_reducible apply fault_keeps | with_reducible apply event_keeps | with_reducible apply raiseCause_keeps | with_reducible apply State_set_keeps | intro _)

theorem oscSeal_keeps (c : Nat) (det : Nat) {s0 s : State} (hk : Keeps s0 s) : Keeps s0 (oscSeal c det s) := by
  unfold oscSeal
  try dsimp only
  repeat' (first | with_reducible assumption | with_reducible apply raiseCh_keeps | with_reducible apply raiseCause_keeps | with_reducible apply fault_keeps | with_reducible apply event_keeps | with_reducible apply State_inc_keeps | with_reducible apply State_set_keeps | intro _)

theorem execOscillationTrip_keeps (c : Nat) {s t : State} (h : execOscillationTrip c s = .next t) : Keeps s t := by
  unfold execOscillationTrip at h
  injection h with h
  subst h
  try dsimp only
  repeat' (first | with_reducible assumption | with_reducible exact keeps_refl _ | with_reducible apply oscTrip_keeps | with_reducible apply oscSeal_keeps | with_reducible apply State_setChan_keeps | with_reducible apply State_sticky_keeps | with_reducible apply State_inc_keeps | with_reducible apply keeps_ite | split | simp only [keeps_upd_iff] | intro _)

theorem oscRestart_keeps (c : Nat) {s0 s : State} (hk : Keeps s0 s) : Keeps s0 (oscRestart c s) := by
  unfold oscRestart
  try dsimp only
  repeat' (first | with_reducible assumption | with_reducible apply releaseCause_keeps | with_reducible apply tapReset_keeps | with_reducible apply State_inc_keeps | with_reducible apply State_set_keeps | intro _)

theorem execOscRestart_keeps (c : Nat) {s t : State} (h : execOscRestart c s = .next t) : Keeps s t := by
  unfold execOscRestart at h
  injection h with h
  subst h
  try dsimp only
  repeat' (first | with_reducible assumption | with_reducible exact keeps_refl _ | with_reducible apply oscRestart_keeps | with_reducible apply keeps_ite | split | intro _)

theorem oscRestartNowEffect_keeps (c : Nat) (x1 : Who) (x2 : Val) {s0 s : State} (hk : Keeps s0 s) : Keeps s0 (oscRestartNowEffect c x1 x2 s).st := by
  unfold oscRestartNowEffect
  try dsimp only
  repeat' (first | with_reducible assumption | with_reducible apply oscRestart_keeps | with_reducible apply Reply_ok_keeps | with_reducible apply Reply_no_keeps | with_reducible apply keeps_ite_st | split | intro _)

theorem execOscRestartNow_keeps (c : Nat) (f : Frame) {s t : State} (h : execOscRestartNow c f s = .next t) : Keeps s t := by
  unfold execOscRestartNow at h
  injection h with h
  subst h
  try dsimp only
  repeat' (first | with_reducible assumption | with_reducible exact keeps_refl _ | with_reducible apply requestWrite_keeps | with_reducible apply oscRestartNowEffect_keeps | intro _)

theorem execOscRestartsDecay_keeps (c : Nat) {s t : State} (h : execOscRestartsDecay c s = .next t) : Keeps s t := by
  unfold execOscRestartsDecay at h
  injection h with h
  subst h
  try dsimp only
  repeat' (first | with_reducible assumption | with_reducible exact keeps_refl _ | with_reducible apply State_set_keeps | with_reducible apply keeps_ite | split | intro _)

theorem execNoiseEvaluation_keeps (c : Nat) (n : Int) (count : Nat) {s t : State} (h : execNoiseEvaluation c n count s = .next t) : Keeps s t := by
  unfold execNoiseEvaluation at h
  injection h with h
  subst h
  try dsimp only
  repeat' (first | with_reducible assumption | with_reducible exact keeps_refl _ | with_reducible apply raiseCause_keeps | with_reducible apply fault_keeps | with_reducible apply event_keeps | with_reducible apply State_setChan_keeps | with_reducible apply State_sticky_keeps | with_reducible apply keeps_ite | split | simp only [keeps_upd_iff] | intro _)

theorem execNoiseMuteRelease_keeps (c : Nat) {s t : State} (h : execNoiseMuteRelease c s = .next t) : Keeps s t := by
  unfold execNoiseMuteRelease at h
  injection h with h
  subst h
  try dsimp only
  repeat' (first | with_reducible assumption | with_reducible exact keeps_refl _ | with_reducible apply releaseCause_keeps | with_reducible apply State_setChan_keeps | with_reducible apply keeps_ite | split | simp only [keeps_upd_iff] | intro _)

theorem putEmRun_keeps (m : Nat) (v : Option Nat) {s0 s : State} (hk : Keeps s0 s) : Keeps s0 (putEmRun m v s) := by
  unfold putEmRun
  try dsimp only
  repeat' (first | with_reducible assumption | simp only [keeps_upd_iff] | intro _)

theorem emMeasure_keeps (m : Nat) (level : Int) (counted : Bool) {s0 s : State} (hk : Keeps s0 s) : Keeps s0 (emMeasure m level counted s) := by
  unfold emMeasure
  try dsimp only
  repeat' (first | with_reducible assumption | with_reducible apply putEmRun_keeps | with_reducible apply raiseCause_keeps | with_reducible apply fault_keeps | with_reducible apply event_keeps | with_reducible apply State_set_keeps | with_reducible apply State_sticky_keeps | with_reducible apply State_inc_keeps | with_reducible apply State_setChan_keeps | with_reducible apply keeps_ite | split | simp only [keeps_upd_iff] | intro _)

theorem execEmissionMuteRelease_keeps (c : Nat) {s t : State} (h : execEmissionMuteRelease c s = .next t) : Keeps s t := by
  unfold execEmissionMuteRelease at h
  injection h with h
  subst h
  try dsimp only
  repeat' (first | with_reducible assumption | with_reducible exact keeps_refl _ | with_reducible apply putEmRun_keeps | with_reducible apply releaseCause_keeps | with_reducible apply State_setChan_keeps | with_reducible refine forN_keeps (fun _ _ _ => ?_) ?_ | with_reducible apply keeps_ite | split | simp only [keeps_upd_iff] | intro _)

theorem startVisit_keeps (r : Nat) (v : Nat) {s0 s : State} (hk : Keeps s0 s) : Keeps s0 (startVisit r v s) := by
  unfold startVisit
  try dsimp only
  repeat' (first | with_reducible assumption | with_reducible apply State_set_keeps | simp only [keeps_upd_iff] | intro _)

theorem walkObs_keeps (r v k : Nat) {s0 s : State} (hk : Keeps s0 s) : Keeps s0 (walkObs r v k s) := by
  induction k generalizing v s with
  | zero => exact State_set_keeps _ _ hk
  | succ k ih =>
    unfold walkObs
    dsimp only
    split
    · exact ih _ hk
    · split
      · exact startVisit_keeps _ _ hk
      · exact ih _ (State_inc_keeps _ _ hk)

theorem restartObs_keeps (r : Nat) {s0 s : State} (hk : Keeps s0 s) : Keeps s0 (restartObs r s) := by
  unfold restartObs
  try dsimp only
  repeat' (first | with_reducible assumption | with_reducible apply walkObs_keeps | with_reducible apply keeps_ite | split | simp only [keeps_upd_iff] | intro _)

theorem resumeObs_keeps (r : Nat) {s0 s : State} (hk : Keeps s0 s) : Keeps s0 (resumeObs r s) := by
  unfold resumeObs
  try dsimp only
  repeat' (first | with_reducible assumption | with_reducible apply walkObs_keeps | with_reducible apply State_set_keeps | with_reducible apply keeps_ite | split | intro _)

theorem takeReceivers_keeps  {s0 s : State} (hk : Keeps s0 s) : Keeps s0 (takeReceivers s) := by
  unfold takeReceivers
  try dsimp only
  repeat' (first | with_reducible assumption | with_reducible apply State_set_keeps | with_reducible refine forL_keeps (fun _ _ _ => ?_) ?_ | intro _)

theorem freeReceivers_keeps  {s0 s : State} (hk : Keeps s0 s) : Keeps s0 (freeReceivers s) := by
  unfold freeReceivers
  try dsimp only
  repeat' (first | with_reducible assumption | with_reducible apply resumeObs_keeps | with_reducible refine forL_keeps (fun _ _ _ => ?_) ?_ | with_reducible apply keeps_ite | split | intro _)

theorem trackPa_keeps (p : Nat) (gain : Int) (phase : Nat) {s0 s : State} (hk : Keeps s0 s) : Keeps s0 (trackPa p gain phase s) := by
  unfold trackPa
  try dsimp only
  repeat' (first | with_reducible assumption | with_reducible apply State_setPort_keeps | with_reducible apply State_setPath_keeps | with_reducible apply State_setChan_keeps | with_reducible refine forL_keeps (fun _ _ _ => ?_) ?_ | with_reducible apply keeps_ite | split | simp only [keeps_upd_iff] | intro _)

theorem dropFactors_keeps  {s0 s : State} (hk : Keeps s0 s) : Keeps s0 (dropFactors s) := by
  unfold dropFactors
  try dsimp only
  repeat' (first | with_reducible assumption | with_reducible apply State_setPath_keeps | with_reducible apply State_set_keeps | with_reducible refine forL_keeps (fun _ _ _ => ?_) ?_ | simp only [keeps_upd_iff] | intro _)

theorem returnLoss_keeps (p : Nat) (m : ObsMeas) {s0 s : State} (hk : Keeps s0 s) : Keeps s0 (returnLoss p m s) := by
  unfold returnLoss
  try dsimp only
  repeat' (first | with_reducible assumption | with_reducible apply fault_keeps | with_reducible apply event_keeps | with_reducible apply raisePort_keeps | with_reducible apply State_set_keeps | with_reducible apply State_setPort_keeps | with_reducible apply State_sticky_keeps | with_reducible apply keeps_ite | split | simp only [keeps_upd_iff] | intro _)

theorem visitDone_keeps (r : Nat) (m : ObsMeas) {s0 s : State} (hk : Keeps s0 s) : Keeps s0 (visitDone r m s) := by
  unfold visitDone
  try dsimp only
  repeat' (first | with_reducible assumption | with_reducible apply returnLoss_keeps | with_reducible apply trackPa_keeps | with_reducible apply emMeasure_keeps | with_reducible apply State_inc_keeps | with_reducible apply State_setPort_keeps | with_reducible refine forL_keeps (fun _ _ _ => ?_) ?_ | with_reducible apply keeps_ite | split | simp only [keeps_upd_iff] | intro _)

theorem execObsVisitEnd_keeps (r : Nat) (m : ObsMeas) {s t : State} (h : execObsVisitEnd r m s = .next t) : Keeps s t := by
  unfold execObsVisitEnd at h
  injection h with h
  subst h
  try dsimp only
  repeat' (first | with_reducible assumption | with_reducible exact keeps_refl _ | with_reducible apply walkObs_keeps | with_reducible apply visitDone_keeps | with_reducible apply keeps_ite | split | intro _)

theorem tick_keeps  {s0 s : State} (hk : Keeps s0 s) : Keeps s0 (tick s) := by
  unfold tick
  try dsimp only
  repeat' (first | with_reducible assumption | with_reducible apply State_inc_keeps | with_reducible apply keeps_ite | split | simp only [keeps_upd_iff] | intro _)

theorem muteForTrace_keeps  {s0 s : State} (hk : Keeps s0 s) : Keeps s0 (muteForTrace s) := by
  unfold muteForTrace
  try dsimp only
  repeat' (first | with_reducible assumption | with_reducible apply raiseCh_keeps | with_reducible apply fault_keeps | with_reducible apply State_setChan_keeps | with_reducible refine forL_keeps (fun _ _ _ => ?_) ?_ | with_reducible apply keeps_ite | split | simp only [keeps_upd_iff] | intro _)

theorem planRelease_keeps (c : Nat) {s0 s : State} (hk : Keeps s0 s) : Keeps s0 (planRelease c s) := by
  unfold planRelease
  try dsimp only
  repeat' (first | with_reducible assumption | with_reducible apply State_setChan_keeps | simp only [keeps_upd_iff] | intro _)

theorem planTraceRelease_keeps  {s0 s : State} (hk : Keeps s0 s) : Keeps s0 (planTraceRelease s) := by
  unfold planTraceRelease
  try dsimp only
  repeat' (first | with_reducible assumption | with_reducible apply planRelease_keeps | with_reducible refine forL_keeps (fun _ _ _ => ?_) ?_ | intro _)

theorem setTrace_keeps (v : Bool) {s0 s : State} (hk : Keeps s0 s) : Keeps s0 (setTrace v s) := by
  unfold setTrace
  try dsimp only
  repeat' (first | with_reducible assumption | with_reducible apply irq_keeps | with_reducible apply planTraceRelease_keeps | with_reducible apply muteForTrace_keeps | with_reducible apply State_setFlag_keeps | with_reducible apply keeps_ite | split | intro _)

theorem setTbState_keeps (v : Int) {s0 s : State} (hk : Keeps s0 s) : Keeps s0 (setTbState v s) := by
  unfold setTbState
  try dsimp only
  repeat' (first | with_reducible assumption | with_reducible apply irq_keeps | with_reducible apply State_set_keeps | with_reducible apply keeps_ite | split | intro _)

theorem execTimebaseMuteRelease_keeps (c : Nat) {s t : State} (h : execTimebaseMuteRelease c s = .next t) : Keeps s t := by
  unfold execTimebaseMuteRelease at h
  injection h with h
  subst h
  try dsimp only
  repeat' (first | with_reducible assumption | with_reducible exact keeps_refl _ | with_reducible apply releaseCh_keeps | with_reducible apply event_keeps | with_reducible apply State_setChan_keeps | with_reducible apply keeps_ite | split | simp only [keeps_upd_iff] | intro _)

theorem execStepMuteRelease_keeps (c : Nat) {s t : State} (h : execStepMuteRelease c s = .next t) : Keeps s t := by
  unfold execStepMuteRelease at h
  injection h with h
  subst h
  try dsimp only
  repeat' (first | with_reducible assumption | with_reducible exact keeps_refl _ | with_reducible apply releaseCh_keeps | with_reducible apply State_clrBit_keeps | with_reducible apply keeps_ite | split | intro _)

theorem putStep_keeps (p : StepPlan) {s0 s : State} (hk : Keeps s0 s) : Keeps s0 (putStep p s) := by
  unfold putStep
  try dsimp only
  repeat' (first | with_reducible assumption | with_reducible apply sendDown_keeps | with_reducible apply State_set_keeps | simp only [keeps_upd_iff] | intro _)

theorem schedule_keeps (delta : Int) (cause : Nat) (back : Nat) (locks : Bool) {s0 s : State} (hk : Keeps s0 s) : Keeps s0 (schedule delta cause back locks s) := by
  unfold schedule
  try dsimp only
  repeat' (first | with_reducible assumption | with_reducible apply putStep_keeps | intro _)

theorem cancelStep_keeps  {s0 s : State} (hk : Keeps s0 s) : Keeps s0 (cancelStep s) := by
  unfold cancelStep
  try dsimp only
  repeat' (first | with_reducible assumption | with_reducible apply State_set_keeps | simp only [keeps_upd_iff] | intro _)

theorem cancelAlignment_keeps  {s0 s : State} (hk : Keeps s0 s) : Keeps s0 (cancelAlignment s) := by
  unfold cancelAlignment
  try dsimp only
  repeat' (first | with_reducible assumption | with_reducible apply cancelStep_keeps | with_reducible apply keeps_ite | split | simp only [keeps_upd_iff] | intro _)

theorem stepCounter_keeps (p : StepPlan) {s0 s : State} (hk : Keeps s0 s) : Keeps s0 (stepCounter p s) := by
  unfold stepCounter
  try dsimp only
  repeat' (first | with_reducible assumption | simp only [keeps_upd_iff] | intro _)

theorem lockAfterStep_keeps (p : StepPlan) {s0 s : State} (hk : Keeps s0 s) : Keeps s0 (lockAfterStep p s) := by
  unfold lockAfterStep
  try dsimp only
  repeat' (first | with_reducible assumption | with_reducible apply setTrace_keeps | with_reducible apply setTbState_keeps | with_reducible apply keeps_ite | split | intro _)

theorem recordStep_keeps (p : StepPlan) {s0 s : State} (hk : Keeps s0 s) : Keeps s0 (recordStep p s) := by
  unfold recordStep
  try dsimp only
  repeat' (first | with_reducible assumption | with_reducible apply event_keeps | with_reducible apply irq_keeps | with_reducible apply State_sticky_keeps | with_reducible apply State_inc_keeps | with_reducible apply State_set_keeps | intro _)

theorem putSource_keeps (src : Nat) (d : Int) {s0 s : State} (hk : Keeps s0 s) : Keeps s0 (putSource src d s) := by
  unfold putSource
  try dsimp only
  repeat' (first | with_reducible assumption | simp only [keeps_upd_iff] | intro _)

theorem select_keeps (src : Nat) {s0 s : State} (hk : Keeps s0 s) : Keeps s0 (select src s) := by
  unfold select
  try dsimp only
  repeat' (first | with_reducible assumption | with_reducible apply cancelAlignment_keeps | with_reducible apply schedule_keeps | with_reducible apply setTbState_keeps | with_reducible apply setTrace_keeps | with_reducible apply State_set_keeps | with_reducible apply keeps_ite | split | simp only [keeps_upd_iff] | intro _)

theorem replaceSource_keeps (src : Nat) {s0 s : State} (hk : Keeps s0 s) : Keeps s0 (replaceSource src s) := by
  unfold replaceSource
  try dsimp only
  repeat' (first | with_reducible assumption | with_reducible apply schedule_keeps | with_reducible apply setTrace_keeps | with_reducible apply State_set_keeps | with_reducible apply keeps_ite | split | simp only [keeps_upd_iff] | intro _)

theorem showQualified_keeps (src : Nat) (v : Bool) {s0 s : State} (hk : Keeps s0 s) : Keeps s0 (showQualified src v s) := by
  unfold showQualified
  try dsimp only
  repeat' (first | with_reducible assumption | with_reducible apply State_set_keeps | with_reducible apply keeps_ite | split | intro _)

theorem putQualified_keeps (src : Nat) (v : Option Nat) {s0 s : State} (hk : Keeps s0 s) : Keeps s0 (putQualified src v s) := by
  unfold putQualified
  try dsimp only
  repeat' (first | with_reducible assumption | simp only [keeps_upd_iff] | intro _)

theorem execSourceQualify_keeps (src : Nat) (x1 : Report) {s t : State} (h : execSourceQualify src x1 s = .next t) : Keeps s t := by
  unfold execSourceQualify at h
  injection h with h
  subst h
  try dsimp only
  repeat' (first | with_reducible assumption | with_reducible exact keeps_refl _ | with_reducible apply showQualified_keeps | with_reducible apply putQualified_keeps | with_reducible apply select_keeps | with_reducible apply keeps_ite | split | intro _)

theorem loseSelected_keeps  {s0 s : State} (hk : Keeps s0 s) : Keeps s0 (loseSelected s) := by
  unfold loseSelected
  try dsimp only
  repeat' (first | with_reducible assumption | with_reducible apply setTbState_keeps | with_reducible apply cancelAlignment_keeps | with_reducible apply select_keeps | with_reducible apply replaceSource_keeps | with_reducible apply State_set_keeps | with_reducible apply State_sticky_keeps | with_reducible apply keeps_ite | split | simp only [keeps_upd_iff] | intro _)

theorem disqualify_keeps (src : Nat) {s0 s : State} (hk : Keeps s0 s) : Keeps s0 (disqualify src s) := by
  unfold disqualify
  try dsimp only
  repeat' (first | with_reducible assumption | with_reducible apply showQualified_keeps | with_reducible apply putQualified_keeps | with_reducible apply loseSelected_keeps | with_reducible apply State_set_keeps | with_reducible apply keeps_ite | split | intro _)

theorem reselectSource_keeps  {s0 s : State} (hk : Keeps s0 s) : Keeps s0 (reselectSource s) := by
  unfold reselectSource
  try dsimp only
  repeat' (first | with_reducible assumption | with_reducible apply loseSelected_keeps | with_reducible apply select_keeps | with_reducible apply keeps_ite | split | simp only [keeps_upd_iff] | intro _)

theorem priorityEffect_keeps (v : Int) {s0 s : State} (hk : Keeps s0 s) : Keeps s0 (priorityEffect v s) := by
  unfold priorityEffect
  try dsimp only
  repeat' (first | with_reducible assumption | with_reducible apply reselectSource_keeps | with_reducible apply State_set_keeps | intro _)

theorem execSourceDisqualify_keeps (src : Nat) (x1 : Report) {s t : State} (h : execSourceDisqualify src x1 s = .next t) : Keeps s t := by
  unfold execSourceDisqualify at h
  injection h with h
  subst h
  try dsimp only
  repeat' (first | with_reducible assumption | with_reducible exact keeps_refl _ | with_reducible apply disqualify_keeps | with_reducible apply keeps_ite | split | intro _)

theorem execSourceRevert_keeps (src : Nat) {s t : State} (h : execSourceRevert src s = .next t) : Keeps s t := by
  unfold execSourceRevert at h
  injection h with h
  subst h
  try dsimp only
  repeat' (first | with_reducible assumption | with_reducible exact keeps_refl _ | with_reducible apply replaceSource_keeps | with_reducible apply keeps_ite | split | intro _)

theorem slewLoop_keeps (e : Int) {s0 s : State} (hk : Keeps s0 s) : Keeps s0 (slewLoop e s) := by
  unfold slewLoop
  try dsimp only
  repeat' (first | with_reducible assumption | with_reducible apply State_set_keeps | simp only [keeps_upd_iff] | intro _)

theorem markExcess_keeps  {s0 s : State} (hk : Keeps s0 s) : Keeps s0 (markExcess s) := by
  unfold markExcess
  try dsimp only
  repeat' (first | with_reducible assumption | split | simp only [keeps_upd_iff] | intro _)

theorem trackLocked_keeps  {s0 s : State} (hk : Keeps s0 s) : Keeps s0 (trackLocked s) := by
  unfold trackLocked
  try dsimp only
  repeat' (first | with_reducible assumption | with_reducible apply markExcess_keeps | with_reducible apply slewLoop_keeps | with_reducible apply schedule_keeps | with_reducible apply State_set_keeps | with_reducible apply keeps_ite | split | intro _)

theorem trackHoldover_keeps  {s0 s : State} (hk : Keeps s0 s) : Keeps s0 (trackHoldover s) := by
  unfold trackHoldover
  try dsimp only
  repeat' (first | with_reducible assumption | with_reducible apply State_set_keeps | intro _)

theorem execTrackingLoopUpdate_keeps (x1 : Report) {s t : State} (h : execTrackingLoopUpdate x1 s = .next t) : Keeps s t := by
  unfold execTrackingLoopUpdate at h
  injection h with h
  subst h
  try dsimp only
  repeat' (first | with_reducible assumption | with_reducible exact keeps_refl _ | with_reducible apply trackLocked_keeps | with_reducible apply trackHoldover_keeps | with_reducible apply State_set_keeps | with_reducible apply keeps_ite | split | intro _)

theorem execHoldoverExpired_keeps  {s t : State} (h : execHoldoverExpired s = .next t) : Keeps s t := by
  unfold execHoldoverExpired at h
  injection h with h
  subst h
  try dsimp only
  repeat' (first | with_reducible assumption | with_reducible exact keeps_refl _ | with_reducible apply setTrace_keeps | with_reducible apply setTbState_keeps | with_reducible apply trackHoldover_keeps | with_reducible apply keeps_ite | split | intro _)

theorem execDonorDetection_keeps (metric : Int) (start : Nat) {s t : State} (h : execDonorDetection metric start s = .next t) : Keeps s t := by
  unfold execDonorDetection at h
  injection h with h
  subst h
  try dsimp only
  repeat' (first | with_reducible assumption | with_reducible exact keeps_refl _ | with_reducible apply putSource_keeps | with_reducible apply State_set_keeps | with_reducible apply keeps_ite | split | simp only [keeps_upd_iff] | intro _)

theorem todEffect_keeps (v : Int) {s0 s : State} (hk : Keeps s0 s) : Keeps s0 (todEffect v s) := by
  unfold todEffect
  try dsimp only
  repeat' (first | with_reducible assumption | with_reducible apply State_set_keeps | with_reducible apply keeps_ite | split | simp only [keeps_upd_iff] | intro _)

theorem takeEdge_keeps  {s0 s : State} (hk : Keeps s0 s) : Keeps s0 (takeEdge s) := by
  unfold takeEdge
  try dsimp only
  repeat' (first | with_reducible assumption | with_reducible apply putSource_keeps | with_reducible apply State_inc_keeps | with_reducible apply State_set_keeps | with_reducible apply keeps_ite | split | simp only [keeps_upd_iff] | intro _)

theorem execPpsEdge_keeps  {s t : State} (h : execPpsEdge s = .next t) : Keeps s t := by
  unfold execPpsEdge at h
  injection h with h
  subst h
  try dsimp only
  repeat' (first | with_reducible assumption | with_reducible exact keeps_refl _ | with_reducible apply takeEdge_keeps | with_reducible apply keeps_ite | split | simp only [keeps_upd_iff] | intro _)

theorem ppsTick_keeps  {s0 s : State} (hk : Keeps s0 s) : Keeps s0 (ppsTick s) := by
  unfold ppsTick
  try dsimp only
  repeat' (first | with_reducible assumption | with_reducible apply State_inc_keeps | with_reducible apply State_set_keeps | with_reducible apply keeps_ite | split | simp only [keeps_upd_iff] | intro _)

theorem adjustEffect_keeps (x1 : Who) (v : Val) {s0 s : State} (hk : Keeps s0 s) : Keeps s0 (adjustEffect x1 v s).st := by
  unfold adjustEffect
  try dsimp only
  repeat' (first | with_reducible assumption | with_reducible apply cancelStep_keeps | with_reducible apply schedule_keeps | with_reducible apply Reply_no_keeps | with_reducible apply Reply_ok_keeps | with_reducible apply keeps_ite_st | split | simp only [keeps_upd_iff] | intro _)

theorem execTbAdjust_keeps (f : Frame) {s t : State} (h : execTbAdjust f s = .next t) : Keeps s t := by
  unfold execTbAdjust at h
  injection h with h
  subst h
  try dsimp only
  repeat' (first | with_reducible assumption | with_reducible exact keeps_refl _ | with_reducible apply requestWrite_keeps | with_reducible apply adjustEffect_keeps | intro _)

theorem enterLink_keeps (l : Nat) (v : Int) {s0 s : State} (hk : Keeps s0 s) : Keeps s0 (enterLink l v s) := by
  unfold enterLink
  try dsimp only
  repeat' (first | with_reducible assumption | with_reducible apply State_setLink_keeps | with_reducible apply State_set_keeps | with_reducible apply keeps_ite | split | simp only [keeps_upd_iff] | intro _)

theorem leaveUp_keeps (l : Nat) {s0 s : State} (hk : Keeps s0 s) : Keeps s0 (leaveUp l s) := by
  unfold leaveUp
  try dsimp only
  repeat' (first | with_reducible assumption | with_reducible apply resetMaster_keeps | with_reducible apply irq_keeps | with_reducible apply disqualify_keeps | with_reducible apply State_sticky_keeps | with_reducible apply State_set_keeps | with_reducible apply State_setLink_keeps | with_reducible apply keeps_ite | split | simp only [keeps_upd_iff] | intro _)

theorem retrain_keeps (l : Nat) {s0 s : State} (hk : Keeps s0 s) : Keeps s0 (retrain l s) := by
  unfold retrain
  try dsimp only
  repeat' (first | with_reducible assumption | with_reducible apply enterLink_keeps | with_reducible apply leaveUp_keeps | with_reducible apply State_inc_keeps | with_reducible apply keeps_ite | split | intro _)

theorem linkDown_keeps (l : Nat) {s0 s : State} (hk : Keeps s0 s) : Keeps s0 (linkDown l s) := by
  unfold linkDown
  try dsimp only
  repeat' (first | with_reducible assumption | with_reducible apply enterLink_keeps | with_reducible apply leaveUp_keeps | with_reducible apply keeps_ite | split | intro _)

theorem execLinkSignalDetect_keeps (l : Nat) {s t : State} (h : execLinkSignalDetect l s = .next t) : Keeps s t := by
  unfold execLinkSignalDetect at h
  injection h with h
  subst h
  try dsimp only
  repeat' (first | with_reducible assumption | with_reducible exact keeps_refl _ | with_reducible apply enterLink_keeps | with_reducible apply keeps_ite | split | intro _)

theorem execLinkAligned_keeps (l : Nat) {s t : State} (h : execLinkAligned l s = .next t) : Keeps s t := by
  unfold execLinkAligned at h
  injection h with h
  subst h
  try dsimp only
  repeat' (first | with_reducible assumption | with_reducible exact keeps_refl _ | with_reducible apply enterLink_keeps | with_reducible apply keeps_ite | split | intro _)

theorem execLinkAlignTimeout_keeps (l : Nat) {s t : State} (h : execLinkAlignTimeout l s = .next t) : Keeps s t := by
  unfold execLinkAlignTimeout at h
  injection h with h
  subst h
  try dsimp only
  repeat' (first | with_reducible assumption | with_reducible exact keeps_refl _ | with_reducible apply enterLink_keeps | with_reducible apply keeps_ite | split | intro _)

theorem execLinkRoleExchange_keeps (l : Nat) (far : Nat) {s t : State} (h : execLinkRoleExchange l far s = .next t) : Keeps s t := by
  unfold execLinkRoleExchange at h
  injection h with h
  subst h
  try dsimp only
  repeat' (first | with_reducible assumption | with_reducible exact keeps_refl _ | with_reducible apply enterLink_keeps | with_reducible apply State_setLink_keeps | with_reducible apply keeps_ite | split | simp only [keeps_upd_iff] | intro _)

theorem sendOwed_keeps (l : Nat) {s0 s : State} (hk : Keeps s0 s) : Keeps s0 (sendOwed l s) := by
  unfold sendOwed
  try dsimp only
  repeat' (first | with_reducible assumption | with_reducible apply State_emit_keeps | with_reducible refine forL_keeps (fun _ _ _ => ?_) ?_ | with_reducible apply keeps_ite | split | simp only [keeps_upd_iff] | intro _)

theorem execLinkMeasureDone_keeps (l : Nat) (x1 : Report) {s t : State} (h : execLinkMeasureDone l x1 s = .next t) : Keeps s t := by
  unfold execLinkMeasureDone at h
  injection h with h
  subst h
  try dsimp only
  repeat' (first | with_reducible assumption | with_reducible exact keeps_refl _ | with_reducible apply irq_keeps | with_reducible apply sendOwed_keeps | with_reducible apply enterLink_keeps | with_reducible apply fault_keeps | with_reducible apply State_set_keeps | with_reducible apply keeps_ite | split | intro _)

theorem execLinkErrorRetrain_keeps (l : Nat) {s t : State} (h : execLinkErrorRetrain l s = .next t) : Keeps s t := by
  unfold execLinkErrorRetrain at h
  injection h with h
  subst h
  try dsimp only
  repeat' (first | with_reducible assumption | with_reducible exact keeps_refl _ | with_reducible apply retrain_keeps | with_reducible apply keeps_ite | split | intro _)

theorem retrainEffect_keeps (l : Nat) (x1 : Who) (v : Val) {s0 s : State} (hk : Keeps s0 s) : Keeps s0 (retrainEffect l x1 v s).st := by
  unfold retrainEffect
  try dsimp only
  repeat' (first | with_reducible assumption | with_reducible apply retrain_keeps | with_reducible apply Reply_ok_keeps | with_reducible apply keeps_ite_st | split | intro _)

theorem execStwRetrain_keeps (l : Nat) (f : Frame) {s t : State} (h : execStwRetrain l f s = .next t) : Keeps s t := by
  unfold execStwRetrain at h
  injection h with h
  subst h
  try dsimp only
  repeat' (first | with_reducible assumption | with_reducible exact keeps_refl _ | with_reducible apply requestWrite_keeps | with_reducible apply retrainEffect_keeps | intro _)

theorem crcError_keeps (l : Nat) (time : Bool) {s0 s : State} (hk : Keeps s0 s) : Keeps s0 (crcError l time s) := by
  unfold crcError
  try dsimp only
  repeat' (first | with_reducible assumption | with_reducible apply State_setLink_keeps | with_reducible apply State_inc_keeps | with_reducible apply keeps_ite | split | simp only [keeps_upd_iff] | intro _)

theorem takeDepth_keeps (d : Nat) {s0 s : State} (hk : Keeps s0 s) : Keeps s0 (takeDepth d s) := by
  unfold takeDepth
  try dsimp only
  repeat' (first | with_reducible assumption | with_reducible apply fault_keeps | with_reducible apply reselectSource_keeps | with_reducible apply State_setLink_keeps | with_reducible apply State_set_keeps | with_reducible apply keeps_ite | split | simp only [keeps_upd_iff] | intro _)

theorem execTimeCell_keeps (l : Nat) (c : TimeCell) {s t : State} (h : execTimeCell l c s = .next t) : Keeps s t := by
  unfold execTimeCell at h
  injection h with h
  subst h
  try dsimp only
  repeat' (first | with_reducible assumption | with_reducible exact keeps_refl _ | with_reducible apply crcError_keeps | with_reducible apply enterLink_keeps | with_reducible apply takeDepth_keeps | with_reducible apply putSource_keeps | with_reducible apply disqualify_keeps | with_reducible apply setTrace_keeps | with_reducible apply State_setLink_keeps | with_reducible apply State_set_keeps | with_reducible apply keeps_ite | split | simp only [keeps_upd_iff] | intro _)

theorem execDelayCell_keeps (l : Nat) (c : DelayCell) {s t : State} (h : execDelayCell l c s = .next t) : Keeps s t := by
  unfold execDelayCell at h
  injection h with h
  subst h
  try dsimp only
  repeat' (first | with_reducible assumption | with_reducible exact keeps_refl _ | with_reducible apply crcError_keeps | with_reducible apply State_setLink_keeps | with_reducible apply State_set_keeps | with_reducible apply keeps_ite | split | simp only [keeps_upd_iff] | intro _)

theorem execCensus_keeps (parts : Nat) (subA : List Nat) (subB : List Nat) (dups : List Nat) {s t : State} (h : execCensus parts subA subB dups s = .next t) : Keeps s t := by
  unfold execCensus at h
  injection h with h
  subst h
  try dsimp only
  repeat' (first | with_reducible assumption | with_reducible exact keeps_refl _ | with_reducible apply fault_keeps | with_reducible apply State_setLink_keeps | with_reducible apply State_setFlag_keeps | with_reducible apply State_set_keeps | with_reducible apply keeps_ite | split | simp only [keeps_upd_iff] | intro _)

theorem execStepAnnouncement_keeps (at_ : Nat) (delta : Int) {s t : State} (h : execStepAnnouncement at_ delta s = .next t) : Keeps s t := by
  unfold execStepAnnouncement at h
  injection h with h
  subst h
  try dsimp only
  repeat' (first | with_reducible assumption | with_reducible exact keeps_refl _ | with_reducible apply putStep_keeps | with_reducible apply keeps_ite | split | intro _)

theorem clearAcc_keeps (a : Nat) {s0 s : State} (hk : Keeps s0 s) : Keeps s0 (clearAcc a s) := by
  unfold clearAcc
  try dsimp only
  repeat' (first | with_reducible assumption | with_reducible apply State_set_keeps | intro _)

theorem clearTr_keeps (a : Nat) {s0 s : State} (hk : Keeps s0 s) : Keeps s0 (clearTr a s) := by
  unfold clearTr
  try dsimp only
  repeat' (first | with_reducible assumption | with_reducible apply State_set_keeps | intro _)

theorem State_setTm_keeps (m : Nat) (x : Modulator) {s0 s : State} (hk : Keeps s0 s) : Keeps s0 (State.setTm s m x) := by
  unfold State.setTm
  try dsimp only
  repeat' (first | with_reducible assumption | simp only [keeps_upd_iff] | intro _)

theorem startConv_keeps (m : Nat) (kind : Nat) (e : Nat) {s0 s : State} (hk : Keeps s0 s) : Keeps s0 (startConv m kind e s) := by
  unfold startConv
  try dsimp only
  repeat' (first | with_reducible assumption | with_reducible apply State_setTm_keeps | with_reducible apply State_set_keeps | with_reducible apply keeps_ite | split | simp only [keeps_upd_iff] | intro _)

theorem idleConv_keeps (m : Nat) {s0 s : State} (hk : Keeps s0 s) : Keeps s0 (idleConv m s) := by
  unfold idleConv
  try dsimp only
  repeat' (first | with_reducible assumption | with_reducible apply State_setTm_keeps | with_reducible apply State_set_keeps | with_reducible apply keeps_ite | split | simp only [keeps_upd_iff] | intro _)

theorem startSeq_keeps (m : Nat) (e : Nat) {s0 s : State} (hk : Keeps s0 s) : Keeps s0 (startSeq m e s) := by
  unfold startSeq
  try dsimp only
  repeat' (first | with_reducible assumption | with_reducible apply startConv_keeps | with_reducible apply idleConv_keeps | with_reducible apply State_setTm_keeps | split | simp only [keeps_upd_iff] | intro _)

theorem startTest_keeps (m : Nat) {s0 s : State} (hk : Keeps s0 s) : Keeps s0 (startTest m s) := by
  unfold startTest
  try dsimp only
  repeat' (first | with_reducible assumption | with_reducible apply State_setTm_keeps | with_reducible apply State_set_keeps | simp only [keeps_upd_iff] | intro _)

theorem serveNext_keeps (m : Nat) {s0 s : State} (hk : Keeps s0 s) : Keeps s0 (serveNext m s) := by
  unfold serveNext
  try dsimp only
  repeat' (first | with_reducible assumption | with_reducible apply idleConv_keeps | with_reducible apply startTest_keeps | with_reducible apply startConv_keeps | with_reducible apply startSeq_keeps | with_reducible apply State_set_keeps | with_reducible apply keeps_ite | split | simp only [keeps_upd_iff] | intro _)

theorem preempt_keeps (m : Nat) {s0 s : State} (hk : Keeps s0 s) : Keeps s0 (preempt m s) := by
  unfold preempt
  try dsimp only
  repeat' (first | with_reducible assumption | with_reducible apply serveNext_keeps | with_reducible apply State_inc_keeps | with_reducible apply State_setTm_keeps | with_reducible apply State_set_keeps | with_reducible apply keeps_ite | split | simp only [keeps_upd_iff] | intro _)

theorem chainStep_keeps (m : Nat) {s0 s : State} (hk : Keeps s0 s) : Keeps s0 (chainStep m s) := by
  unfold chainStep
  try dsimp only
  repeat' (first | with_reducible assumption | with_reducible apply State_setTm_keeps | with_reducible apply keeps_ite | split | simp only [keeps_upd_iff] | intro _)

theorem tmTick_keeps  {s0 s : State} (hk : Keeps s0 s) : Keeps s0 (tmTick s) := by
  unfold tmTick
  try dsimp only
  repeat' (first | with_reducible assumption | with_reducible apply preempt_keeps | with_reducible apply chainStep_keeps | with_reducible refine forN_keeps (fun _ _ _ => ?_) ?_ | with_reducible apply keeps_ite | split | intro _)

theorem addAcc_keeps (a : Nat) (v : Int) {s0 s : State} (hk : Keeps s0 s) : Keeps s0 (addAcc a v s) := by
  unfold addAcc
  try dsimp only
  repeat' (first | with_reducible assumption | with_reducible apply State_setFlag_keeps | with_reducible apply State_set_keeps | with_reducible apply keeps_ite | split | intro _)

theorem addTr_keeps (a : Nat) (v : Int) {s0 s : State} (hk : Keeps s0 s) : Keeps s0 (addTr a v s) := by
  unfold addTr
  try dsimp only
  repeat' (first | with_reducible assumption | with_reducible apply State_set_keeps | with_reducible apply keeps_ite | split | intro _)

theorem route_keeps (b : List Byte) (v : Int) {s0 s : State} (hk : Keeps s0 s) : Keeps s0 (route b v s) := by
  unfold route
  try dsimp only
  repeat' (first | with_reducible assumption | with_reducible apply addAcc_keeps | with_reducible apply addTr_keeps | with_reducible apply keeps_ite | split | intro _)

theorem execTmOutput_keeps (m : Nat) (x1 : Report) (x2 : Report) {s t : State} (h : execTmOutput m x1 x2 s = .next t) : Keeps s t := by
  unfold execTmOutput at h
  injection h with h
  subst h
  try dsimp only
  repeat' (first | with_reducible assumption | with_reducible exact keeps_refl _ | with_reducible apply route_keeps | with_reducible apply State_setTm_keeps | with_reducible apply keeps_ite | split | simp only [keeps_upd_iff] | intro _)

theorem takeOffset_keeps (m : Nat) {s0 s : State} (hk : Keeps s0 s) : Keeps s0 (takeOffset m s) := by
  unfold takeOffset
  try dsimp only
  repeat' (first | with_reducible assumption | with_reducible apply State_set_keeps | with_reducible apply keeps_ite | split | simp only [keeps_upd_iff] | intro _)

theorem finishStep_keeps (m : Nat) (e : Nat) (step : Nat) {s0 s : State} (hk : Keeps s0 s) : Keeps s0 (finishStep m e step s) := by
  unfold finishStep
  try dsimp only
  repeat' (first | with_reducible assumption | with_reducible apply State_setTm_keeps | with_reducible apply State_set_keeps | with_reducible apply keeps_ite | split | simp only [keeps_upd_iff] | intro _)

theorem execTmConversionEnd_keeps (m : Nat) {s t : State} (h : execTmConversionEnd m s = .next t) : Keeps s t := by
  unfold execTmConversionEnd at h
  injection h with h
  subst h
  try dsimp only
  repeat' (first | with_reducible assumption | with_reducible exact keeps_refl _ | with_reducible apply takeOffset_keeps | with_reducible apply finishStep_keeps | with_reducible apply serveNext_keeps | with_reducible apply State_inc_keeps | with_reducible apply State_setTm_keeps | with_reducible apply State_set_keeps | with_reducible apply keeps_ite | split | simp only [keeps_upd_iff] | intro _)

theorem tmRestart_keeps (m : Nat) {s0 s : State} (hk : Keeps s0 s) : Keeps s0 (tmRestart m s) := by
  unfold tmRestart
  try dsimp only
  repeat' (first | with_reducible assumption | with_reducible apply idleConv_keeps | with_reducible apply startSeq_keeps | with_reducible apply State_setTm_keeps | with_reducible apply keeps_ite | split | simp only [keeps_upd_iff] | intro _)

theorem execTmOverrange_keeps (m : Nat) {s t : State} (h : execTmOverrange m s = .next t) : Keeps s t := by
  unfold execTmOverrange at h
  injection h with h
  subst h
  try dsimp only
  repeat' (first | with_reducible assumption | with_reducible exact keeps_refl _ | with_reducible apply fault_keeps | with_reducible apply State_sticky_keeps | with_reducible apply State_setBit_keeps | with_reducible apply keeps_ite | split | intro _)

theorem tmInjectEffect_keeps (m : Nat) (x1 : Who) (x2 : Val) {s0 s : State} (hk : Keeps s0 s) : Keeps s0 (tmInjectEffect m x1 x2 s).st := by
  unfold tmInjectEffect
  try dsimp only
  repeat' (first | with_reducible assumption | with_reducible apply Reply_no_keeps | with_reducible apply Reply_ok_keeps | with_reducible apply State_set_keeps | with_reducible apply keeps_ite_st | split | intro _)

theorem execTmInject_keeps (m : Nat) (f : Frame) {s t : State} (h : execTmInject m f s = .next t) : Keeps s t := by
  unfold execTmInject at h
  injection h with h
  subst h
  try dsimp only
  repeat' (first | with_reducible assumption | with_reducible exact keeps_refl _ | with_reducible apply requestWrite_keeps | with_reducible apply tmInjectEffect_keeps | intro _)

theorem tmCalEffect_keeps (m : Nat) (x1 : Who) (v : Val) {s0 s : State} (hk : Keeps s0 s) : Keeps s0 (tmCalEffect m x1 v s).st := by
  unfold tmCalEffect
  try dsimp only
  repeat' (first | with_reducible assumption | with_reducible apply Reply_ok_keeps | with_reducible apply State_set_keeps | with_reducible apply Reply_no_keeps | with_reducible apply State_setTm_keeps | with_reducible apply keeps_ite_st | split | simp only [keeps_upd_iff] | intro _)

theorem execTmCalZero_keeps (m : Nat) (f : Frame) {s t : State} (h : execTmCalZero m f s = .next t) : Keeps s t := by
  unfold execTmCalZero at h
  injection h with h
  subst h
  try dsimp only
  repeat' (first | with_reducible assumption | with_reducible exact keeps_refl _ | with_reducible apply requestWrite_keeps | with_reducible apply tmCalEffect_keeps | intro _)

theorem execTmCalGain_keeps (m : Nat) (f : Frame) {s t : State} (h : execTmCalGain m f s = .next t) : Keeps s t := by
  unfold execTmCalGain at h
  injection h with h
  subst h
  try dsimp only
  repeat' (first | with_reducible assumption | with_reducible exact keeps_refl _ | with_reducible apply requestWrite_keeps | with_reducible apply tmCalEffect_keeps | intro _)

theorem execTmCalRestore_keeps (m : Nat) (f : Frame) {s t : State} (h : execTmCalRestore m f s = .next t) : Keeps s t := by
  unfold execTmCalRestore at h
  injection h with h
  subst h
  try dsimp only
  repeat' (first | with_reducible assumption | with_reducible exact keeps_refl _ | with_reducible apply requestWrite_keeps | with_reducible apply tmCalEffect_keeps | intro _)

theorem tmOvrClearEffect_keeps (m : Nat) (x1 : Who) (v : Val) {s0 s : State} (hk : Keeps s0 s) : Keeps s0 (tmOvrClearEffect m x1 v s).st := by
  unfold tmOvrClearEffect
  try dsimp only
  repeat' (first | with_reducible assumption | with_reducible apply Reply_ok_keeps | with_reducible apply State_set_keeps | intro _)

theorem execTmOvrClear_keeps (m : Nat) (f : Frame) {s t : State} (h : execTmOvrClear m f s = .next t) : Keeps s t := by
  unfold execTmOvrClear at h
  injection h with h
  subst h
  try dsimp only
  repeat' (first | with_reducible assumption | with_reducible exact keeps_refl _ | with_reducible apply requestWrite_keeps | with_reducible apply tmOvrClearEffect_keeps | intro _)

theorem accClearEffect_keeps (a : Nat) (x1 : Who) (x2 : Val) {s0 s : State} (hk : Keeps s0 s) : Keeps s0 (accClearEffect a x1 x2 s).st := by
  unfold accClearEffect
  try dsimp only
  repeat' (first | with_reducible assumption | with_reducible apply clearAcc_keeps | with_reducible apply Reply_ok_keeps | intro _)

theorem trClearEffect_keeps (a : Nat) (x1 : Who) (x2 : Val) {s0 s : State} (hk : Keeps s0 s) : Keeps s0 (trClearEffect a x1 x2 s).st := by
  unfold trClearEffect
  try dsimp only
  repeat' (first | with_reducible assumption | with_reducible apply clearTr_keeps | with_reducible apply Reply_ok_keeps | intro _)

theorem execAccClear_keeps (a : Nat) (f : Frame) {s t : State} (h : execAccClear a f s = .next t) : Keeps s t := by
  unfold execAccClear at h
  injection h with h
  subst h
  try dsimp only
  repeat' (first | with_reducible assumption | with_reducible exact keeps_refl _ | with_reducible apply requestWrite_keeps | with_reducible apply accClearEffect_keeps | intro _)

theorem execTrClear_keeps (a : Nat) (f : Frame) {s t : State} (h : execTrClear a f s = .next t) : Keeps s t := by
  unfold execTrClear at h
  injection h with h
  subst h
  try dsimp only
  repeat' (first | with_reducible assumption | with_reducible exact keeps_refl _ | with_reducible apply requestWrite_keeps | with_reducible apply trClearEffect_keeps | intro _)

theorem putHolders_keeps (d : Nat) (l : List Holder) {s0 s : State} (hk : Keeps s0 s) : Keeps s0 (putHolders d l s) := by
  unfold putHolders
  try dsimp only
  repeat' (first | with_reducible assumption | simp only [keeps_upd_iff] | intro _)

theorem putDomDue_keeps (d : Nat) (v : Option Nat) {s0 s : State} (hk : Keeps s0 s) : Keeps s0 (putDomDue d v s) := by
  unfold putDomDue
  try dsimp only
  repeat' (first | with_reducible assumption | simp only [keeps_upd_iff] | intro _)

theorem domainLost_keeps (d : Nat) {s0 s : State} (hk : Keeps s0 s) : Keeps s0 (domainLost d s) := by
  unfold domainLost
  try dsimp only
  repeat' (first | with_reducible assumption | with_reducible apply poolOff_keeps | with_reducible apply setGal_keeps | with_reducible apply freeReceivers_keeps | with_reducible apply irq_keeps | with_reducible apply linkDown_keeps | with_reducible apply State_set_keeps | with_reducible refine forN_keeps (fun _ _ _ => ?_) ?_ | with_reducible apply keeps_ite | split | simp only [keeps_upd_iff] | intro _)

theorem reviewDomain_keeps (d : Nat) {s0 s : State} (hk : Keeps s0 s) : Keeps s0 (reviewDomain d s) := by
  unfold reviewDomain
  try dsimp only
  repeat' (first | with_reducible assumption | with_reducible apply putDomDue_keeps | with_reducible apply domainLost_keeps | with_reducible apply State_set_keeps | with_reducible apply keeps_ite | split | intro _)

theorem holdDomain_keeps (d : Nat) (h : Holder) {s0 s : State} (hk : Keeps s0 s) : Keeps s0 (holdDomain d h s) := by
  unfold holdDomain
  try dsimp only
  repeat' (first | with_reducible assumption | with_reducible apply reviewDomain_keeps | with_reducible apply putHolders_keeps | intro _)

theorem releaseDomain_keeps (d : Nat) (h : Holder) {s0 s : State} (hk : Keeps s0 s) : Keeps s0 (releaseDomain d h s) := by
  unfold releaseDomain
  try dsimp only
  repeat' (first | with_reducible assumption | with_reducible apply reviewDomain_keeps | with_reducible apply putHolders_keeps | intro _)

theorem thermalShed_keeps (d : Nat) {s0 s : State} (hk : Keeps s0 s) : Keeps s0 (thermalShed d s) := by
  unfold thermalShed
  try dsimp only
  repeat' (first | with_reducible assumption | with_reducible apply holdDomain_keeps | with_reducible apply raiseCh_keeps | with_reducible refine forL_keeps (fun _ _ _ => ?_) ?_ | with_reducible apply keeps_ite | split | intro _)

theorem sliceUp_keeps (sl : Nat) {s0 s : State} (hk : Keeps s0 s) : Keeps s0 (sliceUp sl s) := by
  unfold sliceUp
  try dsimp only
  repeat' (first | with_reducible assumption | with_reducible apply syncReset_keeps | with_reducible apply releaseCh_keeps | with_reducible apply reviewChrysalis_keeps | with_reducible apply unholdChan_keeps | with_reducible refine forL_keeps (fun _ _ _ => ?_) ?_ | with_reducible apply keeps_ite | split | intro _)

theorem execDomainPowered_keeps (d : Nat) {s t : State} (h : execDomainPowered d s = .next t) : Keeps s t := by
  unfold execDomainPowered at h
  injection h with h
  subst h
  try dsimp only
  repeat' (first | with_reducible assumption | with_reducible exact keeps_refl _ | with_reducible apply putDomDue_keeps | with_reducible apply poolOn_keeps | with_reducible apply State_set_keeps | with_reducible apply keeps_ite | split | simp only [keeps_upd_iff] | intro _)

theorem execSliceCheck_keeps (sl : Nat) (ok : Bool) {s t : State} (h : execSliceCheck sl ok s = .next t) : Keeps s t := by
  unfold execSliceCheck at h
  injection h with h
  subst h
  try dsimp only
  repeat' (first | with_reducible assumption | with_reducible exact keeps_refl _ | with_reducible apply sliceUp_keeps | with_reducible apply putDomDue_keeps | with_reducible apply fault_keeps | with_reducible apply State_set_keeps | with_reducible apply keeps_ite | split | simp only [keeps_upd_iff] | intro _)

theorem readSensors_keeps (raws : List Int) {s0 s : State} (hk : Keeps s0 s) : Keeps s0 (readSensors raws s) := by
  unfold readSensors
  try dsimp only
  repeat' (first | with_reducible assumption | with_reducible apply State_set_keeps | with_reducible refine forN_keeps (fun _ _ _ => ?_) ?_ | with_reducible apply keeps_ite | split | simp only [keeps_upd_iff] | intro _)

theorem learnOffsets_keeps  {s0 s : State} (hk : Keeps s0 s) : Keeps s0 (learnOffsets s) := by
  unfold learnOffsets
  try dsimp only
  repeat' (first | with_reducible assumption | with_reducible apply State_set_keeps | with_reducible refine forN_keeps (fun _ _ _ => ?_) ?_ | simp only [keeps_upd_iff] | intro _)

theorem closeCheck_keeps (failed : List Nat) {s0 s : State} (hk : Keeps s0 s) : Keeps s0 (closeCheck failed s) := by
  unfold closeCheck
  try dsimp only
  repeat' (first | with_reducible assumption | with_reducible apply learnOffsets_keeps | with_reducible apply keeps_ite | split | simp only [keeps_upd_iff] | intro _)

theorem enterStatus_keeps (n : Nat) (v : Int) {s0 s : State} (hk : Keeps s0 s) : Keeps s0 (enterStatus n v s) := by
  unfold enterStatus
  try dsimp only
  repeat' (first | with_reducible assumption | with_reducible apply fault_keeps | with_reducible apply State_sticky_keeps | with_reducible apply State_inc_keeps | with_reducible apply State_set_keeps | with_reducible apply keeps_ite | split | simp only [keeps_upd_iff] | intro _)

theorem substitute_keeps (failed : List Nat) {s0 s : State} (hk : Keeps s0 s) : Keeps s0 (substitute failed s) := by
  unfold substitute
  try dsimp only
  repeat' (first | with_reducible assumption | with_reducible apply enterStatus_keeps | with_reducible apply State_set_keeps | with_reducible refine forN_keeps (fun _ _ _ => ?_) ?_ | with_reducible apply keeps_ite | split | simp only [keeps_upd_iff] | intro _)

theorem putBackoff_keeps (b : Nat) {s0 s : State} (hk : Keeps s0 s) : Keeps s0 (putBackoff b s) := by
  unfold putBackoff
  try dsimp only
  repeat' (first | with_reducible assumption | with_reducible apply State_set_keeps | simp only [keeps_upd_iff] | intro _)

theorem giveBackoff_keeps  {s0 s : State} (hk : Keeps s0 s) : Keeps s0 (giveBackoff s) := by
  unfold giveBackoff
  try dsimp only
  repeat' (first | with_reducible assumption | with_reducible apply State_set_keeps | with_reducible refine forL_keeps (fun _ _ _ => ?_) ?_ | with_reducible apply keeps_ite | split | simp only [keeps_upd_iff] | intro _)

theorem repowerLast_keeps  {s0 s : State} (hk : Keeps s0 s) : Keeps s0 (repowerLast s) := by
  unfold repowerLast
  try dsimp only
  repeat' (first | with_reducible assumption | with_reducible apply releaseDomain_keeps | with_reducible apply State_set_keeps | split | simp only [keeps_upd_iff] | intro _)

theorem settleRetreat_keeps  {s0 s : State} (hk : Keeps s0 s) : Keeps s0 (settleRetreat s) := by
  unfold settleRetreat
  try dsimp only
  repeat' (first | with_reducible assumption | with_reducible apply State_set_keeps | with_reducible apply keeps_ite | split | intro _)

theorem beginRetreat_keeps  {s0 s : State} (hk : Keeps s0 s) : Keeps s0 (beginRetreat s) := by
  unfold beginRetreat
  try dsimp only
  repeat' (first | with_reducible assumption | with_reducible apply settleRetreat_keeps | with_reducible apply repowerLast_keeps | with_reducible apply State_set_keeps | with_reducible apply keeps_ite | split | simp only [keeps_upd_iff] | intro _)

theorem throttleNotify_keeps  {s0 s : State} (hk : Keeps s0 s) : Keeps s0 (throttleNotify s) := by
  unfold throttleNotify
  try dsimp only
  repeat' (first | with_reducible assumption | with_reducible apply notifyOne_keeps | with_reducible apply irq_keeps | with_reducible apply enterRec_keeps | with_reducible refine forL_keeps (fun _ _ _ => ?_) ?_ | intro _)

theorem enterThrottle_keeps  {s0 s : State} (hk : Keeps s0 s) : Keeps s0 (enterThrottle s) := by
  unfold enterThrottle
  try dsimp only
  repeat' (first | with_reducible assumption | with_reducible apply fault_keeps | with_reducible apply throttleNotify_keeps | with_reducible apply State_inc_keeps | with_reducible apply State_set_keeps | with_reducible apply keeps_ite | split | simp only [keeps_upd_iff] | intro _)

theorem shutRail_keeps (r : Nat) {s0 s : State} (hk : Keeps s0 s) : Keeps s0 (shutRail r s) := by
  unfold shutRail
  try dsimp only
  repeat' (first | with_reducible assumption | with_reducible apply railOffRamp_keeps | with_reducible apply keeps_ite | split | intro _)

theorem enterShutdown_keeps  {s0 s : State} (hk : Keeps s0 s) : Keeps s0 (enterShutdown s) := by
  unfold enterShutdown
  try dsimp only
  repeat' (first | with_reducible assumption | with_reducible apply raisePort_keeps | with_reducible apply irq_keeps | with_reducible apply shutRail_keeps | with_reducible apply fault_keeps | with_reducible apply State_inc_keeps | with_reducible refine forN_keeps (fun _ _ _ => ?_) ?_ | intro _)

theorem enterWarning_keeps  {s0 s : State} (hk : Keeps s0 s) : Keeps s0 (enterWarning s) := by
  unfold enterWarning
  try dsimp only
  repeat' (first | with_reducible assumption | with_reducible apply fault_keeps | with_reducible apply event_keeps | intro _)

theorem riseActions_keeps (a : Nat) (b : Nat) {s0 s : State} (hk : Keeps s0 s) : Keeps s0 (riseActions a b s) := by
  unfold riseActions
  try dsimp only
  repeat' (first | with_reducible assumption | with_reducible apply enterWarning_keeps | with_reducible apply enterThrottle_keeps | with_reducible apply enterShutdown_keeps | with_reducible apply State_sticky_keeps | with_reducible apply keeps_ite | split | intro _)

theorem fallActions_keeps (a : Nat) (b : Nat) {s0 s : State} (hk : Keeps s0 s) : Keeps s0 (fallActions a b s) := by
  unfold fallActions
  try dsimp only
  repeat' (first | with_reducible assumption | with_reducible apply releasePort_keeps | with_reducible apply beginRetreat_keeps | with_reducible apply event_keeps | with_reducible apply State_set_keeps | with_reducible refine forN_keeps (fun _ _ _ => ?_) ?_ | with_reducible apply keeps_ite | split | intro _)

theorem putLevel_keeps (v : Nat) {s0 s : State} (hk : Keeps s0 s) : Keeps s0 (putLevel v s) := by
  unfold putLevel
  try dsimp only
  repeat' (first | with_reducible assumption | with_reducible apply riseActions_keeps | with_reducible apply fallActions_keeps | with_reducible apply State_set_keeps | with_reducible apply keeps_ite | split | intro _)

theorem settleLevel_keeps  {s0 s : State} (hk : Keeps s0 s) : Keeps s0 (settleLevel s) := by
  unfold settleLevel
  try dsimp only
  repeat' (first | with_reducible assumption | with_reducible apply putLevel_keeps | split | simp only [keeps_upd_iff] | intro _)

theorem enforceStep_keeps  {s0 s : State} (hk : Keeps s0 s) : Keeps s0 (enforceStep s) := by
  unfold enforceStep
  try dsimp only
  repeat' (first | with_reducible assumption | with_reducible apply putBackoff_keeps | with_reducible apply settleRetreat_keeps | with_reducible apply State_set_keeps | with_reducible apply keeps_ite | split | simp only [keeps_upd_iff] | intro _)

theorem calDrift_keeps  {s0 s : State} (hk : Keeps s0 s) : Keeps s0 (calDrift s) := by
  unfold calDrift
  try dsimp only
  repeat' (first | with_reducible assumption | with_reducible apply addPending_keeps | with_reducible refine forN_keeps (fun _ _ _ => ?_) ?_ | with_reducible apply keeps_ite | split | intro _)

theorem holdLevel_keeps (failed : List Nat) {s0 s : State} (hk : Keeps s0 s) : Keeps s0 (holdLevel failed s) := by
  unfold holdLevel
  try dsimp only
  repeat' (first | with_reducible assumption | with_reducible apply State_set_keeps | with_reducible apply keeps_ite | split | simp only [keeps_upd_iff] | intro _)

theorem putLevels_keeps (l : List Nat) {s0 s : State} (hk : Keeps s0 s) : Keeps s0 (putLevels l s) := by
  unfold putLevels
  try dsimp only
  repeat' (first | with_reducible assumption | with_reducible apply State_set_keeps | with_reducible refine forN_keeps (fun _ _ _ => ?_) ?_ | intro _)

theorem execThermalEvaluation_keeps (raws : List Int) {s t : State} (h : execThermalEvaluation raws s = .next t) : Keeps s t := by
  unfold execThermalEvaluation at h
  injection h with h
  subst h
  try dsimp only
  repeat' (first | with_reducible assumption | with_reducible exact keeps_refl _ | with_reducible apply readSensors_keeps | with_reducible apply substitute_keeps | with_reducible apply holdLevel_keeps | with_reducible apply closeCheck_keeps | with_reducible apply calDrift_keeps | with_reducible apply giveBackoff_keeps | with_reducible apply enforceStep_keeps | with_reducible apply settleLevel_keeps | with_reducible apply putLevels_keeps | with_reducible apply keeps_ite | split | simp only [keeps_upd_iff] | intro _)

theorem execThermalGraceEnd_keeps  {s t : State} (h : execThermalGraceEnd s = .next t) : Keeps s t := by
  unfold execThermalGraceEnd at h
  injection h with h
  subst h
  try dsimp only
  repeat' (first | with_reducible assumption | with_reducible exact keeps_refl _ | with_reducible apply State_set_keeps | with_reducible apply keeps_ite | split | simp only [keeps_upd_iff] | intro _)

theorem execThermalShedStep_keeps  {s t : State} (h : execThermalShedStep s = .next t) : Keeps s t := by
  unfold execThermalShedStep at h
  injection h with h
  subst h
  try dsimp only
  repeat' (first | with_reducible assumption | with_reducible exact keeps_refl _ | with_reducible apply thermalShed_keeps | with_reducible apply State_set_keeps | with_reducible apply keeps_ite | split | simp only [keeps_upd_iff] | intro _)

theorem execThermalRetreatStep_keeps  {s t : State} (h : execThermalRetreatStep s = .next t) : Keeps s t := by
  unfold execThermalRetreatStep at h
  injection h with h
  subst h
  try dsimp only
  repeat' (first | with_reducible assumption | with_reducible exact keeps_refl _ | with_reducible apply settleRetreat_keeps | with_reducible apply repowerLast_keeps | with_reducible apply keeps_ite | split | intro _)

theorem execThermalSubstHoldEnd_keeps  {s t : State} (h : execThermalSubstHoldEnd s = .next t) : Keeps s t := by
  unfold execThermalSubstHoldEnd at h
  injection h with h
  subst h
  try dsimp only
  repeat' (first | with_reducible assumption | with_reducible exact keeps_refl _ | with_reducible apply giveBackoff_keeps | with_reducible apply settleLevel_keeps | with_reducible apply State_set_keeps | with_reducible apply keeps_ite | split | simp only [keeps_upd_iff] | intro _)

theorem thLearnEffect_keeps (x1 : Who) (x2 : Val) {s0 s : State} (hk : Keeps s0 s) : Keeps s0 (thLearnEffect x1 x2 s).st := by
  unfold thLearnEffect
  try dsimp only
  repeat' (first | with_reducible assumption | with_reducible apply Reply_ok_keeps | with_reducible apply Reply_no_keeps | with_reducible apply keeps_ite_st | split | simp only [keeps_upd_iff] | intro _)

theorem execThLearn_keeps (f : Frame) {s t : State} (h : execThLearn f s = .next t) : Keeps s t := by
  unfold execThLearn at h
  injection h with h
  subst h
  try dsimp only
  repeat' (first | with_reducible assumption | with_reducible exact keeps_refl _ | with_reducible apply requestWrite_keeps | with_reducible apply thLearnEffect_keeps | intro _)

theorem releaseSource_keeps (w : Nat) {s0 s : State} (hk : Keeps s0 s) : Keeps s0 (releaseSource w s) := by
  unfold releaseSource
  try dsimp only
  repeat' (first | with_reducible assumption | with_reducible apply releaseDomain_keeps | with_reducible apply unholdChan_keeps | with_reducible apply unholdPort_keeps | with_reducible apply keeps_ite | split | simp only [keeps_upd_iff] | intro _)

theorem clearSource_keeps (w : Nat) {s0 s : State} (hk : Keeps s0 s) : Keeps s0 (clearSource w s) := by
  unfold clearSource
  try dsimp only
  repeat' (first | with_reducible assumption | with_reducible apply setSource_keeps | with_reducible apply releaseSource_keeps | with_reducible apply keeps_ite | split | simp only [keeps_upd_iff] | intro _)

theorem clearFully_keeps (w : Nat) {s0 s : State} (hk : Keeps s0 s) : Keeps s0 (clearFully w s) := by
  unfold clearFully
  try dsimp only
  repeat' (first | with_reducible assumption | with_reducible apply clearSource_keeps | simp only [keeps_upd_iff] | intro _)

theorem execFaultMajorHoldEnd_keeps (w : Nat) {s t : State} (h : execFaultMajorHoldEnd w s = .next t) : Keeps s t := by
  unfold execFaultMajorHoldEnd at h
  injection h with h
  subst h
  try dsimp only
  repeat' (first | with_reducible assumption | with_reducible exact keeps_refl _ | with_reducible apply clearSource_keeps | with_reducible apply keeps_ite | split | simp only [keeps_upd_iff] | intro _)

theorem fltClearEffect_keeps (x1 : Who) (v : Val) {s0 s : State} (hk : Keeps s0 s) : Keeps s0 (fltClearEffect x1 v s).st := by
  unfold fltClearEffect
  try dsimp only
  repeat' (first | with_reducible assumption | with_reducible apply clearFully_keeps | with_reducible apply Reply_no_keeps | with_reducible apply Reply_ok_keeps | with_reducible apply keeps_ite_st | split | intro _)

theorem execFltClear_keeps (f : Frame) {s t : State} (h : execFltClear f s = .next t) : Keeps s t := by
  unfold execFltClear at h
  injection h with h
  subst h
  try dsimp only
  repeat' (first | with_reducible assumption | with_reducible exact keeps_refl _ | with_reducible apply requestWrite_keeps | with_reducible apply fltClearEffect_keeps | intro _)

theorem fltClearAllEffect_keeps (x1 : Who) (x2 : Val) {s0 s : State} (hk : Keeps s0 s) : Keeps s0 (fltClearAllEffect x1 x2 s).st := by
  unfold fltClearAllEffect
  try dsimp only
  repeat' (first | with_reducible assumption | with_reducible apply clearFully_keeps | with_reducible apply Reply_ok_keeps | with_reducible refine forL_keeps (fun _ _ _ => ?_) ?_ | intro _)

theorem execFltClearAll_keeps (f : Frame) {s t : State} (h : execFltClearAll f s = .next t) : Keeps s t := by
  unfold execFltClearAll at h
  injection h with h
  subst h
  try dsimp only
  repeat' (first | with_reducible assumption | with_reducible exact keeps_refl _ | with_reducible apply requestWrite_keeps | with_reducible apply fltClearAllEffect_keeps | intro _)

theorem stickyClearEffect_keeps (x1 : Who) (v : Val) {s0 s : State} (hk : Keeps s0 s) : Keeps s0 (stickyClearEffect x1 v s).st := by
  unfold stickyClearEffect
  try dsimp only
  repeat' (first | with_reducible assumption | with_reducible apply Reply_ok_keeps | with_reducible apply State_set_keeps | intro _)

theorem execFltStickyClear_keeps (f : Frame) {s t : State} (h : execFltStickyClear f s = .next t) : Keeps s t := by
  unfold execFltStickyClear at h
  injection h with h
  subst h
  try dsimp only
  repeat' (first | with_reducible assumption | with_reducible exact keeps_refl _ | with_reducible apply requestWrite_keeps | with_reducible apply stickyClearEffect_keeps | intro _)

theorem markBank_keeps (b : Nat) (failed : Bool) {s0 s : State} (hk : Keeps s0 s) : Keeps s0 (markBank b failed s) := by
  unfold markBank
  try dsimp only
  repeat' (first | with_reducible assumption | simp only [keeps_upd_iff] | intro _)

theorem addRec_keeps (x : JRec) {s0 s : State} (hk : Keeps s0 s) : Keeps s0 (addRec x s) := by
  unfold addRec
  try dsimp only
  repeat' (first | with_reducible assumption | simp only [keeps_upd_iff] | intro _)

theorem streamRec_keeps (e : Nat × Rec) {s0 s : State} (hk : Keeps s0 s) : Keeps s0 (streamRec e s) := by
  unfold streamRec
  try dsimp only
  repeat' (first | with_reducible assumption | with_reducible apply State_emit_keeps | intro _)

theorem loseLog_keeps (b : Nat) {s0 s : State} (hk : Keeps s0 s) : Keeps s0 (loseLog b s) := by
  unfold loseLog
  try dsimp only
  repeat' (first | with_reducible assumption | with_reducible apply streamRec_keeps | with_reducible apply fault_keeps | with_reducible apply State_sticky_keeps | with_reducible apply State_set_keeps | with_reducible refine forL_keeps (fun _ _ _ => ?_) ?_ | intro _)

theorem bankFail_keeps (b : Nat) (writer : Nat) {s0 s : State} (hk : Keeps s0 s) : Keeps s0 (bankFail b writer s) := by
  unfold bankFail
  try dsimp only
  repeat' (first | with_reducible assumption | with_reducible apply markBank_keeps | with_reducible apply fault_keeps | with_reducible apply loseLog_keeps | with_reducible apply State_sticky_keeps | with_reducible apply State_set_keeps | with_reducible apply keeps_ite | split | intro _)

theorem writeChecks_keeps (writer : Nat) (bad0 : Nat) (bad1 : Nat) {s0 s : State} (hk : Keeps s0 s) : Keeps s0 (writeChecks writer bad0 bad1 s) := by
  unfold writeChecks
  try dsimp only
  repeat' (first | with_reducible assumption | with_reducible apply bankFail_keeps | with_reducible apply State_incBy_keeps | with_reducible apply keeps_ite | split | intro _)

theorem execRecFlushPeriodic_keeps  {s t : State} (h : execRecFlushPeriodic s = .next t) : Keeps s t := by
  unfold execRecFlushPeriodic at h
  injection h with h
  subst h
  try dsimp only
  repeat' (first | with_reducible assumption | with_reducible exact keeps_refl _ | with_reducible apply startFlush_keeps | with_reducible apply keeps_ite | split | intro _)

theorem recFlushEffect_keeps (x1 : Who) (x2 : Val) {s0 s : State} (hk : Keeps s0 s) : Keeps s0 (recFlushEffect x1 x2 s).st := by
  unfold recFlushEffect
  try dsimp only
  repeat' (first | with_reducible assumption | with_reducible apply startFlush_keeps | with_reducible apply Reply_ok_keeps | with_reducible apply keeps_ite_st | split | simp only [keeps_upd_iff] | intro _)

theorem flushNext_keeps  {s0 s : State} (hk : Keeps s0 s) : Keeps s0 (flushNext s) := by
  unfold flushNext
  try dsimp only
  repeat' (first | with_reducible assumption | with_reducible apply startFlush_keeps | with_reducible apply keeps_ite | split | simp only [keeps_upd_iff] | intro _)

theorem execRecFlush_keeps (f : Frame) {s t : State} (h : execRecFlush f s = .next t) : Keeps s t := by
  unfold execRecFlush at h
  injection h with h
  subst h
  try dsimp only
  repeat' (first | with_reducible assumption | with_reducible exact keeps_refl _ | with_reducible apply requestWrite_keeps | with_reducible apply recFlushEffect_keeps | intro _)

theorem makeDurable_keeps (n : Nat) {s0 s : State} (hk : Keeps s0 s) : Keeps s0 (makeDurable n s) := by
  unfold makeDurable
  try dsimp only
  repeat' (first | with_reducible assumption | with_reducible apply State_set_keeps | with_reducible apply keeps_ite | split | simp only [keeps_upd_iff] | intro _)

theorem restoreLog_keeps (n : Nat) {s0 s : State} (hk : Keeps s0 s) : Keeps s0 (restoreLog n s) := by
  unfold restoreLog
  try dsimp only
  repeat' (first | with_reducible assumption | with_reducible apply fault_keeps | with_reducible apply State_set_keeps | with_reducible apply keeps_ite | split | intro _)

theorem pfailDone_keeps  {s0 s : State} (hk : Keeps s0 s) : Keeps s0 (pfailDone s) := by
  unfold pfailDone
  try dsimp only
  repeat' (first | with_reducible assumption | with_reducible apply State_set_keeps | with_reducible apply keeps_ite | split | simp only [keeps_upd_iff] | intro _)

theorem flushMarks_keeps  {s0 s : State} (hk : Keeps s0 s) : Keeps s0 (flushMarks s) := by
  unfold flushMarks
  try dsimp only
  repeat' (first | with_reducible assumption | with_reducible apply addRec_keeps | with_reducible apply keeps_ite | split | simp only [keeps_upd_iff] | intro _)

theorem execRecFlushDone_keeps (bad0 : Nat) (bad1 : Nat) {s t : State} (h : execRecFlushDone bad0 bad1 s = .next t) : Keeps s t := by
  unfold execRecFlushDone at h
  injection h with h
  subst h
  try dsimp only
  repeat' (first | with_reducible assumption | with_reducible exact keeps_refl _ | with_reducible apply writeChecks_keeps | with_reducible apply flushNext_keeps | with_reducible apply restoreLog_keeps | with_reducible apply makeDurable_keeps | with_reducible apply pfailDone_keeps | with_reducible apply flushMarks_keeps | with_reducible apply keeps_ite | split | simp only [keeps_upd_iff] | intro _)

theorem execRecordEnterAfterWait_keeps  {s t : State} (h : execRecordEnterAfterWait s = .next t) : Keeps s t := by
  unfold execRecordEnterAfterWait at h
  injection h with h
  subst h
  try dsimp only
  repeat' (first | with_reducible assumption | with_reducible exact keeps_refl _ | with_reducible apply placeRec_keeps | with_reducible apply keeps_ite | split | simp only [keeps_upd_iff] | intro _)

theorem recRecordReply_keeps (flow : Nat) {s0 s : State} (hk : Keeps s0 s) : Keeps s0 (recRecordReply flow s).st := by
  unfold recRecordReply
  try dsimp only
  repeat' (first | with_reducible assumption | with_reducible apply State_setMaster_keeps | with_reducible apply Reply_no_keeps | split | simp only [keeps_upd_iff] | intro _)

theorem recPermReply_keeps (flow : Nat) {s0 s : State} (hk : Keeps s0 s) : Keeps s0 (recPermReply flow s).st := by
  unfold recPermReply
  try dsimp only
  repeat' (first | with_reducible assumption | with_reducible apply State_setMaster_keeps | with_reducible apply Reply_no_keeps | split | simp only [keeps_upd_iff] | intro _)

theorem paenTick_keeps (p : Nat) {s0 s : State} (hk : Keeps s0 s) : Keeps s0 (paenTick p s) := by
  unfold paenTick
  try dsimp only
  repeat' (first | with_reducible assumption | with_reducible apply State_setWing_keeps | with_reducible apply keeps_ite | split | simp only [keeps_upd_iff] | intro _)

theorem receive_keeps (p : Nat) {s0 s : State} (hk : Keeps s0 s) : Keeps s0 (receive p s) := by
  unfold receive
  try dsimp only
  repeat' (first | with_reducible assumption | with_reducible apply State_setWing_keeps | with_reducible apply State_set_keeps | with_reducible apply State_inc_keeps | with_reducible apply keeps_ite | split | simp only [keeps_upd_iff] | intro _)

theorem putMem_keeps (c : Nat) (i : Nat) (v : Int) {s0 s : State} (hk : Keeps s0 s) : Keeps s0 (putMem c i v s) := by
  unfold putMem
  try dsimp only
  repeat' (first | with_reducible assumption | with_reducible apply State_setPath_keeps | simp only [keeps_upd_iff] | intro _)

theorem decimate_keeps (b : Nat) (c : Nat) {s0 s : State} (hk : Keeps s0 s) : Keeps s0 (decimate b c s) := by
  unfold decimate
  try dsimp only
  repeat' (first | with_reducible assumption | with_reducible apply putMem_keeps | with_reducible apply State_setPath_keeps | simp only [keeps_upd_iff] | intro _)

theorem dcBlock_keeps (c : Nat) (x : IQ) {s0 s : State} (hk : Keeps s0 s) : Keeps s0 (dcBlock c x s).2 := by
  unfold dcBlock
  try dsimp only
  repeat' (first | with_reducible assumption | with_reducible apply State_set_keeps | with_reducible refine forL_keeps (fun _ _ _ => ?_) ?_ | with_reducible apply keeps_ite | split | intro _)

theorem reference_keeps (c : Nat) (n : Nat) (p : Nat) {s0 s : State} (hk : Keeps s0 s) : Keeps s0 (reference c n p s) := by
  unfold reference
  try dsimp only
  repeat' (first | with_reducible assumption | with_reducible apply putMem_keeps | with_reducible apply State_setPath_keeps | with_reducible refine forN_keeps (fun _ _ _ => ?_) ?_ | simp only [keeps_upd_iff] | intro _)

theorem delayLine_keeps (c : Nat) (n : Nat) {s0 s : State} (hk : Keeps s0 s) : Keeps s0 (delayLine c n s) := by
  unfold delayLine
  try dsimp only
  repeat' (first | with_reducible assumption | with_reducible apply State_setPath_keeps | simp only [keeps_upd_iff] | intro _)

theorem adaptTaps_keeps (c : Nat) (y : Cpx) {s0 s : State} (hk : Keeps s0 s) : Keeps s0 (adaptTaps c y s) := by
  unfold adaptTaps
  try dsimp only
  repeat' (first | with_reducible assumption | with_reducible apply State_setPath_keeps | with_reducible refine forL_keeps (fun _ _ _ => ?_) ?_ | simp only [keeps_upd_iff] | intro _)

theorem cancel_keeps (c : Nat) (x : IQ) {s0 s : State} (hk : Keeps s0 s) : Keeps s0 (cancel c x s).2 := by
  unfold cancel
  try dsimp only
  repeat' (first | with_reducible assumption | with_reducible apply adaptTaps_keeps | with_reducible apply State_setPath_keeps | with_reducible refine forL_keeps (fun _ _ _ => ?_) ?_ | with_reducible apply keeps_ite | split | intro _)

theorem takeGain_keeps (c : Nat) {s0 s : State} (hk : Keeps s0 s) : Keeps s0 (takeGain c s) := by
  unfold takeGain
  try dsimp only
  repeat' (first | with_reducible assumption | with_reducible apply State_setChan_keeps | with_reducible apply keeps_ite | split | simp only [keeps_upd_iff] | intro _)

theorem amplify_keeps (c : Nat) (y : Cpx) {s0 s : State} (hk : Keeps s0 s) : Keeps s0 (amplify c y s).2 := by
  unfold amplify
  try dsimp only
  repeat' (first | with_reducible assumption | with_reducible apply State_inc_keeps | with_reducible apply State_set_keeps | with_reducible refine forL_keeps (fun _ _ _ => ?_) ?_ | with_reducible apply keeps_ite | split | intro _)

theorem output_keeps (c : Nat) (o : Nat) (p : Nat) (x : Option IQ) (ok : Bool) {s0 s : State} (hk : Keeps s0 s) : Keeps s0 (output c o p x ok s) := by
  unfold output
  try dsimp only
  repeat' (first | with_reducible assumption | with_reducible apply putMem_keeps | with_reducible apply State_setPath_keeps | with_reducible apply keeps_ite | split | simp only [keeps_upd_iff] | intro _)

theorem outputs_keeps (c : Nat) (x : Option IQ) (ok : Bool) {s0 s : State} (hk : Keeps s0 s) : Keeps s0 (outputs c x ok s) := by
  unfold outputs
  try dsimp only
  repeat' (first | with_reducible assumption | with_reducible apply output_keeps | with_reducible refine forL_keeps (fun _ _ _ => ?_) ?_ | intro _)

theorem overTick_keeps (c : Nat) {s0 s : State} (hk : Keeps s0 s) : Keeps s0 (overTick c s) := by
  unfold overTick
  try dsimp only
  repeat' (first | with_reducible assumption | with_reducible apply State_setPath_keeps | with_reducible apply keeps_ite | split | simp only [keeps_upd_iff] | intro _)

theorem takeFactors_keeps (c : Nat) {s0 s : State} (hk : Keeps s0 s) : Keeps s0 (takeFactors c s) := by
  unfold takeFactors
  try dsimp only
  repeat' (first | with_reducible assumption | with_reducible apply State_setPath_keeps | with_reducible apply State_set_keeps | with_reducible refine forL_keeps (fun _ _ _ => ?_) ?_ | with_reducible apply keeps_ite | split | simp only [keeps_upd_iff] | intro _)

theorem countSample_keeps (c : Nat) {s0 s : State} (hk : Keeps s0 s) : Keeps s0 (countSample c s) := by
  unfold countSample
  try dsimp only
  repeat' (first | with_reducible assumption | with_reducible apply State_setPath_keeps | with_reducible apply keeps_ite | split | simp only [keeps_upd_iff] | intro _)

theorem sample_keeps (c : Nat) {s0 s : State} (hk : Keeps s0 s) : Keeps s0 (sample c s).2 := by
  unfold sample
  try dsimp only
  repeat' (first | with_reducible assumption | with_reducible apply countSample_keeps | with_reducible apply State_setPath_keeps | with_reducible apply amplify_keeps | with_reducible apply cancel_keeps | with_reducible apply dcBlock_keeps | with_reducible apply delayLine_keeps | with_reducible refine forL_keeps (fun _ _ _ => ?_) ?_ | with_reducible apply keeps_ite | split | intro _)

theorem filtered_keeps (c : Nat) {s0 s : State} (hk : Keeps s0 s) : Keeps s0 (filtered c s) := by
  unfold filtered
  try dsimp only
  repeat' (first | with_reducible assumption | with_reducible apply reference_keeps | with_reducible apply decimate_keeps | with_reducible apply sample_keeps | with_reducible apply outputs_keeps | with_reducible apply State_setPath_keeps | with_reducible refine forL_keeps (fun _ _ _ => ?_) ?_ | with_reducible apply keeps_ite | split | simp only [keeps_upd_iff] | intro _)

theorem repeated_keeps (c : Nat) {s0 s : State} (hk : Keeps s0 s) : Keeps s0 (repeated c s) := by
  unfold repeated
  try dsimp only
  repeat' (first | with_reducible assumption | with_reducible apply amplify_keeps | with_reducible apply countSample_keeps | with_reducible apply outputs_keeps | with_reducible apply State_setPath_keeps | split | simp only [keeps_upd_iff] | intro _)

theorem channelPath_keeps (c : Nat) {s0 s : State} (hk : Keeps s0 s) : Keeps s0 (channelPath c s) := by
  unfold channelPath
  try dsimp only
  repeat' (first | with_reducible assumption | with_reducible apply takeGain_keeps | with_reducible apply takeFactors_keeps | with_reducible apply overTick_keeps | with_reducible apply repeated_keeps | with_reducible apply filtered_keeps | with_reducible apply State_setPath_keeps | with_reducible apply keeps_ite | split | simp only [keeps_upd_iff] | intro _)

theorem transmit_keeps (cs : List Nat) (p : Nat) {s0 s : State} (hk : Keeps s0 s) : Keeps s0 (transmit cs p s) := by
  unfold transmit
  try dsimp only
  repeat' (first | with_reducible assumption | with_reducible apply State_setWing_keeps | with_reducible apply keeps_ite | split | simp only [keeps_upd_iff] | intro _)

theorem finalStage_keeps (p : Nat) {s0 s : State} (hk : Keeps s0 s) : Keeps s0 (finalStage p s) := by
  unfold finalStage
  try dsimp only
  repeat' (first | with_reducible assumption | with_reducible apply State_setWing_keeps | with_reducible apply State_setPort_keeps | with_reducible apply State_inc_keeps | with_reducible apply State_set_keeps | with_reducible apply keeps_ite | split | simp only [keeps_upd_iff] | intro _)

theorem paenTicks_keeps  {s0 s : State} (hk : Keeps s0 s) : Keeps s0 (paenTicks s) := by
  unfold paenTicks
  try dsimp only
  repeat' (first | with_reducible assumption | with_reducible apply paenTick_keeps | with_reducible refine forN_keeps (fun _ _ _ => ?_) ?_ | intro _)

theorem pathTick_keeps  {s0 s : State} (hk : Keeps s0 s) : Keeps s0 (pathTick s) := by
  unfold pathTick
  try dsimp only
  repeat' (first | with_reducible assumption | with_reducible apply channelPath_keeps | with_reducible apply finalStage_keeps | with_reducible apply receive_keeps | with_reducible apply transmit_keeps | with_reducible refine forL_keeps (fun _ _ _ => ?_) ?_ | with_reducible refine forN_keeps (fun _ _ _ => ?_) ?_ | intro _)

theorem captureOne_keeps (n : Nat) (w : Nat) {s0 s : State} (hk : Keeps s0 s) : Keeps s0 (captureOne n w s) := by
  unfold captureOne
  try dsimp only
  repeat' (first | with_reducible assumption | split | simp only [keeps_upd_iff] | intro _)

theorem captureAll_keeps  {s0 s : State} (hk : Keeps s0 s) : Keeps s0 (captureAll s) := by
  unfold captureAll
  try dsimp only
  repeat' (first | with_reducible assumption | with_reducible apply captureOne_keeps | with_reducible refine forN_keeps (fun _ _ _ => ?_) ?_ | split | simp only [keeps_upd_iff] | intro _)

theorem galleryTick_keeps  {s0 s : State} (hk : Keeps s0 s) : Keeps s0 (galleryTick s) := by
  unfold galleryTick
  try dsimp only
  repeat' (first | with_reducible assumption | with_reducible apply captureAll_keeps | with_reducible apply keeps_ite | split | intro _)

theorem galFill_keeps  {s0 s : State} (hk : Keeps s0 s) : Keeps s0 (galFill s) := by
  unfold galFill
  try dsimp only
  repeat' (first | with_reducible assumption | with_reducible apply setGal_keeps | with_reducible apply captureAll_keeps | with_reducible apply takeReceivers_keeps | simp only [keeps_upd_iff] | intro _)

theorem galArmEffect_keeps (x1 : Who) (x2 : Val) {s0 s : State} (hk : Keeps s0 s) : Keeps s0 (galArmEffect x1 x2 s).st := by
  unfold galArmEffect
  try dsimp only
  repeat' (first | with_reducible assumption | with_reducible apply galFill_keeps | with_reducible apply Reply_no_keeps | with_reducible apply Reply_ok_keeps | with_reducible apply keeps_ite_st | split | intro _)

theorem execGalArm_keeps (f : Frame) {s t : State} (h : execGalArm f s = .next t) : Keeps s t := by
  unfold execGalArm at h
  injection h with h
  subst h
  try dsimp only
  repeat' (first | with_reducible assumption | with_reducible exact keeps_refl _ | with_reducible apply requestWrite_keeps | with_reducible apply galArmEffect_keeps | intro _)

theorem galTriggerEffect_keeps (x1 : Who) (x2 : Val) {s0 s : State} (hk : Keeps s0 s) : Keeps s0 (galTriggerEffect x1 x2 s).st := by
  unfold galTriggerEffect
  try dsimp only
  repeat' (first | with_reducible assumption | with_reducible apply galTrigger_keeps | with_reducible apply Reply_ok_keeps | intro _)

theorem execGalTrigger_keeps (f : Frame) {s t : State} (h : execGalTrigger f s = .next t) : Keeps s t := by
  unfold execGalTrigger at h
  injection h with h
  subst h
  try dsimp only
  repeat' (first | with_reducible assumption | with_reducible exact keeps_refl _ | with_reducible apply requestWrite_keeps | with_reducible apply galTriggerEffect_keeps | intro _)

theorem galLaunchTrigger_keeps (tag : Nat) {s0 s : State} (hk : Keeps s0 s) : Keeps s0 (galLaunchTrigger tag s) := by
  unfold galLaunchTrigger
  try dsimp only
  repeat' (first | with_reducible assumption | with_reducible apply galTrigger_keeps | with_reducible apply State_set_keeps | with_reducible apply keeps_ite | split | intro _)

theorem execGalleryPreFull_keeps  {s t : State} (h : execGalleryPreFull s = .next t) : Keeps s t := by
  unfold execGalleryPreFull at h
  injection h with h
  subst h
  try dsimp only
  repeat' (first | with_reducible assumption | with_reducible exact keeps_refl _ | with_reducible apply setGal_keeps | with_reducible apply keeps_ite | split | intro _)

theorem galWrap_keeps (n : Nat) {s0 s : State} (hk : Keeps s0 s) : Keeps s0 (galWrap n s) := by
  unfold galWrap
  try dsimp only
  repeat' (first | with_reducible assumption | with_reducible apply State_set_keeps | with_reducible apply keeps_ite | split | intro _)

theorem reviewFull_keeps  {s0 s : State} (hk : Keeps s0 s) : Keeps s0 (reviewFull s) := by
  unfold reviewFull
  try dsimp only
  repeat' (first | with_reducible assumption | with_reducible apply setGal_keeps | with_reducible apply fault_keeps | with_reducible apply keeps_ite | split | intro _)

theorem completeCapture_keeps (status : Int) {s0 s : State} (hk : Keeps s0 s) : Keeps s0 (completeCapture status s) := by
  unfold completeCapture
  try dsimp only
  repeat' (first | with_reducible assumption | with_reducible apply galWrap_keeps | with_reducible apply freeReceivers_keeps | with_reducible apply event_keeps | with_reducible apply reviewFull_keeps | with_reducible apply setGal_keeps | with_reducible apply State_set_keeps | with_reducible refine forN_keeps (fun _ _ _ => ?_) ?_ | intro _)

theorem execGalleryCaptureComplete_keeps  {s t : State} (h : execGalleryCaptureComplete s = .next t) : Keeps s t := by
  unfold execGalleryCaptureComplete at h
  injection h with h
  subst h
  try dsimp only
  repeat' (first | with_reducible assumption | with_reducible exact keeps_refl _ | with_reducible apply completeCapture_keeps | with_reducible apply keeps_ite | split | intro _)

theorem galAbortEffect_keeps (x1 : Who) (x2 : Val) {s0 s : State} (hk : Keeps s0 s) : Keeps s0 (galAbortEffect x1 x2 s).st := by
  unfold galAbortEffect
  try dsimp only
  repeat' (first | with_reducible assumption | with_reducible apply setGal_keeps | with_reducible apply freeReceivers_keeps | with_reducible apply completeCapture_keeps | with_reducible apply event_keeps | with_reducible apply Reply_ok_keeps | with_reducible apply Reply_late_keeps | with_reducible apply State_set_keeps | with_reducible apply Reply_no_keeps | with_reducible apply keeps_ite_st | split | intro _)

theorem execGalAbort_keeps (f : Frame) {s t : State} (h : execGalAbort f s = .next t) : Keeps s t := by
  unfold execGalAbort at h
  injection h with h
  subst h
  try dsimp only
  repeat' (first | with_reducible assumption | with_reducible exact keeps_refl _ | with_reducible apply requestWrite_keeps | with_reducible apply galAbortEffect_keeps | intro _)

theorem galReleaseEffect_keeps (x1 : Who) (x2 : Val) {s0 s : State} (hk : Keeps s0 s) : Keeps s0 (galReleaseEffect x1 x2 s).st := by
  unfold galReleaseEffect
  try dsimp only
  repeat' (first | with_reducible assumption | with_reducible apply setGal_keeps | with_reducible apply Reply_ok_keeps | with_reducible apply State_set_keeps | with_reducible apply Reply_no_keeps | with_reducible apply keeps_ite_st | split | intro _)

theorem execGalRelease_keeps (f : Frame) {s t : State} (h : execGalRelease f s = .next t) : Keeps s t := by
  unfold execGalRelease at h
  injection h with h
  subst h
  try dsimp only
  repeat' (first | with_reducible assumption | with_reducible exact keeps_refl _ | with_reducible apply requestWrite_keeps | with_reducible apply galReleaseEffect_keeps | intro _)

theorem execNvmeDriveReady_keeps (v : NvmeVol) {s t : State} (h : execNvmeDriveReady v s = .next t) : Keeps s t := by
  unfold execNvmeDriveReady at h
  injection h with h
  subst h
  try dsimp only
  repeat' (first | with_reducible assumption | with_reducible exact keeps_refl _ | with_reducible apply reviewFull_keeps | with_reducible apply State_set_keeps | with_reducible apply keeps_ite | split | simp only [keeps_upd_iff] | intro _)

theorem nvmeWrite_keeps (off : Nat) (len : Nat) (b : List Byte) {s0 s : State} (hk : Keeps s0 s) : Keeps s0 (nvmeWrite off len b s) := by
  unfold nvmeWrite
  try dsimp only
  repeat' (first | with_reducible assumption | with_reducible apply State_emit_keeps | with_reducible refine forN_keeps (fun _ _ _ => ?_) ?_ | intro _)

theorem nvmeFlush_keeps  {s0 s : State} (hk : Keeps s0 s) : Keeps s0 (nvmeFlush s) := by
  unfold nvmeFlush
  try dsimp only
  repeat' (first | with_reducible assumption | with_reducible apply State_emit_keeps | intro _)

theorem formatVolume_keeps (mode : Int) {s0 s : State} (hk : Keeps s0 s) : Keeps s0 (formatVolume mode s) := by
  unfold formatVolume
  try dsimp only
  repeat' (first | with_reducible assumption | with_reducible apply nvmeFlush_keeps | with_reducible apply nvmeWrite_keeps | with_reducible apply setGal_keeps | with_reducible apply State_set_keeps | with_reducible apply keeps_ite | split | simp only [keeps_upd_iff] | intro _)

theorem galFormatEffect_keeps (x1 : Who) (v : Val) {s0 s : State} (hk : Keeps s0 s) : Keeps s0 (galFormatEffect x1 v s).st := by
  unfold galFormatEffect
  try dsimp only
  repeat' (first | with_reducible assumption | with_reducible apply formatVolume_keeps | with_reducible apply Reply_no_keeps | with_reducible apply Reply_ok_keeps | with_reducible apply keeps_ite_st | split | intro _)

theorem execGalFormat_keeps (f : Frame) {s t : State} (h : execGalFormat f s = .next t) : Keeps s t := by
  unfold execGalFormat at h
  injection h with h
  subst h
  try dsimp only
  repeat' (first | with_reducible assumption | with_reducible exact keeps_refl _ | with_reducible apply requestWrite_keeps | with_reducible apply galFormatEffect_keeps | intro _)

theorem freeNext_keeps  {s0 s : State} (hk : Keeps s0 s) : Keeps s0 (freeNext s) := by
  unfold freeNext
  try dsimp only
  repeat' (first | with_reducible assumption | with_reducible apply nvmeFlush_keeps | with_reducible apply nvmeWrite_keeps | with_reducible apply State_set_keeps | with_reducible apply keeps_ite | split | simp only [keeps_upd_iff] | intro _)

theorem execGalleryDrainStart_keeps  {s t : State} (h : execGalleryDrainStart s = .next t) : Keeps s t := by
  unfold execGalleryDrainStart at h
  injection h with h
  subst h
  try dsimp only
  repeat' (first | with_reducible assumption | with_reducible exact keeps_refl _ | with_reducible apply nvmeWrite_keeps | with_reducible apply freeNext_keeps | with_reducible apply setGal_keeps | with_reducible apply nvmeFlush_keeps | with_reducible apply reviewFull_keeps | with_reducible apply keeps_ite | split | intro _)

theorem enterVolume_keeps  {s0 s : State} (hk : Keeps s0 s) : Keeps s0 (enterVolume s) := by
  unfold enterVolume
  try dsimp only
  repeat' (first | with_reducible assumption | with_reducible apply nvmeFlush_keeps | with_reducible apply nvmeWrite_keeps | with_reducible apply State_set_keeps | with_reducible apply keeps_ite | split | simp only [keeps_upd_iff] | intro _)

theorem execGalleryDrainDone_keeps  {s t : State} (h : execGalleryDrainDone s = .next t) : Keeps s t := by
  unfold execGalleryDrainDone at h
  injection h with h
  subst h
  try dsimp only
  repeat' (first | with_reducible assumption | with_reducible exact keeps_refl _ | with_reducible apply event_keeps | with_reducible apply enterVolume_keeps | with_reducible apply galFill_keeps | with_reducible apply setGal_keeps | with_reducible apply keeps_ite | split | intro _)

theorem execNvmeCommandFail_keeps (opcode : Nat) (status : Nat) (n : Nat) {s t : State} (h : execNvmeCommandFail opcode status n s = .next t) : Keeps s t := by
  unfold execNvmeCommandFail at h
  injection h with h
  subst h
  try dsimp only
  repeat' (first | with_reducible assumption | with_reducible exact keeps_refl _ | with_reducible apply fault_keeps | with_reducible apply setGal_keeps | with_reducible apply State_emit_keeps | with_reducible apply State_set_keeps | with_reducible apply keeps_ite | split | intro _)

theorem execNvmeSmartPoll_keeps  {s t : State} (h : execNvmeSmartPoll s = .next t) : Keeps s t := by
  unfold execNvmeSmartPoll at h
  injection h with h
  subst h
  try dsimp only
  repeat' (first | with_reducible assumption | with_reducible exact keeps_refl _ | with_reducible apply State_emit_keeps | with_reducible apply keeps_ite | split | intro _)

theorem showLoad_keeps  {s0 s : State} (hk : Keeps s0 s) : Keeps s0 (showLoad s) := by
  unfold showLoad
  try dsimp only
  repeat' (first | with_reducible assumption | with_reducible apply State_set_keeps | intro _)

theorem putWptr_keeps (e : Nat) (v : Nat) {s0 s : State} (hk : Keeps s0 s) : Keeps s0 (putWptr e v s) := by
  unfold putWptr
  try dsimp only
  repeat' (first | with_reducible assumption | simp only [keeps_upd_iff] | intro _)

theorem putRptr_keeps (e : Nat) (v : Nat) {s0 s : State} (hk : Keeps s0 s) : Keeps s0 (putRptr e v s) := by
  unfold putRptr
  try dsimp only
  repeat' (first | with_reducible assumption | simp only [keeps_upd_iff] | intro _)

theorem putMark_keeps (e : Nat) (v : Nat) {s0 s : State} (hk : Keeps s0 s) : Keeps s0 (putMark e v s) := by
  unfold putMark
  try dsimp only
  repeat' (first | with_reducible assumption | simp only [keeps_upd_iff] | intro _)

theorem putFill_keeps (e : Nat) (b : DmaBlock) {s0 s : State} (hk : Keeps s0 s) : Keeps s0 (putFill e b s) := by
  unfold putFill
  try dsimp only
  repeat' (first | with_reducible assumption | simp only [keeps_upd_iff] | intro _)

theorem putFull_keeps (e : Nat) (l : List DmaBlock) {s0 s : State} (hk : Keeps s0 s) : Keeps s0 (putFull e l s) := by
  unfold putFull
  try dsimp only
  repeat' (first | with_reducible assumption | simp only [keeps_upd_iff] | intro _)

theorem putSeen_keeps (e : Nat) (v : Nat) {s0 s : State} (hk : Keeps s0 s) : Keeps s0 (putSeen e v s) := by
  unfold putSeen
  try dsimp only
  repeat' (first | with_reducible assumption | simp only [keeps_upd_iff] | intro _)

theorem dmaSample_keeps (e : Nat) {s0 s : State} (hk : Keeps s0 s) : Keeps s0 (dmaSample e s) := by
  unfold dmaSample
  try dsimp only
  repeat' (first | with_reducible assumption | with_reducible apply putSeen_keeps | with_reducible apply putFill_keeps | with_reducible apply putFull_keeps | with_reducible apply keeps_ite | split | simp only [keeps_upd_iff] | intro _)

theorem dmaTick_keeps  {s0 s : State} (hk : Keeps s0 s) : Keeps s0 (dmaTick s) := by
  unfold dmaTick
  try dsimp only
  repeat' (first | with_reducible assumption | with_reducible apply dmaSample_keeps | with_reducible refine forN_keeps (fun _ _ _ => ?_) ?_ | intro _)

theorem writeBlock_keeps (e : Nat) (b : DmaBlock) {s0 s : State} (hk : Keeps s0 s) : Keeps s0 (writeBlock e b s) := by
  unfold writeBlock
  try dsimp only
  repeat' (first | with_reducible assumption | with_reducible apply putMark_keeps | with_reducible apply putWptr_keeps | with_reducible apply irq_keeps | with_reducible apply State_emit_keeps | with_reducible apply State_inc_keeps | with_reducible apply keeps_ite | split | intro _)

theorem dmaStop_keeps (e : Nat) (v : Int) {s0 s : State} (hk : Keeps s0 s) : Keeps s0 (dmaStop e v s) := by
  unfold dmaStop
  try dsimp only
  repeat' (first | with_reducible assumption | with_reducible apply showLoad_keeps | with_reducible apply irq_keeps | with_reducible apply State_set_keeps | intro _)

theorem lastBlock_keeps (e : Nat) {s0 s : State} (hk : Keeps s0 s) : Keeps s0 (lastBlock e s) := by
  unfold lastBlock
  try dsimp only
  repeat' (first | with_reducible assumption | with_reducible apply putFill_keeps | with_reducible apply putFull_keeps | with_reducible apply writeBlock_keeps | with_reducible refine forL_keeps (fun _ _ _ => ?_) ?_ | with_reducible apply keeps_ite | split | intro _)

theorem execDmaBlockWrite_keeps (e : Nat) (x1 : Report) (rptr : Nat) (x2 : Report) (x3 : Report) {s t : State} (h : execDmaBlockWrite e x1 rptr x2 x3 s = .next t) : Keeps s t := by
  unfold execDmaBlockWrite at h
  injection h with h
  subst h
  try dsimp only
  repeat' (first | with_reducible assumption | with_reducible exact keeps_refl _ | with_reducible apply putFull_keeps | with_reducible apply putRptr_keeps | with_reducible apply writeBlock_keeps | with_reducible apply dmaStop_keeps | with_reducible apply irq_keeps | with_reducible apply putMark_keeps | with_reducible apply State_inc_keeps | with_reducible apply keeps_ite | split | simp only [keeps_upd_iff] | intro _)

theorem dmaStart_keeps (e : Nat) {s0 s : State} (hk : Keeps s0 s) : Keeps s0 (dmaStart e s) := by
  unfold dmaStart
  try dsimp only
  repeat' (first | with_reducible assumption | with_reducible apply putMark_keeps | with_reducible apply putRptr_keeps | with_reducible apply putWptr_keeps | with_reducible apply putSeen_keeps | with_reducible apply putFill_keeps | with_reducible apply putFull_keeps | with_reducible apply dmaSample_keeps | with_reducible apply showLoad_keeps | with_reducible apply State_set_keeps | intro _)

theorem dmaRunEffect_keeps (e : Nat) (x1 : Who) (v : Val) {s0 s : State} (hk : Keeps s0 s) : Keeps s0 (dmaRunEffect e x1 v s).st := by
  unfold dmaRunEffect
  try dsimp only
  repeat' (first | with_reducible assumption | with_reducible apply dmaStart_keeps | with_reducible apply dmaStop_keeps | with_reducible apply lastBlock_keeps | with_reducible apply Reply_no_keeps | with_reducible apply Reply_ok_keeps | with_reducible apply keeps_ite_st | split | intro _)

theorem execDmaRunStart_keeps (e : Nat) (f : Frame) {s t : State} (h : execDmaRunStart e f s = .next t) : Keeps s t := by
  unfold execDmaRunStart at h
  injection h with h
  subst h
  try dsimp only
  repeat' (first | with_reducible assumption | with_reducible exact keeps_refl _ | with_reducible apply requestWrite_keeps | with_reducible apply dmaRunEffect_keeps | intro _)

theorem execDmaRunStop_keeps (e : Nat) (f : Frame) {s t : State} (h : execDmaRunStop e f s = .next t) : Keeps s t := by
  unfold execDmaRunStop at h
  injection h with h
  subst h
  try dsimp only
  repeat' (first | with_reducible assumption | with_reducible exact keeps_refl _ | with_reducible apply requestWrite_keeps | with_reducible apply dmaRunEffect_keeps | intro _)

theorem fitCap_keeps (l : List Nat) {s0 s : State} (hk : Keeps s0 s) : Keeps s0 (fitCap s l) := by
  induction l generalizing s with
  | nil => exact hk
  | cons e l ih =>
    unfold fitCap
    split
    · exact hk
    · exact ih (dmaStop_keeps _ _ (lastBlock_keeps _ hk))

theorem execPcieLinkRetrain_keeps (link : Nat) {s t : State} (h : execPcieLinkRetrain link s = .next t) : Keeps s t := by
  unfold execPcieLinkRetrain at h
  injection h with h
  subst h
  try dsimp only
  repeat' (first | with_reducible assumption | with_reducible exact keeps_refl _ | with_reducible apply fitCap_keeps | with_reducible apply fault_keeps | with_reducible apply State_inc_keeps | with_reducible apply State_set_keeps | with_reducible apply keeps_ite | split | intro _)

theorem dmaStopAll_keeps  {s0 s : State} (hk : Keeps s0 s) : Keeps s0 (dmaStopAll s) := by
  unfold dmaStopAll
  try dsimp only
  repeat' (first | with_reducible assumption | with_reducible apply dmaStop_keeps | with_reducible refine forL_keeps (fun _ _ _ => ?_) ?_ | intro _)

theorem execBusMasterDisable_keeps  {s t : State} (h : execBusMasterDisable s = .next t) : Keeps s t := by
  unfold execBusMasterDisable at h
  injection h with h
  subst h
  try dsimp only
  repeat' (first | with_reducible assumption | with_reducible exact keeps_refl _ | with_reducible apply dmaStopAll_keeps | simp only [keeps_upd_iff] | intro _)

theorem execPcieConfigRequest_keeps (bme : Option Bool) {s t : State} (h : execPcieConfigRequest bme s = .next t) : Keeps s t := by
  unfold execPcieConfigRequest at h
  injection h with h
  subst h
  try dsimp only
  repeat' (first | with_reducible assumption | with_reducible exact keeps_refl _ | with_reducible apply dmaStopAll_keeps | with_reducible apply State_emit_keeps | with_reducible apply keeps_ite | split | simp only [keeps_upd_iff] | intro _)

theorem hostReset_keeps  {s0 s : State} (hk : Keeps s0 s) : Keeps s0 (hostReset s) := by
  unfold hostReset
  try dsimp only
  repeat' (first | with_reducible assumption | with_reducible apply resetMaster_keeps | with_reducible apply dmaStopAll_keeps | with_reducible apply irq_keeps | with_reducible apply State_inc_keeps | simp only [keeps_upd_iff] | intro _)

theorem execPcieInterfaceReset_keeps (down : Bool) {s t : State} (h : execPcieInterfaceReset down s = .next t) : Keeps s t := by
  unfold execPcieInterfaceReset at h
  injection h with h
  subst h
  try dsimp only
  repeat' (first | with_reducible assumption | with_reducible exact keeps_refl _ | with_reducible apply hostReset_keeps | with_reducible apply State_set_keeps | with_reducible apply keeps_ite | split | intro _)

theorem releaseHeld_keeps (l : List Out) {s0 s : State} (hk : Keeps s0 s) : Keeps s0 (releaseHeld l s) := by
  induction l generalizing s with
  | nil => exact keeps_upd_iff.2 hk
  | cons e l ih =>
    unfold releaseHeld
    split
    · exact ih (irq_keeps _ (State_emit_keeps _ (keeps_upd_iff.2 hk)))
    · exact keeps_upd_iff.2 hk

theorem execMbRspCons_keeps (rsp : Nat) (ntf : Nat) {s t : State} (h : execMbRspCons rsp ntf s = .next t) : Keeps s t := by
  unfold execMbRspCons at h
  injection h with h
  subst h
  try dsimp only
  repeat' (first | with_reducible assumption | with_reducible exact keeps_refl _ | with_reducible apply releaseHeld_keeps | with_reducible apply keeps_ite | split | simp only [keeps_upd_iff] | intro _)

theorem execIrqCause_keeps (i : Nat) (v : Nat) {s t : State} (h : execIrqCause i v s = .next t) : Keeps s t := by
  unfold execIrqCause at h
  injection h with h
  subst h
  try dsimp only
  repeat' (first | with_reducible assumption | with_reducible exact keeps_refl _ | with_reducible apply irq_keeps | simp only [keeps_upd_iff] | intro _)

theorem execMirrorRefresh_keeps  {s t : State} (h : execMirrorRefresh s = .next t) : Keeps s t := by
  unfold execMirrorRefresh at h
  injection h with h
  subst h
  try dsimp only
  repeat' (first | with_reducible assumption | with_reducible exact keeps_refl _ | simp only [keeps_upd_iff] | intro _)

theorem reject_keeps (sub : Nat) (why : Nat) {s0 s : State} (hk : Keeps s0 s) : Keeps s0 (reject sub why s).st := by
  unfold reject
  try dsimp only
  repeat' (first | with_reducible assumption | with_reducible apply fault_keeps | intro _)

theorem eventPerm_keeps (code : Nat) (p0 : Nat) (p1 : Nat) (p2 : Nat) (p3 : Nat) {s0 s : State} (hk : Keeps s0 s) : Keeps s0 (eventPerm code p0 p1 p2 p3 s) := by
  unfold eventPerm
  try dsimp only
  repeat' (first | with_reducible assumption | with_reducible apply enterRec_keeps | intro _)

theorem takeSequence_keeps (root : Nat) (seq : Nat) {s0 s : State} (hk : Keeps s0 s) : Keeps s0 (takeSequence root seq s) := by
  unfold takeSequence
  try dsimp only
  repeat' (first | with_reducible assumption | with_reducible apply State_set_keeps | intro _)

theorem reviewPermits_keeps  {s0 s : State} (hk : Keeps s0 s) : Keeps s0 (reviewPermits s) := by
  unfold reviewPermits
  try dsimp only
  repeat' (first | with_reducible assumption | with_reducible apply reviewPermit_keeps | with_reducible refine forL_keeps (fun _ _ _ => ?_) ?_ | intro _)

theorem revokeSlots_keeps (l : List Nat) {s0 s : State} (hk : Keeps s0 s) : Keeps s0 (revokeSlots l s) := by
  unfold revokeSlots
  try dsimp only
  repeat' (first | with_reducible assumption | with_reducible apply State_set_keeps | with_reducible refine forL_keeps (fun _ _ _ => ?_) ?_ | intro _)

theorem applyRoot_keeps (b : List Byte) {s0 s : State} (hk : Keeps s0 s) : Keeps s0 (applyRoot b s) := by
  unfold applyRoot
  try dsimp only
  repeat' (first | with_reducible assumption | with_reducible apply eventPerm_keeps | with_reducible apply reviewPermits_keeps | with_reducible apply revokeSlots_keeps | with_reducible apply State_setOct_keeps | with_reducible apply State_setBit_keeps | with_reducible apply State_clrBit_keeps | with_reducible apply keeps_ite | split | intro _)

theorem rootInstallEffect_keeps (w : Who) (v : Val) {s0 s : State} (hk : Keeps s0 s) : Keeps s0 (rootInstallEffect w v s).st := by
  unfold rootInstallEffect
  try dsimp only
  repeat' (first | with_reducible assumption | with_reducible apply reject_keeps | with_reducible apply applyRoot_keeps | with_reducible apply takeSequence_keeps | with_reducible apply Reply_ok_keeps | with_reducible apply State_set_keeps | with_reducible apply keeps_ite_st | split | simp only [keeps_upd_iff] | intro _)

theorem execSecRootInstall_keeps (f : Frame) {s t : State} (h : execSecRootInstall f s = .next t) : Keeps s t := by
  unfold execSecRootInstall at h
  injection h with h
  subst h
  try dsimp only
  repeat' (first | with_reducible assumption | with_reducible exact keeps_refl _ | with_reducible apply requestWrite_keeps | with_reducible apply rootInstallEffect_keeps | intro _)

theorem credInstallEffect_keeps (x1 : Who) (v : Val) {s0 s : State} (hk : Keeps s0 s) : Keeps s0 (credInstallEffect x1 v s).st := by
  unfold credInstallEffect
  try dsimp only
  repeat' (first | with_reducible assumption | with_reducible apply reject_keeps | with_reducible apply takeSequence_keeps | with_reducible apply Reply_ok_keeps | with_reducible apply State_setBit_keeps | with_reducible apply keeps_ite_st | split | simp only [keeps_upd_iff] | intro _)

theorem execSecCredInstall_keeps (f : Frame) {s t : State} (h : execSecCredInstall f s = .next t) : Keeps s t := by
  unfold execSecCredInstall at h
  injection h with h
  subst h
  try dsimp only
  repeat' (first | with_reducible assumption | with_reducible exact keeps_refl _ | with_reducible apply requestWrite_keeps | with_reducible apply credInstallEffect_keeps | intro _)

theorem unlockEffect_keeps (w : Who) (v : Val) {s0 s : State} (hk : Keeps s0 s) : Keeps s0 (unlockEffect w v s).st := by
  unfold unlockEffect
  try dsimp only
  repeat' (first | with_reducible assumption | with_reducible apply Reply_no_keeps | with_reducible apply Reply_ok_keeps | with_reducible apply State_drawn_keeps | with_reducible apply State_setMaster_keeps | with_reducible apply keeps_ite_st | split | simp only [keeps_upd_iff] | intro _)

theorem execSecUnlock_keeps (f : Frame) {s t : State} (h : execSecUnlock f s = .next t) : Keeps s t := by
  unfold execSecUnlock at h
  injection h with h
  subst h
  try dsimp only
  repeat' (first | with_reducible assumption | with_reducible exact keeps_refl _ | with_reducible apply requestWrite_keeps | with_reducible apply unlockEffect_keeps | intro _)

theorem authFailed_keeps (m : Nat) (l : Nat) (status : Nat) {s0 s : State} (hk : Keeps s0 s) : Keeps s0 (authFailed m l status s) := by
  unfold authFailed
  try dsimp only
  repeat' (first | with_reducible assumption | with_reducible apply fault_keeps | with_reducible apply State_set_keeps | with_reducible apply State_setMaster_keeps | with_reducible apply keeps_ite | split | simp only [keeps_upd_iff] | intro _)

theorem authPassed_keeps (m : Nat) (l : Nat) {s0 s : State} (hk : Keeps s0 s) : Keeps s0 (authPassed m l s) := by
  unfold authPassed
  try dsimp only
  repeat' (first | with_reducible assumption | with_reducible apply event_keeps | with_reducible apply State_setMaster_keeps | with_reducible apply State_set_keeps | simp only [keeps_upd_iff] | intro _)

theorem responseEffect_keeps (w : Who) (v : Val) {s0 s : State} (hk : Keeps s0 s) : Keeps s0 (responseEffect w v s).st := by
  unfold responseEffect
  try dsimp only
  repeat' (first | with_reducible assumption | with_reducible apply authFailed_keeps | with_reducible apply authPassed_keeps | with_reducible apply Reply_ok_keeps | with_reducible apply keeps_ite_st | split | simp only [keeps_upd_iff] | intro _)

theorem execSecResponse_keeps (f : Frame) {s t : State} (h : execSecResponse f s = .next t) : Keeps s t := by
  unfold execSecResponse at h
  injection h with h
  subst h
  try dsimp only
  repeat' (first | with_reducible assumption | with_reducible exact keeps_refl _ | with_reducible apply requestWrite_keeps | with_reducible apply responseEffect_keeps | intro _)

theorem execChallengeExpire_keeps (m : Nat) {s t : State} (h : execChallengeExpire m s = .next t) : Keeps s t := by
  unfold execChallengeExpire at h
  injection h with h
  subst h
  try dsimp only
  repeat' (first | with_reducible assumption | with_reducible exact keeps_refl _ | with_reducible apply State_setMaster_keeps | with_reducible apply keeps_ite | split | simp only [keeps_upd_iff] | intro _)

theorem execLockoutEnd_keeps  {s t : State} (h : execLockoutEnd s = .next t) : Keeps s t := by
  unfold execLockoutEnd at h
  injection h with h
  subst h
  try dsimp only
  repeat' (first | with_reducible assumption | with_reducible exact keeps_refl _ | with_reducible apply State_set_keeps | with_reducible apply keeps_ite | split | intro _)

theorem installPermit_keeps (n : Nat) (b : List Byte) {s0 s : State} (hk : Keeps s0 s) : Keeps s0 (installPermit n b s) := by
  unfold installPermit
  try dsimp only
  repeat' (first | with_reducible assumption | with_reducible apply reviewPermits_keeps | with_reducible apply eventPerm_keeps | with_reducible apply State_setOct_keeps | with_reducible apply State_set_keeps | intro _)

theorem permitInstallEffect_keeps (x1 : Who) (v : Val) {s0 s : State} (hk : Keeps s0 s) : Keeps s0 (permitInstallEffect x1 v s).st := by
  unfold permitInstallEffect
  try dsimp only
  repeat' (first | with_reducible assumption | with_reducible apply reject_keeps | with_reducible apply installPermit_keeps | with_reducible apply Reply_ok_keeps | with_reducible apply State_drawn_keeps | with_reducible apply keeps_ite_st | split | simp only [keeps_upd_iff] | intro _)

theorem execSecPermitInstall_keeps (f : Frame) {s t : State} (h : execSecPermitInstall f s = .next t) : Keeps s t := by
  unfold execSecPermitInstall at h
  injection h with h
  subst h
  try dsimp only
  repeat' (first | with_reducible assumption | with_reducible exact keeps_refl _ | with_reducible apply requestWrite_keeps | with_reducible apply permitInstallEffect_keeps | intro _)

theorem applyList_keeps (b : List Byte) {s0 s : State} (hk : Keeps s0 s) : Keeps s0 (applyList b s) := by
  unfold applyList
  try dsimp only
  repeat' (first | with_reducible assumption | with_reducible apply revokeSlots_keeps | with_reducible apply takeSequence_keeps | with_reducible apply reviewPermits_keeps | with_reducible apply eventPerm_keeps | simp only [keeps_upd_iff] | intro _)

theorem revokeEffect_keeps (x1 : Who) (v : Val) {s0 s : State} (hk : Keeps s0 s) : Keeps s0 (revokeEffect x1 v s).st := by
  unfold revokeEffect
  try dsimp only
  repeat' (first | with_reducible assumption | with_reducible apply reject_keeps | with_reducible apply applyList_keeps | with_reducible apply Reply_ok_keeps | with_reducible apply keeps_ite_st | split | simp only [keeps_upd_iff] | intro _)

theorem execSecRevoke_keeps (f : Frame) {s t : State} (h : execSecRevoke f s = .next t) : Keeps s t := by
  unfold execSecRevoke at h
  injection h with h
  subst h
  try dsimp only
  repeat' (first | with_reducible assumption | with_reducible exact keeps_refl _ | with_reducible apply requestWrite_keeps | with_reducible apply revokeEffect_keeps | intro _)

theorem execTamper_keeps (cause : Nat) (offset : Nat) {s t : State} (h : execTamper cause offset s = .next t) : Keeps s t := by
  unfold execTamper at h
  injection h with h
  subst h
  try dsimp only
  repeat' (first | with_reducible assumption | with_reducible exact keeps_refl _ | with_reducible apply fault_keeps | with_reducible apply reviewPermits_keeps | with_reducible apply State_set_keeps | with_reducible refine forN_keeps (fun _ _ _ => ?_) ?_ | with_reducible apply keeps_ite | split | intro _)

theorem fwWriteEffect_keeps (x1 : Who) (v : Val) {s0 s : State} (hk : Keeps s0 s) : Keeps s0 (fwWriteEffect x1 v s).st := by
  unfold fwWriteEffect
  try dsimp only
  repeat' (first | with_reducible assumption | with_reducible apply Reply_no_keeps | with_reducible apply Reply_ok_keeps | with_reducible apply State_set_keeps | with_reducible apply keeps_ite_st | split | simp only [keeps_upd_iff] | intro _)

theorem execSecFwWrite_keeps (f : Frame) {s t : State} (h : execSecFwWrite f s = .next t) : Keeps s t := by
  unfold execSecFwWrite at h
  injection h with h
  subst h
  try dsimp only
  repeat' (first | with_reducible assumption | with_reducible exact keeps_refl _ | with_reducible apply requestWrite_keeps | with_reducible apply fwWriteEffect_keeps | intro _)

theorem fwCommitEffect_keeps (x1 : Who) (x2 : Val) {s0 s : State} (hk : Keeps s0 s) : Keeps s0 (fwCommitEffect x1 x2 s).st := by
  unfold fwCommitEffect
  try dsimp only
  repeat' (first | with_reducible assumption | with_reducible apply eventPerm_keeps | with_reducible apply Reply_ok_keeps | with_reducible apply State_set_keeps | with_reducible apply keeps_ite_st | split | simp only [keeps_upd_iff] | intro _)

theorem execSecFwCommit_keeps (f : Frame) {s t : State} (h : execSecFwCommit f s = .next t) : Keeps s t := by
  unfold execSecFwCommit at h
  injection h with h
  subst h
  try dsimp only
  repeat' (first | with_reducible assumption | with_reducible exact keeps_refl _ | with_reducible apply requestWrite_keeps | with_reducible apply fwCommitEffect_keeps | intro _)

theorem fwConfirmEffect_keeps (x1 : Who) (x2 : Val) {s0 s : State} (hk : Keeps s0 s) : Keeps s0 (fwConfirmEffect x1 x2 s).st := by
  unfold fwConfirmEffect
  try dsimp only
  repeat' (first | with_reducible assumption | with_reducible apply eventPerm_keeps | with_reducible apply Reply_ok_keeps | with_reducible apply State_set_keeps | simp only [keeps_upd_iff] | intro _)

theorem execSecFwConfirm_keeps (f : Frame) {s t : State} (h : execSecFwConfirm f s = .next t) : Keeps s t := by
  unfold execSecFwConfirm at h
  injection h with h
  subst h
  try dsimp only
  repeat' (first | with_reducible assumption | with_reducible exact keeps_refl _ | with_reducible apply requestWrite_keeps | with_reducible apply fwConfirmEffect_keeps | intro _)

theorem readLive_keeps (flow : Nat) (r : ObjRow) (k : Nat) {s0 s : State} (hk : Keeps s0 s) : Keeps s0 (readLive flow r k s).st := by
  unfold readLive
  try dsimp only
  repeat' (first | with_reducible assumption | with_reducible apply recRecordReply_keeps | with_reducible apply recPermReply_keeps | with_reducible apply State_drawn_keeps | with_reducible apply keeps_ite_st | split | intro _)

theorem requestRead_keeps (k : Nat) (f : Frame) (act : Who → State → Reply) {s0 s : State} (hk : Keeps s0 s) (hf : ∀ a0 s, Keeps s0 s → Keeps s0 (act a0 s).st) : Keeps s0 (requestRead k f s act) := by
  unfold requestRead
  try dsimp only
  repeat' (first | with_reducible assumption | refine hf _ _ ?_ | with_reducible apply request_keeps | simp only [keeps_upd_iff] | intro _)

theorem execRecRecord_keeps (f : Frame) {s t : State} (h : execRecRecord f s = .next t) : Keeps s t := by
  unfold execRecRecord at h
  injection h with h
  subst h
  try dsimp only
  repeat' (first | with_reducible assumption | with_reducible exact keeps_refl _ | with_reducible apply requestRead_keeps | with_reducible apply recRecordReply_keeps | intro _)

theorem execRecPermRecord_keeps (f : Frame) {s t : State} (h : execRecPermRecord f s = .next t) : Keeps s t := by
  unfold execRecPermRecord at h
  injection h with h
  subst h
  try dsimp only
  repeat' (first | with_reducible assumption | with_reducible exact keeps_refl _ | with_reducible apply requestRead_keeps | with_reducible apply recPermReply_keeps | intro _)

theorem restartAcc_keeps (a : Nat) {s0 s : State} (hk : Keeps s0 s) : Keeps s0 (restartAcc a s) := by
  unfold restartAcc
  try dsimp only
  repeat' (first | with_reducible assumption | with_reducible apply State_set_keeps | with_reducible apply keeps_ite | split | intro _)

theorem takeSnapshot_keeps (late : Bool) {s0 s : State} (hk : Keeps s0 s) : Keeps s0 (takeSnapshot late s) := by
  unfold takeSnapshot
  try dsimp only
  repeat' (first | with_reducible assumption | with_reducible apply restartAcc_keeps | with_reducible apply clearTr_keeps | with_reducible apply State_setFlag_keeps | with_reducible apply State_set_keeps | with_reducible refine forL_keeps (fun _ _ _ => ?_) ?_ | simp only [keeps_upd_iff] | intro _)

theorem dueSnapshot_keeps (t : Nat) {s0 s : State} (hk : Keeps s0 s) : Keeps s0 (dueSnapshot t s) := by
  unfold dueSnapshot
  try dsimp only
  repeat' (first | with_reducible assumption | simp only [keeps_upd_iff] | intro _)

theorem snapLocalEffect_keeps (x1 : Who) (v : Val) {s0 s : State} (hk : Keeps s0 s) : Keeps s0 (snapLocalEffect x1 v s).st := by
  unfold snapLocalEffect
  try dsimp only
  repeat' (first | with_reducible assumption | with_reducible apply dueSnapshot_keeps | with_reducible apply Reply_ok_keeps | with_reducible apply keeps_ite_st | split | simp only [keeps_upd_iff] | intro _)

theorem execSnapLocal_keeps (f : Frame) {s t : State} (h : execSnapLocal f s = .next t) : Keeps s t := by
  unfold execSnapLocal at h
  injection h with h
  subst h
  try dsimp only
  repeat' (first | with_reducible assumption | with_reducible exact keeps_refl _ | with_reducible apply requestWrite_keeps | with_reducible apply snapLocalEffect_keeps | intro _)

theorem snapSystemEffect_keeps (x1 : Who) (v : Val) {s0 s : State} (hk : Keeps s0 s) : Keeps s0 (snapSystemEffect x1 v s).st := by
  unfold snapSystemEffect
  try dsimp only
  repeat' (first | with_reducible assumption | with_reducible apply dueSnapshot_keeps | with_reducible apply sendDown_keeps | with_reducible apply Reply_no_keeps | with_reducible apply Reply_ok_keeps | with_reducible apply keeps_ite_st | split | intro _)

theorem execSnapSystem_keeps (f : Frame) {s t : State} (h : execSnapSystem f s = .next t) : Keeps s t := by
  unfold execSnapSystem at h
  injection h with h
  subst h
  try dsimp only
  repeat' (first | with_reducible assumption | with_reducible exact keeps_refl _ | with_reducible apply requestWrite_keeps | with_reducible apply snapSystemEffect_keeps | intro _)

theorem execSnapshotTrigger_keeps (at_ : Nat) {s t : State} (h : execSnapshotTrigger at_ s = .next t) : Keeps s t := by
  unfold execSnapshotTrigger at h
  injection h with h
  subst h
  try dsimp only
  repeat' (first | with_reducible assumption | with_reducible exact keeps_refl _ | with_reducible apply sendDown_keeps | with_reducible apply takeSnapshot_keeps | with_reducible apply dueSnapshot_keeps | with_reducible apply keeps_ite | split | intro _)

theorem execSnapshotDue_keeps  {s t : State} (h : execSnapshotDue s = .next t) : Keeps s t := by
  unfold execSnapshotDue at h
  injection h with h
  subst h
  try dsimp only
  repeat' (first | with_reducible assumption | with_reducible exact keeps_refl _ | with_reducible apply takeSnapshot_keeps | with_reducible refine forL_keeps (fun _ _ _ => ?_) ?_ | simp only [keeps_upd_iff] | intro _)

end Sys2Proof.Machine
end

