-- ==== Sys2Proof/Laws/KeepsCommands.lean ====
section
/-! SUPPORT. Keeps (Laws/Keeps.lean) for the operations of transactions, boot, the panel and the console, one lemma per operation and per command. -/

set_option linter.all false

namespace Sys2Proof.Machine

theorem State_setWalker_keeps (p : Nat) (w : Walker) {s0 s : State} (hk : Keeps s0 s) : Keeps s0 (State.setWalker s p w) := by
  unfold State.setWalker
  try dsimp only
  repeat' (first | with_reducible assumption | simp only [keeps_upd_iff] | intro _)

theorem wantPort_keeps (q : Nat) (v : Int) {s0 s : State} (hk : Keeps s0 s) : Keeps s0 (wantPort q v s) := by
  unfold wantPort
  try dsimp only
  repeat' (first | with_reducible assumption | with_reducible apply moveOn_keeps | with_reducible apply State_setPort_keeps | simp only [keeps_upd_iff] | intro _)

theorem drivePort_keeps (cur : Seg) (nxt : Seg) (later : Option Seg) (q : Nat) {s0 s : State} (hk : Keeps s0 s) : Keeps s0 (drivePort cur nxt later q s) := by
  unfold drivePort
  try dsimp only
  repeat' (first | with_reducible assumption | with_reducible apply openTxWindow_keeps | with_reducible apply windowEnd_keeps | with_reducible apply wantPort_keeps | with_reducible apply keeps_ite | split | simp only [keeps_upd_iff] | intro _)

theorem patternFreeze_keeps (c : Nat) (n : Option Nat) {s0 s : State} (hk : Keeps s0 s) : Keeps s0 (patternFreeze c n s) := by
  unfold patternFreeze
  try dsimp only
  repeat' (first | with_reducible assumption | with_reducible apply State_setChan_keeps | with_reducible apply State_clrBit_keeps | with_reducible apply State_setBit_keeps | split | simp only [keeps_upd_iff] | intro _)

theorem walkChannel_keeps (p : Nat) (a : Nat) (b : Nat) (c : Nat) {s0 s : State} (hk : Keeps s0 s) : Keeps s0 (walkChannel p a b c s) := by
  unfold walkChannel
  try dsimp only
  repeat' (first | with_reducible assumption | with_reducible apply releaseCh_keeps | with_reducible apply patternFreeze_keeps | with_reducible apply raiseCh_keeps | with_reducible apply keeps_ite | split | intro _)

theorem walkBoundary_keeps (p : Nat) {s0 s : State} (hk : Keeps s0 s) : Keeps s0 (walkBoundary p s) := by
  unfold walkBoundary
  try dsimp only
  repeat' (first | with_reducible assumption | with_reducible apply irq_keeps | with_reducible apply walkChannel_keeps | with_reducible apply drivePort_keeps | with_reducible apply State_setWalker_keeps | with_reducible apply State_inc_keeps | with_reducible refine forL_keeps (fun _ _ _ => ?_) ?_ | with_reducible apply keeps_ite | split | simp only [keeps_upd_iff] | intro _)

theorem execSegmentBoundary_keeps (p : Nat) {s t : State} (h : execSegmentBoundary p s = .next t) : Keeps s t := by
  unfold execSegmentBoundary at h
  injection h with h
  subst h
  try dsimp only
  repeat' (first | with_reducible assumption | with_reducible exact keeps_refl _ | with_reducible apply walkBoundary_keeps | with_reducible apply keeps_ite | split | intro _)

theorem execPatternTransientEnd_keeps (c : Nat) {s t : State} (h : execPatternTransientEnd c s = .next t) : Keeps s t := by
  unfold execPatternTransientEnd at h
  injection h with h
  subst h
  try dsimp only
  repeat' (first | with_reducible assumption | with_reducible exact keeps_refl _ | with_reducible apply patternFreeze_keeps | with_reducible apply keeps_ite | split | simp only [keeps_upd_iff] | intro _)

theorem walkLeads_keeps (p : Nat) {s0 s : State} (hk : Keeps s0 s) : Keeps s0 (walkLeads p s) := by
  unfold walkLeads
  try dsimp only
  repeat' (first | with_reducible assumption | with_reducible apply wantPort_keeps | with_reducible refine forL_keeps (fun _ _ _ => ?_) ?_ | with_reducible apply keeps_ite | split | simp only [keeps_upd_iff] | intro _)

theorem leadsTick_keeps  {s0 s : State} (hk : Keeps s0 s) : Keeps s0 (leadsTick s) := by
  unfold leadsTick
  try dsimp only
  repeat' (first | with_reducible assumption | with_reducible apply walkLeads_keeps | with_reducible refine forL_keeps (fun _ _ _ => ?_) ?_ | with_reducible apply keeps_ite | split | intro _)

theorem placeWalker_keeps (p : Nat) {s0 s : State} (hk : Keeps s0 s) : Keeps s0 (placeWalker p s) := by
  unfold placeWalker
  try dsimp only
  repeat' (first | with_reducible assumption | with_reducible apply State_setWalker_keeps | split | simp only [keeps_upd_iff] | intro _)

theorem implyChannel_keeps (c : Nat) {s0 s : State} (hk : Keeps s0 s) : Keeps s0 (implyChannel c s) := by
  unfold implyChannel
  try dsimp only
  repeat' (first | with_reducible assumption | with_reducible apply releaseCh_keeps | with_reducible apply patternFreeze_keeps | with_reducible apply raiseCh_keeps | with_reducible apply keeps_ite | split | simp only [keeps_upd_iff] | intro _)

theorem implyPort_keeps (p : Nat) (q : Nat) {s0 s : State} (hk : Keeps s0 s) : Keeps s0 (implyPort p q s) := by
  unfold implyPort
  try dsimp only
  repeat' (first | with_reducible assumption | with_reducible apply wantPort_keeps | with_reducible apply keeps_ite | split | simp only [keeps_upd_iff] | intro _)

theorem actPort_keeps (a : Action) (opener : Option Nat) {s0 s : State} (hk : Keeps s0 s) : Keeps s0 (actPort a opener s) := by
  unfold actPort
  try dsimp only
  repeat' (first | with_reducible assumption | with_reducible apply retarget_keeps | with_reducible apply State_setPort_keeps | with_reducible apply State_set_keeps | with_reducible apply keeps_ite | split | simp only [keeps_upd_iff] | intro _)

theorem actHold_keeps (a : Action) {s0 s : State} (hk : Keeps s0 s) : Keeps s0 (actHold a s) := by
  unfold actHold
  try dsimp only
  repeat' (first | with_reducible assumption | with_reducible apply markWindow_keeps | with_reducible apply State_putBit_keeps | with_reducible apply keeps_ite | split | intro _)

theorem actSwap_keeps (a : Action) {s0 s : State} (hk : Keeps s0 s) : Keeps s0 (actSwap a s) := by
  unfold actSwap
  try dsimp only
  repeat' (first | with_reducible assumption | with_reducible apply endFade_keeps | with_reducible apply beginFade_keeps | with_reducible apply takePermit_keeps | with_reducible apply tapReset_keeps | with_reducible apply State_inc_keeps | with_reducible apply State_set_keeps | with_reducible refine forL_keeps (fun _ _ _ => ?_) ?_ | with_reducible apply keeps_ite | split | intro _)

theorem actFreeze_keeps (a : Action) {s0 s : State} (hk : Keeps s0 s) : Keeps s0 (actFreeze a s) := by
  unfold actFreeze
  try dsimp only
  repeat' (first | with_reducible assumption | with_reducible apply State_putBit_keeps | intro _)

theorem actDc_keeps (a : Action) {s0 s : State} (hk : Keeps s0 s) : Keeps s0 (actDc a s) := by
  unfold actDc
  try dsimp only
  repeat' (first | with_reducible assumption | with_reducible apply State_setChan_keeps | simp only [keeps_upd_iff] | intro _)

theorem actCal_keeps (a : Action) {s0 s : State} (hk : Keeps s0 s) : Keeps s0 (actCal a s) := by
  unfold actCal
  try dsimp only
  repeat' (first | with_reducible assumption | with_reducible apply addPending_keeps | with_reducible apply calBegin_keeps | with_reducible apply keeps_ite | split | intro _)

theorem runAction_keeps (a : Action) (opener : Option Nat) {s0 s : State} (hk : Keeps s0 s) : Keeps s0 (runAction a opener s) := by
  unfold runAction
  try dsimp only
  repeat' (first | with_reducible assumption | with_reducible apply actPort_keeps | with_reducible apply releaseCh_keeps | with_reducible apply raiseCh_keeps | with_reducible apply actHold_keeps | with_reducible apply railSelect_keeps | with_reducible apply actSwap_keeps | with_reducible apply actFreeze_keeps | with_reducible apply actDc_keeps | with_reducible apply takeSnapshot_keeps | with_reducible apply actCal_keeps | with_reducible apply galLaunchTrigger_keeps | with_reducible apply feedSwitch_keeps | split | simp only [keeps_upd_iff] | intro _)

theorem leaveMark_keeps (n : Nat) {s0 s : State} (hk : Keeps s0 s) : Keeps s0 (leaveMark n s) := by
  unfold leaveMark
  try dsimp only
  repeat' (first | with_reducible assumption | simp only [keeps_upd_iff] | intro _)

theorem runEntry_keeps (n : Nat) {s0 s : State} (hk : Keeps s0 s) : Keeps s0 (runEntry n s) := by
  unfold runEntry
  try dsimp only
  repeat' (first | with_reducible assumption | with_reducible apply entryDone_keeps | with_reducible apply leaveMark_keeps | with_reducible apply runAction_keeps | intro _)

theorem runPatternAction_keeps (p : Nat) (a : Nat) {s0 s : State} (hk : Keeps s0 s) : Keeps s0 (runPatternAction p a s) := by
  unfold runPatternAction
  try dsimp only
  repeat' (first | with_reducible assumption | with_reducible apply runAction_keeps | with_reducible apply State_setWalker_keeps | simp only [keeps_upd_iff] | intro _)

theorem launchStep_keeps (kind : Nat) (l : LaunchSrc) {s0 s : State} (hk : Keeps s0 s) : Keeps s0 (launchStep kind l s) := by
  unfold launchStep
  try dsimp only
  repeat' (first | with_reducible assumption | with_reducible apply runEntry_keeps | with_reducible apply runPatternAction_keeps | with_reducible apply keeps_ite | split | simp only [keeps_upd_iff] | intro _)

theorem execPortStateChange_keeps (l : LaunchSrc) {s t : State} (h : execPortStateChange l s = .next t) : Keeps s t := by
  unfold execPortStateChange at h
  injection h with h
  subst h
  try dsimp only
  repeat' (first | with_reducible assumption | with_reducible exact keeps_refl _ | with_reducible apply launchStep_keeps | intro _)

theorem execChannelEnable_keeps (l : LaunchSrc) {s t : State} (h : execChannelEnable l s = .next t) : Keeps s t := by
  unfold execChannelEnable at h
  injection h with h
  subst h
  try dsimp only
  repeat' (first | with_reducible assumption | with_reducible exact keeps_refl _ | with_reducible apply launchStep_keeps | intro _)

theorem execChannelMute_keeps (l : LaunchSrc) {s t : State} (h : execChannelMute l s = .next t) : Keeps s t := by
  unfold execChannelMute at h
  injection h with h
  subst h
  try dsimp only
  repeat' (first | with_reducible assumption | with_reducible exact keeps_refl _ | with_reducible apply launchStep_keeps | intro _)

theorem execGainHold_keeps (l : LaunchSrc) {s t : State} (h : execGainHold l s = .next t) : Keeps s t := by
  unfold execGainHold at h
  injection h with h
  subst h
  try dsimp only
  repeat' (first | with_reducible assumption | with_reducible exact keeps_refl _ | with_reducible apply launchStep_keeps | intro _)

theorem execRailSetPointSelect_keeps (l : LaunchSrc) {s t : State} (h : execRailSetPointSelect l s = .next t) : Keeps s t := by
  unfold execRailSetPointSelect at h
  injection h with h
  subst h
  try dsimp only
  repeat' (first | with_reducible assumption | with_reducible exact keeps_refl _ | with_reducible apply launchStep_keeps | intro _)

theorem execFilterBankSwap_keeps (l : LaunchSrc) {s t : State} (h : execFilterBankSwap l s = .next t) : Keeps s t := by
  unfold execFilterBankSwap at h
  injection h with h
  subst h
  try dsimp only
  repeat' (first | with_reducible assumption | with_reducible exact keeps_refl _ | with_reducible apply launchStep_keeps | intro _)

theorem execCancellerFreeze_keeps (l : LaunchSrc) {s t : State} (h : execCancellerFreeze l s = .next t) : Keeps s t := by
  unfold execCancellerFreeze at h
  injection h with h
  subst h
  try dsimp only
  repeat' (first | with_reducible assumption | with_reducible exact keeps_refl _ | with_reducible apply launchStep_keeps | intro _)

theorem execDcBlockFreeze_keeps (l : LaunchSrc) {s t : State} (h : execDcBlockFreeze l s = .next t) : Keeps s t := by
  unfold execDcBlockFreeze at h
  injection h with h
  subst h
  try dsimp only
  repeat' (first | with_reducible assumption | with_reducible exact keeps_refl _ | with_reducible apply launchStep_keeps | intro _)

theorem execSnapshot_keeps (l : LaunchSrc) {s t : State} (h : execSnapshot l s = .next t) : Keeps s t := by
  unfold execSnapshot at h
  injection h with h
  subst h
  try dsimp only
  repeat' (first | with_reducible assumption | with_reducible exact keeps_refl _ | with_reducible apply launchStep_keeps | intro _)

theorem execCalibrationStart_keeps (l : LaunchSrc) {s t : State} (h : execCalibrationStart l s = .next t) : Keeps s t := by
  unfold execCalibrationStart at h
  injection h with h
  subst h
  try dsimp only
  repeat' (first | with_reducible assumption | with_reducible exact keeps_refl _ | with_reducible apply launchStep_keeps | intro _)

theorem execGalleryTrigger_keeps (l : LaunchSrc) {s t : State} (h : execGalleryTrigger l s = .next t) : Keeps s t := by
  unfold execGalleryTrigger at h
  injection h with h
  subst h
  try dsimp only
  repeat' (first | with_reducible assumption | with_reducible exact keeps_refl _ | with_reducible apply launchStep_keeps | intro _)

theorem execFeedEnable_keeps (l : LaunchSrc) {s t : State} (h : execFeedEnable l s = .next t) : Keeps s t := by
  unfold execFeedEnable at h
  injection h with h
  subst h
  try dsimp only
  repeat' (first | with_reducible assumption | with_reducible exact keeps_refl _ | with_reducible apply launchStep_keeps | intro _)

theorem placeAction_keeps (p : Nat) (a : Nat) {s0 s : State} (hk : Keeps s0 s) : Keeps s0 (placeAction p a s) := by
  unfold placeAction
  try dsimp only
  repeat' (first | with_reducible assumption | with_reducible apply State_set_keeps | with_reducible apply keeps_ite | split | intro _)

theorem armStaged_keeps (e : Nat × Val) {s0 s : State} (hk : Keeps s0 s) : Keeps s0 (armStaged e s) := by
  unfold armStaged
  try dsimp only
  repeat' (first | with_reducible assumption | with_reducible apply State_set_keeps | with_reducible apply keeps_ite | split | simp only [keeps_upd_iff] | intro _)

theorem writeStaged_keeps (vals : List (Nat × Val)) {s0 s : State} (hk : Keeps s0 s) : Keeps s0 (writeStaged vals s) := by
  unfold writeStaged
  try dsimp only
  repeat' (first | with_reducible assumption | with_reducible apply armStaged_keeps | with_reducible apply placeAction_keeps | with_reducible apply State_setVal_keeps | with_reducible refine forL_keeps (fun _ _ _ => ?_) ?_ | with_reducible refine forN_keeps (fun _ _ _ => ?_) ?_ | intro _)

theorem noteLoads_keeps (o : State) (c : Nat) {s0 s : State} (hk : Keeps s0 s) : Keeps s0 (noteLoads o c s) := by
  unfold noteLoads
  try dsimp only
  repeat' (first | with_reducible assumption | with_reducible refine forN_keeps (fun _ _ _ => ?_) ?_ | with_reducible apply keeps_ite | split | simp only [keeps_upd_iff] | intro _)

theorem reviewRecords_keeps (o : State) (c : Nat) {s0 s : State} (hk : Keeps s0 s) : Keeps s0 (reviewRecords o c s) := by
  unfold reviewRecords
  try dsimp only
  repeat' (first | with_reducible assumption | with_reducible apply clearRecord_keeps | with_reducible refine forN_keeps (fun _ _ _ => ?_) ?_ | with_reducible apply keeps_ite | split | intro _)

theorem retap_keeps (c : Nat) {s0 s : State} (hk : Keeps s0 s) : Keeps s0 (retap c s) := by
  unfold retap
  try dsimp only
  repeat' (first | with_reducible assumption | with_reducible apply tapReset_keeps | with_reducible apply releaseCh_keeps | with_reducible apply State_clrBit_keeps | with_reducible apply State_set_keeps | with_reducible apply keeps_ite | split | intro _)

theorem trimChannel_keeps (o : State) (c : Nat) {s0 s : State} (hk : Keeps s0 s) : Keeps s0 (trimChannel o c s) := by
  unfold trimChannel
  try dsimp only
  repeat' (first | with_reducible assumption | with_reducible apply State_setChan_keeps | with_reducible apply State_setPath_keeps | with_reducible apply keeps_ite | split | simp only [keeps_upd_iff] | intro _)

theorem restartGrid_keeps (c : Nat) {s0 s : State} (hk : Keeps s0 s) : Keeps s0 (restartGrid c s) := by
  unfold restartGrid
  try dsimp only
  repeat' (first | with_reducible assumption | with_reducible apply State_setChan_keeps | simp only [keeps_upd_iff] | intro _)

theorem reviewTrace_keeps (c : Nat) {s0 s : State} (hk : Keeps s0 s) : Keeps s0 (reviewTrace c s) := by
  unfold reviewTrace
  try dsimp only
  repeat' (first | with_reducible assumption | with_reducible apply raiseCh_keeps | with_reducible apply planRelease_keeps | with_reducible apply releaseCh_keeps | with_reducible apply keeps_ite | split | intro _)

theorem changeChannel_keeps (o : State) (moved : List Nat) (c : Nat) {s0 s : State} (hk : Keeps s0 s) : Keeps s0 (changeChannel o moved c s) := by
  unfold changeChannel
  try dsimp only
  repeat' (first | with_reducible assumption | with_reducible apply syncReset_keeps | with_reducible apply retap_keeps | with_reducible apply trimChannel_keeps | with_reducible apply setGain_keeps | with_reducible apply reviewTrace_keeps | with_reducible apply implyChannel_keeps | with_reducible apply restartGrid_keeps | with_reducible apply keeps_ite | split | intro _)

theorem takeChannel_keeps (o : State) (moved : List Nat) (c : Nat) {s0 s : State} (hk : Keeps s0 s) : Keeps s0 (takeChannel o moved c s) := by
  unfold takeChannel
  try dsimp only
  repeat' (first | with_reducible assumption | with_reducible apply reviewRecords_keeps | with_reducible apply noteLoads_keeps | with_reducible apply stopChannel_keeps | with_reducible apply implyChannel_keeps | with_reducible apply startChannel_keeps | with_reducible apply changeChannel_keeps | with_reducible apply showRefs_keeps | with_reducible apply State_set_keeps | with_reducible apply keeps_ite | split | intro _)

theorem placeReset_keeps (cs : List Nat) {s0 s : State} (hk : Keeps s0 s) : Keeps s0 (placeReset cs s) := by
  unfold placeReset
  try dsimp only
  repeat' (first | with_reducible assumption | with_reducible apply placeAll_keeps | with_reducible apply unshedCanceller_keeps | with_reducible refine forL_keeps (fun _ _ _ => ?_) ?_ | intro _)

theorem takeWalker_keeps (o : State) (ks : List Nat) (p : Nat) {s0 s : State} (hk : Keeps s0 s) : Keeps s0 (takeWalker o ks p s) := by
  unfold takeWalker
  try dsimp only
  repeat' (first | with_reducible assumption | with_reducible apply placeWalker_keeps | with_reducible apply State_setWalker_keeps | with_reducible apply keeps_ite | split | simp only [keeps_upd_iff] | intro _)

theorem takeDriven_keeps (o : State) (moved : List Nat) (q : Nat) {s0 s : State} (hk : Keeps s0 s) : Keeps s0 (takeDriven o moved q s) := by
  unfold takeDriven
  try dsimp only
  repeat' (first | with_reducible assumption | with_reducible apply implyPort_keeps | with_reducible apply moveOn_keeps | with_reducible apply windowEnd_keeps | with_reducible apply keeps_ite | split | simp only [keeps_upd_iff] | intro _)

theorem takePort_keeps (o : State) (ks : List Nat) (p : Nat) {s0 s : State} (hk : Keeps s0 s) : Keeps s0 (takePort o ks p s) := by
  unfold takePort
  try dsimp only
  repeat' (first | with_reducible assumption | with_reducible apply retune_keeps | with_reducible apply retarget_keeps | with_reducible apply keeps_ite | split | intro _)

theorem reselect_keeps (o : State) (r : Nat) {s0 s : State} (hk : Keeps s0 s) : Keeps s0 (reselect o r s) := by
  unfold reselect
  try dsimp only
  repeat' (first | with_reducible assumption | with_reducible apply moveRef_keeps | with_reducible apply schedulePhases_keeps | with_reducible apply State_setRail_keeps | with_reducible apply keeps_ite | split | simp only [keeps_upd_iff] | intro _)

theorem takeRail_keeps (o : State) (r : Nat) {s0 s : State} (hk : Keeps s0 s) : Keeps s0 (takeRail o r s) := by
  unfold takeRail
  try dsimp only
  repeat' (first | with_reducible assumption | with_reducible apply railDisabled_keeps | with_reducible apply reselect_keeps | with_reducible apply takeVsel_keeps | with_reducible apply State_set_keeps | with_reducible apply keeps_ite | split | intro _)

theorem takeFeed_keeps (o : State) (f : Nat) {s0 s : State} (hk : Keeps s0 s) : Keeps s0 (takeFeed o f s) := by
  unfold takeFeed
  try dsimp only
  repeat' (first | with_reducible assumption | with_reducible apply feedEnabled_keeps | with_reducible apply feedDisabled_keeps | with_reducible apply reviewRequired_keeps | with_reducible apply keeps_ite | split | intro _)

theorem takePin_keeps (p : Nat) {s0 s : State} (hk : Keeps s0 s) : Keeps s0 (takePin p s) := by
  unfold takePin
  try dsimp only
  repeat' (first | with_reducible assumption | with_reducible apply raisePort_keeps | with_reducible apply releasePort_keeps | with_reducible apply keeps_ite | split | intro _)

theorem applyStaged_keeps (vals : List (Nat × Val)) {s0 o : State} (hk : Keeps s0 o) : Keeps s0 (applyStaged vals o) := by
  unfold applyStaged
  try dsimp only
  repeat' (first | with_reducible assumption | with_reducible apply writeStaged_keeps | with_reducible apply takeWalker_keeps | with_reducible apply implyChannel_keeps | with_reducible apply restartGrid_keeps | with_reducible apply placeReset_keeps | with_reducible apply takeChannel_keeps | with_reducible apply takePort_keeps | with_reducible apply takeDriven_keeps | with_reducible apply takeFeed_keeps | with_reducible apply takeRail_keeps | with_reducible apply reviewDomain_keeps | with_reducible apply tmRestart_keeps | with_reducible apply dropFactors_keeps | with_reducible apply restartObs_keeps | with_reducible apply takePin_keeps | with_reducible apply putEmRun_keeps | with_reducible apply takePermit_keeps | with_reducible refine forL_keeps (fun _ _ _ => ?_) ?_ | with_reducible refine forN_keeps (fun _ _ _ => ?_) ?_ | with_reducible apply keeps_ite | split | intro _)

theorem histState_keeps (number : Nat) (v : Int) {s0 s : State} (hk : Keeps s0 s) : Keeps s0 (histState number v s) := by
  unfold histState
  try dsimp only
  repeat' (first | with_reducible assumption | with_reducible apply State_set_keeps | split | simp only [keeps_upd_iff] | intro _)

theorem freeCommit_keeps (t : Accepted) (held : Bool) {s0 s : State} (hk : Keeps s0 s) : Keeps s0 (freeCommit t held s) := by
  unfold freeCommit
  try dsimp only
  repeat' (first | with_reducible assumption | with_reducible apply leaveMark_keeps | with_reducible apply State_inc_keeps | with_reducible apply State_setOct_keeps | with_reducible apply State_set_keeps | with_reducible apply keeps_ite | split | intro _)

theorem launchTx_keeps (t : Accepted) {s0 s : State} (hk : Keeps s0 s) : Keeps s0 (launchTx t s) := by
  unfold launchTx
  try dsimp only
  repeat' (first | with_reducible assumption | with_reducible apply applyStaged_keeps | with_reducible apply freeCommit_keeps | with_reducible apply irq_keeps | with_reducible apply histState_keeps | with_reducible apply keeps_ite | split | simp only [keeps_upd_iff] | intro _)

theorem execTransactionCommit_keeps (number : Nat) {s t : State} (h : execTransactionCommit number s = .next t) : Keeps s t := by
  unfold execTransactionCommit at h
  injection h with h
  subst h
  try dsimp only
  repeat' (first | with_reducible assumption | with_reducible exact keeps_refl _ | with_reducible apply launchTx_keeps | with_reducible apply keeps_ite | split | simp only [keeps_upd_iff] | intro _)

theorem commitDue_keeps (n : Nat) {s0 s : State} (hk : Keeps s0 s) : Keeps s0 (commitDue n s) := by
  induction n generalizing s with
  | zero => exact hk
  | succ n ih =>
    unfold commitDue
    split
    · exact ih (launchTx_keeps _ hk)
    · exact hk

theorem entriesDue_keeps (n : Nat) {s0 s : State} (hk : Keeps s0 s) : Keeps s0 (entriesDue n s) := by
  induction n generalizing s with
  | zero => exact hk
  | succ n ih =>
    unfold entriesDue
    split
    · exact ih (runEntry_keeps _ hk)
    · exact hk

theorem stepChannel_keeps (p : Nat) (c : Nat) {s0 s : State} (hk : Keeps s0 s) : Keeps s0 (stepChannel p c s) := by
  unfold stepChannel
  try dsimp only
  repeat' (first | with_reducible assumption | with_reducible apply raiseCh_keeps | with_reducible apply implyChannel_keeps | with_reducible apply syncReset_keeps | with_reducible apply State_setBit_keeps | with_reducible apply State_setChan_keeps | simp only [keeps_upd_iff] | intro _)

theorem stepRails_keeps (p : Nat) {s0 s : State} (hk : Keeps s0 s) : Keeps s0 (stepRails p s) := by
  unfold stepRails
  try dsimp only
  repeat' (first | with_reducible assumption | with_reducible apply railSelect_keeps | with_reducible refine forN_keeps (fun _ _ _ => ?_) ?_ | split | simp only [keeps_upd_iff] | intro _)

theorem stepHolds_keeps (p : Nat) (c : Nat) {s0 s : State} (hk : Keeps s0 s) : Keeps s0 (stepHolds p c s) := by
  unfold stepHolds
  try dsimp only
  repeat' (first | with_reducible assumption | with_reducible apply actHold_keeps | with_reducible apply actFreeze_keeps | with_reducible apply actDc_keeps | split | simp only [keeps_upd_iff] | intro _)

theorem stepWalker_keeps (p : Nat) {s0 s : State} (hk : Keeps s0 s) : Keeps s0 (stepWalker p s) := by
  unfold stepWalker
  try dsimp only
  repeat' (first | with_reducible assumption | with_reducible apply placeWalker_keeps | with_reducible apply wantPort_keeps | with_reducible apply stepChannel_keeps | with_reducible apply stepHolds_keeps | with_reducible apply stepRails_keeps | with_reducible refine forL_keeps (fun _ _ _ => ?_) ?_ | intro _)

theorem stepGrid_keeps (c : Nat) {s0 s : State} (hk : Keeps s0 s) : Keeps s0 (stepGrid c s) := by
  unfold stepGrid
  try dsimp only
  repeat' (first | with_reducible assumption | with_reducible apply restartGrid_keeps | with_reducible apply State_setChan_keeps | with_reducible apply keeps_ite | split | simp only [keeps_upd_iff] | intro _)

theorem stepSeen_keeps  {s0 s : State} (hk : Keeps s0 s) : Keeps s0 (stepSeen s) := by
  unfold stepSeen
  try dsimp only
  repeat' (first | with_reducible assumption | with_reducible apply keeps_ite | split | simp only [keeps_upd_iff] | intro _)

theorem takeStep_keeps (p : StepPlan) {s0 s : State} (hk : Keeps s0 s) : Keeps s0 (takeStep p s) := by
  unfold takeStep
  try dsimp only
  repeat' (first | with_reducible assumption | with_reducible apply stepSeen_keeps | with_reducible apply stepCounter_keeps | with_reducible apply commitDue_keeps | with_reducible apply stepGrid_keeps | with_reducible apply stepWalker_keeps | with_reducible apply entriesDue_keeps | with_reducible apply lockAfterStep_keeps | with_reducible apply recordStep_keeps | with_reducible apply planTraceRelease_keeps | with_reducible refine forL_keeps (fun _ _ _ => ?_) ?_ | with_reducible apply keeps_ite | split | simp only [keeps_upd_iff] | intro _)

theorem execStepInstant_keeps  {s t : State} (h : execStepInstant s = .next t) : Keeps s t := by
  unfold execStepInstant at h
  injection h with h
  subst h
  try dsimp only
  repeat' (first | with_reducible assumption | with_reducible exact keeps_refl _ | with_reducible apply takeStep_keeps | with_reducible apply keeps_ite | split | simp only [keeps_upd_iff] | intro _)

theorem invalidate_keeps  {s0 s : State} (hk : Keeps s0 s) : Keeps s0 (invalidate s) := by
  unfold invalidate
  try dsimp only
  repeat' (first | with_reducible assumption | with_reducible apply setTbState_keeps | with_reducible apply setTrace_keeps | with_reducible apply cancelStep_keeps | simp only [keeps_upd_iff] | intro _)

theorem clockMute_keeps (c : Nat) {s0 s : State} (hk : Keeps s0 s) : Keeps s0 (clockMute c s) := by
  unfold clockMute
  try dsimp only
  repeat' (first | with_reducible assumption | with_reducible apply raiseCh_keeps | with_reducible apply State_setChan_keeps | simp only [keeps_upd_iff] | intro _)

theorem execRefclkLoss_keeps (src : ClkLoss) {s t : State} (h : execRefclkLoss src s = .next t) : Keeps s t := by
  unfold execRefclkLoss at h
  injection h with h
  subst h
  try dsimp only
  repeat' (first | with_reducible assumption | with_reducible exact keeps_refl _ | with_reducible apply raisePort_keeps | with_reducible apply clockMute_keeps | with_reducible apply invalidate_keeps | with_reducible apply fault_keeps | with_reducible apply State_clrBit_keeps | with_reducible apply State_setBit_keeps | with_reducible apply State_inc_keeps | with_reducible apply State_sticky_keeps | with_reducible refine forL_keeps (fun _ _ _ => ?_) ?_ | with_reducible refine forN_keeps (fun _ _ _ => ?_) ?_ | with_reducible apply keeps_ite | split | intro _)

theorem resumePort_keeps (p : Nat) {s0 s : State} (hk : Keeps s0 s) : Keeps s0 (resumePort p s) := by
  unfold resumePort
  try dsimp only
  repeat' (first | with_reducible assumption | with_reducible apply returnCheck_keeps | with_reducible apply State_setPort_keeps | with_reducible apply keeps_ite | split | simp only [keeps_upd_iff] | intro _)

theorem clockUnmute_keeps (c : Nat) {s0 s : State} (hk : Keeps s0 s) : Keeps s0 (clockUnmute c s) := by
  unfold clockUnmute
  try dsimp only
  repeat' (first | with_reducible assumption | with_reducible apply releaseCh_keeps | with_reducible apply keeps_ite | split | intro _)

theorem reacquire_keeps  {s0 s : State} (hk : Keeps s0 s) : Keeps s0 (reacquire s) := by
  unfold reacquire
  try dsimp only
  repeat' (first | with_reducible assumption | with_reducible apply schedule_keeps | with_reducible apply setTbState_keeps | with_reducible apply State_set_keeps | split | simp only [keeps_upd_iff] | intro _)

theorem execRefclkResume_keeps (x1 : Report) {s t : State} (h : execRefclkResume x1 s = .next t) : Keeps s t := by
  unfold execRefclkResume at h
  injection h with h
  subst h
  try dsimp only
  repeat' (first | with_reducible assumption | with_reducible exact keeps_refl _ | with_reducible apply keepTokens_keeps | with_reducible apply freeClock_keeps | with_reducible apply resumePort_keeps | with_reducible apply reacquire_keeps | with_reducible apply clockUnmute_keeps | with_reducible apply stepGrid_keeps | with_reducible apply stepWalker_keeps | with_reducible apply event_keeps | with_reducible apply State_set_keeps | with_reducible refine forL_keeps (fun _ _ _ => ?_) ?_ | with_reducible refine forN_keeps (fun _ _ _ => ?_) ?_ | with_reducible apply keeps_ite | split | simp only [keeps_upd_iff] | intro _)

theorem seatChannel_keeps (c : Nat) {s0 s : State} (hk : Keeps s0 s) : Keeps s0 (seatChannel c s) := by
  unfold seatChannel
  try dsimp only
  repeat' (first | with_reducible assumption | with_reducible apply placeBranch_keeps | with_reducible refine forL_keeps (fun _ _ _ => ?_) ?_ | with_reducible apply keeps_ite | split | intro _)

theorem seatAll_keeps (cs : List Nat) {s0 s : State} (hk : Keeps s0 s) : Keeps s0 (seatAll cs s) := by
  unfold seatAll
  try dsimp only
  repeat' (first | with_reducible assumption | with_reducible apply seatChannel_keeps | with_reducible apply unplace_keeps | with_reducible refine forL_keeps (fun _ _ _ => ?_) ?_ | intro _)

theorem projectChannel_keeps (o : State) (c : Nat) {s0 s : State} (hk : Keeps s0 s) : Keeps s0 (projectChannel o c s) := by
  unfold projectChannel
  try dsimp only
  repeat' (first | with_reducible assumption | with_reducible apply unplace_keeps | with_reducible apply State_set_keeps | with_reducible apply keeps_ite | split | intro _)

theorem projectLaunch_keeps (vals : List (Nat × Val)) {s0 o : State} (hk : Keeps s0 o) : Keeps s0 (projectLaunch vals o) := by
  unfold projectLaunch
  try dsimp only
  repeat' (first | with_reducible assumption | with_reducible apply writeStaged_keeps | with_reducible apply projectChannel_keeps | with_reducible apply seatAll_keeps | with_reducible apply State_clrBit_keeps | with_reducible refine forL_keeps (fun _ _ _ => ?_) ?_ | with_reducible refine forN_keeps (fun _ _ _ => ?_) ?_ | with_reducible apply keeps_ite | split | intro _)

theorem projectEntry_keeps (n : Nat) {s0 s : State} (hk : Keeps s0 s) : Keeps s0 (projectEntry n s) := by
  unfold projectEntry
  try dsimp only
  repeat' (first | with_reducible assumption | with_reducible apply State_set_keeps | with_reducible apply State_clrBit_keeps | with_reducible apply State_setBit_keeps | with_reducible refine forL_keeps (fun _ _ _ => ?_) ?_ | with_reducible apply keeps_ite | split | simp only [keeps_upd_iff] | intro _)

theorem anchored_keeps  {s0 s : State} (hk : Keeps s0 s) : Keeps s0 (anchored s) := by
  unfold anchored
  try dsimp only
  repeat' (first | with_reducible assumption | with_reducible apply State_set_keeps | with_reducible refine forL_keeps (fun _ _ _ => ?_) ?_ | with_reducible apply keeps_ite | split | intro _)

theorem reportRefusal_keeps (code : Nat) (key : Nat) (e : Option Nat) {s0 s : State} (hk : Keeps s0 s) : Keeps s0 (reportRefusal code key e s) := by
  unfold reportRefusal
  try dsimp only
  repeat' (first | with_reducible assumption | with_reducible apply State_set_keeps | intro _)

theorem dryRunEffect_keeps (w : Who) (v : Val) {s0 s : State} (hk : Keeps s0 s) : Keeps s0 (dryRunEffect w v s).st := by
  unfold dryRunEffect
  try dsimp only
  repeat' (first | with_reducible assumption | with_reducible apply reportRefusal_keeps | with_reducible apply Reply_no_keeps | with_reducible apply Reply_ok_keeps | split | simp only [keeps_upd_iff] | intro _)

theorem execAdmDryRun_keeps (f : Frame) {s t : State} (h : execAdmDryRun f s = .next t) : Keeps s t := by
  unfold execAdmDryRun at h
  injection h with h
  subst h
  try dsimp only
  repeat' (first | with_reducible assumption | with_reducible exact keeps_refl _ | with_reducible apply requestWrite_keeps | with_reducible apply dryRunEffect_keeps | intro _)

theorem openTx_keeps {kind flow origin om sysId i : Nat} {s0 s t : State} (h : openTx kind flow origin om sysId s = some (i, t)) (hk : Keeps s0 s) : Keeps s0 t := by
  unfold openTx at h
  split at h
  · cases h
  · cases h
    exact setSlot_keeps _ _ (State_set_keeps _ _ hk)

theorem txOpenEffect_keeps (w : Who) (v : Val) {s0 s : State} (hk : Keeps s0 s) : Keeps s0 (txOpenEffect w v s).st := by
  unfold txOpenEffect
  try dsimp only
  repeat' (first | with_reducible assumption | with_reducible apply Reply_ok_keeps | with_reducible apply Reply_no_keeps | exact openTx_keeps (by assumption) hk | with_reducible apply keeps_ite_st | split | simp only [keeps_upd_iff] | intro _)

theorem execTxOpen_keeps (f : Frame) {s t : State} (h : execTxOpen f s = .next t) : Keeps s t := by
  unfold execTxOpen at h
  injection h with h
  subst h
  try dsimp only
  repeat' (first | with_reducible assumption | with_reducible exact keeps_refl _ | with_reducible apply requestWrite_keeps | with_reducible apply txOpenEffect_keeps | intro _)

theorem execTxIdleAbort_keeps (i : Nat) {s t : State} (h : execTxIdleAbort i s = .next t) : Keeps s t := by
  unfold execTxIdleAbort at h
  injection h with h
  subst h
  try dsimp only
  repeat' (first | with_reducible assumption | with_reducible exact keeps_refl _ | with_reducible apply fault_keeps | with_reducible apply abortSlot_keeps | with_reducible apply keeps_ite | split | simp only [keeps_upd_iff] | intro _)

theorem armCommit_keeps (n : Nat) (launch : Nat) (number : Nat) {s0 s : State} (hk : Keeps s0 s) : Keeps s0 (armCommit n launch number s) := by
  unfold armCommit
  try dsimp only
  repeat' (first | with_reducible assumption | with_reducible apply State_setOct_keeps | with_reducible apply State_set_keeps | simp only [keeps_upd_iff] | intro _)

theorem disarm_keeps (n : Nat) {s0 s : State} (hk : Keeps s0 s) : Keeps s0 (disarm n s) := by
  unfold disarm
  try dsimp only
  repeat' (first | with_reducible assumption | with_reducible apply State_setOct_keeps | with_reducible apply State_set_keeps | intro _)

theorem answerCommit_keeps (t : Tx) (status : Nat) (payload : List Byte) {s0 s : State} (hk : Keeps s0 s) : Keeps s0 (answerCommit t status payload s) := by
  unfold answerCommit
  try dsimp only
  repeat' (first | with_reducible assumption | with_reducible apply answer_keeps | split | simp only [keeps_upd_iff] | intro _)

theorem answerAbort_keeps (t : Tx) (status : Nat) {s0 s : State} (hk : Keeps s0 s) : Keeps s0 (answerAbort t status s) := by
  unfold answerAbort
  try dsimp only
  repeat' (first | with_reducible assumption | with_reducible apply answer_keeps | with_reducible apply State_inc_keeps | with_reducible apply keeps_ite | split | simp only [keeps_upd_iff] | intro _)

theorem pushHistory_keeps (number : Nat) (seq : Nat) {s0 s : State} (hk : Keeps s0 s) : Keeps s0 (pushHistory number seq s) := by
  unfold pushHistory
  try dsimp only
  repeat' (first | with_reducible assumption | with_reducible apply State_set_keeps | with_reducible refine forN_keeps (fun _ _ _ => ?_) ?_ | intro _)

theorem acceptSlot_keeps (i : Nat) (launch : Nat) {s0 s : State} (hk : Keeps s0 s) : Keeps s0 (acceptSlot i launch s) := by
  unfold acceptSlot
  try dsimp only
  repeat' (first | with_reducible assumption | with_reducible apply setSlot_keeps | with_reducible apply pushHistory_keeps | with_reducible apply answerAbort_keeps | with_reducible apply answerCommit_keeps | with_reducible apply State_set_keeps | with_reducible apply keeps_ite | split | simp only [keeps_upd_iff] | intro _)

theorem refuseSlot_keeps (i : Nat) (code : Nat) (key : Nat) (e : Option Nat) {s0 s : State} (hk : Keeps s0 s) : Keeps s0 (refuseSlot i code key e s) := by
  unfold refuseSlot
  try dsimp only
  repeat' (first | with_reducible assumption | with_reducible apply reportRefusal_keeps | with_reducible apply setSlot_keeps | with_reducible apply answerCommit_keeps | with_reducible apply answerAbort_keeps | with_reducible apply State_inc_keeps | with_reducible apply State_sticky_keeps | split | simp only [keeps_upd_iff] | intro _)

theorem writeRec_keeps (r : JRec) {s0 s : State} (hk : Keeps s0 s) : Keeps s0 (writeRec r s) := by
  unfold writeRec
  try dsimp only
  repeat' (first | with_reducible assumption | simp only [keeps_upd_iff] | intro _)

theorem passLocal_keeps (i : Nat) (n : Nat) (t : Tx) (f : Frame) (launch : Nat) {s0 s : State} (hk : Keeps s0 s) : Keeps s0 (passLocal i n t f launch s) := by
  unfold passLocal
  try dsimp only
  repeat' (first | with_reducible assumption | with_reducible apply armCommit_keeps | with_reducible apply setSlot_keeps | with_reducible apply writeRec_keeps | with_reducible apply State_inc_keeps | simp only [keeps_upd_iff] | intro _)

theorem refuseNow_keeps (t : Tx) (code : Nat) (key : Nat) (e : Option Nat) {s0 s : State} (hk : Keeps s0 s) : Keeps s0 (refuseNow t code key e s).st := by
  unfold refuseNow
  try dsimp only
  repeat' (first | with_reducible assumption | with_reducible apply reportRefusal_keeps | with_reducible apply State_inc_keeps | with_reducible apply State_sticky_keeps | intro _)

theorem commitLocal_keeps (i : Nat) (t : Tx) (f : Frame) (requested : Option Nat) {s0 s : State} (hk : Keeps s0 s) : Keeps s0 (commitLocal i t f requested s).st := by
  unfold commitLocal
  try dsimp only
  repeat' (first | with_reducible assumption | with_reducible apply passLocal_keeps | with_reducible apply refuseNow_keeps | split | simp only [keeps_upd_iff] | intro _)

theorem abortCommitting_keeps (i : Nat) (t : Tx) {s0 s : State} (hk : Keeps s0 s) : Keeps s0 (abortCommitting i t s) := by
  unfold abortCommitting
  try dsimp only
  repeat' (first | with_reducible assumption | with_reducible apply answerCommit_keeps | with_reducible apply setSlot_keeps | with_reducible apply disarm_keeps | with_reducible apply State_inc_keeps | simp only [keeps_upd_iff] | intro _)

theorem reclaim_keeps  {s0 s : State} (hk : Keeps s0 s) : Keeps s0 (reclaim s) := by
  unfold reclaim
  try dsimp only
  repeat' (first | with_reducible assumption | split | simp only [keeps_upd_iff] | intro _)

theorem execCheckpoint_keeps  {s t : State} (h : execCheckpoint s = .next t) : Keeps s t := by
  unfold execCheckpoint at h
  injection h with h
  subst h
  try dsimp only
  repeat' (first | with_reducible assumption | with_reducible exact keeps_refl _ | with_reducible apply writeRec_keeps | with_reducible apply keeps_ite | split | simp only [keeps_upd_iff] | intro _)

theorem setLatest_keeps (c : Nat) {s0 s : State} (hk : Keeps s0 s) : Keeps s0 (setLatest c s) := by
  unfold setLatest
  try dsimp only
  repeat' (first | with_reducible assumption | simp only [keeps_upd_iff] | intro _)

theorem checkpointDurable_keeps (copy : Nat) (covered : Nat) {s0 s : State} (hk : Keeps s0 s) : Keeps s0 (checkpointDurable copy covered s) := by
  unfold checkpointDurable
  try dsimp only
  repeat' (first | with_reducible assumption | with_reducible apply reclaim_keeps | with_reducible apply setLatest_keeps | with_reducible apply State_set_keeps | intro _)

theorem execExecRecordWrite_keeps  {s t : State} (h : execExecRecordWrite s = .next t) : Keeps s t := by
  unfold execExecRecordWrite at h
  injection h with h
  subst h
  try dsimp only
  repeat' (first | with_reducible assumption | with_reducible exact keeps_refl _ | with_reducible apply writeRec_keeps | with_reducible apply keeps_ite | split | simp only [keeps_upd_iff] | intro _)

theorem jrRebuildEffect_keeps (x1 : Who) (x2 : Val) {s0 s : State} (hk : Keeps s0 s) : Keeps s0 (jrRebuildEffect x1 x2 s).st := by
  unfold jrRebuildEffect
  try dsimp only
  repeat' (first | with_reducible assumption | with_reducible apply Reply_ok_keeps | with_reducible apply State_drawn_keeps | with_reducible apply State_set_keeps | with_reducible apply keeps_ite_st | split | simp only [keeps_upd_iff] | intro _)

theorem execJrRebuild_keeps (f : Frame) {s t : State} (h : execJrRebuild f s = .next t) : Keeps s t := by
  unfold execJrRebuild at h
  injection h with h
  subst h
  try dsimp only
  repeat' (first | with_reducible assumption | with_reducible exact keeps_refl _ | with_reducible apply requestWrite_keeps | with_reducible apply jrRebuildEffect_keeps | intro _)

theorem tellDropped_keeps  {s0 s : State} (hk : Keeps s0 s) : Keeps s0 (tellDropped s) := by
  unfold tellDropped
  try dsimp only
  repeat' (first | with_reducible assumption | with_reducible apply fault_keeps | with_reducible apply keeps_ite | split | simp only [keeps_upd_iff] | intro _)

theorem copyBank_keeps (b : Nat) {s0 s : State} (hk : Keeps s0 s) : Keeps s0 (copyBank b s) := by
  unfold copyBank
  try dsimp only
  repeat' (first | with_reducible assumption | with_reducible apply markBank_keeps | with_reducible apply keeps_ite | split | simp only [keeps_upd_iff] | intro _)

theorem execRebuildComplete_keeps  {s t : State} (h : execRebuildComplete s = .next t) : Keeps s t := by
  unfold execRebuildComplete at h
  injection h with h
  subst h
  try dsimp only
  repeat' (first | with_reducible assumption | with_reducible exact keeps_refl _ | with_reducible apply copyBank_keeps | with_reducible apply startFlush_keeps | with_reducible apply tellDropped_keeps | with_reducible apply fault_keeps | with_reducible apply State_set_keeps | with_reducible apply keeps_ite | split | simp only [keeps_upd_iff] | intro _)

theorem sendTo_keeps (code : Nat) (dest : Nat) (nums : List Int) {s0 s : State} (hk : Keeps s0 s) : Keeps s0 (sendTo code dest nums s) := by
  unfold sendTo
  try dsimp only
  repeat' (first | with_reducible assumption | with_reducible apply State_emit_keeps | intro _)

theorem routeOn_keeps (code : Nat) (m : TxMsg) {s0 s : State} (hk : Keeps s0 s) : Keeps s0 (routeOn code m s) := by
  unfold routeOn
  try dsimp only
  repeat' (first | with_reducible assumption | with_reducible apply fault_keeps | with_reducible apply State_emit_keeps | with_reducible apply keeps_ite | split | intro _)

theorem takeControl_keeps (code : Nat) (m : TxMsg) (act : State → State) {s0 s : State} (hk : Keeps s0 s) (hf : ∀ s, Keeps s0 s → Keeps s0 (act s)) : Keeps s0 (takeControl code m act s) := by
  unfold takeControl
  try dsimp only
  repeat' (first | with_reducible assumption | refine hf  _ ?_ | with_reducible apply routeOn_keeps | with_reducible apply keeps_ite | split | intro _)

theorem closeSlot_keeps (i : Nat) (outcome : Nat) (t : Tx) {s0 s : State} (hk : Keeps s0 s) : Keeps s0 (closeSlot i outcome t s) := by
  unfold closeSlot
  try dsimp only
  repeat' (first | with_reducible assumption | with_reducible apply writeRec_keeps | with_reducible apply setSlot_keeps | with_reducible apply answerAbort_keeps | with_reducible apply answerCommit_keeps | with_reducible apply State_inc_keeps | with_reducible apply keeps_ite | split | simp only [keeps_upd_iff] | intro _)

theorem reopenSlot_keeps (i : Nat) (t : Tx) (code : Nat) (key : Nat) {s0 s : State} (hk : Keeps s0 s) : Keeps s0 (reopenSlot i t code key s) := by
  unfold reopenSlot
  try dsimp only
  repeat' (first | with_reducible assumption | with_reducible apply writeRec_keeps | with_reducible apply refuseSlot_keeps | with_reducible apply setSlot_keeps | with_reducible apply keeps_ite | split | simp only [keeps_upd_iff] | intro _)

theorem commitSlot_keeps (i : Nat) (t : Tx) {s0 s : State} (hk : Keeps s0 s) : Keeps s0 (commitSlot i t s) := by
  unfold commitSlot
  try dsimp only
  repeat' (first | with_reducible assumption | with_reducible apply armCommit_keeps | with_reducible apply setSlot_keeps | with_reducible apply writeRec_keeps | with_reducible apply keeps_ite | split | simp only [keeps_upd_iff] | intro _)

theorem takeDecision_keeps (m : TxMsg) {s0 s : State} (hk : Keeps s0 s) : Keeps s0 (takeDecision m s) := by
  unfold takeDecision
  try dsimp only
  repeat' (first | with_reducible assumption | with_reducible apply sendTo_keeps | with_reducible apply commitSlot_keeps | with_reducible apply reopenSlot_keeps | with_reducible apply closeSlot_keeps | with_reducible apply State_set_keeps | with_reducible apply keeps_ite | split | simp only [keeps_upd_iff] | intro _)

theorem putSys_keeps (x : SysTx) (y : SysTx) {s0 s : State} (hk : Keeps s0 s) : Keeps s0 (putSys x y s) := by
  unfold putSys
  try dsimp only
  repeat' (first | with_reducible assumption | with_reducible apply keeps_ite | split | simp only [keeps_upd_iff] | intro _)

theorem dropSys_keeps (x : SysTx) {s0 s : State} (hk : Keeps s0 s) : Keeps s0 (dropSys x s) := by
  unfold dropSys
  try dsimp only
  repeat' (first | with_reducible assumption | simp only [keeps_upd_iff] | intro _)

theorem decideSys_keeps (x : SysTx) (outcome : Nat) (reason : Nat) (object : Nat) (noAddr : Nat) {s0 s : State} (hk : Keeps s0 s) : Keeps s0 (decideSys x outcome reason object noAddr s) := by
  unfold decideSys
  try dsimp only
  repeat' (first | with_reducible assumption | with_reducible apply writeRec_keeps | with_reducible apply putSys_keeps | with_reducible apply State_set_keeps | with_reducible apply keeps_ite | split | simp only [keeps_upd_iff] | intro _)

theorem takeVote_keeps (m : TxMsg) {s0 s : State} (hk : Keeps s0 s) : Keeps s0 (takeVote m s) := by
  unfold takeVote
  try dsimp only
  repeat' (first | with_reducible assumption | with_reducible apply decideSys_keeps | with_reducible apply putSys_keeps | with_reducible apply keeps_ite | split | simp only [keeps_upd_iff] | intro _)

theorem castVote_keeps (arg : Nat) (sysId : Nat) (sysSeq : Nat) (reason : Nat) (object : Nat) {s0 s : State} (hk : Keeps s0 s) : Keeps s0 (castVote arg sysId sysSeq reason object s) := by
  unfold castVote
  try dsimp only
  repeat' (first | with_reducible assumption | with_reducible apply takeVote_keeps | with_reducible apply sendTo_keeps | with_reducible apply keeps_ite | split | intro _)

theorem takePrepare_keeps (sysId : Nat) (sysSeq : Nat) (launch : Nat) {s0 s : State} (hk : Keeps s0 s) : Keeps s0 (takePrepare sysId sysSeq launch s) := by
  unfold takePrepare
  try dsimp only
  repeat' (first | with_reducible assumption | with_reducible apply castVote_keeps | with_reducible apply setSlot_keeps | with_reducible apply writeRec_keeps | with_reducible apply keeps_ite | split | simp only [keeps_upd_iff] | intro _)

theorem startVote_keeps (x : SysTx) {s0 s : State} (hk : Keeps s0 s) : Keeps s0 (startVote x s) := by
  unfold startVote
  try dsimp only
  repeat' (first | with_reducible assumption | with_reducible apply takeDecision_keeps | with_reducible apply sendDown_keeps | with_reducible apply dropSys_keeps | with_reducible apply putSys_keeps | with_reducible apply takePrepare_keeps | with_reducible apply State_set_keeps | with_reducible refine forL_keeps (fun _ _ _ => ?_) ?_ | with_reducible apply keeps_ite | split | simp only [keeps_upd_iff] | intro _)

theorem showQueue_keeps  {s0 s : State} (hk : Keeps s0 s) : Keeps s0 (showQueue s) := by
  unfold showQueue
  try dsimp only
  repeat' (first | with_reducible assumption | with_reducible apply State_set_keeps | intro _)

theorem nextVote_keeps (n : Nat) {s0 s : State} (hk : Keeps s0 s) : Keeps s0 (nextVote n s) := by
  induction n generalizing s with
  | zero => exact showQueue_keeps hk
  | succ n ih =>
    unfold nextVote
    split
    · exact showQueue_keeps hk
    · split
      · exact ih (startVote_keeps _ hk)
      · exact showQueue_keeps hk

theorem queueRequest_keeps (m : TxMsg) {s0 s : State} (hk : Keeps s0 s) : Keeps s0 (queueRequest m s) := by
  unfold queueRequest
  try dsimp only
  repeat' (first | with_reducible assumption | with_reducible apply takeDecision_keeps | with_reducible apply sendDown_keeps | with_reducible apply keeps_ite | split | simp only [keeps_upd_iff] | intro _)

theorem gatherParts_keeps (m : TxMsg) {s0 s : State} (hk : Keeps s0 s) : Keeps s0 (gatherParts m s) := by
  unfold gatherParts
  try dsimp only
  repeat' (first | with_reducible assumption | with_reducible apply putSys_keeps | with_reducible apply keeps_ite | split | simp only [keeps_upd_iff] | intro _)

theorem markParts_keeps (m : TxMsg) {s0 s : State} (hk : Keeps s0 s) : Keeps s0 (markParts m s) := by
  unfold markParts
  try dsimp only
  repeat' (first | with_reducible assumption | with_reducible apply sendDown_keeps | with_reducible apply keeps_ite | split | simp only [keeps_upd_iff] | intro _)

theorem commitSystem_keeps (i : Nat) (t : Tx) (f : Frame) (requested : Option Nat) {s0 s : State} (hk : Keeps s0 s) : Keeps s0 (commitSystem i t f requested s).st := by
  unfold commitSystem
  try dsimp only
  repeat' (first | with_reducible assumption | with_reducible apply setSlot_keeps | with_reducible apply queueRequest_keeps | with_reducible apply nextVote_keeps | with_reducible apply gatherParts_keeps | with_reducible apply sendTo_keeps | with_reducible refine forL_keeps (fun _ _ _ => ?_) ?_ | with_reducible apply keeps_ite_st | split | simp only [keeps_upd_iff] | intro _)

theorem takeAbort_keeps (sysId : Nat) (sysSeq : Nat) {s0 s : State} (hk : Keeps s0 s) : Keeps s0 (takeAbort sysId sysSeq s) := by
  unfold takeAbort
  try dsimp only
  repeat' (first | with_reducible assumption | with_reducible apply takeDecision_keeps | with_reducible apply sendDown_keeps | with_reducible apply dropSys_keeps | with_reducible apply decideSys_keeps | with_reducible apply putSys_keeps | with_reducible apply keeps_ite | split | simp only [keeps_upd_iff] | intro _)

theorem abortSystem_keeps (i : Nat) (t : Tx) (f : Frame) {s0 s : State} (hk : Keeps s0 s) : Keeps s0 (abortSystem i t f s).st := by
  unfold abortSystem
  try dsimp only
  repeat' (first | with_reducible assumption | with_reducible apply setSlot_keeps | with_reducible apply nextVote_keeps | with_reducible apply takeAbort_keeps | with_reducible apply sendTo_keeps | with_reducible apply keeps_ite_st | split | simp only [keeps_upd_iff] | intro _)

theorem takeAck_keeps (origin : Nat) (sysId : Nat) (sysSeq : Nat) {s0 s : State} (hk : Keeps s0 s) : Keeps s0 (takeAck origin sysId sysSeq s) := by
  unfold takeAck
  try dsimp only
  repeat' (first | with_reducible assumption | with_reducible apply putSys_keeps | with_reducible apply writeRec_keeps | with_reducible apply keeps_ite | split | simp only [keeps_upd_iff] | intro _)

theorem sendAck_keeps (sysId : Nat) (sysSeq : Nat) {s0 s : State} (hk : Keeps s0 s) : Keeps s0 (sendAck sysId sysSeq s) := by
  unfold sendAck
  try dsimp only
  repeat' (first | with_reducible assumption | with_reducible apply takeAck_keeps | with_reducible apply sendTo_keeps | with_reducible apply keeps_ite | split | intro _)

theorem decided_keeps (r : JRec) {s0 s : State} (hk : Keeps s0 s) : Keeps s0 (decided r s) := by
  unfold decided
  try dsimp only
  repeat' (first | with_reducible assumption | with_reducible apply sendDown_keeps | with_reducible apply putSys_keeps | with_reducible apply dropSys_keeps | with_reducible apply nextVote_keeps | with_reducible apply takeDecision_keeps | with_reducible apply keeps_ite | split | simp only [keeps_upd_iff] | intro _)

theorem durableEffect_keeps (r : JRec) {s0 s : State} (hk : Keeps s0 s) : Keeps s0 (durableEffect r s) := by
  unfold durableEffect
  try dsimp only
  repeat' (first | with_reducible assumption | with_reducible apply acceptSlot_keeps | with_reducible apply castVote_keeps | with_reducible apply setSlot_keeps | with_reducible apply decided_keeps | with_reducible apply sendAck_keeps | with_reducible apply checkpointDurable_keeps | with_reducible apply dropSys_keeps | with_reducible apply keeps_ite | split | simp only [keeps_upd_iff] | intro _)

theorem lostEffect_keeps (r : JRec) {s0 s : State} (hk : Keeps s0 s) : Keeps s0 (lostEffect r s) := by
  unfold lostEffect
  try dsimp only
  repeat' (first | with_reducible assumption | with_reducible apply refuseSlot_keeps | with_reducible apply disarm_keeps | with_reducible apply castVote_keeps | with_reducible apply nextVote_keeps | with_reducible apply takeDecision_keeps | with_reducible apply sendDown_keeps | with_reducible apply dropSys_keeps | with_reducible apply acceptSlot_keeps | with_reducible apply keeps_ite | split | simp only [keeps_upd_iff] | intro _)

theorem execJournalRecordDurable_keeps (bad0 : Nat) (bad1 : Nat) {s t : State} (h : execJournalRecordDurable bad0 bad1 s = .next t) : Keeps s t := by
  unfold execJournalRecordDurable at h
  injection h with h
  subst h
  try dsimp only
  repeat' (first | with_reducible assumption | with_reducible exact keeps_refl _ | with_reducible apply writeChecks_keeps | with_reducible apply lostEffect_keeps | with_reducible apply durableEffect_keeps | with_reducible apply addRec_keeps | with_reducible apply keeps_ite | split | simp only [keeps_upd_iff] | intro _)

theorem execBranch_keeps (m : TxMsg) {s t : State} (h : execBranch m s = .next t) : Keeps s t := by
  unfold execBranch at h
  injection h with h
  subst h
  try dsimp only
  repeat' (first | with_reducible assumption | with_reducible exact keeps_refl _ | with_reducible refine takeControl_keeps _ _ _ ?_ (fun _ _ => ?_) | exact openTx_keeps (by assumption) (by first | assumption | exact keeps_refl _) | with_reducible apply keeps_ite | split | simp only [keeps_upd_iff] | intro _)

theorem execCommitReq_keeps (m : TxMsg) {s t : State} (h : execCommitReq m s = .next t) : Keeps s t := by
  unfold execCommitReq at h
  injection h with h
  subst h
  try dsimp only
  repeat' (first | with_reducible assumption | with_reducible exact keeps_refl _ | with_reducible apply nextVote_keeps | with_reducible apply queueRequest_keeps | with_reducible refine takeControl_keeps _ _ _ ?_ (fun _ _ => ?_) | with_reducible apply keeps_ite | split | intro _)

theorem execParts_keeps (m : TxMsg) {s t : State} (h : execParts m s = .next t) : Keeps s t := by
  unfold execParts at h
  injection h with h
  subst h
  try dsimp only
  repeat' (first | with_reducible assumption | with_reducible exact keeps_refl _ | with_reducible apply markParts_keeps | with_reducible apply nextVote_keeps | with_reducible apply gatherParts_keeps | with_reducible refine takeControl_keeps _ _ _ ?_ (fun _ _ => ?_) | with_reducible apply keeps_ite | split | intro _)

theorem execPrepare_keeps (m : TxMsg) {s t : State} (h : execPrepare m s = .next t) : Keeps s t := by
  unfold execPrepare at h
  injection h with h
  subst h
  try dsimp only
  repeat' (first | with_reducible assumption | with_reducible exact keeps_refl _ | with_reducible apply takePrepare_keeps | with_reducible apply sendDown_keeps | with_reducible apply keeps_ite | split | intro _)

theorem execVote_keeps (m : TxMsg) {s t : State} (h : execVote m s = .next t) : Keeps s t := by
  unfold execVote at h
  injection h with h
  subst h
  try dsimp only
  repeat' (first | with_reducible assumption | with_reducible exact keeps_refl _ | with_reducible apply takeVote_keeps | with_reducible refine takeControl_keeps _ _ _ ?_ (fun _ _ => ?_) | with_reducible apply keeps_ite | split | intro _)

theorem execVoteTimeout_keeps (id : Nat) {s t : State} (h : execVoteTimeout id s = .next t) : Keeps s t := by
  unfold execVoteTimeout at h
  injection h with h
  subst h
  try dsimp only
  repeat' (first | with_reducible assumption | with_reducible exact keeps_refl _ | with_reducible apply decideSys_keeps | with_reducible apply refuseSlot_keeps | with_reducible apply keeps_ite | split | simp only [keeps_upd_iff] | intro _)

theorem execDecide_keeps (m : TxMsg) {s t : State} (h : execDecide m s = .next t) : Keeps s t := by
  unfold execDecide at h
  injection h with h
  subst h
  try dsimp only
  repeat' (first | with_reducible assumption | with_reducible exact keeps_refl _ | with_reducible apply takeDecision_keeps | with_reducible apply sendDown_keeps | with_reducible refine takeControl_keeps _ _ _ ?_ (fun _ _ => ?_) | with_reducible apply keeps_ite | split | intro _)

theorem execAck_keeps (m : TxMsg) {s t : State} (h : execAck m s = .next t) : Keeps s t := by
  unfold execAck at h
  injection h with h
  subst h
  try dsimp only
  repeat' (first | with_reducible assumption | with_reducible exact keeps_refl _ | with_reducible apply takeAck_keeps | with_reducible refine takeControl_keeps _ _ _ ?_ (fun _ _ => ?_) | with_reducible apply keeps_ite | split | intro _)

theorem execQuery_keeps (m : TxMsg) {s t : State} (h : execQuery m s = .next t) : Keeps s t := by
  unfold execQuery at h
  injection h with h
  subst h
  try dsimp only
  repeat' (first | with_reducible assumption | with_reducible exact keeps_refl _ | with_reducible apply sendTo_keeps | with_reducible refine takeControl_keeps _ _ _ ?_ (fun _ _ => ?_) | with_reducible apply keeps_ite | split | intro _)

theorem execAbortReq_keeps (m : TxMsg) {s t : State} (h : execAbortReq m s = .next t) : Keeps s t := by
  unfold execAbortReq at h
  injection h with h
  subst h
  try dsimp only
  repeat' (first | with_reducible assumption | with_reducible exact keeps_refl _ | with_reducible apply nextVote_keeps | with_reducible apply takeAbort_keeps | with_reducible refine takeControl_keeps _ _ _ ?_ (fun _ _ => ?_) | with_reducible apply keeps_ite | split | intro _)

theorem execInDoubtTimeout_keeps (slot : Nat) {s t : State} (h : execInDoubtTimeout slot s = .next t) : Keeps s t := by
  unfold execInDoubtTimeout at h
  injection h with h
  subst h
  try dsimp only
  repeat' (first | with_reducible assumption | with_reducible exact keeps_refl _ | with_reducible apply setSlot_keeps | with_reducible apply State_sticky_keeps | with_reducible apply keeps_ite | split | simp only [keeps_upd_iff] | intro _)

theorem execInDoubtQueryTimer_keeps (slot : Nat) {s t : State} (h : execInDoubtQueryTimer slot s = .next t) : Keeps s t := by
  unfold execInDoubtQueryTimer at h
  injection h with h
  subst h
  try dsimp only
  repeat' (first | with_reducible assumption | with_reducible exact keeps_refl _ | with_reducible apply takeDecision_keeps | with_reducible apply sendTo_keeps | with_reducible apply keeps_ite | split | simp only [keeps_upd_iff] | intro _)

theorem resolveEffect_keeps (x1 : Who) (v : Val) {s0 s : State} (hk : Keeps s0 s) : Keeps s0 (resolveEffect x1 v s).st := by
  unfold resolveEffect
  try dsimp only
  repeat' (first | with_reducible assumption | with_reducible apply fault_keeps | with_reducible apply closeSlot_keeps | with_reducible apply Reply_no_keeps | with_reducible apply Reply_ok_keeps | with_reducible apply keeps_ite_st | split | simp only [keeps_upd_iff] | intro _)

theorem execTxSysResolve_keeps (f : Frame) {s t : State} (h : execTxSysResolve f s = .next t) : Keeps s t := by
  unfold execTxSysResolve at h
  injection h with h
  subst h
  try dsimp only
  repeat' (first | with_reducible assumption | with_reducible exact keeps_refl _ | with_reducible apply requestWrite_keeps | with_reducible apply resolveEffect_keeps | intro _)

theorem resetPort_keeps (cause : Nat) (p : Nat) {s0 s : State} (hk : Keeps s0 s) : Keeps s0 (resetPort cause p s) := by
  unfold resetPort
  try dsimp only
  repeat' (first | with_reducible assumption | with_reducible apply State_setPort_keeps | with_reducible apply State_set_keeps | with_reducible apply keeps_ite | split | simp only [keeps_upd_iff] | intro _)

theorem resetDies_keeps (cause : Nat) {s0 s : State} (hk : Keeps s0 s) : Keeps s0 (resetDies cause s) := by
  have h1 : Keeps s0 (s.incBy K.txAborts 32 ((openSlots s).length : Nat)) := State_incBy_keeps _ _ _ hk
  unfold resetDies
  dsimp only
  repeat' (first | with_reducible assumption | with_reducible apply raisePort_keeps | with_reducible apply resetPort_keeps | with_reducible apply State_setBit_keeps | with_reducible apply State_set_keeps | with_reducible refine forN_keeps (fun _ _ _ => ?_) ?_ | with_reducible refine forL_keeps (fun _ _ _ => ?_) ?_ | with_reducible apply keeps_ite | exact ⟨h1.1, fun c => ⟨Tab.wf_filter _ _ (h1.2 c).1, Tab.wf_filter _ _ (h1.2 c).2⟩⟩)

theorem flushNow_keeps  {s0 s : State} (hk : Keeps s0 s) : Keeps s0 (flushNow s) := by
  unfold flushNow
  try dsimp only
  repeat' (first | with_reducible assumption | with_reducible apply makeDurable_keeps | with_reducible apply placeRec_keeps | with_reducible apply flushMarks_keeps | with_reducible refine forL_keeps (fun _ _ _ => ?_) ?_ | with_reducible apply keeps_ite | split | simp only [keeps_upd_iff] | intro _)

theorem cutRecord_keeps  {s0 s : State} (hk : Keeps s0 s) : Keeps s0 (cutRecord s) := by
  unfold cutRecord
  try dsimp only
  repeat' (first | with_reducible assumption | with_reducible apply setSlot_keeps | with_reducible apply addRec_keeps | with_reducible apply State_drawn_keeps | with_reducible apply keeps_ite | split | simp only [keeps_upd_iff] | intro _)

theorem strike_keeps (cause : Nat) {s0 s : State} (hk : Keeps s0 s) : Keeps s0 (strike cause s) := by
  unfold strike
  try dsimp only
  repeat' (first | with_reducible assumption | with_reducible apply cutRecord_keeps | with_reducible apply flushNow_keeps | with_reducible apply resetDies_keeps | with_reducible apply State_sticky_keeps | with_reducible apply State_set_keeps | with_reducible apply keeps_ite | split | simp only [keeps_upd_iff] | intro _)

theorem execPorstNAssert_keeps  {s t : State} (h : execPorstNAssert s = .next t) : Keeps s t := by
  unfold execPorstNAssert at h
  injection h with h
  subst h
  try dsimp only
  repeat' (first | with_reducible assumption | with_reducible exact keeps_refl _ | with_reducible apply strike_keeps | with_reducible apply keeps_ite | split | simp only [keeps_upd_iff] | intro _)

theorem execWarmrstNAssert_keeps  {s t : State} (h : execWarmrstNAssert s = .next t) : Keeps s t := by
  unfold execWarmrstNAssert at h
  injection h with h
  subst h
  try dsimp only
  repeat' (first | with_reducible assumption | with_reducible exact keeps_refl _ | with_reducible apply strike_keeps | with_reducible apply hostReset_keeps | with_reducible apply State_inc_keeps | with_reducible apply keeps_ite | split | simp only [keeps_upd_iff] | intro _)

theorem execPowerOnResetAssert_keeps (all : Bool) {s t : State} (h : execPowerOnResetAssert all s = .next t) : Keeps s t := by
  unfold execPowerOnResetAssert at h
  injection h with h
  subst h
  try dsimp only
  repeat' (first | with_reducible assumption | with_reducible exact keeps_refl _ | with_reducible apply strike_keeps | with_reducible apply State_set_keeps | with_reducible apply keeps_ite | split | simp only [keeps_upd_iff] | intro _)

theorem startBoot_keeps  {s0 s : State} (hk : Keeps s0 s) : Keeps s0 (startBoot s) := by
  unfold startBoot
  try dsimp only
  repeat' (first | with_reducible assumption | with_reducible apply State_set_keeps | simp only [keeps_upd_iff] | intro _)

theorem execPowerOnResetRelease_keeps  {s t : State} (h : execPowerOnResetRelease s = .next t) : Keeps s t := by
  unfold execPowerOnResetRelease at h
  injection h with h
  subst h
  try dsimp only
  repeat' (first | with_reducible assumption | with_reducible exact keeps_refl _ | with_reducible apply startBoot_keeps | with_reducible apply State_inc_keeps | with_reducible apply State_sticky_keeps | with_reducible apply State_setBit_keeps | with_reducible refine forL_keeps (fun _ _ _ => ?_) ?_ | with_reducible apply keeps_ite | split | simp only [keeps_upd_iff] | intro _)

theorem execResetRelease_keeps (porst : Bool) {s t : State} (h : execResetRelease porst s = .next t) : Keeps s t := by
  unfold execResetRelease at h
  injection h with h
  subst h
  try dsimp only
  repeat' (first | with_reducible assumption | with_reducible exact keeps_refl _ | with_reducible apply startBoot_keeps | with_reducible apply keeps_ite | split | simp only [keeps_upd_iff] | intro _)

theorem latchChannel_keeps (c : Nat) {s0 s : State} (hk : Keeps s0 s) : Keeps s0 (latchChannel c s) := by
  unfold latchChannel
  try dsimp only
  repeat' (first | with_reducible assumption | with_reducible apply raiseCh_keeps | with_reducible apply raiseCause_keeps | with_reducible apply keeps_ite | split | intro _)

theorem restoreLatches_keeps  {s0 s : State} (hk : Keeps s0 s) : Keeps s0 (restoreLatches s) := by
  unfold restoreLatches
  try dsimp only
  repeat' (first | with_reducible assumption | with_reducible apply latchChannel_keeps | with_reducible apply raisePort_keeps | with_reducible apply State_set_keeps | with_reducible refine forN_keeps (fun _ _ _ => ?_) ?_ | with_reducible apply keeps_ite | split | intro _)

theorem startClocks_keeps (refclk : Bool) {s0 s : State} (hk : Keeps s0 s) : Keeps s0 (startClocks refclk s) := by
  unfold startClocks
  try dsimp only
  repeat' (first | with_reducible assumption | with_reducible apply raisePort_keeps | with_reducible apply fault_keeps | with_reducible apply State_set_keeps | with_reducible apply State_sticky_keeps | with_reducible refine forL_keeps (fun _ _ _ => ?_) ?_ | with_reducible refine forN_keeps (fun _ _ _ => ?_) ?_ | with_reducible apply keeps_ite | split | simp only [keeps_upd_iff] | intro _)

theorem runImage_keeps (n : Nat) (back : Bool) {s0 s : State} (hk : Keeps s0 s) : Keeps s0 (runImage n back s) := by
  unfold runImage
  try dsimp only
  repeat' (first | with_reducible assumption | with_reducible apply State_set_keeps | with_reducible apply keeps_ite | split | simp only [keeps_upd_iff] | intro _)

theorem loadImage_keeps (img : Image) {s0 s : State} (hk : Keeps s0 s) : Keeps s0 (loadImage img s) := by
  unfold loadImage
  try dsimp only
  repeat' (first | with_reducible assumption | with_reducible apply State_set_keeps | with_reducible apply State_setOct_keeps | with_reducible refine forL_keeps (fun _ _ _ => ?_) ?_ | simp only [keeps_upd_iff] | intro _)

theorem replayValue_keeps (again : Bool) (e : Nat × Val) {s0 s : State} (hk : Keeps s0 s) : Keeps s0 (replayValue again e s) := by
  unfold replayValue
  try dsimp only
  repeat' (first | with_reducible assumption | with_reducible apply armStaged_keeps | with_reducible apply State_setVal_keeps | with_reducible apply State_set_keeps | with_reducible apply keeps_ite | split | simp only [keeps_upd_iff] | intro _)

theorem raiseGen_keeps (n : Nat) (g : Nat) {s0 s : State} (hk : Keeps s0 s) : Keeps s0 (raiseGen n g s) := by
  unfold raiseGen
  try dsimp only
  repeat' (first | with_reducible assumption | simp only [keeps_upd_iff] | intro _)

theorem replayRec_keeps (img : Image) (marks : List (Nat × Nat)) (r : JRec) {s0 s : State} (hk : Keeps s0 s) : Keeps s0 (replayRec img marks r s) := by
  unfold replayRec
  try dsimp only
  repeat' (first | with_reducible assumption | with_reducible apply replayValue_keeps | with_reducible apply raiseGen_keeps | with_reducible apply State_setOct_keeps | with_reducible apply State_set_keeps | with_reducible refine forL_keeps (fun _ _ _ => ?_) ?_ | with_reducible apply keeps_ite | split | simp only [keeps_upd_iff] | intro _)

theorem settleMarks_keeps (marks : List (Nat × Nat)) {s0 s : State} (hk : Keeps s0 s) : Keeps s0 (settleMarks marks s) := by
  unfold settleMarks
  try dsimp only
  repeat' (first | with_reducible assumption | with_reducible apply State_set_keeps | with_reducible refine forL_keeps (fun _ _ _ => ?_) ?_ | with_reducible apply keeps_ite | split | intro _)

theorem doubtRec_keeps (ring : List JRec) (r : JRec) {s0 s : State} (hk : Keeps s0 s) : Keeps s0 (doubtRec ring r s) := by
  unfold doubtRec
  try dsimp only
  repeat' (first | with_reducible assumption | with_reducible apply setSlot_keeps | with_reducible apply State_sticky_keeps | with_reducible apply keeps_ite | split | intro _)

theorem owedRec_keeps (ring : List JRec) (r : JRec) {s0 s : State} (hk : Keeps s0 s) : Keeps s0 (owedRec ring r s) := by
  unfold owedRec
  try dsimp only
  repeat' (first | with_reducible assumption | with_reducible apply sendDown_keeps | with_reducible apply takeDecision_keeps | with_reducible apply keeps_ite | split | simp only [keeps_upd_iff] | intro _)

theorem orphanRec_keeps (ring : List JRec) (r : JRec) {s0 s : State} (hk : Keeps s0 s) : Keeps s0 (orphanRec ring r s) := by
  unfold orphanRec
  try dsimp only
  repeat' (first | with_reducible assumption | with_reducible apply decideSys_keeps | with_reducible apply keeps_ite | split | simp only [keeps_upd_iff] | intro _)

theorem settleFate_keeps (c : Nat) (f : Fate) {s0 s : State} (hk : Keeps s0 s) : Keeps s0 (settleFate c f s) := by
  unfold settleFate
  try dsimp only
  repeat' (first | with_reducible assumption | with_reducible apply addRec_keeps | with_reducible apply State_inc_keeps | with_reducible apply keeps_ite | split | simp only [keeps_upd_iff] | intro _)

theorem readRing_keeps  {s0 s : State} (hk : Keeps s0 s) : Keeps s0 (readRing s) := by
  unfold readRing
  try dsimp only
  repeat' (first | with_reducible assumption | with_reducible apply settleFate_keeps | with_reducible refine forL_keeps (fun _ _ _ => ?_) ?_ | intro _)

theorem keptLatest_keeps (ring : List JRec) {s0 s : State} (hk : Keeps s0 s) : Keeps s0 (keptLatest ring s) := by
  unfold keptLatest
  try dsimp only
  repeat' (first | with_reducible assumption | with_reducible apply setLatest_keeps | split | simp only [keeps_upd_iff] | intro _)

theorem countKept_keeps (r : JRec) {s0 s : State} (hk : Keeps s0 s) : Keeps s0 (countKept r s) := by
  unfold countKept
  try dsimp only
  repeat' (first | with_reducible assumption | with_reducible apply pushHistory_keeps | with_reducible apply State_set_keeps | with_reducible apply keeps_ite | split | intro _)

theorem replay_keeps  {s0 s : State} (hk : Keeps s0 s) : Keeps s0 (replay s) := by
  unfold replay
  try dsimp only
  repeat' (first | with_reducible assumption | with_reducible apply readRing_keeps | with_reducible apply keptLatest_keeps | with_reducible apply loadImage_keeps | with_reducible apply settleMarks_keeps | with_reducible apply countKept_keeps | with_reducible apply replayRec_keeps | with_reducible apply doubtRec_keeps | with_reducible apply orphanRec_keeps | with_reducible apply owedRec_keeps | with_reducible apply State_set_keeps | with_reducible refine forL_keeps (fun _ _ _ => ?_) ?_ | with_reducible apply keeps_ite | split | intro _)

theorem dropKey_keeps (k : Nat) {s0 s : State} (hk : Keeps s0 s) : Keeps s0 (dropKey k s) := by
  unfold dropKey
  try dsimp only
  repeat' (first | with_reducible assumption | with_reducible apply fault_keeps | with_reducible apply State_set_keeps | with_reducible apply State_setOct_keeps | with_reducible apply keeps_ite | split | intro _)

theorem restoreDomain_keeps (d : Nat) {s0 s : State} (hk : Keeps s0 s) : Keeps s0 (restoreDomain d s) := by
  unfold restoreDomain
  try dsimp only
  repeat' (first | with_reducible assumption | with_reducible apply putDomDue_keeps | with_reducible apply State_clrBit_keeps | with_reducible apply State_set_keeps | with_reducible apply keeps_ite | split | intro _)

theorem restoreChannel_keeps (c : Nat) {s0 s : State} (hk : Keeps s0 s) : Keeps s0 (restoreChannel c s) := by
  unfold restoreChannel
  try dsimp only
  repeat' (first | with_reducible assumption | with_reducible apply implyChannel_keeps | with_reducible apply startChannel_keeps | intro _)

theorem restorePort_keeps (p : Nat) {s0 s : State} (hk : Keeps s0 s) : Keeps s0 (restorePort p s) := by
  unfold restorePort
  try dsimp only
  repeat' (first | with_reducible assumption | with_reducible apply implyPort_keeps | with_reducible apply moveOn_keeps | split | simp only [keeps_upd_iff] | intro _)

theorem restoreFeed_keeps (f : Nat) {s0 s : State} (hk : Keeps s0 s) : Keeps s0 (restoreFeed f s) := by
  unfold restoreFeed
  try dsimp only
  repeat' (first | with_reducible assumption | with_reducible apply reviewRequired_keeps | with_reducible apply restoreRetries_keeps | with_reducible apply feedEnabled_keeps | with_reducible apply keeps_ite | split | intro _)

theorem restore_keeps (bad : List Nat) {s0 s : State} (hk : Keeps s0 s) : Keeps s0 (restore bad s) := by
  unfold restore
  try dsimp only
  repeat' (first | with_reducible assumption | with_reducible apply restoreDomain_keeps | with_reducible apply dropKey_keeps | with_reducible apply placeWalker_keeps | with_reducible apply placeAction_keeps | with_reducible apply showRefs_keeps | with_reducible apply placeAll_keeps | with_reducible apply restoreChannel_keeps | with_reducible apply restoreFeed_keeps | with_reducible apply restorePort_keeps | with_reducible apply restartObs_keeps | with_reducible apply tmRestart_keeps | with_reducible refine forL_keeps (fun _ _ _ => ?_) ?_ | with_reducible refine forN_keeps (fun _ _ _ => ?_) ?_ | with_reducible apply keeps_ite | split | simp only [keeps_upd_iff] | intro _)

theorem loseCaptures_keeps  {s0 s : State} (hk : Keeps s0 s) : Keeps s0 (loseCaptures s) := by
  unfold loseCaptures
  try dsimp only
  repeat' (first | with_reducible assumption | with_reducible apply fault_keeps | with_reducible apply State_incBy_keeps | with_reducible apply State_set_keeps | with_reducible apply keeps_ite | split | intro _)

theorem becomeReady_keeps  {s0 s : State} (hk : Keeps s0 s) : Keeps s0 (becomeReady s) := by
  unfold becomeReady
  try dsimp only
  repeat' (first | with_reducible assumption | with_reducible apply event_keeps | with_reducible apply loseCaptures_keeps | with_reducible apply State_set_keeps | with_reducible apply State_say_keeps | intro _)

theorem failBoot_keeps (readErr : Nat) {s0 s : State} (hk : Keeps s0 s) : Keeps s0 (failBoot readErr s) := by
  unfold failBoot
  try dsimp only
  repeat' (first | with_reducible assumption | with_reducible apply State_set_keeps | simp only [keeps_upd_iff] | intro _)

theorem toStage_keeps (n : Nat) {s0 s : State} (hk : Keeps s0 s) : Keeps s0 (toStage n s) := by
  unfold toStage
  try dsimp only
  repeat' (first | with_reducible assumption | with_reducible apply State_set_keeps | simp only [keeps_upd_iff] | intro _)

theorem execBootStageAdvance_keeps (refclk : Bool) (readErr : Nat) (bad : List Nat) {s t : State} (h : execBootStageAdvance refclk readErr bad s = .next t) : Keeps s t := by
  unfold execBootStageAdvance at h
  injection h with h
  subst h
  try dsimp only
  repeat' (first | with_reducible assumption | with_reducible exact keeps_refl _ | with_reducible apply toStage_keeps | with_reducible apply restoreLatches_keeps | with_reducible apply startClocks_keeps | with_reducible apply runImage_keeps | with_reducible apply failBoot_keeps | with_reducible apply replay_keeps | with_reducible apply becomeReady_keeps | with_reducible apply restore_keeps | with_reducible apply State_set_keeps | with_reducible apply keeps_ite | split | simp only [keeps_upd_iff] | intro _)

theorem execBootFailReport_keeps  {s t : State} (h : execBootFailReport s = .next t) : Keeps s t := by
  unfold execBootFailReport at h
  injection h with h
  subst h
  try dsimp only
  repeat' (first | with_reducible assumption | with_reducible exact keeps_refl _ | with_reducible apply State_say_keeps | with_reducible apply keeps_ite | split | simp only [keeps_upd_iff] | intro _)

theorem execPowerFail_keeps (cause : Nat) {s t : State} (h : execPowerFail cause s = .next t) : Keeps s t := by
  unfold execPowerFail at h
  injection h with h
  subst h
  try dsimp only
  repeat' (first | with_reducible assumption | with_reducible exact keeps_refl _ | with_reducible apply startFlush_keeps | with_reducible apply fault_keeps | with_reducible apply keeps_ite | split | simp only [keeps_upd_iff] | intro _)

theorem declareRepair_keeps (m : Nat) {s0 s : State} (hk : Keeps s0 s) : Keeps s0 (declareRepair m s) := by
  unfold declareRepair
  try dsimp only
  repeat' (first | with_reducible assumption | with_reducible apply eventPerm_keeps | with_reducible apply returnCheck_keeps | with_reducible apply State_drawn_keeps | with_reducible apply State_set_keeps | with_reducible apply State_setOct_keeps | with_reducible refine forN_keeps (fun _ _ _ => ?_) ?_ | with_reducible apply keeps_ite | split | intro _)

theorem repairEffect_keeps (w : Who) (x1 : Val) {s0 s : State} (hk : Keeps s0 s) : Keeps s0 (repairEffect w x1 s).st := by
  unfold repairEffect
  try dsimp only
  repeat' (first | with_reducible assumption | with_reducible apply declareRepair_keeps | with_reducible apply Reply_ok_keeps | intro _)

theorem execPdRepair_keeps (f : Frame) {s t : State} (h : execPdRepair f s = .next t) : Keeps s t := by
  unfold execPdRepair at h
  injection h with h
  subst h
  try dsimp only
  repeat' (first | with_reducible assumption | with_reducible exact keeps_refl _ | with_reducible apply requestWrite_keeps | with_reducible apply repairEffect_keeps | intro _)

theorem startSelfTest_keeps (word : Nat) (m : Nat) (console : Bool) {s0 s : State} (hk : Keeps s0 s) : Keeps s0 (startSelfTest word m console s) := by
  unfold startSelfTest
  try dsimp only
  repeat' (first | with_reducible assumption | with_reducible apply moveOn_keeps | with_reducible apply State_set_keeps | with_reducible apply keeps_ite | split | simp only [keeps_upd_iff] | intro _)

theorem stRunEffect_keeps (console : Bool) (w : Who) (v : Val) {s0 s : State} (hk : Keeps s0 s) : Keeps s0 (stRunEffect console w v s).st := by
  unfold stRunEffect
  try dsimp only
  repeat' (first | with_reducible assumption | with_reducible apply startSelfTest_keeps | with_reducible apply Reply_no_keeps | with_reducible apply Reply_ok_keeps | with_reducible apply keeps_ite_st | split | intro _)

theorem execStRun_keeps (f : Frame) {s t : State} (h : execStRun f s = .next t) : Keeps s t := by
  unfold execStRun at h
  injection h with h
  subst h
  try dsimp only
  repeat' (first | with_reducible assumption | with_reducible exact keeps_refl _ | with_reducible apply requestWrite_keeps | with_reducible apply stRunEffect_keeps | intro _)

theorem loopbackEffect_keeps (p : Nat) (w : Who) (x1 : Val) {s0 s : State} (hk : Keeps s0 s) : Keeps s0 (loopbackEffect p w x1 s).st := by
  unfold loopbackEffect
  try dsimp only
  repeat' (first | with_reducible assumption | with_reducible apply stRunEffect_keeps | intro _)

theorem execPortLoopbackTest_keeps (p : Nat) (f : Frame) {s t : State} (h : execPortLoopbackTest p f s = .next t) : Keeps s t := by
  unfold execPortLoopbackTest at h
  injection h with h
  subst h
  try dsimp only
  repeat' (first | with_reducible assumption | with_reducible exact keeps_refl _ | with_reducible apply requestWrite_keeps | with_reducible apply loopbackEffect_keeps | intro _)

theorem endTest_keeps (t : SelfTest) {s0 s : State} (hk : Keeps s0 s) : Keeps s0 (endTest t s) := by
  unfold endTest
  try dsimp only
  repeat' (first | with_reducible assumption | with_reducible apply freeHold_keeps | with_reducible apply leaveCal_keeps | with_reducible apply keeps_ite | split | simp only [keeps_upd_iff] | intro _)

theorem testRecord_keeps (t : SelfTest) (outcome : Nat) (step : Nat) {s0 s : State} (hk : Keeps s0 s) : Keeps s0 (testRecord t outcome step s) := by
  unfold testRecord
  try dsimp only
  repeat' (first | with_reducible assumption | with_reducible apply fault_keeps | with_reducible apply event_keeps | with_reducible apply keeps_ite | split | intro _)

theorem testLine_keeps (t : SelfTest) (step : Nat) {s0 s : State} (hk : Keeps s0 s) : Keeps s0 (testLine t step s) := by
  unfold testLine
  try dsimp only
  repeat' (first | with_reducible assumption | with_reducible apply State_say_keeps | with_reducible apply keeps_ite | split | intro _)

theorem execSelftestComplete_keeps (step : Nat) {s t : State} (h : execSelftestComplete step s = .next t) : Keeps s t := by
  unfold execSelftestComplete at h
  injection h with h
  subst h
  try dsimp only
  repeat' (first | with_reducible assumption | with_reducible exact keeps_refl _ | with_reducible apply testLine_keeps | with_reducible apply endTest_keeps | with_reducible apply testRecord_keeps | with_reducible apply State_inc_keeps | with_reducible apply Reply_late_keeps | with_reducible apply State_set_keeps | with_reducible apply keeps_ite | split | simp only [keeps_upd_iff] | intro _)

theorem stAbortEffect_keeps (x1 : Who) (v : Val) {s0 s : State} (hk : Keeps s0 s) : Keeps s0 (stAbortEffect x1 v s).st := by
  unfold stAbortEffect
  try dsimp only
  repeat' (first | with_reducible assumption | with_reducible apply endTest_keeps | with_reducible apply testRecord_keeps | with_reducible apply Reply_ok_keeps | with_reducible apply Reply_late_keeps | with_reducible apply State_set_keeps | with_reducible apply keeps_ite_st | split | simp only [keeps_upd_iff] | intro _)

theorem execStAbort_keeps (f : Frame) {s t : State} (h : execStAbort f s = .next t) : Keeps s t := by
  unfold execStAbort at h
  injection h with h
  subst h
  try dsimp only
  repeat' (first | with_reducible assumption | with_reducible exact keeps_refl _ | with_reducible apply requestWrite_keeps | with_reducible apply stAbortEffect_keeps | intro _)

theorem execBlinkCodeEnd_keeps  {s t : State} (h : execBlinkCodeEnd s = .next t) : Keeps s t := by
  unfold execBlinkCodeEnd at h
  injection h with h
  subst h
  try dsimp only
  repeat' (first | with_reducible assumption | with_reducible exact keeps_refl _ | with_reducible apply keeps_ite | split | simp only [keeps_upd_iff] | intro _)

theorem valueOf_keeps (flow k : Nat) {s0 s : State} (hk : Keeps s0 s) : Keeps s0 (valueOf flow k s).2 := by
  unfold valueOf
  split
  · split
    · exact State_drawn_keeps hk
    · exact hk
  · exact hk

theorem driveMeter_keeps (m : Nat) {s0 s : State} (hk : Keeps s0 s) : Keeps s0 (driveMeter m s) := by
  unfold driveMeter
  try dsimp only
  repeat' (first | with_reducible assumption | with_reducible apply valueOf_keeps | with_reducible apply State_set_keeps | with_reducible apply keeps_ite | split | simp only [keeps_upd_iff] | intro _)

theorem execMeterUpdate_keeps  {s t : State} (h : execMeterUpdate s = .next t) : Keeps s t := by
  unfold execMeterUpdate at h
  injection h with h
  subst h
  try dsimp only
  repeat' (first | with_reducible assumption | with_reducible exact keeps_refl _ | with_reducible apply driveMeter_keeps | with_reducible refine forN_keeps (fun _ _ _ => ?_) ?_ | intro _)

theorem execLedUpdate_keeps  {s t : State} (h : execLedUpdate s = .next t) : Keeps s t := by
  unfold execLedUpdate at h
  injection h with h
  subst h
  try dsimp only
  repeat' (first | with_reducible assumption | with_reducible exact keeps_refl _ | with_reducible apply State_set_keeps | with_reducible apply keeps_ite | split | intro _)

theorem State_setKey_keeps (k : Nat) (x : Key) {s0 s : State} (hk : Keeps s0 s) : Keeps s0 (State.setKey s k x) := by
  unfold State.setKey
  try dsimp only
  repeat' (first | with_reducible assumption | simp only [keeps_upd_iff] | intro _)

theorem readKey_keeps (k : Nat) (raw : Int) {s0 s : State} (hk : Keeps s0 s) : Keeps s0 (readKey k raw s) := by
  unfold readKey
  try dsimp only
  repeat' (first | with_reducible assumption | with_reducible apply State_setKey_keeps | with_reducible apply keeps_ite | split | simp only [keeps_upd_iff] | intro _)

theorem execKeyScan_keeps (raws : List Int) {s t : State} (h : execKeyScan raws s = .next t) : Keeps s t := by
  unfold execKeyScan at h
  injection h with h
  subst h
  try dsimp only
  repeat' (first | with_reducible assumption | with_reducible exact keeps_refl _ | with_reducible apply readKey_keeps | with_reducible refine forN_keeps (fun _ _ _ => ?_) ?_ | with_reducible apply keeps_ite | split | simp only [keeps_upd_iff] | intro _)

theorem execKeyPress_keeps (k : Nat) {s t : State} (h : execKeyPress k s = .next t) : Keeps s t := by
  unfold execKeyPress at h
  injection h with h
  subst h
  try dsimp only
  repeat' (first | with_reducible assumption | with_reducible exact keeps_refl _ | with_reducible apply State_setKey_keeps | with_reducible apply State_inc_keeps | with_reducible apply State_set_keeps | with_reducible apply keeps_ite | split | simp only [keeps_upd_iff] | intro _)

theorem execKeyStuck_keeps (k : Nat) {s t : State} (h : execKeyStuck k s = .next t) : Keeps s t := by
  unfold execKeyStuck at h
  injection h with h
  subst h
  try dsimp only
  repeat' (first | with_reducible assumption | with_reducible exact keeps_refl _ | with_reducible apply fault_keeps | with_reducible apply State_set_keeps | with_reducible apply keeps_ite | split | intro _)

theorem keyFunction_keeps (fn : Int) {s0 s : State} (hk : Keeps s0 s) : Keeps s0 (keyFunction fn s) := by
  unfold keyFunction
  try dsimp only
  repeat' (first | with_reducible assumption | with_reducible apply stRunEffect_keeps | with_reducible apply State_set_keeps | with_reducible apply keeps_ite | split | intro _)

theorem execKeyRelease_keeps (k : Nat) {s t : State} (h : execKeyRelease k s = .next t) : Keeps s t := by
  unfold execKeyRelease at h
  injection h with h
  subst h
  try dsimp only
  repeat' (first | with_reducible assumption | with_reducible exact keeps_refl _ | with_reducible apply keyFunction_keeps | with_reducible apply State_set_keeps | with_reducible apply keeps_ite | split | simp only [keeps_upd_iff] | intro _)

theorem holdFeed_keeps (f : Nat) {s0 s : State} (hk : Keeps s0 s) : Keeps s0 (holdFeed f s) := by
  unfold holdFeed
  try dsimp only
  repeat' (first | with_reducible assumption | with_reducible apply feedTo_keeps | with_reducible apply State_setFeed_keeps | with_reducible apply keeps_ite | split | simp only [keeps_upd_iff] | intro _)

theorem unholdFeed_keeps (f : Nat) {s0 s : State} (hk : Keeps s0 s) : Keeps s0 (unholdFeed f s) := by
  unfold unholdFeed
  try dsimp only
  repeat' (first | with_reducible assumption | with_reducible apply feedTo_keeps | with_reducible apply feedDetect_keeps | with_reducible apply State_setFeed_keeps | with_reducible apply keeps_ite | split | simp only [keeps_upd_iff] | intro _)

theorem countDown_keeps  {s0 s : State} (hk : Keeps s0 s) : Keeps s0 (countDown s) := by
  unfold countDown
  try dsimp only
  repeat' (first | with_reducible assumption | with_reducible apply State_set_keeps | intro _)

theorem startBanister_keeps (k : Nat) {s0 s : State} (hk : Keeps s0 s) : Keeps s0 (startBanister k s) := by
  unfold startBanister
  try dsimp only
  repeat' (first | with_reducible assumption | with_reducible apply holdFeed_keeps | with_reducible apply raisePort_keeps | with_reducible apply event_keeps | with_reducible apply countDown_keeps | with_reducible apply State_sticky_keeps | with_reducible apply State_inc_keeps | with_reducible apply State_set_keeps | with_reducible refine forN_keeps (fun _ _ _ => ?_) ?_ | intro _)

theorem endBanister_keeps (cause : Nat) {s0 s : State} (hk : Keeps s0 s) : Keeps s0 (endBanister cause s) := by
  unfold endBanister
  try dsimp only
  repeat' (first | with_reducible assumption | with_reducible apply unholdFeed_keeps | with_reducible apply releasePort_keeps | with_reducible apply event_keeps | with_reducible apply State_set_keeps | with_reducible refine forN_keeps (fun _ _ _ => ?_) ?_ | simp only [keeps_upd_iff] | intro _)

theorem execBanisterOn_keeps (k : Nat) {s t : State} (h : execBanisterOn k s = .next t) : Keeps s t := by
  unfold execBanisterOn at h
  injection h with h
  subst h
  try dsimp only
  repeat' (first | with_reducible assumption | with_reducible exact keeps_refl _ | with_reducible apply startBanister_keeps | with_reducible apply event_keeps | with_reducible apply countDown_keeps | with_reducible apply State_setKey_keeps | with_reducible apply keeps_ite | split | simp only [keeps_upd_iff] | intro _)

theorem execBanisterOff_keeps  {s t : State} (h : execBanisterOff s = .next t) : Keeps s t := by
  unfold execBanisterOff at h
  injection h with h
  subst h
  try dsimp only
  repeat' (first | with_reducible assumption | with_reducible exact keeps_refl _ | with_reducible apply endBanister_keeps | with_reducible apply State_setKey_keeps | with_reducible apply keeps_ite | split | simp only [keeps_upd_iff] | intro _)

theorem execBusParityError_keeps (d : Nat) {s t : State} (h : execBusParityError d s = .next t) : Keeps s t := by
  unfold execBusParityError at h
  injection h with h
  subst h
  try dsimp only
  repeat' (first | with_reducible assumption | with_reducible exact keeps_refl _ | with_reducible apply fault_keeps | with_reducible apply State_inc_keeps | with_reducible apply State_setBit_keeps | with_reducible apply keeps_ite | split | simp only [keeps_upd_iff] | intro _)

theorem execJtagInstruction_keeps (i : Jtag) {s t : State} (h : execJtagInstruction i s = .next t) : Keeps s t := by
  unfold execJtagInstruction at h
  injection h with h
  subst h
  try dsimp only
  repeat' (first | with_reducible assumption | with_reducible exact keeps_refl _ | simp only [keeps_upd_iff] | intro _)

theorem conLine_keeps (status : Nat) (nums : List Int) (octets : List Byte) {s0 s : State} (hk : Keeps s0 s) : Keeps s0 (conLine status nums octets s) := by
  unfold conLine
  try dsimp only
  repeat' (first | with_reducible assumption | with_reducible apply State_emit_keeps | with_reducible apply keeps_ite | split | intro _)

theorem conRequest_keeps (body : Who → State → Reply) {s0 s : State} (hk : Keeps s0 s) (hf : ∀ a0 s, Keeps s0 s → Keeps s0 (body a0 s).st) : Keeps s0 (conRequest s body) := by
  unfold conRequest
  try dsimp only
  repeat' (first | with_reducible assumption | refine hf _ _ ?_ | with_reducible apply conLine_keeps | with_reducible apply freeze_keeps | with_reducible apply takeToken_keeps | with_reducible apply State_say_keeps | with_reducible apply State_set_keeps | with_reducible apply State_setMaster_keeps | with_reducible apply keeps_ite | split | simp only [keeps_upd_iff] | intro _)

theorem conWrite_keeps (k : Nat) (b : List Byte) (w : Who) (act : Who → Val → State → Reply) {s0 s : State} (hk : Keeps s0 s) (hf : ∀ a0 a1 s, Keeps s0 s → Keeps s0 (act a0 a1 s).st) : Keeps s0 (conWrite k b w s act).st := by
  unfold conWrite
  try dsimp only
  repeat' (first | with_reducible assumption | refine hf _ _ _ ?_ | with_reducible apply examineWrite_keeps | intro _)

theorem plainWrite_keeps (k : Nat) (x1 : Who) (v : Val) {s0 s : State} (hk : Keeps s0 s) : Keeps s0 (plainWrite k x1 v s).st := by
  unfold plainWrite
  try dsimp only
  repeat' (first | with_reducible assumption | with_reducible apply Reply_ok_keeps | with_reducible apply State_setVal_keeps | intro _)

theorem Reply_shown_keeps  {s0 s : State} (hk : Keeps s0 s) : Keeps s0 (Reply.shown s).st := by
  unfold Reply.shown
  try dsimp only
  repeat' (first | with_reducible assumption | intro _)

theorem helpBody_keeps (x1 : Who) {s0 s : State} (hk : Keeps s0 s) : Keeps s0 (helpBody x1 s).st := by
  unfold helpBody
  try dsimp only
  repeat' (first | with_reducible assumption | with_reducible apply Reply_shown_keeps | with_reducible apply State_say_keeps | with_reducible refine forL_keeps (fun _ _ _ => ?_) ?_ | intro _)

theorem execHelp_keeps  {s t : State} (h : execHelp s = .next t) : Keeps s t := by
  unfold execHelp at h
  injection h with h
  subst h
  try dsimp only
  repeat' (first | with_reducible assumption | with_reducible exact keeps_refl _ | with_reducible apply conRequest_keeps | with_reducible apply helpBody_keeps | intro _)

theorem verBody_keeps (x1 : Who) {s0 s : State} (hk : Keeps s0 s) : Keeps s0 (verBody x1 s).st := by
  unfold verBody
  try dsimp only
  repeat' (first | with_reducible assumption | with_reducible apply conLine_keeps | with_reducible apply Reply_shown_keeps | intro _)

theorem execVer_keeps  {s t : State} (h : execVer s = .next t) : Keeps s t := by
  unfold execVer at h
  injection h with h
  subst h
  try dsimp only
  repeat' (first | with_reducible assumption | with_reducible exact keeps_refl _ | with_reducible apply conRequest_keeps | with_reducible apply verBody_keeps | intro _)

theorem stBody_keeps (x1 : Who) {s0 s : State} (hk : Keeps s0 s) : Keeps s0 (stBody x1 s).st := by
  unfold stBody
  try dsimp only
  repeat' (first | with_reducible assumption | with_reducible apply conLine_keeps | with_reducible apply Reply_shown_keeps | intro _)

theorem execSt_keeps  {s t : State} (h : execSt s = .next t) : Keeps s t := by
  unfold execSt at h
  injection h with h
  subst h
  try dsimp only
  repeat' (first | with_reducible assumption | with_reducible exact keeps_refl _ | with_reducible apply conRequest_keeps | with_reducible apply stBody_keeps | intro _)

theorem printAll_keeps (l : List Nat) (acc : List Int) {s0 s : State} (hk : Keeps s0 s) : Keeps s0 (printAll l acc s) := by
  induction l generalizing acc s with
  | nil => exact conLine_keeps _ _ _ hk
  | cons k l ih => exact ih _ (valueOf_keeps 2 k hk)

theorem portBody_keeps (p : Nat) (x1 : Who) {s0 s : State} (hk : Keeps s0 s) : Keeps s0 (portBody p x1 s).st := by
  unfold portBody
  try dsimp only
  repeat' (first | with_reducible assumption | with_reducible apply printAll_keeps | with_reducible apply Reply_no_keeps | with_reducible apply Reply_shown_keeps | with_reducible apply keeps_ite_st | split | intro _)

theorem execPort_keeps (p : Nat) {s t : State} (h : execPort p s = .next t) : Keeps s t := by
  unfold execPort at h
  injection h with h
  subst h
  try dsimp only
  repeat' (first | with_reducible assumption | with_reducible exact keeps_refl _ | with_reducible apply conRequest_keeps | with_reducible apply portBody_keeps | intro _)

theorem chBody_keeps (c : Nat) (x1 : Who) {s0 s : State} (hk : Keeps s0 s) : Keeps s0 (chBody c x1 s).st := by
  unfold chBody
  try dsimp only
  repeat' (first | with_reducible assumption | with_reducible apply printAll_keeps | with_reducible apply Reply_no_keeps | with_reducible apply Reply_shown_keeps | with_reducible apply keeps_ite_st | split | intro _)

theorem execCh_keeps (c : Nat) {s t : State} (h : execCh c s = .next t) : Keeps s t := by
  unfold execCh at h
  injection h with h
  subst h
  try dsimp only
  repeat' (first | with_reducible assumption | with_reducible exact keeps_refl _ | with_reducible apply conRequest_keeps | with_reducible apply chBody_keeps | intro _)

theorem logBody_keeps (n : Nat) (x1 : Who) {s0 s : State} (hk : Keeps s0 s) : Keeps s0 (logBody n x1 s).st := by
  unfold logBody
  try dsimp only
  repeat' (first | with_reducible assumption | with_reducible apply streamRec_keeps | with_reducible apply Reply_no_keeps | with_reducible apply Reply_shown_keeps | with_reducible apply State_say_keeps | with_reducible refine forL_keeps (fun _ _ _ => ?_) ?_ | with_reducible apply keeps_ite_st | split | intro _)

theorem execLog_keeps (n : Nat) {s t : State} (h : execLog n s = .next t) : Keeps s t := by
  unfold execLog at h
  injection h with h
  subst h
  try dsimp only
  repeat' (first | with_reducible assumption | with_reducible exact keeps_refl _ | with_reducible apply conRequest_keeps | with_reducible apply logBody_keeps | intro _)

theorem watchBody_keeps (k : Nat) (ms : Nat) (x1 : Who) {s0 s : State} (hk : Keeps s0 s) : Keeps s0 (watchBody k ms x1 s).st := by
  unfold watchBody
  try dsimp only
  repeat' (first | with_reducible assumption | with_reducible apply Reply_no_keeps | with_reducible apply Reply_ok_keeps | with_reducible apply keeps_ite_st | split | simp only [keeps_upd_iff] | intro _)

theorem execWatch_keeps (k : Nat) (ms : Nat) {s t : State} (h : execWatch k ms s = .next t) : Keeps s t := by
  unfold execWatch at h
  injection h with h
  subst h
  try dsimp only
  repeat' (first | with_reducible assumption | with_reducible exact keeps_refl _ | with_reducible apply conRequest_keeps | with_reducible apply watchBody_keeps | intro _)

theorem watchLine_keeps (k : Nat) {s0 s : State} (hk : Keeps s0 s) : Keeps s0 (watchLine k s) := by
  unfold watchLine
  try dsimp only
  repeat' (first | with_reducible assumption | with_reducible apply readLive_keeps | with_reducible apply conLine_keeps | split | simp only [keeps_upd_iff] | intro _)

theorem execWatchPrint_keeps  {s t : State} (h : execWatchPrint s = .next t) : Keeps s t := by
  unfold execWatchPrint at h
  injection h with h
  subst h
  try dsimp only
  repeat' (first | with_reducible assumption | with_reducible exact keeps_refl _ | with_reducible apply conRequest_keeps | with_reducible apply watchLine_keeps | with_reducible apply Reply_shown_keeps | with_reducible apply keeps_ite | split | simp only [keeps_upd_iff] | intro _)

theorem execWatchEnd_keeps  {s t : State} (h : execWatchEnd s = .next t) : Keeps s t := by
  unfold execWatchEnd at h
  injection h with h
  subst h
  try dsimp only
  repeat' (first | with_reducible assumption | with_reducible exact keeps_refl _ | simp only [keeps_upd_iff] | intro _)

theorem meterBody_keeps (m : Nat) (k : Nat) (scale : Int) (offset : Int) (w : Who) {s0 s : State} (hk : Keeps s0 s) : Keeps s0 (meterBody m k scale offset w s).st := by
  unfold meterBody
  try dsimp only
  repeat' (first | with_reducible assumption | with_reducible apply conWrite_keeps | with_reducible apply Reply_ok_keeps | with_reducible apply Reply_no_keeps | with_reducible apply State_set_keeps | with_reducible apply keeps_ite_st | split | intro _)

theorem execMeter_keeps (m : Nat) (k : Nat) (scale : Int) (offset : Int) {s t : State} (h : execMeter m k scale offset s = .next t) : Keeps s t := by
  unfold execMeter at h
  injection h with h
  subst h
  try dsimp only
  repeat' (first | with_reducible assumption | with_reducible exact keeps_refl _ | with_reducible apply conRequest_keeps | with_reducible apply meterBody_keeps | intro _)

theorem testBody_keeps (kind : Nat) (inst : Nat) (w : Who) {s0 s : State} (hk : Keeps s0 s) : Keeps s0 (testBody kind inst w s).st := by
  unfold testBody
  try dsimp only
  repeat' (first | with_reducible assumption | with_reducible apply conWrite_keeps | with_reducible apply stRunEffect_keeps | with_reducible apply Reply_shown_keeps | with_reducible apply keeps_ite_st | split | intro _)

theorem execTest_keeps (kind : Nat) (inst : Nat) {s t : State} (h : execTest kind inst s = .next t) : Keeps s t := by
  unfold execTest at h
  injection h with h
  subst h
  try dsimp only
  repeat' (first | with_reducible assumption | with_reducible exact keeps_refl _ | with_reducible apply conRequest_keeps | with_reducible apply testBody_keeps | intro _)

theorem testAbortBody_keeps (w : Who) {s0 s : State} (hk : Keeps s0 s) : Keeps s0 (testAbortBody w s).st := by
  unfold testAbortBody
  try dsimp only
  repeat' (first | with_reducible assumption | with_reducible apply conWrite_keeps | with_reducible apply stAbortEffect_keeps | intro _)

theorem execTestAbort_keeps  {s t : State} (h : execTestAbort s = .next t) : Keeps s t := by
  unfold execTestAbort at h
  injection h with h
  subst h
  try dsimp only
  repeat' (first | with_reducible assumption | with_reducible exact keeps_refl _ | with_reducible apply conRequest_keeps | with_reducible apply testAbortBody_keeps | intro _)

theorem unlockBody_keeps (l : Nat) (w : Who) {s0 s : State} (hk : Keeps s0 s) : Keeps s0 (unlockBody l w s).st := by
  unfold unlockBody
  try dsimp only
  repeat' (first | with_reducible assumption | with_reducible apply conWrite_keeps | with_reducible apply unlockEffect_keeps | with_reducible apply keeps_ite_st | split | intro _)

theorem execUnlock_keeps (l : Nat) {s t : State} (h : execUnlock l s = .next t) : Keeps s t := by
  unfold execUnlock at h
  injection h with h
  subst h
  try dsimp only
  repeat' (first | with_reducible assumption | with_reducible exact keeps_refl _ | with_reducible apply conRequest_keeps | with_reducible apply unlockBody_keeps | intro _)

theorem respBody_keeps (b : List Byte) (w : Who) {s0 s : State} (hk : Keeps s0 s) : Keeps s0 (respBody b w s).st := by
  unfold respBody
  try dsimp only
  repeat' (first | with_reducible assumption | with_reducible apply conWrite_keeps | with_reducible apply responseEffect_keeps | intro _)

theorem execResp_keeps (b : List Byte) {s t : State} (h : execResp b s = .next t) : Keeps s t := by
  unfold execResp at h
  injection h with h
  subst h
  try dsimp only
  repeat' (first | with_reducible assumption | with_reducible exact keeps_refl _ | with_reducible apply conRequest_keeps | with_reducible apply respBody_keeps | intro _)

theorem noteBody_keeps (b : List Byte) (w : Who) {s0 s : State} (hk : Keeps s0 s) : Keeps s0 (noteBody b w s).st := by
  unfold noteBody
  try dsimp only
  repeat' (first | with_reducible assumption | with_reducible apply conWrite_keeps | with_reducible apply plainWrite_keeps | intro _)

theorem execNote_keeps (b : List Byte) {s t : State} (h : execNote b s = .next t) : Keeps s t := by
  unfold execNote at h
  injection h with h
  subst h
  try dsimp only
  repeat' (first | with_reducible assumption | with_reducible exact keeps_refl _ | with_reducible apply conRequest_keeps | with_reducible apply noteBody_keeps | intro _)

theorem repairBody_keeps (w : Who) {s0 s : State} (hk : Keeps s0 s) : Keeps s0 (repairBody w s).st := by
  unfold repairBody
  try dsimp only
  repeat' (first | with_reducible assumption | with_reducible apply conWrite_keeps | with_reducible apply repairEffect_keeps | intro _)

theorem execRepair_keeps  {s t : State} (h : execRepair s = .next t) : Keeps s t := by
  unfold execRepair at h
  injection h with h
  subst h
  try dsimp only
  repeat' (first | with_reducible assumption | with_reducible exact keeps_refl _ | with_reducible apply conRequest_keeps | with_reducible apply repairBody_keeps | intro _)

theorem ledgerBody_keeps (x1 : Who) {s0 s : State} (hk : Keeps s0 s) : Keeps s0 (ledgerBody x1 s).st := by
  unfold ledgerBody
  try dsimp only
  repeat' (first | with_reducible assumption | with_reducible apply Reply_shown_keeps | with_reducible apply State_emit_keeps | with_reducible apply State_say_keeps | with_reducible refine forL_keeps (fun _ _ _ => ?_) ?_ | intro _)

theorem execLedger_keeps  {s t : State} (h : execLedger s = .next t) : Keeps s t := by
  unfold execLedger at h
  injection h with h
  subst h
  try dsimp only
  repeat' (first | with_reducible assumption | with_reducible exact keeps_refl _ | with_reducible apply conRequest_keeps | with_reducible apply ledgerBody_keeps | intro _)

theorem valueBody_keeps (w : Who) (f : Frame) {s0 s : State} (hk : Keeps s0 s) : Keeps s0 (valueBody w f s).st := by
  unfold valueBody
  try dsimp only
  repeat' (first | with_reducible assumption | with_reducible apply readLive_keeps | with_reducible apply Reply_no_keeps | with_reducible apply keeps_ite_st | split | simp only [keeps_upd_iff] | intro _)

theorem stagedBody_keeps (w : Who) (f : Frame) {s0 s : State} (hk : Keeps s0 s) : Keeps s0 (stagedBody w f s).st := by
  unfold stagedBody
  try dsimp only
  repeat' (first | with_reducible assumption | with_reducible apply Reply_no_keeps | with_reducible apply keeps_ite_st | split | simp only [keeps_upd_iff] | intro _)

theorem describeBody_keeps (x1 : Who) (f : Frame) {s0 s : State} (hk : Keeps s0 s) : Keeps s0 (describeBody x1 f s).st := by
  unfold describeBody
  try dsimp only
  repeat' (first | with_reducible assumption | with_reducible apply Reply_no_keeps | with_reducible apply keeps_ite_st | split | simp only [keeps_upd_iff] | intro _)

theorem readBody_keeps (w : Who) (f : Frame) {s0 s : State} (hk : Keeps s0 s) : Keeps s0 (readBody w f s).st := by
  unfold readBody
  try dsimp only
  repeat' (first | with_reducible assumption | with_reducible apply describeBody_keeps | with_reducible apply stagedBody_keeps | with_reducible apply valueBody_keeps | with_reducible apply keeps_ite_st | split | intro _)

theorem execRead_keeps (f : Frame) {s t : State} (h : execRead f s = .next t) : Keeps s t := by
  unfold execRead at h
  injection h with h
  subst h
  try dsimp only
  repeat' (first | with_reducible assumption | with_reducible exact keeps_refl _ | with_reducible apply request_keeps | with_reducible apply readBody_keeps | simp only [keeps_upd_iff] | intro _)

theorem execReadStaged_keeps (f : Frame) {s t : State} (h : execReadStaged f s = .next t) : Keeps s t := by
  unfold execReadStaged at h
  injection h with h
  subst h
  try dsimp only
  repeat' (first | with_reducible assumption | with_reducible exact keeps_refl _ | with_reducible apply request_keeps | with_reducible apply readBody_keeps | simp only [keeps_upd_iff] | intro _)

theorem execReadDescribe_keeps (f : Frame) {s t : State} (h : execReadDescribe f s = .next t) : Keeps s t := by
  unfold execReadDescribe at h
  injection h with h
  subst h
  try dsimp only
  repeat' (first | with_reducible assumption | with_reducible exact keeps_refl _ | with_reducible apply request_keeps | with_reducible apply readBody_keeps | simp only [keeps_upd_iff] | intro _)

theorem cmdEffect_keeps (k : Nat) (w : Who) (v : Val) {s0 s : State} (hk : Keeps s0 s) : Keeps s0 (cmdEffect k w v s).st := by
  unfold cmdEffect
  try dsimp only
  repeat' (first | with_reducible assumption | with_reducible apply canResetEffect_keeps | with_reducible apply unfreezeEffect_keeps | with_reducible apply adjustEffect_keeps | with_reducible apply retrainEffect_keeps | with_reducible apply snapLocalEffect_keeps | with_reducible apply snapSystemEffect_keeps | with_reducible apply dryRunEffect_keeps | with_reducible apply txOpenEffect_keeps | with_reducible apply jrRebuildEffect_keeps | with_reducible apply resolveEffect_keeps | with_reducible apply loopbackEffect_keeps | with_reducible apply calStartEffect_keeps | with_reducible apply calAbortEffect_keeps | with_reducible apply cxResetEffect_keeps | with_reducible apply hmClearEffect_keeps | with_reducible apply oscRestartNowEffect_keeps | with_reducible apply tmInjectEffect_keeps | with_reducible apply tmCalEffect_keeps | with_reducible apply tmOvrClearEffect_keeps | with_reducible apply accClearEffect_keeps | with_reducible apply trClearEffect_keeps | with_reducible apply peakClearEffect_keeps | with_reducible apply fdAbortEffect_keeps | with_reducible apply fdRestartEffect_keeps | with_reducible apply thLearnEffect_keeps | with_reducible apply fltClearEffect_keeps | with_reducible apply fltClearAllEffect_keeps | with_reducible apply stickyClearEffect_keeps | with_reducible apply recFlushEffect_keeps | with_reducible apply galArmEffect_keeps | with_reducible apply galTriggerEffect_keeps | with_reducible apply galAbortEffect_keeps | with_reducible apply galReleaseEffect_keeps | with_reducible apply galFormatEffect_keeps | with_reducible apply dmaRunEffect_keeps | with_reducible apply rootInstallEffect_keeps | with_reducible apply credInstallEffect_keeps | with_reducible apply unlockEffect_keeps | with_reducible apply responseEffect_keeps | with_reducible apply permitInstallEffect_keeps | with_reducible apply revokeEffect_keeps | with_reducible apply fwWriteEffect_keeps | with_reducible apply fwCommitEffect_keeps | with_reducible apply fwConfirmEffect_keeps | with_reducible apply repairEffect_keeps | with_reducible apply stRunEffect_keeps | with_reducible apply stAbortEffect_keeps | with_reducible apply Reply_ok_keeps | with_reducible apply keeps_ite_st | split | intro _)

theorem settingEffect_keeps (k : Nat) (w : Who) (v : Val) {s0 s : State} (hk : Keeps s0 s) : Keeps s0 (settingEffect k w v s).st := by
  unfold settingEffect
  try dsimp only
  repeat' (first | with_reducible assumption | with_reducible apply todEffect_keeps | with_reducible apply priorityEffect_keeps | with_reducible apply keepTokens_keeps | with_reducible apply Reply_no_keeps | with_reducible apply Reply_ok_keeps | with_reducible apply State_setMaster_keeps | with_reducible apply State_setVal_keeps | with_reducible apply keeps_ite_st | split | simp only [keeps_upd_iff] | intro _)

theorem writeAct_keeps (w : Who) (r : ObjRow) (k : Nat) (v : Val) {s0 s : State} (hk : Keeps s0 s) : Keeps s0 (writeAct w r k v s).st := by
  unfold writeAct
  try dsimp only
  repeat' (first | with_reducible assumption | with_reducible apply cmdEffect_keeps | with_reducible apply settingEffect_keeps | with_reducible apply keeps_ite_st | split | intro _)

theorem writeBody_keeps (w : Who) (f : Frame) {s0 s : State} (hk : Keeps s0 s) : Keeps s0 (writeBody w f s).st := by
  unfold writeBody
  try dsimp only
  repeat' (first | with_reducible assumption | with_reducible apply examineWrite_keeps | with_reducible apply writeAct_keeps | with_reducible apply Reply_no_keeps | with_reducible apply keeps_ite_st | split | intro _)

theorem execWrite_keeps (f : Frame) {s t : State} (h : execWrite f s = .next t) : Keeps s t := by
  unfold execWrite at h
  injection h with h
  subst h
  try dsimp only
  repeat' (first | with_reducible assumption | with_reducible exact keeps_refl _ | with_reducible apply request_keeps | with_reducible apply writeBody_keeps | intro _)

theorem stageAct_keeps (w : Who) (x1 : ObjRow) (k : Nat) (v : Val) {s0 s : State} (hk : Keeps s0 s) : Keeps s0 (stageAct w x1 k v s).st := by
  unfold stageAct
  try dsimp only
  repeat' (first | with_reducible assumption | with_reducible apply setSlot_keeps | with_reducible apply Reply_no_keeps | with_reducible apply Reply_ok_keeps | exact openTx_keeps (by assumption) hk | with_reducible apply keeps_ite_st | split | simp only [keeps_upd_iff] | intro _)

theorem stageBody_keeps (w : Who) (f : Frame) {s0 s : State} (hk : Keeps s0 s) : Keeps s0 (stageBody w f s).st := by
  unfold stageBody
  try dsimp only
  repeat' (first | with_reducible assumption | with_reducible apply examineWrite_keeps | with_reducible apply stageAct_keeps | intro _)

theorem execStage_keeps (f : Frame) {s t : State} (h : execStage f s = .next t) : Keeps s t := by
  unfold execStage at h
  injection h with h
  subst h
  try dsimp only
  repeat' (first | with_reducible assumption | with_reducible exact keeps_refl _ | with_reducible apply request_keeps | with_reducible apply stageBody_keeps | intro _)

theorem commitBody_keeps (w : Who) (f : Frame) {s0 s : State} (hk : Keeps s0 s) : Keeps s0 (commitBody w f s).st := by
  unfold commitBody
  try dsimp only
  repeat' (first | with_reducible assumption | with_reducible apply commitLocal_keeps | with_reducible apply commitSystem_keeps | with_reducible apply Reply_no_keeps | with_reducible apply keeps_ite_st | split | simp only [keeps_upd_iff] | intro _)

theorem execCommit_keeps (f : Frame) {s t : State} (h : execCommit f s = .next t) : Keeps s t := by
  unfold execCommit at h
  injection h with h
  subst h
  try dsimp only
  repeat' (first | with_reducible assumption | with_reducible exact keeps_refl _ | with_reducible apply request_keeps | with_reducible apply commitBody_keeps | intro _)

theorem abortBody_keeps (w : Who) (f : Frame) {s0 s : State} (hk : Keeps s0 s) : Keeps s0 (abortBody w f s).st := by
  unfold abortBody
  try dsimp only
  repeat' (first | with_reducible assumption | with_reducible apply abortSlot_keeps | with_reducible apply abortCommitting_keeps | with_reducible apply abortSystem_keeps | with_reducible apply Reply_no_keeps | with_reducible apply State_inc_keeps | with_reducible apply keeps_ite_st | split | simp only [keeps_upd_iff] | intro _)

theorem execAbort_keeps (f : Frame) {s t : State} (h : execAbort f s = .next t) : Keeps s t := by
  unfold execAbort at h
  injection h with h
  subst h
  try dsimp only
  repeat' (first | with_reducible assumption | with_reducible exact keeps_refl _ | with_reducible apply request_keeps | with_reducible apply abortBody_keeps | intro _)

theorem bodyOf_keeps (kind : Nat) (w : Who) (f : Frame) {s0 s : State} (hk : Keeps s0 s) : Keeps s0 (bodyOf kind w f s).st := by
  unfold bodyOf
  split
  · exact readBody_keeps _ _ hk
  · exact writeBody_keeps _ _ hk
  · exact stageBody_keeps _ _ hk
  · exact commitBody_keeps _ _ hk
  · exact abortBody_keeps _ _ hk

theorem takeSegment_keeps (g : SegFrame) {s0 s : State} (hk : Keeps s0 s) : Keeps s0 (takeSegment g s) := by
  unfold takeSegment
  try dsimp only
  repeat' (first | with_reducible assumption | with_reducible apply noSlot_keeps | with_reducible apply respond_keeps | with_reducible apply violate_keeps | with_reducible apply repeated_keeps | with_reducible apply markSeq_keeps | with_reducible apply finish_keeps | with_reducible apply bodyOf_keeps | with_reducible apply State_setMaster_keeps | (have hw := whoSends_keeps g.org hk; rw [‹whoSends _ _ = _›] at hw; exact hw) | with_reducible apply keeps_ite | split | simp only [keeps_upd_iff] | intro _)

theorem execSegment_keeps (g : SegFrame) {s t : State} (h : execSegment g s = .next t) : Keeps s t := by
  unfold execSegment at h
  injection h with h
  subst h
  try dsimp only
  repeat' (first | with_reducible assumption | with_reducible exact keeps_refl _ | with_reducible apply takeSegment_keeps | intro _)

theorem takeSlot_keeps (slot : Slot) {s0 s : State} (hk : Keeps s0 s) : Keeps s0 (takeSlot slot s) := by
  unfold takeSlot
  try dsimp only
  repeat' (first | with_reducible assumption | with_reducible apply takeSegment_keeps | with_reducible apply request_keeps | with_reducible apply bodyOf_keeps | with_reducible apply keeps_ite | split | simp only [keeps_upd_iff] | intro _)

theorem execMbReqProd_keeps (v : Nat) (slots : List Slot) {s t : State} (h : execMbReqProd v slots s = .next t) : Keeps s t := by
  unfold execMbReqProd at h
  injection h with h
  subst h
  try dsimp only
  repeat' (first | with_reducible assumption | with_reducible exact keeps_refl _ | with_reducible apply freeze_keeps | with_reducible apply takeSlot_keeps | with_reducible refine forL_keeps (fun _ _ _ => ?_) ?_ | with_reducible apply keeps_ite | split | simp only [keeps_upd_iff] | intro _)

theorem tunnelAnswer_keeps (om : Nat) (kind : Nat) (seq : Nat) (index : Nat) (sub : Nat) (status : Nat) (length : Nat) (payload : List Byte) {s0 s : State} (hk : Keeps s0 s) : Keeps s0 (tunnelAnswer om kind seq index sub status length payload s) := by
  unfold tunnelAnswer
  try dsimp only
  repeat' (first | with_reducible assumption | with_reducible apply freeze_keeps | with_reducible apply respond_keeps | with_reducible apply keeps_ite | split | simp only [keeps_upd_iff] | intro _)

theorem tunnelAnswerSegment_keeps (om : Nat) (seq : Nat) (more : Bool) (payload : List Byte) {s0 s : State} (hk : Keeps s0 s) : Keeps s0 (tunnelAnswerSegment om seq more payload s) := by
  unfold tunnelAnswerSegment
  try dsimp only
  repeat' (first | with_reducible assumption | with_reducible apply ringFrame_keeps | with_reducible apply State_emit_keeps | with_reducible apply keeps_ite | split | simp only [keeps_upd_iff] | intro _)

theorem takeTunnelled_keeps (link : Nat) (h : TunHdr) (b : List Byte) {s0 s : State} (hk : Keeps s0 s) : Keeps s0 (takeTunnelled link h b s) := by
  unfold takeTunnelled
  try dsimp only
  repeat' (first | with_reducible assumption | with_reducible apply tunnelAnswerSegment_keeps | with_reducible apply tunnelAnswer_keeps | with_reducible apply takeSegment_keeps | with_reducible apply request_keeps | with_reducible apply bodyOf_keeps | with_reducible apply keeps_ite | split | simp only [keeps_upd_iff] | intro _)

theorem forward_keeps (link : Nat) (h : TunHdr) (b : List Byte) {s0 s : State} (hk : Keeps s0 s) : Keeps s0 (forward link h b s) := by
  unfold forward
  try dsimp only
  repeat' (first | with_reducible assumption | with_reducible apply fault_keeps | with_reducible apply State_emit_keeps | with_reducible apply keeps_ite | split | simp only [keeps_upd_iff] | intro _)

theorem execTunnelForward_keeps (link : Nat) (x : TunFrame) {s t : State} (h : execTunnelForward link x s = .next t) : Keeps s t := by
  unfold execTunnelForward at h
  injection h with h
  subst h
  try dsimp only
  repeat' (first | with_reducible assumption | with_reducible exact keeps_refl _ | with_reducible apply freeze_keeps | with_reducible apply takeTunnelled_keeps | with_reducible apply forward_keeps | with_reducible apply respond_keeps | with_reducible apply takeToken_keeps | with_reducible apply keeps_ite | split | intro _)

theorem execTunnelLevelResponse_keeps (r : TunLevel) {s t : State} (h : execTunnelLevelResponse r s = .next t) : Keeps s t := by
  unfold execTunnelLevelResponse at h
  injection h with h
  subst h
  try dsimp only
  repeat' (first | with_reducible assumption | with_reducible exact keeps_refl _ | with_reducible apply tunnelAnswer_keeps | with_reducible apply keeps_ite | split | intro _)

theorem readLine_keeps (f : Frame) (w : Who) {s0 s : State} (hk : Keeps s0 s) : Keeps s0 (readLine f w s).st := by
  unfold readLine
  try dsimp only
  repeat' (first | with_reducible assumption | with_reducible apply readBody_keeps | with_reducible apply Reply_shown_keeps | with_reducible apply State_emit_keeps | with_reducible apply State_say_keeps | with_reducible refine forL_keeps (fun _ _ _ => ?_) ?_ | with_reducible apply keeps_ite_st | split | simp only [keeps_upd_iff] | intro _)

theorem beyondType_keeps (kind : Nat) (f : Frame) (w : Who) {s0 s : State} (hk : Keeps s0 s) : Keeps s0 (beyondType kind f w s).st := by
  unfold beyondType
  try dsimp only
  repeat' (first | with_reducible assumption | with_reducible apply examineWrite_keeps | with_reducible apply Reply_no_keeps | with_reducible apply Reply_ok_keeps | with_reducible apply keeps_ite_st | split | simp only [keeps_upd_iff] | intro _)

/-- A line body leaves the queue and the tables' form alone. -/
def BodyKeeps (b : LineBody) : Prop := ∀ (w : Who) (s0 s : State), Keeps s0 s → Keeps s0 (b w s).st

theorem writeLine_keeps (kind index sub : Nat) (v : Option (List Byte)) : BodyKeeps (writeLine kind index sub v) := by
  intro w s0 s hk
  unfold writeLine
  split
  · exact bodyOf_keeps _ _ _ hk
  · exact beyondType_keeps _ _ _ hk

theorem objLine_keeps {l : Chars} {k : Nat} {f : Nat → Nat → Option (Option Frame × LineBody)} {d : DictLine} (h : objLine l k f = some d)
    (hf : ∀ i j x, f i j = some x → BodyKeeps x.2) : BodyKeeps d.body := by
  unfold objLine at h
  split at h
  · cases h
  · cases h; intro w s0 s hk; exact hk
  · obtain ⟨x, hx, rfl⟩ := Option.map_eq_some_iff.1 h
    exact hf _ _ _ hx

theorem dictLine_keeps {l : Chars} {octs : Option (List Byte)} {d : DictLine} (h : dictLine l octs = some d) : BodyKeeps d.body := by
  have hr : ∀ (a b : Bool) (i j : Nat) (x : Option Frame × LineBody), readForm a b i j = some x → BodyKeeps x.2 := by
    intro a b i j x hx
    cases hx; intro w s0 s hk; exact readLine_keeps _ _ hk
  have hw : ∀ (kind : Nat) (o : Option (List Byte)) (a : Chars) (i j : Nat) (x : Option Frame × LineBody), writeForm kind o a i j = some x → BodyKeeps x.2 := by
    intro kind o a i j x hx
    obtain ⟨v, _, rfl⟩ := Option.map_eq_some_iff.1 hx
    exact writeLine_keeps _ _ _ _
  unfold dictLine at h
  dsimp only at h
  split at h
  · exact objLine_keeps h (hr _ _)
  split at h
  · exact objLine_keeps h (hr _ _)
  split at h
  · exact objLine_keeps h (hr _ _)
  split at h
  · exact objLine_keeps h (hw _ _ _)
  split at h
  · exact objLine_keeps h (hw _ _ _)
  split at h
  · obtain ⟨t, _, rfl⟩ := Option.map_eq_some_iff.1 h
    intro w s0 s hk; exact commitBody_keeps _ _ hk
  split at h
  · cases h; intro w s0 s hk; exact abortBody_keeps _ _ hk
  · cases h

theorem meterLine_keeps (m k : Nat) (scale offset : Int) : BodyKeeps (meterLine m k scale offset) := by
  intro w s0 s hk
  unfold meterLine
  split
  · exact meterBody_keeps _ _ _ _ _ hk
  · exact hk

theorem serviceLine_keeps {l : Chars} {b : LineBody} (h : serviceLine l = some b) : BodyKeeps b := by
  have hm : ∀ (o : Option Nat) (f : Nat → LineBody), o.map f = some b → (∀ n, BodyKeeps (f n)) → BodyKeeps b := by
    intro o f ho hf
    cases o with
    | none => cases ho
    | some x => cases ho; exact hf _
  have ho : ∀ (o : Option (List Byte)) (f : List Byte → LineBody), o.map f = some b → (∀ n, BodyKeeps (f n)) → BodyKeeps b := by
    intro o f ho hf
    cases o with
    | none => cases ho
    | some x => cases ho; exact hf _
  unfold serviceLine at h
  dsimp only at h
  split at h
  · cases h; intro w s0 s hk; exact helpBody_keeps _ hk
  · cases h; intro w s0 s hk; exact verBody_keeps _ hk
  · cases h; intro w s0 s hk; exact stBody_keeps _ hk
  · cases h; intro w s0 s hk; exact repairBody_keeps _ hk
  · cases h; intro w s0 s hk; exact ledgerBody_keeps _ hk
  · exact hm _ _ h (fun n w s0 s hk => portBody_keeps _ _ hk)
  · exact hm _ _ h (fun n w s0 s hk => chBody_keeps _ _ hk)
  · exact hm _ _ h (fun n w s0 s hk => logBody_keeps _ _ hk)
  · obtain ⟨t, _, h⟩ := Option.bind_eq_some_iff.1 h
    obtain ⟨d, hd, rfl⟩ := Option.map_eq_some_iff.1 h
    refine objLine_keeps hd (fun i j b hb => ?_)
    cases hb; intro w s0 s hk; exact watchBody_keeps _ _ w hk
  · split at h
    · obtain ⟨d, hd, rfl⟩ := Option.map_eq_some_iff.1 h
      refine objLine_keeps hd (fun i j b hb => ?_)
      cases hb; exact meterLine_keeps _ _ _ _
    · cases h
  · split at h
    · cases h; intro w s0 s hk; exact testAbortBody_keeps _ hk
    · cases h
  · split at h
    · cases h
      intro w s0 s hk
      split
      · exact testBody_keeps _ _ _ hk
      · exact hk
    · cases h
  · refine hm _ _ h (fun n w s0 s hk => ?_)
    split
    · exact unlockBody_keeps _ _ hk
    · exact hk
  · exact ho _ _ h (fun n w s0 s hk => respBody_keeps _ _ hk)
  · exact ho _ _ h (fun n w s0 s hk => noteBody_keeps _ _ hk)
  · cases h

theorem branchFirst_keeps (addr : Nat) {s0 s : State} (hk : Keeps s0 s) : Keeps s0 (branchFirst addr s) := by
  unfold branchFirst
  try dsimp only
  repeat' (first | with_reducible assumption | with_reducible apply setSlot_keeps | with_reducible apply State_emit_keeps | with_reducible apply keeps_ite | split | simp only [keeps_upd_iff] | intro _)

theorem tunnelLine_keeps (addr : Nat) (d : DictLine) (hb : BodyKeeps d.body) : BodyKeeps (tunnelLine addr d) := by
  intro w s0 s hk
  unfold tunnelLine
  dsimp only
  split
  · exact hb _ _ _ hk
  · split
    · exact hb _ _ _ hk
    · refine forL_keeps (fun _ _ h => State_emit_keeps _ h) (State_drawn_keeps ?_)
      split
      · exact branchFirst_keeps _ hk
      · exact hk

theorem lineBody_keeps {l : Chars} {octs : Option (List Byte)} {b : LineBody} (h : lineBody l octs = some b) : BodyKeeps b := by
  unfold lineBody at h
  split at h
  · dsimp only at h
    split at h
    · split at h
      · cases h
        rename_i hd _
        exact tunnelLine_keeps _ _ (dictLine_keeps hd)
      · cases h
    · cases h
  · split at h
    · cases h
      rename_i hd
      exact dictLine_keeps hd
    · split at h
      · exact serviceLine_keeps h
      · cases h

theorem syntaxError_keeps  {s0 s : State} (hk : Keeps s0 s) : Keeps s0 (syntaxError s) := by
  unfold syntaxError
  try dsimp only
  repeat' (first | with_reducible assumption | with_reducible apply State_say_keeps | simp only [keeps_upd_iff] | intro _)

theorem runLine_keeps (l : Chars) (octs : Option (List Byte)) {s0 s : State} (hk : Keeps s0 s) : Keeps s0 (runLine l octs s) := by
  unfold runLine
  split
  · exact syntaxError_keeps hk
  · rename_i hb
    exact conRequest_keeps _ (keeps_upd_iff.2 hk) (fun w s hs => lineBody_keeps hb w _ _ hs)

theorem takeLine_keeps (l : Chars) {s0 s : State} (hk : Keeps s0 s) : Keeps s0 (takeLine l s) := by
  unfold takeLine
  try dsimp only
  repeat' (first | with_reducible assumption | with_reducible apply syntaxError_keeps | with_reducible apply runLine_keeps | with_reducible apply State_emit_keeps | with_reducible apply keeps_ite | split | simp only [keeps_upd_iff] | intro _)

theorem execConsoleLine_keeps (line : List Char) {s t : State} (h : execConsoleLine line s = .next t) : Keeps s t := by
  unfold execConsoleLine at h
  injection h with h
  subst h
  try dsimp only
  repeat' (first | with_reducible assumption | with_reducible exact keeps_refl _ | with_reducible apply takeLine_keeps | with_reducible apply keeps_ite | split | intro _)

theorem channelTick_keeps (c : Nat) {s0 s : State} (hk : Keeps s0 s) : Keeps s0 (channelTick c s) := by
  unfold channelTick
  try dsimp only
  repeat' (first | with_reducible assumption | with_reducible apply reviewNotches_keeps | with_reducible apply diverge_keeps | with_reducible apply State_setChan_keeps | with_reducible apply State_inc_keeps | with_reducible apply State_setPath_keeps | with_reducible apply keeps_ite | split | simp only [keeps_upd_iff] | intro _)

theorem channelsTick_keeps  {s0 s : State} (hk : Keeps s0 s) : Keeps s0 (channelsTick s) := by
  unfold channelsTick
  try dsimp only
  repeat' (first | with_reducible assumption | with_reducible apply channelTick_keeps | with_reducible refine forL_keeps (fun _ _ _ => ?_) ?_ | intro _)

theorem clockTick_keeps  {s0 s : State} (hk : Keeps s0 s) : Keeps s0 (clockTick s) := by
  unfold clockTick
  try dsimp only
  repeat' (first | with_reducible assumption | with_reducible apply State_set_keeps | with_reducible apply keeps_ite | split | intro _)

theorem idleTick_keeps  {s0 s : State} (hk : Keeps s0 s) : Keeps s0 (idleTick s) := by
  unfold idleTick
  try dsimp only
  repeat' (first | with_reducible assumption | with_reducible apply tmTick_keeps | with_reducible apply feedsTick_keeps | with_reducible apply railsTick_keeps | with_reducible apply leadsTick_keeps | with_reducible apply channelsTick_keeps | with_reducible apply dmaTick_keeps | with_reducible apply galleryTick_keeps | with_reducible apply pathTick_keeps | with_reducible apply paenTicks_keeps | with_reducible apply ppsTick_keeps | with_reducible apply clockTick_keeps | with_reducible apply tick_keeps | intro _)

/-- Each command keeps the queue and the canonical form. -/
theorem exec_keeps (c : Instr) {s t : State} (hx : exec c s = .next t) : Keeps s t := by
  cases c with
  | read f => exact execRead_keeps f hx
  | readStaged f => exact execReadStaged_keeps f hx
  | readDescribe f => exact execReadDescribe_keeps f hx
  | write f => exact execWrite_keeps f hx
  | stage f => exact execStage_keeps f hx
  | commit f => exact execCommit_keeps f hx
  | abort f => exact execAbort_keeps f hx
  | segment g => exact execSegment_keeps g hx
  | mrUnfreeze m f => exact execMrUnfreeze_keeps m f hx
  | dzCanaReset f => exact execDzCanaReset_keeps f hx
  | dzCanbReset f => exact execDzCanbReset_keeps f hx
  | canBusOffRecovery bus => exact execCanBusOffRecovery_keeps bus hx
  | canSlotRelease m => exact execCanSlotRelease_keeps m hx
  | canSettingApply => exact execCanSettingApply_keeps  hx
  | masterIdleRelock m => exact execMasterIdleRelock_keeps m hx
  | tokenRefill => exact execTokenRefill_keeps  hx
  | consoleLine line => exact execConsoleLine_keeps line hx
  | consoleOverrun => exact execConsoleOverrun_keeps  hx
  | consoleBreak ms => exact execConsoleBreak_keeps ms hx
  | tunnelForward link x => exact execTunnelForward_keeps link x hx
  | tunnelLevelResponse r => exact execTunnelLevelResponse_keeps r hx
  | refclkLoss src => exact execRefclkLoss_keeps src hx
  | refclkResume seen => exact execRefclkResume_keeps seen hx
  | sourceQualify src seen => exact execSourceQualify_keeps src seen hx
  | sourceDisqualify src seen => exact execSourceDisqualify_keeps src seen hx
  | sourceRevert src => exact execSourceRevert_keeps src hx
  | trackingLoopUpdate seen => exact execTrackingLoopUpdate_keeps seen hx
  | stepInstant => exact execStepInstant_keeps  hx
  | stepMuteRelease c => exact execStepMuteRelease_keeps c hx
  | holdoverExpired => exact execHoldoverExpired_keeps  hx
  | timebaseMuteRelease c => exact execTimebaseMuteRelease_keeps c hx
  | donorDetection metric start => exact execDonorDetection_keeps metric start hx
  | ppsEdge => exact execPpsEdge_keeps  hx
  | tbAdjust f => exact execTbAdjust_keeps f hx
  | linkSignalDetect l => exact execLinkSignalDetect_keeps l hx
  | linkAligned l => exact execLinkAligned_keeps l hx
  | linkAlignTimeout l => exact execLinkAlignTimeout_keeps l hx
  | linkRoleExchange l far => exact execLinkRoleExchange_keeps l far hx
  | linkMeasureDone l seen => exact execLinkMeasureDone_keeps l seen hx
  | linkErrorRetrain l => exact execLinkErrorRetrain_keeps l hx
  | stwRetrain l f => exact execStwRetrain_keeps l f hx
  | timeCell l c => exact execTimeCell_keeps l c hx
  | delayCell l c => exact execDelayCell_keeps l c hx
  | census parts subA subB dups => exact execCensus_keeps parts subA subB dups hx
  | stepAnnouncement at_ delta => exact execStepAnnouncement_keeps at_ delta hx
  | snapLocal f => exact execSnapLocal_keeps f hx
  | snapSystem f => exact execSnapSystem_keeps f hx
  | snapshotTrigger at_ => exact execSnapshotTrigger_keeps at_ hx
  | snapshotDue => exact execSnapshotDue_keeps  hx
  | portStateChange l => exact execPortStateChange_keeps l hx
  | channelEnable l => exact execChannelEnable_keeps l hx
  | channelMute l => exact execChannelMute_keeps l hx
  | gainHold l => exact execGainHold_keeps l hx
  | railSetPointSelect l => exact execRailSetPointSelect_keeps l hx
  | filterBankSwap l => exact execFilterBankSwap_keeps l hx
  | cancellerFreeze l => exact execCancellerFreeze_keeps l hx
  | dcBlockFreeze l => exact execDcBlockFreeze_keeps l hx
  | snapshot l => exact execSnapshot_keeps l hx
  | calibrationStart l => exact execCalibrationStart_keeps l hx
  | galleryTrigger l => exact execGalleryTrigger_keeps l hx
  | feedEnable l => exact execFeedEnable_keeps l hx
  | transactionCommit number => exact execTransactionCommit_keeps number hx
  | segmentBoundary p => exact execSegmentBoundary_keeps p hx
  | patternTransientEnd c => exact execPatternTransientEnd_keeps c hx
  | admDryRun f => exact execAdmDryRun_keeps f hx
  | txOpen f => exact execTxOpen_keeps f hx
  | txIdleAbort i0 => exact execTxIdleAbort_keeps i0 hx
  | journalRecordDurable bad0 bad1 => exact execJournalRecordDurable_keeps bad0 bad1 hx
  | execRecordWrite => exact execExecRecordWrite_keeps  hx
  | checkpoint => exact execCheckpoint_keeps  hx
  | jrRebuild f => exact execJrRebuild_keeps f hx
  | rebuildComplete => exact execRebuildComplete_keeps  hx
  | branch m => exact execBranch_keeps m hx
  | commitReq m => exact execCommitReq_keeps m hx
  | parts m => exact execParts_keeps m hx
  | prepare m => exact execPrepare_keeps m hx
  | vote m => exact execVote_keeps m hx
  | voteTimeout id => exact execVoteTimeout_keeps id hx
  | decide m => exact execDecide_keeps m hx
  | ack m => exact execAck_keeps m hx
  | query m => exact execQuery_keeps m hx
  | abortReq m => exact execAbortReq_keeps m hx
  | inDoubtTimeout slot => exact execInDoubtTimeout_keeps slot hx
  | inDoubtQueryTimer slot => exact execInDoubtQueryTimer_keeps slot hx
  | txSysResolve f => exact execTxSysResolve_keeps f hx
  | portTransitionDone p => exact execPortTransitionDone_keeps p hx
  | returnFeedWaitTimeout p => exact execReturnFeedWaitTimeout_keeps p hx
  | txWindowEnd p => exact execTxWindowEnd_keeps p hx
  | synthRetuneDone tx p => exact execSynthRetuneDone_keeps tx p hx
  | synthLockLoss tx p => exact execSynthLockLoss_keeps tx p hx
  | synthRelockDone tx p => exact execSynthRelockDone_keeps tx p hx
  | calStart p f => exact execCalStart_keeps p f hx
  | calAbort p f => exact execCalAbort_keeps p f hx
  | calPendingStart p => exact execCalPendingStart_keeps p hx
  | calPieceDone p => exact execCalPieceDone_keeps p hx
  | calComplete p pass loss image rxTemp txTemp => exact execCalComplete_keeps p pass loss image rxTemp txTemp hx
  | calOverdue p => exact execCalOverdue_keeps p hx
  | portLoopbackTest p f => exact execPortLoopbackTest_keeps p f hx
  | obsVisitEnd r m => exact execObsVisitEnd_keeps r m hx
  | settlingEnd c => exact execSettlingEnd_keeps c hx
  | fadeEnd sl => exact execFadeEnd_keeps sl hx
  | estimatorWindowEnd c w => exact execEstimatorWindowEnd_keeps c w hx
  | cancellerConverged c => exact execCancellerConverged_keeps c hx
  | marginExpired c => exact execMarginExpired_keeps c hx
  | demoWindowEnd c => exact execDemoWindowEnd_keeps c hx
  | cxReset c f => exact execCxReset_keeps c f hx
  | branchDeferredPlace c n => exact execBranchDeferredPlace_keeps c n hx
  | gainUpdate c m => exact execGainUpdate_keeps c m hx
  | rateApplication c => exact execRateApplication_keeps c hx
  | feTrip c => exact execFeTrip_keeps c hx
  | engineFallback => exact execEngineFallback_keeps  hx
  | engineFallbackExit => exact execEngineFallbackExit_keeps  hx
  | hawkmothTrip p cond => exact execHawkmothTrip_keeps p cond hx
  | hawkmothRelease p => exact execHawkmothRelease_keeps p hx
  | hmClear p f => exact execHmClear_keeps p f hx
  | muteNAssert => exact execMuteNAssert_keeps  hx
  | muteNRelease => exact execMuteNRelease_keeps  hx
  | oscillationTrip c => exact execOscillationTrip_keeps c hx
  | oscRestart c => exact execOscRestart_keeps c hx
  | oscRestartNow c f => exact execOscRestartNow_keeps c f hx
  | oscRestartsDecay c => exact execOscRestartsDecay_keeps c hx
  | noiseEvaluation c n count => exact execNoiseEvaluation_keeps c n count hx
  | noiseMuteRelease c => exact execNoiseMuteRelease_keeps c hx
  | emissionMuteRelease c => exact execEmissionMuteRelease_keeps c hx
  | tmOutput m seen seen2 => exact execTmOutput_keeps m seen seen2 hx
  | tmConversionEnd m => exact execTmConversionEnd_keeps m hx
  | tmOverrange m => exact execTmOverrange_keeps m hx
  | tmInject m f => exact execTmInject_keeps m f hx
  | tmCalZero m f => exact execTmCalZero_keeps m f hx
  | tmCalGain m f => exact execTmCalGain_keeps m f hx
  | tmCalRestore m f => exact execTmCalRestore_keeps m f hx
  | tmOvrClear m f => exact execTmOvrClear_keeps m f hx
  | accClear a f => exact execAccClear_keeps a f hx
  | trClear a f => exact execTrClear_keeps a f hx
  | vselAccept v => exact execVselAccept_keeps v hx
  | vselDeferredApply r => exact execVselDeferredApply_keeps r hx
  | railMoveEnd r => exact execRailMoveEnd_keeps r hx
  | railAutoShed r mean => exact execRailAutoShed_keeps r mean hx
  | phaseShedDone r k => exact execPhaseShedDone_keeps r k hx
  | keepoutReadd r => exact execKeepoutReadd_keeps r hx
  | loadStepReadd r => exact execLoadStepReadd_keeps r hx
  | phaseBalance r => exact execPhaseBalance_keeps r hx
  | railOnDelayEnd r sensed => exact execRailOnDelayEnd_keeps r sensed hx
  | railStart r => exact execRailStart_keeps r hx
  | railRampDone r => exact execRailRampDone_keeps r hx
  | railQualified r => exact execRailQualified_keeps r hx
  | railFaultCondition r cause => exact execRailFaultCondition_keeps r cause hx
  | railFaultClear r cause => exact execRailFaultClear_keeps r cause hx
  | railFaultTimerExpired r cause => exact execRailFaultTimerExpired_keeps r cause hx
  | railRetry r sensed => exact execRailRetry_keeps r sensed hx
  | railOffRampDone r => exact execRailOffRampDone_keeps r hx
  | remoteSenseFail r => exact execRemoteSenseFail_keeps r hx
  | phaseFail r k ipk => exact execPhaseFail_keeps r k ipk hx
  | railTelemetryUpdate r ipk peak => exact execRailTelemetryUpdate_keeps r ipk peak hx
  | rlPeakClear r f => exact execRlPeakClear_keeps r f hx
  | feedSignatureReading f mv => exact execFeedSignatureReading_keeps f mv hx
  | feedDetected f vin => exact execFeedDetected_keeps f vin hx
  | feedClassified f ma => exact execFeedClassified_keeps f ma hx
  | feedOn f => exact execFeedOn_keeps f hx
  | feedInrushTimeout f => exact execFeedInrushTimeout_keeps f hx
  | feedFault f cause => exact execFeedFault_keeps f cause hx
  | feedOcTimeout f => exact execFeedOcTimeout_keeps f hx
  | feedLoadRemoved f => exact execFeedLoadRemoved_keeps f hx
  | feedSoaUpdate f vin vout amps => exact execFeedSoaUpdate_keeps f vin vout amps hx
  | feedRetry f => exact execFeedRetry_keeps f hx
  | feedRetriesRestore f => exact execFeedRetriesRestore_keeps f hx
  | feedLeakSeal f => exact execFeedLeakSeal_keeps f hx
  | openCableRelease p => exact execOpenCableRelease_keeps p hx
  | fdAbort f fr => exact execFdAbort_keeps f fr hx
  | fdRestart f fr => exact execFdRestart_keeps f fr hx
  | thermalEvaluation raws => exact execThermalEvaluation_keeps raws hx
  | thermalGraceEnd => exact execThermalGraceEnd_keeps  hx
  | thermalShedStep => exact execThermalShedStep_keeps  hx
  | thermalRetreatStep => exact execThermalRetreatStep_keeps  hx
  | thermalSubstHoldEnd => exact execThermalSubstHoldEnd_keeps  hx
  | thLearn f => exact execThLearn_keeps f hx
  | faultMajorHoldEnd w => exact execFaultMajorHoldEnd_keeps w hx
  | fltClear f => exact execFltClear_keeps f hx
  | fltClearAll f => exact execFltClearAll_keeps f hx
  | fltStickyClear f => exact execFltStickyClear_keeps f hx
  | recFlushPeriodic => exact execRecFlushPeriodic_keeps  hx
  | recFlush f => exact execRecFlush_keeps f hx
  | recFlushDone bad0 bad1 => exact execRecFlushDone_keeps bad0 bad1 hx
  | recordEnterAfterWait => exact execRecordEnterAfterWait_keeps  hx
  | powerFail cause => exact execPowerFail_keeps cause hx
  | recRecord f => exact execRecRecord_keeps f hx
  | recPermRecord f => exact execRecPermRecord_keeps f hx
  | galArm f => exact execGalArm_keeps f hx
  | galTrigger f => exact execGalTrigger_keeps f hx
  | galAbort f => exact execGalAbort_keeps f hx
  | galRelease f => exact execGalRelease_keeps f hx
  | galFormat f => exact execGalFormat_keeps f hx
  | galleryPreFull => exact execGalleryPreFull_keeps  hx
  | galleryCaptureComplete => exact execGalleryCaptureComplete_keeps  hx
  | galleryDrainStart => exact execGalleryDrainStart_keeps  hx
  | galleryDrainDone => exact execGalleryDrainDone_keeps  hx
  | nvmeCommandFail opcode status n => exact execNvmeCommandFail_keeps opcode status n hx
  | nvmeSmartPoll => exact execNvmeSmartPoll_keeps  hx
  | pcieInterfaceReset down => exact execPcieInterfaceReset_keeps down hx
  | pcieConfigRequest bme => exact execPcieConfigRequest_keeps bme hx
  | mbReqProd v slots => exact execMbReqProd_keeps v slots hx
  | mbRspCons rsp ntf => exact execMbRspCons_keeps rsp ntf hx
  | irqCause i0 v => exact execIrqCause_keeps i0 v hx
  | mirrorRefresh => exact execMirrorRefresh_keeps  hx
  | dmaBlockWrite e seen rptr seen2 seen3 => exact execDmaBlockWrite_keeps e seen rptr seen2 seen3 hx
  | dmaRunStart e f => exact execDmaRunStart_keeps e f hx
  | dmaRunStop e f => exact execDmaRunStop_keeps e f hx
  | pcieLinkRetrain link => exact execPcieLinkRetrain_keeps link hx
  | busMasterDisable => exact execBusMasterDisable_keeps  hx
  | secRootInstall f => exact execSecRootInstall_keeps f hx
  | secCredInstall f => exact execSecCredInstall_keeps f hx
  | secUnlock f => exact execSecUnlock_keeps f hx
  | secResponse f => exact execSecResponse_keeps f hx
  | challengeExpire m => exact execChallengeExpire_keeps m hx
  | lockoutEnd => exact execLockoutEnd_keeps  hx
  | secPermitInstall f => exact execSecPermitInstall_keeps f hx
  | secRevoke f => exact execSecRevoke_keeps f hx
  | tamper cause offset => exact execTamper_keeps cause offset hx
  | secFwWrite f => exact execSecFwWrite_keeps f hx
  | secFwCommit f => exact execSecFwCommit_keeps f hx
  | secFwConfirm f => exact execSecFwConfirm_keeps f hx
  | powerOnResetRelease => exact execPowerOnResetRelease_keeps  hx
  | porstNAssert => exact execPorstNAssert_keeps  hx
  | warmrstNAssert => exact execWarmrstNAssert_keeps  hx
  | resetRelease porst => exact execResetRelease_keeps porst hx
  | bootStageAdvance refclk readErr bad => exact execBootStageAdvance_keeps refclk readErr bad hx
  | bootFailReport => exact execBootFailReport_keeps  hx
  | domainPowered d => exact execDomainPowered_keeps d hx
  | sliceCheck sl ok => exact execSliceCheck_keeps sl ok hx
  | pdRepair f => exact execPdRepair_keeps f hx
  | help => exact execHelp_keeps  hx
  | ver => exact execVer_keeps  hx
  | st => exact execSt_keeps  hx
  | port p => exact execPort_keeps p hx
  | ch c => exact execCh_keeps c hx
  | log n => exact execLog_keeps n hx
  | watch k ms => exact execWatch_keeps k ms hx
  | watchPrint => exact execWatchPrint_keeps  hx
  | watchEnd => exact execWatchEnd_keeps  hx
  | meter m k scale offset => exact execMeter_keeps m k scale offset hx
  | test kind inst => exact execTest_keeps kind inst hx
  | testAbort => exact execTestAbort_keeps  hx
  | unlock l => exact execUnlock_keeps l hx
  | resp b => exact execResp_keeps b hx
  | note b => exact execNote_keeps b hx
  | repair => exact execRepair_keeps  hx
  | ledger => exact execLedger_keeps  hx
  | stRun f => exact execStRun_keeps f hx
  | stAbort f => exact execStAbort_keeps f hx
  | selftestComplete step => exact execSelftestComplete_keeps step hx
  | blinkCodeEnd => exact execBlinkCodeEnd_keeps  hx
  | meterUpdate => exact execMeterUpdate_keeps  hx
  | ledUpdate => exact execLedUpdate_keeps  hx
  | keyScan raws => exact execKeyScan_keeps raws hx
  | keyPress k => exact execKeyPress_keeps k hx
  | keyRelease k => exact execKeyRelease_keeps k hx
  | keyStuck k => exact execKeyStuck_keeps k hx
  | banisterOn k => exact execBanisterOn_keeps k hx
  | banisterOff => exact execBanisterOff_keeps  hx
  | busParityError d => exact execBusParityError_keeps d hx
  | nvmeDriveReady v => exact execNvmeDriveReady_keeps v hx
  | powerOnResetAssert all => exact execPowerOnResetAssert_keeps all hx
  | jtagInstruction i0 => exact execJtagInstruction_keeps i0 hx

end Sys2Proof.Machine
end

