-- ==== Sys2Proof/Laws/Request.lean ====
section
/-! SUPPORT. Requests: what answering changes, and what a request that passes its tests comes to. -/

namespace Sys2Proof.Machine

/-! ### Outputs leave the objects alone -/

@[simp] theorem irq_obj (v : Nat) (s : State) : (irq v s).obj = s.obj := by unfold irq; split <;> rfl

@[simp] theorem irq_blob (v : Nat) (s : State) : (irq v s).blob = s.blob := by unfold irq; split <;> rfl

@[simp] theorem irq_masters (v : Nat) (s : State) : (irq v s).masters = s.masters := by unfold irq; split <;> rfl

@[simp] theorem irq_num (v k : Nat) (s : State) : (irq v s).num k = s.num k := State.num_congr (irq_obj v s) k

@[simp] theorem irq_oct (v k : Nat) (s : State) : (irq v s).oct k = s.oct k := State.oct_congr (irq_blob v s) k

/-- What each step of a walk leaves alone, the walk leaves alone. -/
theorem forL_fixes {α β : Type} (g : State → β) (f : α → State → State) (h : ∀ a s, g (f a s) = g s) (l : List α) (s : State) :
    g (forL l f s) = g s := by
  induction l generalizing s with
  | nil => rfl
  | cons a l ih => exact (ih (f a s)).trans (h a s)

@[simp] theorem putResponse_obj (o : Out) (s : State) : (putResponse o s).obj = s.obj := by simp [putResponse]

@[simp] theorem putResponse_blob (o : Out) (s : State) : (putResponse o s).blob = s.blob := by simp [putResponse]

@[simp] theorem putResponse_masters (o : Out) (s : State) : (putResponse o s).masters = s.masters := by simp [putResponse]

@[simp] theorem ringFrame_obj (o : Out) (s : State) : (ringFrame o s).obj = s.obj := by unfold ringFrame; split <;> simp

@[simp] theorem ringFrame_blob (o : Out) (s : State) : (ringFrame o s).blob = s.blob := by unfold ringFrame; split <;> simp

@[simp] theorem ringFrame_masters (o : Out) (s : State) : (ringFrame o s).masters = s.masters := by unfold ringFrame; split <;> simp

/-- A response, on whichever route, leaves a field that no output touches as it was. -/
theorem respond_fixes {β : Type} (g : State → β) (h1 : ∀ o s, g (ringFrame o s) = g s) (h2 : ∀ (o : Out) (s : State), g (s.emit o) = g s) (w : Who)
    (k : Nat) (f : Frame) (st : Nat) (b : List Byte) (s : State) : g (respond w k f st b s) = g s := by
  unfold respond
  split
  · exact forL_fixes g _ h1 _ s
  · split
    · exact h2 _ s
    · exact forL_fixes g _ h2 _ s

@[simp] theorem respond_obj (w : Who) (k : Nat) (f : Frame) (st : Nat) (b : List Byte) (s : State) : (respond w k f st b s).obj = s.obj :=
  respond_fixes (·.obj) (fun o s => ringFrame_obj o s) (fun _ _ => rfl) w k f st b s

@[simp] theorem respond_blob (w : Who) (k : Nat) (f : Frame) (st : Nat) (b : List Byte) (s : State) : (respond w k f st b s).blob = s.blob :=
  respond_fixes (·.blob) (fun o s => ringFrame_blob o s) (fun _ _ => rfl) w k f st b s

@[simp] theorem respond_masters (w : Who) (k : Nat) (f : Frame) (st : Nat) (b : List Byte) (s : State) :
    (respond w k f st b s).masters = s.masters :=
  respond_fixes (·.masters) (fun o s => ringFrame_masters o s) (fun _ _ => rfl) w k f st b s

/-- An answer changes no object. -/
@[simp] theorem answer_num (w : Who) (k : Nat) (f : Frame) (st : Nat) (b : List Byte) (s : State) (j : Nat) : (answer w k f st b s).num j = s.num j :=
  State.num_congr (by simp [answer]) j

@[simp] theorem answer_oct (w : Who) (k : Nat) (f : Frame) (st : Nat) (b : List Byte) (s : State) (j : Nat) : (answer w k f st b s).oct j = s.oct j :=
  State.oct_congr (by simp [answer]) j

/-- The requester's record after an answer, and every other master's. -/
theorem answer_master (w : Who) (k : Nat) (f : Frame) (st : Nat) (b : List Byte) (s : State) (m : Nat) :
    (answer w k f st b s).master m =
      if m = w.flow then { s.master m with lastReq := some (k, f), lastRsp := ⟨st, b⟩, outstanding := false } else s.master m := by
  have h : (answer w k f st b s).masters = (s.setMaster w.flow { s.master w.flow with
      lastReq := some (k, f), lastRsp := ⟨st, b⟩, outstanding := false }).masters := by simp [answer]
  have h2 : (answer w k f st b s).master m = (s.setMaster w.flow { s.master w.flow with
      lastReq := some (k, f), lastRsp := ⟨st, b⟩, outstanding := false }).master m :=
    congrArg (fun x => Tab.get (fun _ => Master.fresh) x m) h
  rw [h2, State.master_setMaster]
  by_cases hm : m = w.flow
  · subst hm; simp
  · simp [hm]

theorem answered_answer (w : Who) (k : Nat) (f : Frame) (st : Nat) (b : List Byte) (s : State) : Answered (answer w k f st b s) w st := by
  unfold Answered; rw [answer_master]; simp

/-! ### Requests that pass their tests -/

/-- A request that is cleared runs its body in the state the tests leave. -/
theorem request_cleared {kind : Nat} {f : Frame} {s u : State} {w : Who} (h : cleared kind f s = some (w, u)) (body : Who → Frame → State → Reply) :
    request kind f s body = finish w kind f (body w f u) := by
  unfold cleared at h
  unfold request
  split at h
  · exact absurd h (by simp)
  · next h1 =>
    rw [if_neg h1]
    split at h
    · exact absurd h (by simp)
    · next w' s0 h2 =>
      simp only [] at h
      split at h
      · exact absurd h (by simp)
      · next h3 =>
        simp only [Option.some.injEq, Prod.mk.injEq] at h
        obtain ⟨rfl, rfl⟩ := h
        simp only [not_or, ne_eq, Bool.not_eq_true, Decidable.not_not] at h3
        obtain ⟨a1, a2, a3, a4, a5, a6, a7, a8⟩ := h3
        simp only [h2, ne_eq, a1, not_true_eq_false, if_false, a2, a3, Bool.false_or, a4, a5, a6, a7, a8, Bool.not_true, Bool.false_eq_true]

/-- A write that its object admits is executed. -/
theorem examineWrite_admits {k : Nat} {b : List Byte} {w : Who} {f : Frame} {v : Val} {u : State} (h : admits k b w u = some v)
    (h1 : f.index = k / 256) (h2 : f.sub = k % 256) (h3 : f.payload = b) (act : Who → Val → State → Reply) :
    examineWrite kWrite w f u (fun w _ _ v s => act w v s) = act w v u := by
  unfold admits at h
  unfold examineWrite
  rw [h1, h2, h3]
  split at h
  · next r j h4 =>
    split at h
    · exact absurd h (by simp)
    · next h5 =>
      split at h
      · next v' h6 =>
        split at h
        · exact absurd h (by simp)
        · next h7 =>
          simp only [Option.some.injEq] at h
          subst h
          simp only [not_or] at h5
          simp only [h4, h5, h6, kWrite, kStage]
          simp_all
      · exact absurd h (by simp)
  · exact absurd h (by simp)

/-- A write that reaches its execution is what it executes, and its answer. -/
theorem requestWrite_reaches {k : Nat} {f : Frame} {v : Val} {w : Who} {s u : State} (h : reaches k f s = some (w, v, u))
    (act : Who → Val → State → Reply) :
    requestWrite k f s act = finish w kWrite { f with index := k / 256, sub := k % 256 } (act w v u) := by
  unfold reaches at h
  split at h
  · exact absurd h (by simp)
  · next w' u' h1 =>
    simp only [Option.map_eq_some_iff, Prod.mk.injEq] at h
    obtain ⟨v', h2, rfl, rfl, rfl⟩ := h
    unfold requestWrite
    rw [request_cleared h1]
    exact congrArg _ (examineWrite_admits (f := { f with index := k / 256, sub := k % 256 }) h2 rfl rfl rfl act)

/-- A console command that is ready runs its body, and prints its answer. -/
theorem conRequest_ready {s : State} (h : consoleReady s = true) (body : Who → State → Reply) :
    conRequest s body = (match (body (conWho s) (atConsole s)).status with
      | some st => conLine st [] (body (conWho s) (atConsole s)).payload (body (conWho s) (atConsole s)).st
      | none => (body (conWho s) (atConsole s)).st) := by
  simp only [consoleReady, Bool.and_eq_true, decide_eq_true_eq, Option.isNone_iff_eq_none] at h
  obtain ⟨⟨⟨h1, h2⟩, h3⟩, h4⟩ := h
  unfold conRequest
  rw [h1, h2]
  have h5 : ({ s with con := { s.con with watch := none, cont := none } } : State).num (K.mrFrozen 2) = 0 := h3
  have h6 : hasToken (({ s with con := { s.con with watch := none, cont := none } } : State).set (K.mrRequests 2)
      (({ s with con := { s.con with watch := none, cont := none } } : State).num (K.mrRequests 2) + 1)) 2 = true := h4
  simp only [h5, h6]
  rfl

/-- The answer OK of an effect. -/
theorem finish_ok (w : Who) (kind : Nat) (f : Frame) (t : State) : finish w kind f (.ok t) = answer w kind f stOk [] t := rfl

end Sys2Proof.Machine
end

