-- ==== Sys2Proof/Tests/Slice0.lean ====
section
/-! SUPPORT. Small tests: ill-formed commands are refused, commands do what the rules say in small states, and the hypotheses of the
statements are met together (one witness theorem per statement, one entry per clause). -/

namespace Sys2Proof.Tests
open Sys2Proof Sys2Proof.Machine

set_option maxRecDepth 20000

/-- A state with some objects set. -/
def st (l : List (Nat × Int)) : State := l.foldl (fun s e => s.set e.1 e.2) State.reset

/-- The part serves, and master 4 stands at level 3. -/
def served (l : List (Nat × Int)) : State := st ((K.pdBootStage, 6) :: (K.mrLevel 4, 3) :: l)

/-- A first frame of master 4. -/
def frameOf (b : List Byte) : Frame := ⟨.master 4, 0, false, false, false, false, 0, 0, b.length, b⟩

/-- The same for an object. -/
def frameTo (k : Nat) (b : List Byte) : Frame := { frameOf b with index := k / 256, sub := k % 256 }

/-- A write frame reaches its execution, with something said of the requester, the value and the state. -/
def hits (k : Nat) (b : List Byte) (s : State) (p : Who → Val → State → Bool) : Bool :=
  match reaches k (frameOf b) s with
  | some (w, v, u) => p w v u
  | none => false

/-- A frame passes the tests before its object. -/
def clears (kind : Nat) (f : Frame) (s : State) (p : Who → State → Bool) : Bool :=
  match cleared kind f s with
  | some (w, u) => p w u
  | none => false

/-- The row and the key of a frame's object. -/
def rowIs (f : Frame) (p : ObjRow → Nat → Bool) : Bool :=
  match lookup f.index f.sub with
  | some (.live r k) => p r k
  | _ => false

/-- A transaction of master 4 in a slot. -/
def txAt (state kind : Nat) : Tx := ⟨7, kind, 4, state, [], 0, 0, 5, 9, 0, 0, 0, 0, 0, [], none, none⟩

/-- A state with transactions in slots. -/
def withTx (l : List (Nat × Tx)) (s : State) : State := l.foldl (fun s e => setSlot e.1 (some e.2) s) s

def withTime (t : Time) (s : State) : State := { s with time := t }

def timed (now tb : Nat) (l : List (Nat × Int)) : State := withTime { Time.fresh with now := now, tb := tb, running := true } (st l)

def withChan (c : Nat) (x : Chan) (s : State) : State := { s with chans := [(c, x)] }

def withPort (p : Nat) (x : Port) (s : State) : State := { s with ports := [(p, x)] }

/-- A state with octets in an object. -/
def withOct (k : Nat) (b : List Byte) (s : State) : State := s.setOct k b

/-- A walker that runs, its boundary due at tick 0 for walker 0, and its action 1 due. -/
def setWalkerOn (p : Nat) (s : State) : State := { s with walkers := [(p, ⟨true, if p = 0 then 0 else 9, 0, [(1, 0)]⟩)] }

/-- The octets 0 to 79, the longest RW value: a shed order. -/
def order (lo hi : Nat) : List Byte := ((List.range hi).drop lo).map (BitVec.ofNat 8)

/-- A shed order in progress, with some octets taken, in a state that serves. -/
def segHits (got : Nat) (p : State → Bool) : Bool :=
  let h : Frame := { frameTo K.thShedOrder (order 0 56) with more := true, length := 80 }
  let s := (served []).setMaster 4 { Master.fresh with seg := some (kWrite, h, order 0 got, 1) }
  s.serving && decide (s.num (K.mrFrozen 4) = 0 ∧ (s.master 4).seg = some (kWrite, h, order 0 got, 1) ∧ (s.master 4).lastReq = none) && p s


theorem witness_StepExecutesTheFrontCommand :
    ([decide (({ State.reset with pending := [.help] } : State).pending = [.help])] : List Bool).all id = true := by decide

theorem witness_IdleStepIsATick :
    ([decide (State.reset.pending = []),
    ({ State.reset with time := { State.reset.time with running := true } } : State).time.running] : List Bool).all id = true := by decide

theorem witness_ClearedRequestsCountThemselves :
    ([clears kWrite (frameOf []) (served []) (fun w _ => decide (w.charged = 4))] : List Bool).all id = true := by decide

theorem witness_ViolationsFreezeTheMaster :
    ([clears kWrite (frameTo (K.portTarget 0) [1]) (served []) (fun w _ => !w.tunnel && decide (w.charged ≠ 0) && decide (w.flow = w.charged)) &&
     decide (dmaSetting (K.portTarget 0) = none) && rowIs (frameTo (K.portTarget 0) [1]) (fun r _ => decide (r.access = .rwv)),
    clears kWrite (frameTo K.conEcho [1]) (st [(K.pdBootStage, 6)]) (fun w _ => !w.tunnel && decide (w.charged ≠ 0)) &&
     rowIs (frameTo K.recFlush [1]) (fun r _ => decide (r.access ≠ .ro ∧ r.access ≠ .rwv ∧ 0 < r.level)) && decide (dmaSetting K.recFlush = none),
    decide ((served [(K.mrFrozen 4, 8)]).num (K.mrFrozen 4) ≠ 0) && (served [(K.mrFrozen 4, 8)]).serving] : List Bool).all id = true := by decide

theorem witness_ReadsAnswerTheirValue :
    ([clears kRead (frameTo (K.portTarget 0) []) (served []) (fun _ u => !measuredLive u (K.portTarget 0)) &&
     rowIs (frameTo (K.portTarget 0) []) (fun r k => !r.ty.octets && decide (r.access ≠ .wo) && decide (k ≠ K.recRecord ∧ k ≠ K.recPermRecord)),
    clears kRead (frameTo K.idPart []) (served []) (fun _ _ => true) &&
     rowIs (frameTo K.idPart []) (fun r k => r.ty.octets && decide (r.access ≠ .wo) && decide (k ≠ K.recRecord ∧ k ≠ K.recPermRecord)),
    clears kRead { frameTo (K.portTarget 0) [] with staged := true } (withTx [(0, { txAt 1 1 with staged := [(K.portTarget 0, .num 2)] })] (served []))
     (fun w u => match txOf u w.flow [1, 2, 6, 7] with | some (_, x) => x.staged.any (fun e => decide (e.1 = K.portTarget 0)) | none => false),
    clears kRead { frameTo (K.portTarget 0) [] with describe := true } (served []) (fun _ _ => true) && rowIs (frameTo (K.portTarget 0) []) (fun r _ => decide (r.access ≠ .wo)),
    clears kRead { frameTo K.secResponse [] with describe := true } (served []) (fun _ _ => true) && rowIs (frameTo K.secResponse []) (fun r _ => decide (r.access = .wo)),
    clears kRead (frameTo 0x00FF00 []) (served []) (fun _ _ => true) && (lookup 0x00FF 0).isNone] : List Bool).all id = true := by decide

theorem witness_WritesSetTheirObject :
    ([clears kWrite (frameTo K.conEcho [1]) (served []) (fun w u => rowIs (frameTo K.conEcho [1]) (fun r k => decide (r.access = .rw ∧ r.level ≤ w.level) &&
     (match fits u k r [1] with | .ok (.num _) => true | _ => false) && decide (dmaSetting k = none ∧ thresholdZone k = none) &&
     decide (k ≠ K.recCursor ∧ k ≠ K.recPermCursor ∧ k ≠ K.tbSourcePriority) && !banisterHolds u k)),
    clears kWrite (frameTo K.idSerial []) (served []) (fun _ _ => true) && decide (dmaSetting K.idSerial = none) &&
     rowIs (frameTo K.idSerial []) (fun r _ => decide (r.access = .ro)),
    clears kWrite (frameTo K.conEcho [2]) (served []) (fun w u => rowIs (frameTo K.conEcho [1]) (fun r k => decide (r.level ≤ w.level) &&
     (match fits u k r [2] with | .rangeBad => true | _ => false)))] : List Bool).all id = true := by decide

theorem witness_WritesOfCommandsAreTheirRows :
    ([decide ((frameTo K.recFlush [1]).index = K.recFlush / 256 ∧ (frameTo K.recFlush [1]).sub = K.recFlush % 256),
    decide ((frameTo K.txOpen [1]).index = K.txOpen / 256 ∧ (frameTo K.fltClear [1]).sub = K.fltClear % 256),
    decide ((frameTo K.tbAdjust [1]).index = K.tbAdjust / 256 ∧ (frameTo K.tbAdjust [1]).sub = K.tbAdjust % 256)] : List Bool).all id = true := by decide

theorem witness_StagesKeepTheirValue :
    ([clears kStage (frameTo (K.portTarget 0) [1]) (withTx [(0, txAt 1 1)] (served [])) (fun w u => rowIs (frameTo (K.portTarget 0) [1]) (fun r k =>
     decide (r.access = .rwv ∧ r.level ≤ w.level) && (match fits u k r [1] with | .ok _ => true | _ => false) && !stagedElsewhere u w.flow k &&
     !heldEntry u k && (match txOf u w.flow [1, 2] with | some (_, x) => decide (x.state = 1) | none => false) && decide (stagedCount u < maxStaged))),
    clears kStage (frameTo (K.portTarget 0) [1]) (served []) (fun w u => rowIs (frameTo (K.portTarget 0) [1]) (fun r k =>
     decide (r.access = .rwv ∧ r.level ≤ w.level) && (match fits u k r [1] with | .ok _ => true | _ => false) && !stagedElsewhere u w.flow k &&
     !heldEntry u k && (txOf u w.flow [1, 2]).isNone && decide (stagedCount u < maxStaged ∧ u.tx.slots = [])))] : List Bool).all id = true := by decide

theorem witness_CommitsAreAdmittedOrRefused :
    ([clears kCommit (frameOf (leBytes 8 noTime)) (withTx [(0, txAt 1 1)] (served [])) (fun w u => match txOf u w.flow [1] with
     | some (_, x) => decide (x.kind = 1) && decide (leAt (leBytes 8 noTime) 0 8 = noTime) &&
       (match admissionOf u x.staged (requestedTick noTime) with | .pass _ => true | _ => false) && (commitEntry u (x.staged.map Prod.fst)).isSome
     | none => false),
    clears kCommit (frameOf (leBytes 8 noTime)) (withTx [(0, txAt 1 1)] (served [(K.tbState, 0)]))
     (fun w u => match txOf u w.flow [1] with
     | some (_, x) => decide (x.kind = 1) && (match admissionOf u x.staged (requestedTick noTime) with | .refuse _ _ _ => true | _ => false)
     | none => false),
    clears kCommit (frameOf (leBytes 8 noTime)) (served []) (fun w u => (txOf u w.flow [1]).isNone)] : List Bool).all id = true := by decide +kernel

theorem witness_AbortsFreeTheSlot :
    ([clears kAbort (frameOf []) (withTx [(0, txAt 1 1)] (served [])) (fun w u => match txOf u w.flow [1, 2] with
     | some (_, x) => decide (x.kind = 1 ∧ x.state = 1) | none => false),
    clears kAbort (frameOf []) (served []) (fun w u => (txOf u w.flow [1, 2]).isNone && (txOf u w.flow [6, 7]).isNone && (acceptedNow u w.flow).isNone)] : List Bool).all id = true := by decide

theorem witness_UnfreezingReturnsToObserver :
    ([hits (K.mrUnfreeze 5) [1] (served [(K.mrFrozen 5, 8), (K.mrFrozenLevel 5, 1)]) (fun w _ u => decide (u.nat (K.mrFrozenLevel 5) < w.level ∧ u.num (K.mrFrozen 5) ≠ 0)),
    hits (K.mrUnfreeze 5) [1] (served [(K.mrFrozenLevel 5, 1)]) (fun w _ u => decide (u.nat (K.mrFrozenLevel 5) < w.level ∧ u.num (K.mrFrozen 5) = 0)),
    hits (K.mrUnfreeze 5) [1] (served [(K.mrFrozen 5, 8), (K.mrFrozenLevel 5, 3)]) (fun w _ u => decide (w.level ≤ u.nat (K.mrFrozenLevel 5)) && !w.tunnel && decide (w.charged ≠ 0)),
    hits K.dzCanaReset [1] (served []) (fun _ _ _ => true),
    hits K.dzCanbReset [1] (served []) (fun _ _ _ => true),
    decide (250 ≤ 250 ∧ 249 < 250)] : List Bool).all id = true := by decide

theorem witness_SlotsSettingsAndLevels :
    ([slotIdle { (st [(K.mrLevel 9, 0)]).setMaster 9 { Master.fresh with node := some 3 } with time := { Time.fresh with now := 10 ^ 14 } } 9,
    decide (0 < (served []).num (K.mrLevel 4) ∧ (({ served [] with time := { Time.fresh with now := 10 ^ 14 } } : State).master 4).lastActive + (served []).nat K.accIdleRelock * secTicks ≤ 10 ^ 14),
    decide ((State.reset).time.now < ((State.reset).master 5).lastActive + (State.reset).nat K.accIdleRelock * secTicks),
    !(st []).holdOsc] : List Bool).all id = true := by decide

theorem witness_ConsoleLinesAreTaken :
    ([(served []).serving && decide (255 < (List.replicate 300 'a').length),
    consoleReady (served [(K.conEcho, 0)]) && !(served [(K.conEcho, 0)]).flag K.conEcho && decide (trimEnd "help".toList ≠ []) && (unfinished "help".toList).isNone && (lineBody "help".toList none).isSome,
    let s := served [(K.conEcho, 0)]; let l := "th.level".toList; consoleReady s && !s.flag K.conEcho && decide (' ' ∉ l ∧ l.getLast? ≠ some '\\') && (match parseObj l with
     | .obj i j => decide (i * 256 + j = K.thLevel) && (rowFor i j).isSome && (match lookup i j with | some (.live r k) => !r.ty.octets && decide (r.access ≠ .wo ∧ k ≠ K.recRecord) && !measuredLive (atConsole s) k | _ => false)
     | _ => false),
    decide ((st []).con.cont = none)] : List Bool).all id = true := by decide +kernel

theorem witness_TunnelsForwardAndFreeze :
    ([decide ((served []).num (K.mrFrozen (3 + 1)) = 0) && !headerBad ⟨9, 3, 0, 0, 5, 0⟩ && hasToken (served []) (3 + 1) && decide (9 ≠ (served []).nat K.stwAddr) && !duplicated (served []) 9,
    decide ((served []).num (K.mrFrozen (3 + 1)) = 0) && headerBad ⟨9, 3, 0, 0, 5, 1⟩,
    decide ((served [(K.mrFrozen 4, 8)]).num (K.mrFrozen (3 + 1)) ≠ 0),
    let s := st []; decide ((⟨s.nat K.stwAddr, 3, 5, 0, 5, 0⟩ : TunHdr).dest = s.nat K.stwAddr),
    let s := st []; decide ((⟨s.nat K.stwAddr, 3, 1, 0, 5, 0⟩ : TunHdr).dest = s.nat K.stwAddr)] : List Bool).all id = true := by decide

theorem witness_SegmentsJoinTheirValue :
    ([segHits 10 (fun _ => decide (segmentDue (80 - 10) = 62 ∧ 10 + 62 < 80)),
    segHits 56 (fun s => decide (segmentDue (80 - 56) = 24) && rowIs (frameTo K.thShedOrder []) (fun r k =>
     decide (r.access = .rw ∧ r.level ≤ s.levelOf 4) && decide (dmaSetting k = none ∧ thresholdZone k = none) &&
     decide (k ≠ K.recCursor ∧ k ≠ K.recPermCursor ∧ k ≠ K.tbTodNext ∧ k ≠ K.tbSourcePriority) && !banisterHolds s k)),
    decide (((served []).master 4).seg = none ∧ (served []).num (K.mrFrozen 4) = 0) && (served []).serving] : List Bool).all id = true := by decide


/-- The value of the second clause of SegmentsJoinTheirValue is good in every state. -/
theorem witness_SegmentsJoinTheirValue_fits (u : State) : ∀ r, lookup (K.thShedOrder / 256) (K.thShedOrder % 256) = some (.live r K.thShedOrder) →
    fits u K.thShedOrder r (order 0 80) = .ok (.oct (order 0 80)) := by
  intro r h
  have e : lookup (K.thShedOrder / 256) (K.thShedOrder % 256) =
      some (.live ⟨0x7400, 1, 1, 0x0A, 0x0A, .blob, .rw, 2, 0, .p, "", "th.shed_order", 0, 0, "", 80, .shedOrder⟩ K.thShedOrder) := by decide
  rw [e] at h
  cases h
  rfl

theorem witness_ClockLossAndReturn :
    ([(timed 0 0 []).time.running,
    let s := st [(K.clkStatus, 0x40)]; !s.time.running && s.holdOsc,
    (timed 0 0 []).time.running] : List Bool).all id = true := by decide

theorem witness_SourcesQualify :
    ([let s := withTime { Time.fresh with ppsGood := 3, ppsLabel := some 0, donorGood := 4 } (st []); !s.qualifiedSrc 3 && mayQualify s 3 && !s.qualifiedSrc 2 && mayQualify s 2,
    let s := st []; !mayQualify s 1,
    let s := withTime { Time.fresh with qualified := [(3, some 0)] } (st []); mustDisqualify s 3,
    let s := withTime { Time.fresh with ppsGood := 3, ppsLabel := some 0, ppsLast := some 0 } (st []); !mustDisqualify s 3,
    let s := withTime { Time.fresh with qualified := [(3, some 0)], now := 10 ^ 14 } (st [(K.tbState, tsLocked), (K.tbSourceSelected, 2), (K.tbSourceRevert, 10)]);
     decide (s.num K.tbState = tsLocked ∧ s.num K.tbSourceSelected ≠ 3 ∧ bestSource s = some 3) && revertDue s 3] : List Bool).all id = true := by decide

theorem witness_TrackingLoopRuns :
    ([let s := st [(K.tbState, tsLocked)]; decide (s.num K.tbState = tsLocked),
    let s := st [(K.tbState, tsHoldover)]; decide (s.num K.tbState = tsHoldover),
    let s := st [(K.tbState, tsAcquiring)]; decide (s.num K.tbState = tsAcquiring),
    let s := withTime { Time.fresh with holdE := 2 ^ 40 } (st [(K.tbState, tsHoldover)]);
     decide (s.num K.tbState = tsHoldover ∧ s.num K.tbHoldoverBudget * 65536 * secTicks < uncertaintyExact s)] : List Bool).all id = true := by decide

theorem witness_StepsAreDecidedAndTaken :
    ([let s := withTime { Time.fresh with step := some ⟨5, 3, 3, 4, 2, false⟩, running := true, tb := 5 } (st []);
     decide (s.time.step = some ⟨5, 3, 3, 4, 2, false⟩ ∧ s.time.running = true ∧ 5 ≤ s.time.tb),
    decide ((st []).time.step = none),
    let s := st [(K.tbSourceSelected, 1)]; decide (s.num K.tbSourceSelected = 1 ∧ s.time.tb ≤ 9),
    let s := st [(K.chMutes 7, 2 ^ cmStep)]; s.bit (K.chMutes 7) cmStep && decide ((s.chan 7).resume ≤ s.time.tb),
    let s := withChan 7 { Chan.fresh with resumeTrace := some 0 } (st [(K.tbTrace, 1)]); decide ((s.chan 7).resumeTrace = some 0 ∧ 0 ≤ s.time.tb) && s.flag K.tbTrace] : List Bool).all id = true := by decide

theorem witness_HostStepsAreScheduled :
    ([hits K.tbAdjust (leBytes 8 5) (served [(K.tbSourceSelected, 3), (K.stwRole, 1)]) (fun _ v u => decide (v = .num 5 ∧ u.num K.tbSourceSelected = 3) && isNewel u),
    hits K.tbAdjust (leBytes 8 5) (served [(K.tbSourceSelected, 2)]) (fun _ _ u => decide (u.num K.tbSourceSelected ≠ 3 ∧ u.num K.tbSourceSelected ≠ 4)),
    hits K.tbAdjust (leBytes 8 0) (withTime { Time.fresh with step := some ⟨5, 3, 3, 4, 2, false⟩, running := true } (served [(K.tbSourceSelected, 3), (K.stwRole, 1)]))
     (fun _ v u => decide (v = .num 0 ∧ u.num K.tbSourceSelected = 3 ∧ u.time.step = some ⟨5, 3, 3, 4, 2, false⟩ ∧ u.num K.tbState ≠ tsAcquiring) && isNewel u)] : List Bool).all id = true := by decide

theorem witness_DonorAndPpsAreFollowed :
    ([let s := st [(K.chRun 0, 1), (K.tbDonorMinMetric, 5), (K.portRole 0, 0)]; donorRuns s && decide (s.num K.tbDonorMinMetric ≤ 9),
    let s := st []; !donorRuns s,
    let s := withTime { Time.fresh with ppsPin := true } (st []); decide (s.time.ppsPin ≠ decide (s.num K.tbPpsEdge = 1)),
    let s := withTime { Time.fresh with ppsLast := some 5 } (st []); decide (s.num K.tbPpsState ≠ 2 ∧ s.time.ppsPin = decide (s.num K.tbPpsEdge = 1)) && s.time.ppsLast.isSome && !spacingGood s (ppsStamp s)] : List Bool).all id = true := by decide

theorem witness_LinksFollowTheirStates :
    ([let s := st [(K.stwLinkLState 1, lsDown), (K.stwLinkLEnable 1, 1), (K.pdState 83, 3)]
     decide (linkState s 1 = lsDown ∧ s.num (K.pdState 83) = 3) && s.flag (K.stwLinkLEnable 1),
    let s := st [(K.stwLinkLState 1, lsAlign)]; decide (linkState s 1 = lsAlign),
    let s := withTime { Time.fresh with now := 12288000 } (st [(K.stwLinkLState 1, lsAlign)]); decide (linkState s 1 = lsAlign ∧ (s.link 1).since + 12288000 ≤ s.time.now),
    let s := st [(K.stwLinkLState 1, lsRole)]; decide (linkState s 1 = lsRole),
    let s := { st [(K.stwLinkLState 1, lsMeasure)] with links := [(1, { Link.fresh with exchanges := List.replicate 64 122880 })] };
     decide (linkState s 1 = lsMeasure ∧ 64 ≤ (s.link 1).exchanges.length ∧ 0 ≤ meanDelay (s.link 1).exchanges ∧ meanDelay (s.link 1).exchanges ≤ 122880),
    let s := { st [(K.stwLinkLState 1, lsMeasure)] with links := [(1, { Link.fresh with exchanges := List.replicate 64 122881 })] };
     decide (linkState s 1 = lsMeasure ∧ 64 ≤ (s.link 1).exchanges.length ∧ 122880 < meanDelay (s.link 1).exchanges),
    let s := { st [(K.stwLinkLState 1, lsMeasure)] with links := [(1, { Link.fresh with exchanges := List.replicate 63 1 })] }; decide ((s.link 1).exchanges.length < 64),
    let s := { st [(K.stwLinkLState 1, lsUp)] with links := [(1, { Link.fresh with badStart := 4 })] }; decide (linkState s 1 = lsUp) && errorsReached s 1,
    hits (K.stwLinkLRetrain 1) [1] (served [(K.stwLinkLState 1, lsUp)]) (fun _ v u => decide (v = .num 1 ∧ linkState u 1 ≠ lsDown))] : List Bool).all id = true := by decide

theorem witness_CellsAreTaken :
    ([(⟨true, true, 0, 3, true, 0, 2⟩ : TimeCell).crcOk,
    !(⟨false, true, 0, 3, true, 0, 2⟩ : TimeCell).crcOk,
    (⟨true, 0, 0, 5, 9, 20⟩ : DelayCell).crcOk,
    (⟨true, 7, 0, 5, 9, 20⟩ : DelayCell).crcOk,
    decide ((st []).num K.stwConflict = 0)] : List Bool).all id = true := by decide

theorem witness_SnapshotsAreTaken :
    ([hits K.snapLocal (leBytes 8 noTime) (served []) (fun _ v _ => decide (v = .num noTime)),
    hits K.snapSystem (leBytes 8 (2 ^ 40)) (served [(K.stwRole, 1)]) (fun _ v u => isNewel u && (match v with | .num d => decide (d ≠ noTime ∧ u.time.tb + 12288000 ≤ tbTicks d.toNat) | _ => false)),
    hits K.snapSystem (leBytes 8 (2 ^ 40)) (served [(K.stwRole, 0), (K.stwLinkLState 0, 4)]) (fun _ _ u => !isNewel u),
    let s := timed 0 9 []; decide (5 < s.time.tb),
    let s := st []; decide (s.time.tb ≤ 9),
    let s := withTime { Time.fresh with snapDue := [0] } (st []); decide (s.time.snapDue = [0] ∧ s.time.snapNext = [] ∧ 0 ≤ s.time.tb)] : List Bool).all id = true := by decide


/-- A state that runs, with an armed launch entry 3 of a kind, target and parameter, due at tick 0. -/
def armed (kind target param : Nat) (l : List (Nat × Int)) : State :=
  withOct (K.ltEntry 3) (leBytes 8 0 ++ leBytes 1 kind ++ [0] ++ leBytes 2 target ++ leBytes 4 param)
    (withTime { Time.fresh with running := true } (served ((K.ltStatus 3, leArmed) :: (K.tbState, tsLocked) :: l)))

def ready (kind target param : Nat) (l : List (Nat × Int)) (p : State → Bool) : Bool :=
  let s := armed kind target param l
  entryReady s 3 && walkersIdle s && decide (entryAction (entryOct s 3) = ⟨kind, target, param⟩) && p s

theorem witness_LaunchEntriesExecute :
    ([ready 1 5 2 [] (fun s => (launchRow (entryAction (entryOct s 3)).kind).isSome),
    !entryReady (st []) 3,
    let s := withOct (K.patAction 2 1) (leBytes 4 0 ++ [0, 0] ++ leBytes 1 1 ++ [0] ++ leBytes 2 5 ++ [0, 0] ++ leBytes 4 2)
     (setWalkerOn 2 (withTime { Time.fresh with running := true } (served [(K.tbState, tsLocked)]))); actionReady s 2 1 && decide ((actAction (s.oct (K.patAction 2 1))).kind = 1)] : List Bool).all id = true := by decide

theorem witness_LaunchKindsActOnTheirTarget :
    ([ready 1 5 2 [] (fun _ => true),
    ready 2 5 0 [] (fun _ => true),
    ready 3 5 0 [] (fun _ => true),
    ready 4 5 1 [] (fun _ => true),
    ready 7 5 1 [] (fun _ => true),
    ready 8 5 1 [] (fun _ => true)] : List Bool).all id = true := by decide

theorem witness_LaunchKindsActOnTheirBlock :
    ([ready 5 3 2 [] (fun s => decide (s.num (K.rlSelSource 3) ≠ 1)),
    ready 6 3 0x20000 [] (fun _ => true),
    ready 9 0 0 [] (fun _ => true),
    ready 10 3 1 [(K.portState 3, psStandby)] (fun s => !calHolds s 3 && decide (s.num (K.portState 3) = psStandby)),
    ready 11 0 0 [(K.galState, gsArmed)] (fun s => s.gal.launch && decide (s.num K.galState = gsArmed)),
    ready 12 3 1 [] (fun _ => true)] : List Bool).all id = true := by decide

theorem witness_WalkersCrossBoundaries :
    ([let s := setWalkerOn 0 (withTime { Time.fresh with running := true } (served [(K.tbState, tsLocked)]));
     launchRuns s && noCommitDue s && boundaryDue s 0 && (List.range 0).all (fun q => !boundaryDue s q) && ((segsOf s 0)[(s.walker 0).seg]?).isSome && ((segsOf s 0)[((s.walker 0).seg + 1) % max 1 (segsOf s 0).length]?).isSome,
    !boundaryDue (st []) 3,
    let s := withChan 5 { Chan.fresh with transientDue := some 0 } (st []); decide ((s.chan 5).transientDue = some 0 ∧ 0 ≤ s.time.now)] : List Bool).all id = true := by decide


def accepted (staged : List (Nat × Val)) : State :=
  let s := withTime { Time.fresh with running := true } (served [(K.tbState, tsLocked)])
  { s with tx := { s.tx with accepted := [⟨7, 1, 0, 3, staged, 0, 0, 4, none⟩] } }

theorem witness_CommitsTakeEffect :
    ([decide (nextCommit (accepted []) = some ⟨7, 1, 0, 3, [], 0, 0, 4, none⟩) && launchRuns (accepted []),
    decide (nextCommit (accepted [(K.conEcho, .num 1)]) = some ⟨7, 1, 0, 3, [(K.conEcho, .num 1)], 0, 0, 4, none⟩) && plainKey K.conEcho && decide (K.conEcho / 256 < 0x2100 ∨ 0x2300 ≤ K.conEcho / 256),
    decide (nextCommit (st []) = none)] : List Bool).all id = true := by decide

theorem witness_TransactionsOpenAndIdle :
    ([hits K.txOpen [0] (served []) (fun w v u => (match v with | .num _ => true | _ => false) && (txOf u w.flow [1, 2]).isNone && (freeVestibule u).isSome),
    hits K.txOpen [0] (withTx ((List.range 64).map (fun i => (i, { txAt 1 1 with flow := 5 }))) (served [])) (fun w _ u => (txOf u w.flow [1, 2]).isNone && (freeVestibule u).isNone),
    let s := withTime { Time.fresh with now := 10 ^ 14 } (withTx [(3, txAt 1 1)] (st [])); decide (s.slot 3 = some (txAt 1 1) ∧ max 0 (s.master 4).lastActive + s.nat K.txOpenIdle * secTicks ≤ s.time.now),
    decide ((st []).slot 3 = none),
    hits K.admDryRun (leBytes 8 noTime) (withTx [(0, txAt 1 1)] (served [])) (fun w v u => match txOf u w.flow [1], v with
     | some (_, x), .num d => (match admissionOf u x.staged (requestedTick d.toNat) with | .pass _ => true | _ => false) | _, _ => false),
    hits K.admDryRun (leBytes 8 noTime) (withTx [(0, txAt 1 1)] (served [(K.tbState, 0)])) (fun w v u => match txOf u w.flow [1], v with
     | some (_, x), .num d => (match admissionOf u x.staged (requestedTick d.toNat) with | .refuse _ _ _ => true | _ => false) | _, _ => false),
    hits K.admDryRun (leBytes 8 noTime) (served []) (fun w _ u => (txOf u w.flow [1]).isNone)] : List Bool).all id = true := by decide +kernel


/-- A record of a kind for slot 0. -/
def recOf (kind : Nat) : JRec := { kind := kind, number := 7, entry := 3 }

theorem witness_JournalRecordsAreKept :
    ([let s := withTx [(0, { txAt 2 1 with req := some (frameOf []) })] { st [] with jr := { Journal.fresh with writing := [recOf 1] } };
     decide (s.jr.writing = [recOf 1] ∧ (recOf 1).kind = 1 ∧ s.slot (recOf 1).slot = some { txAt 2 1 with req := some (frameOf []) } ∧ (txAt 2 1).abort = none ∧ (txAt 2 1).kind = 1) && s.bankOk 0 && s.bankOk 1,
    let s := { st [] with jr := { Journal.fresh with marks := [(3, 1)] } }; decide (s.jr.marks ≠ []) && !s.bothFailed,
    let s := { st [] with jr := { Journal.fresh with launchAt := some 3 } }; s.jr.launchAt.isSome && !s.bothFailed && !s.jr.writing.any (fun r => decide (r.kind = 6)),
    hits K.jrRebuild [1] (served [(bankKey 0, 1)]) (fun _ _ u => (failedBank u).isSome),
    (rebuildingBank (st [(bankKey 0, 2)])).isSome,
    (rebuildingBank (st [])).isNone] : List Bool).all id = true := by decide


def msgOf (arg : Nat) (bitmap : List Nat) : TxMsg := ⟨arg, 0, 3, 4, 5, 9, 100, 0x0604, 0, bitmap⟩

/-- The same in a launch cell. -/
def cellOf (arg : Nat) (bitmap : List Nat) : TxMsg := { msgOf arg bitmap with dest := allParts }

/-- A part that is not the Newel, and one that is. -/
def branchPart : State := served [(K.stwRole, 0), (K.stwLinkLState 0, 4), (K.stwAddr, 0)]

def newelPart (l : List SysTx) : State := { served [(K.stwRole, 1)] with tx := ⟨[], [], [], l⟩ }

def sysTx (id state : Nat) : SysTx := ⟨id, 9, 3, 0, 100, [3], [], [], state, 0, 0, 0, 0, 0, []⟩

theorem witness_BranchesFollowTheNewel :
    ([let s := branchPart; s.serving && forThis (msgOf 0 []) s && (branchSlot s (msgOf 0 []).sysId).isNone && (freeVestibule s).isSome,
    let s := withTx [(0, { txAt 1 3 with sysSeq := 0 })] branchPart; s.serving && !isNewel s && (branchSlot s (msgOf 1 []).sysId).isSome,
    let s := withTx [(0, txAt 6 3)] branchPart; s.serving && !isNewel s && forAll (cellOf 1 []) && forThis (msgOf 1 []) s &&
     decide (pairSlot s (msgOf 1 []).sysId (msgOf 1 []).sysSeq = some (0, txAt 6 3)) && decide (s.jr.writing = [] ∧ (txAt 6 3).entry < 4096 ∧ (msgOf 1 []).sysSeq ≠ 0),
    let s := withTx [(0, txAt 6 3)] branchPart; s.serving && !isNewel s && forAll (cellOf 3 []) && decide (pairSlot s (msgOf 3 []).sysId (msgOf 3 []).sysSeq = some (0, txAt 6 3)),
    let s := branchPart; s.serving && decide (s.nat K.stwAddr ∈ (cellOf 0 [0]).bitmap) && forAll (cellOf 0 [0]) && !marked s 5 && !isNewel s,
    let s := withTime { Time.fresh with now := 10 ^ 14 } (withTx [(0, txAt 6 3)] branchPart); decide (s.slot 0 = some (txAt 6 3) ∧ 0 + 2 * s.nat K.txSysVoteTimeout ≤ s.time.now),
    let s := withTx [(0, txAt 7 3)] branchPart; decide (s.slot 0 = some (txAt 7 3)) && !isNewel s,
    hits K.txSysResolve (leBytes 4 5) (withTx [(0, txAt 7 3)] (served [(K.stwRole, 2), (K.stwLinkLState 0, 0)])) (fun _ v u => !newelReached u 9 &&
     ((slotsInUse u).find? (fun e => decide (e.2.state = 7) && decide ((e.2.sysId : Int) = v.int))).isSome),
    hits K.txSysResolve (leBytes 4 5) (withTx [(0, txAt 7 3)] (served [(K.stwLinkLState 0, 4)])) (fun _ v u => newelReached u 9 &&
     ((slotsInUse u).find? (fun e => decide (e.2.state = 7) && decide ((e.2.sysId : Int) = v.int))).isSome),
    hits K.txSysResolve (leBytes 4 5) (served [(K.stwRole, 1)]) (fun _ v u => ((slotsInUse u).find? (fun e => decide (e.2.state = 7) && decide ((e.2.sysId : Int) = v.int))).isNone)] : List Bool).all id = true := by decide

theorem witness_NewelDecides :
    ([let s := newelPart []; s.serving && forThis (msgOf 0 []) s && isNewel s && decide (s.tx.sys = []),
    let s := newelPart [{ sysTx 5 0 with sysSeq := 0 }, sysTx 6 1]; s.serving && !forAll (msgOf 0 [2]) && forThis (msgOf 0 [2]) s && isNewel s && decide (sysOf s 5 0 = some { sysTx 5 0 with sysSeq := 0 } ∧ sysTx 6 1 ∈ s.tx.sys),
    let s := newelPart [sysTx 5 1]; s.serving && forThis (msgOf 0 []) s && isNewel s && decide (sysOf s (msgOf 0 []).sysId (msgOf 0 []).sysSeq = some (sysTx 5 1)),
    let s := newelPart [sysTx 5 1]; s.serving && forThis (msgOf 1 []) s && isNewel s && decide (sysOf s (msgOf 1 []).sysId (msgOf 1 []).sysSeq = some (sysTx 5 1)) && (sysTx 5 1).parts.all (fun a => decide (a = (msgOf 1 []).origin)),
    let s := withTime { Time.fresh with now := 10 ^ 14 } (newelPart [sysTx 5 1]); decide (votingOn s 5 = some (sysTx 5 1) ∧ 0 + s.nat K.txSysVoteTimeout ≤ s.time.now),
    let s := newelPart [sysTx 5 3]; s.serving && forThis (msgOf 0 []) s && isNewel s && decide (s.tx.sys.find? (fun x => decide (x.sysId = (msgOf 0 []).sysId ∧ x.sysSeq = (msgOf 0 []).sysSeq ∧ x.state = 3)) = some (sysTx 5 3)),
    let s := newelPart []; s.serving && forThis (msgOf 0 []) s && isNewel s,
    let s := newelPart [sysTx 5 1]; s.serving && forThis (msgOf 0 []) s && isNewel s && decide (abortTarget s (msgOf 0 []).sysId (msgOf 0 []).sysSeq = some (sysTx 5 1))] : List Bool).all id = true := by decide

theorem witness_PortTransitionsEnd :
    ([let s := st [(K.portChangingTo 3, 2)]; changing s 3 && decide ((s.port 3).due ≤ s.time.now),
    let s := st [(K.portChangingTo 3, psCal), (K.calStatus 3, 2)]; changing s 3 && decide ((s.port 3).due ≤ s.time.now ∧ s.num (K.portChangingTo 3) = psCal) && calHolds s 3,
    let s := withPort 3 { Port.fresh with due := 9 } (st []); decide (s.time.now < (s.port 3).due),
    let s := st [(K.portState 3, psRelay), (K.portTxWindow 3, 50)]; let u := withTime { Time.fresh with now := 50 } s;
     (portWalker u 3).isNone && !changing u 3 && decide (u.num (K.portState 3) = psRelay ∧ u.num (K.portTxWindow 3) ≠ 0 ∧ (u.port 3).relayAt + u.nat (K.portTxWindow 3) ≤ u.time.now),
    let s := withPort 3 { Port.fresh with returnWait := some 0 } (st []); decide ((s.port 3).returnWait = some 0 ∧ 0 ≤ s.time.now)] : List Bool).all id = true := by decide

theorem witness_SynthesisersLock :
    ([let s := st [(K.synState true 3, 2)]; decide (s.num (K.synState true 3) = 2 ∧ synDue s true 3 ≤ s.time.now),
    let s := st [(K.synState false 3, 3)]; decide (s.num (K.synState false 3) = 3),
    let s := st [(K.synState true 3, 5)]; decide (s.num (K.synState true 3) = 5 ∧ synDue s true 3 ≤ s.time.now),
    let s := st [(K.synState true 3, 5)]; decide (s.num (K.synState true 3) ≠ 2)] : List Bool).all id = true := by decide


/-- Port 3 in Cal, its calibration of a kind ended. -/
def inCal (kind : Nat) : State := st [(K.calStatus 3, 2), (K.portState 3, psCal), (K.portChangingTo 3, 0xFF), (K.calKind 3, kind)]

theorem witness_CalibrationsRun :
    ([hits (K.calStart 3) [1] (served []) (fun _ v _ => decide (v = .num 1)),
    hits (K.calAbort 3) [1] (served []) (fun _ v u => decide (v = .num 1 ∧ (u.port 3).calEnd ≠ some u.time.now) && !calRuns u 3),
    hits (K.calAbort 3) [1] (served [(K.calStatus 3, 2)]) (fun _ v u => decide (v = .num 1 ∧ u.num (K.portState 3) ≠ psCal ∧ (u.port 3).calEnd ≠ some u.time.now) && calRuns u 3),
    let s := st [(K.calPending 3, 1), (K.portState 3, psStandby)]; decide (nextKind s 3 = some 0 ∧ psStandby ≤ s.num (K.portState 3)) && !calHolds s 3 && !changing s 3 && mayStart s 3 0,
    let s := inCal 2; calEnded s 3 && decide (s.num (K.calKind 3) = 2 ∧ s.num (K.calIrPieces 3) < 3),
    let s := inCal 1; calEnded s 3 && decide (s.num (K.calKind 3) = 1) && !(s.port 3).lateAbort,
    let s := inCal 1; calEnded s 3 && decide (s.num (K.calKind 3) = 1 ∧ failsOf s 3 1 ≠ 2),
    let s := withTime { Time.fresh with now := 10 ^ 16 } (st [(K.calPending 3, 1)]); overdueNow s 3 0 && !calRuns s 3] : List Bool).all id = true := by decide

theorem witness_CalibrationsStampTheirGeneration :
    ([let s := inCal 0; calEnded s 3 && decide (s.num (K.calKind 3) ≠ 2) && !(s.port 3).lateAbort] : List Bool).all id = true := by decide


/-- Channel 5 runs on port 3, with one branch to it. -/
def chanOn (l : List (Nat × Int)) : State :=
  st ([(K.chRun 5, 1), (outPortKey 5 0, 3), (outPortKey 5 1, 0xFF), (outPortKey 5 2, 0xFF), (outPortKey 5 3, 0xFF), (K.cxRef0 5, 0xFE), (K.chD 5, 8)] ++ l)

theorem witness_CancellersAdapt :
    ([let s := { chanOn [(K.cxMaxError 5, 1000), (K.cxMinRef 5, -12000), (K.cxEstWindow 5, 0)] with wing := [(3, { WingPath.fresh with sums := List.replicate 92 (some (3, 4)) })] }; let x : EstWindow := ⟨[0], [[(5, 0)]], 0, 0, 0, []⟩;
     decide (s.num (K.chRun 5) = 1 ∧ s.nat (K.cxEstWindow 5) ≤ (s.pathOf 5).est) && (marginOf s 5 (fun n => ((measured s 5 x).find? (fun e => decide (e.1 = n))).map (fun e => e.2.2))).isSome && windowValid s 5 x,
    let s := st [(K.chRun 5, 1), (K.cxEstWindow 5, 0), (K.cxState 5, 2)]; let x : EstWindow := ⟨[0], [[(5, 0)]], 0, 0, 10 ^ 7, []⟩;
     decide (s.num (K.chRun 5) = 1 ∧ s.nat (K.cxEstWindow 5) ≤ (s.pathOf 5).est ∧ s.num (K.cxState 5) = 2 ∧ x.pIn + 3 * 65536 < x.pRes),
    let s := st []; decide (s.num (K.chRun 5) ≠ 1),
    let s := st [(K.cxState 5, 1), (K.cxAdaptTicks 5, 10 ^ 9), (K.cxMarginState 5, 1)]; decide (s.num (K.cxState 5) = 1 ∧ (reconvOf s 5 : Int) ≤ s.num (K.cxAdaptTicks 5) ∧ s.num (K.cxMarginState 5) = 1),
    let s := withChan 5 { Chan.fresh with heldTicks := 10 ^ 16 } (st [(K.cxMarginState 5, 2)]); decide (s.num (K.cxMarginState 5) = 2 ∧ s.nat (K.cxHoldLimit 5) < (s.chan 5).heldTicks),
    let s := withTime { Time.fresh with ot := 10 ^ 9 } (withChan 5 { Chan.fresh with demoFrom := some 0, demoIso := [(2, some 7)], demoDepth := [(2, some 8)] } (st [(K.cxState 5, 2)]));
     decide ((s.chan 5).demoFrom = some 0 ∧ s.num (K.cxState 5) = 2 ∧ 0 + 60 * 1024 ≤ s.time.ot ∧ Tab.get (fun _ => none) (s.chan 5).demoIso 2 = some 7 ∧ Tab.get (fun _ => none) (s.chan 5).demoDepth 2 = some 8),
    hits (K.cxReset 5) [1] (served []) (fun _ _ u => decide ((u.chan 5).tapAt ≠ some u.time.now)),
    let s := chanOn [(K.cxEnable 5, 1), (K.cxTaps 5, 16), (K.cxBranchSubpoolN 5 0, 0xFF), (K.cxSubpool 5, 0xFF), (K.cxPoolPowered, 1)];
     decide (nextDeferred s = some (5, 0)) && (roomFor s 5).isSome,
    let s := st [(K.chMutes 5, 2 ^ cmSettling)]; s.bit (K.chMutes 5) cmSettling && allSettled s 5,
    let s := withChan 5 { Chan.fresh with settle := [9] } (chanOn []); !allSettled s 5,
    let s := st [(K.slFading 3, 1)]; s.flag (K.slFading 3) && decide (startedIn s 3 = [])] : List Bool).all id = true := by decide +kernel

theorem witness_GainIsControlled :
    ([let s := withTime { Time.fresh with now := 10 ^ 12 } (st [(K.chRun 5, 1), (K.geModeNow 5, 0), (K.chMutes 5, 0)]); decide (s.num (K.chRun 5) = 1) && !engineHeld s 5 && atInstant s 5,
    let s := st []; decide (s.num (K.chRun 5) ≠ 1),
    let s := withChan 5 { Chan.fresh with pendingRate := some ⟨7, 1, 0, false, 2⟩ } (st [(K.chMutes 5, 0)]); decide ((s.chan 5).pendingRate = some ⟨7, 1, 0, false, 2⟩) && pendDue s ⟨7, 1, 0, false, 2⟩ && !engineHeld s 5,
    let s := withChan 5 { Chan.fresh with pendingRate := some ⟨7, 1, 0, false, 2⟩ } (st [(K.geHolds 5, 1)]); decide ((s.chan 5).pendingRate = some ⟨7, 1, 0, false, 2⟩) && pendDue s ⟨7, 1, 0, false, 2⟩ && engineHeld s 5,
    let s := st [(K.chRun 5, 1), (K.geFeTimer 5, 10 ^ 9)]; decide (s.num (K.chRun 5) = 1 ∧ s.num (K.geFeTime 5) ≤ s.num (K.geFeTimer 5)) && !(s.chan 5).feTripped,
    let s : State := { st [] with eng := ⟨[(0, 10 ^ 6)]⟩ }; !s.flag K.geFallback && decide (90 * 65536 < loadAt s s.time.now),
    let s := withTime { Time.fresh with now := 10 ^ 12 } (st [(K.geFallback, 1)]); s.flag K.geFallback && decide (10 * msTicks ≤ s.time.now ∧ loadAt s (s.time.now - 10 * msTicks) < 80 * 65536) &&
     s.eng.recent.all (fun e => decide (e.1 + 10 * msTicks ≤ s.time.now) || decide (loadAt s e.1 < 80 * 65536))] : List Bool).all id = true := by decide

theorem witness_PortsAreGuarded :
    ([let s := (st []).setWing 3 { WingPath.fresh with hmDue := some (0, 1) }; decide ((s.wingOf 3).hmDue = some (0, 1) ∧ 0 ≤ s.time.now ∧ s.num (K.hmState 3) = 0),
    let s := (st [(K.hmState 3, 1)]).setWing 3 { WingPath.fresh with hmDue := some (0, 1) }; decide ((s.wingOf 3).hmDue = some (0, 1) ∧ 0 ≤ s.time.now ∧ s.num (K.hmState 3) ≠ 0),
    let s := withTime { Time.fresh with now := 10 ^ 12 } (st [(K.hmState 3, 1), (K.hmRelease 3, 0)]); decide (s.num (K.hmState 3) = 1 ∧ s.num (K.hmRelease 3) = 0 ∧ (s.port 3).cleanFrom + s.nat (K.hmHold 3) ≤ s.time.now),
    hits (K.hmClear 3) [1] (served [(K.hmState 3, 1)]) (fun _ _ u => decide (u.num (K.hmState 3) ≠ 0)),
    let s := st [(K.prMutepin, 0)]; !s.flag K.prMutepin,
    let s := st [(K.prMutepin, 1)]; s.flag K.prMutepin] : List Bool).all id = true := by decide

theorem witness_OscillationIsTripped :
    ([let s := withChan 5 { Chan.fresh with oscFired := some (1, 0) } (st [(K.oscRestartLimit, 3)]); decide ((s.chan 5).oscFired = some (1, 0) ∧ 0 ≤ s.time.now ∧ s.num (K.oscState 5) ≠ 1 ∧ s.num (K.oscState 5) ≠ 2 ∧ s.num (K.oscRestarts 5) < s.num K.oscRestartLimit),
    let s := withChan 5 { Chan.fresh with oscFired := some (1, 0) } (st [(K.oscRestarts 5, 9), (K.oscRestartLimit, 3)]); decide ((s.chan 5).oscFired = some (1, 0) ∧ s.num (K.oscState 5) ≠ 1 ∧ s.num (K.oscState 5) ≠ 2 ∧ s.num K.oscRestartLimit ≤ s.num (K.oscRestarts 5)),
    let s := st [(K.oscState 5, 1)]; decide (s.num (K.oscState 5) = 1 ∧ s.num (K.oscDue 5) ≤ s.time.ot),
    hits (K.oscRestartNow 5) [1] (served [(K.oscState 5, 1)]) (fun _ _ u => decide (u.num (K.oscState 5) = 1)),
    hits (K.oscRestartNow 5) [1] (served []) (fun _ _ u => decide (u.num (K.oscState 5) ≠ 1)),
    let s := withChan 5 { Chan.fresh with oscTicks := 10 ^ 16 } (st []); decide (s.nat K.oscDecay * secTicks ≤ (s.chan 5).oscTicks)] : List Bool).all id = true := by decide

theorem witness_NoiseAndEmissionsAreWatched :
    ([let s := withChan 5 { Chan.fresh with noiseRun := 10 ^ 6 } (st [(K.chRun 5, 1), (K.chDir 5, 1)]); decide (s.num (K.chRun 5) = 1 ∧ s.num (K.chDir 5) = 1 ∧ cdb (s.num (K.nlLimit 5)) < 10 ^ 9 ∧ s.nat K.nlFrames ≤ (s.chan 5).noiseRun + 1),
    let s := st [(K.chRun 5, 1), (K.chDir 5, 1)]; decide (s.num (K.chRun 5) = 1 ∧ s.num (K.chDir 5) = 1 ∧ -10 ^ 9 ≤ cdb (s.num (K.nlLimit 5)) ∧ 0 < s.nat K.nlFrames),
    let s := withChan 5 { Chan.fresh with noiseEnd := some 0 } (st []); decide ((s.chan 5).noiseEnd = some 0 ∧ 0 ≤ s.time.ot),
    let s := withChan 5 { Chan.fresh with emissionEnd := some 0 } (st []); decide ((s.chan 5).emissionEnd = some 0 ∧ 0 ≤ s.time.ot),
    let s := withTime { Time.fresh with now := 10 ^ 12 } (st [(K.obsOwner 2, 0), (K.obsCurrent 2, 1)]); decide (s.num (K.obsOwner 2) = 0 ∧ s.num (K.obsCurrent 2) ≠ 0 ∧ (s.obsv 2).since + s.nat (K.obsDwell 2) ≤ s.time.now) && !(s.nat (K.obsCurrent 2)).testBit 4] : List Bool).all id = true := by decide


/-- Modulator 3 converts; its entry asks for two outputs and for accumulator 7. -/
def converting (kind outs : Nat) (l : List (Nat × Int)) : State :=
  let x : Modulator := { Modulator.fresh with kind := kind, outs := outs, ready := [⟨5, 0, 0⟩], oct := [0, 0, 0, 0, 0, 0, 2, 0, 7, 0x81, 0] }
  { st l with tms := [(3, x)] }

theorem witness_ConversionsYieldTheirOutputs :
    ([let s := converting 1 0 []; decide ((s.tm 3).ready = [⟨5, 0, 0⟩] ∧ (s.tm 3).kind ≠ 0 ∧ (s.tm 3).outs < teOutputs (s.tm 3).oct),
    let s := converting 1 0 []; decide ((s.tm 3).ready = [⟨5, 0, 0⟩] ∧ (s.tm 3).kind = 1 ∧ (s.tm 3).outs < teOutputs (s.tm 3).oct) && teAccEn (s.tm 3).oct && !s.flag (K.accFull (teAcc (s.tm 3).oct)),
    let s := converting 1 2 []; decide ((s.tm 3).kind = 1 ∧ (s.tm 3).endsAt ≤ s.time.now ∧ teOutputs (s.tm 3).oct ≤ (s.tm 3).outs),
    let s : State := { st [] with tms := [(3, { Modulator.fresh with endsAt := 5 })] }; decide (s.time.now < (s.tm 3).endsAt),
    let s := converting 1 0 []; decide ((s.tm 3).kind ≠ 0) && !s.bit (K.tmOvr 3) (s.tm 3).entry] : List Bool).all id = true := by decide

theorem witness_ConvertersAreCommanded :
    ([hits (K.tmInject 3) [1] (served []) (fun _ _ u => decide (u.num (K.tmInject 3) ≠ 1 ∧ u.num (K.tmInject 3) ≠ 2)),
    hits (K.tmCal 3) (leBytes 2 (4 * 256 + 1)) (served []) (fun _ v u => decide (v = .num ((4 * 256 + 1 : Nat) : Int) ∧ (u.tm 3).step = none)),
    hits (K.tmCal 3) (leBytes 2 (4 * 256 + 2)) { served [] with tms := [(3, { Modulator.fresh with zero := [(4, some 9)] })] }
     (fun _ v u => decide (v = .num ((4 * 256 + 2 : Nat) : Int) ∧ (u.tm 3).step = none ∧ Tab.get (fun _ => none) (u.tm 3).zero 4 = some 9)),
    hits (K.tmCal 3) (leBytes 2 (4 * 256 + 3)) (served []) (fun _ v _ => decide (v = .num ((4 * 256 + 3 : Nat) : Int))),
    hits (K.tmOvrClear 3) (leBytes 4 1) (served []) (fun _ _ _ => true),
    hits (K.accClear 9) [1] (served []) (fun _ _ _ => true),
    hits (K.trClear 9) [1] (served []) (fun _ _ _ => true)] : List Bool).all id = true := by decide


def withRail (r : Nat) (x : Rail) (s : State) : State := { s with rails := [(r, x)] }

def withFeed (f : Nat) (x : Feed) (s : State) : State := { s with feeds := [(f, x)] }

/-- A state long after reset. -/
def late (l : List (Nat × Int)) : State := withTime { Time.fresh with now := 10 ^ 16, ot := 10 ^ 10 } (st l)

theorem witness_RailsAreControlled :
    ([let s := served [(K.rlState 9, rsOff), (K.rlEnable 9, 1), (K.rlOnAfter 9, 0xFF)]; decide (s.num (K.rlState 9) = rsOff) && s.flag (K.rlEnable 9) && gateGood s 9 && !s.flag K.fltStopped && s.serving && decide (8 ≤ 9),
    let s := late [(K.rlState 9, rsOnDelay)]; decide (s.num (K.rlState 9) = rsOnDelay ∧ (s.rail 9).since + usTicks (s.nat (K.rlOnDelay 9)) ≤ s.time.now),
    let s := late [(K.rlState 9, rsRamping)]; decide (s.num (K.rlState 9) = rsRamping) && refArrived s 9,
    let s := late [(K.rlState 9, rsQualifying)]; decide (s.num (K.rlState 9) = rsQualifying ∧ (s.rail 9).since + usTicks (s.nat (K.rlPgQual 9)) ≤ s.time.now) && noConds s 9,
    let s := late [(K.rlState 9, rsGood)]; condActive s 9 4 && decide (Tab.get (fun _ => none) (s.rail 9).conds 4 = none),
    let s := withRail 9 { Rail.fresh with conds := [(4, some 0)] } (late [(K.rlState 9, rsFaultTiming)]); decide (s.num (K.rlState 9) = rsFaultTiming ∧ (s.rail 9).conds = [(4, some 0)]),
    let s := withRail 9 { Rail.fresh with conds := [(4, some 0)] } (late [(K.rlState 9, rsFaultTiming)]); decide (Tab.get (fun _ => none) (s.rail 9).conds 4 = some 0 ∧ s.num (K.rlState 9) = rsFaultTiming ∧ 0 + condTicks s 9 4 ≤ s.time.now),
    let s := late [(K.rlState 9, rsFaultOff), (K.rlRetriesLeft 9, 2)]; decide (s.num (K.rlState 9) = rsFaultOff ∧ (s.rail 9).since + s.nat (K.rlRetry 9) * secTicks ≤ s.time.now ∧ s.num (K.rlRetriesLeft 9) ≠ 0),
    let s := late [(K.rlState 9, rsFaultOff), (K.rlRetriesLeft 9, 0)]; decide (s.num (K.rlState 9) = rsFaultOff ∧ (s.rail 9).since + s.nat (K.rlRetry 9) * secTicks ≤ s.time.now ∧ s.num (K.rlRetriesLeft 9) = 0),
    let s := late [(K.rlState 9, rsOffRamp)]; decide (s.num (K.rlState 9) = rsOffRamp) && refArrived s 9,
    let s := late [(K.rlState 9, rsGood), (K.rlSense 9, 0)]; railOn s 9 && decide (s.num (K.rlSense 9) = 0),
    let s := late [(K.rlState 3, rsGood), (K.rlPhases 3, 4)]; railOn s 3 && decide (1 ∈ goodPhases s 3),
    decide ((st []).num K.rlVselPins = 0),
    let s := withRail 3 { Rail.fresh with vsel := some 2 } (late [(K.rlSelSource 3, 1)]); decide ((s.rail 3).vsel = some 2 ∧ s.num (K.rlSelSource 3) = 1) && railQuiet s 3,
    let s := withRail 3 { Rail.fresh with moveDue := some 0 } (late []); decide ((s.rail 3).moveDue = some 0 ∧ 0 ≤ s.time.now),
    let s := late [(K.rlAutoShed 3, 1), (K.rlState 3, rsGood), (K.rlPhases 3, 2), (K.rlActivePhases 3, 3), (K.rlPhaseIlimit 3, 100), (K.rlShedBelow 3, 50), (K.rlSpNPhases 3 0, 1)];
     s.flag (K.rlAutoShed 3) && decide (s.num (K.rlState 3) = rsGood ∧ max 1 (wantedCount s 3 (s.nat (K.rlSetpoint 3))) < (steadyPhases s 3).length) && railQuiet s 3 && !inKeepout s 3 &&
     decide (100 * 0 < s.num (K.rlShedBelow 3) * s.num (K.rlPhaseIlimit 3) * (((steadyPhases s 3).length : Int) - 1) ∧ (steadyPhases s 3).getLast? = some 1),
    let s := withRail 3 { Rail.fresh with shedding := [(1, some 0)] } (late []); decide (Tab.get (fun _ => none) (s.rail 3).shedding 1 = some 0 ∧ 0 ≤ s.time.now),
    let s := withRail 2 { Rail.fresh with auto := 2 } (late [(K.portState 3, psRelay), (K.rlPortRail 3, 2)]); inKeepout s 2 && decide ((s.rail 2).auto ≠ 0),
    let s := late [(K.rlState 3, rsGood), (K.rlPhases 3, 2), (K.rlActivePhases 3, 1)]; railOn s 3 && decide ((steadyPhases s 3).length < (goodPhases s 3).length),
    let s := late [(K.rlTAcc 3, 7), (K.rlPhases 3, 2)]; decide (s.num (K.rlTAcc 3) ≠ 0xFF ∧ 1 < s.nat (K.rlPhases 3)),
    let s := late [(K.rlVAcc 3, 7), (K.rlIAcc 3, 8)]; decide (s.num (K.rlVAcc 3) ≠ 0xFF ∧ s.num (K.rlIAcc 3) ≠ 0xFF) && unityGain s 7 && unityGain s 8,
    hits (K.rlPeakClear 3) [1] (served []) (fun _ v _ => decide (v = .num 1))] : List Bool).all id = true := by decide

theorem witness_FeedsArePowered :
    ([let s := st [(K.fdState 3, fsDetecting)]; decide (s.num (K.fdState 3) = fsDetecting ∧ (s.port 3).returnWait = none),
    let s := withFeed 3 { Feed.fresh with validFrom := some 0 } (late [(K.fdState 3, fsDetecting)]); decide (s.num (K.fdState 3) = fsDetecting) && signatureValid s 3 && supplyOk 12000,
    let s := late [(K.fdState 3, fsClassifying), (K.fdClassAllow 3, 31)]; decide (s.num (K.fdState 3) = fsClassifying ∧ (s.feed 3).since + 4 * msTicks ≤ s.time.now ∧ classFor 60 = some 1) && s.bit (K.fdClassAllow 3) 1,
    let s := late [(K.fdState 3, fsClassifying)]; decide (s.num (K.fdState 3) = fsClassifying ∧ (s.feed 3).since + 4 * msTicks ≤ s.time.now ∧ classFor 2000 = none),
    let s := withFeed 3 { Feed.fresh with nearFrom := some 0 } (late [(K.fdState 3, fsInrush)]); decide (s.num (K.fdState 3) = fsInrush) && stood (s.feed 3).nearFrom msTicks s,
    let s := late [(K.fdState 3, fsInrush)]; decide (s.num (K.fdState 3) = fsInrush ∧ (s.feed 3).since + s.nat (K.fdInrushMax 3) * msTicks ≤ s.time.now),
    let s := withFeed 3 { Feed.fresh with vinFrom := some 0 } (late [(K.fdState 3, fsOn)]); feedPowered s 3 && feedCond s 3 6,
    let s := withFeed 3 { Feed.fresh with limitFrom := some 0 } (late [(K.fdState 3, fsOn)]); decide (s.num (K.fdState 3) = fsOn) && stood (s.feed 3).limitFrom (s.nat (K.fdOcTime 3) * msTicks) s,
    let s := withFeed 3 { Feed.fresh with lowFrom := some 0 } (late [(K.fdState 3, fsOn), (K.fdHoldMa 3, 5)]); stood (s.feed 3).lowFrom (s.nat (K.fdHoldTime 3) * msTicks) s && decide (s.num (K.fdState 3) = fsOn ∧ s.num (K.fdHoldMa 3) ≠ 0),
    decide ((st []).num (K.fdVin 3) = 0),
    let s := withFeed 3 { Feed.fresh with validFrom := some 0 } (late [(K.fdState 3, fsFaultOff), (K.fdRetriesLeft 3, 2), (K.fdLastFault 3, 1)]);
     decide (s.num (K.fdState 3) = fsFaultOff ∧ s.num (K.fdRetryDue 3) ≤ s.time.ot ∧ 0 < s.num (K.fdRetriesLeft 3)) && signatureValid s 3 && cooled s 3,
    let s := late [(K.fdState 3, fsOn)]; decide (s.num (K.fdState 3) = fsOn ∧ (s.feed 3).since + 600 * secTicks ≤ s.time.now),
    let s := withFeed 3 { Feed.fresh with leakFrom := some 0 } (late [(K.fdState 3, fsOff)]); stood (s.feed 3).leakFrom (10 * msTicks) s && !feedPowered s 3 && decide (s.num (K.fdState 3) ≠ fsSealed),
    let s := withPort 3 { Port.fresh with rlEnd := some 0 } (late []); decide ((s.port 3).rlEnd = some 0 ∧ 0 ≤ s.time.ot),
    hits (K.fdAbort 3) [1] (served [(K.fdState 3, fsInrush)]) (fun _ v u => decide (v = .num 1 ∧ fsDetecting ≤ u.num (K.fdState 3) ∧ u.num (K.fdState 3) ≤ fsInrush)),
    hits (K.fdAbort 3) [1] (served [(K.fdState 3, fsOff)]) (fun _ v u => decide (v = .num 1 ∧ u.num (K.fdState 3) = fsOff)),
    hits (K.fdRestart 3) [1] (served [(K.fdState 3, fsLatched)]) (fun _ v u => decide (v = .num 1 ∧ u.num (K.fdState 3) = fsLatched))] : List Bool).all id = true := by decide

theorem witness_ThermalManagerActs :
    ([decide ((st []).th.evals = 0),
    let s : State := { late [(K.thEnforce, 1), (K.thLevel, 2)] with th := { Thermal.fresh with graceEnd := some 5 } }; decide (s.th.graceEnd = some 5 ∧ s.num K.thEnforce = 1 ∧ 5 ≤ s.time.now ∧ 2 ≤ s.num K.thLevel),
    let s := withOct K.thShedOrder [3, 4] (late [(K.thEnforce, 3), (K.thLevel, 2), (K.pdState 3, 3), (K.pdState 4, 3)]); decide (s.num K.thEnforce = 3 ∧ 2 ≤ s.num K.thLevel) && !enforceFrozen s && stepDue s && (nextShed s).isSome,
    let s : State := { late [(K.thEnforce, 4)] with th := { Thermal.fresh with shed := [3] } }; decide (s.num K.thEnforce = 4 ∧ s.th.shed = [3]) && !enforceFrozen s && stepDue s,
    let s : State := { late [] with th := { Thermal.fresh with hold := some (3, 1, 5) } }; decide (s.th.hold = some (3, 1, 5) ∧ 5 ≤ s.time.now ∧ aloneLevel (({ s with th := { s.th with hold := none } }).set K.thHeld 0) = s.num K.thLevel),
    hits K.thLearn [1] (served []) (fun _ _ u => decide (u.num K.thLevel = 0)),
    hits K.thLearn [1] (served [(K.thLevel, 1)]) (fun _ _ u => decide (u.num K.thLevel ≠ 0))] : List Bool).all id = true := by decide


def recOne : Rec := ⟨0x0601, 3, 1, 2, 0, 4, 5, 6, 7⟩

/-- It stands in the permanent area of both banks. -/
def permKept : State := { served [] with jr := Journal.fresh.onBanks (Bank.addLog [] [recOne] ⟨0, 1, 0, 0, 0⟩) }

theorem witness_FaultsEndAndRecordsFlush :
    ([let s : State := { late [(stateKey 5, 2)] with flt := ⟨[], [(5, some 7)], [], [], []⟩ }; decide (Tab.get (fun _ => none) s.flt.holdEnd 5 = some 7 ∧ s.num (stateKey 5) = 2 ∧ 7 ≤ s.time.ot),
    hits K.fltClear (leBytes 2 0x4403) (served []) (fun _ v u => decide (v = .num ((0x4403 : Nat) : Int) ∧ u.num (stateKey 0x4403) ≠ 4) && sourceListed 0x4403),
    hits K.fltClear (leBytes 2 0xFFFF) (served []) (fun _ v _ => decide (v = .num ((0xFFFF : Nat) : Int)) && !sourceListed 0xFFFF),
    hits K.fltClearAll [1] (served [(stateKey 0x4403, 2)]) (fun _ _ u => decide ((busySources u).filter (fun x => decide (u.num (stateKey x) ≠ 4)) = [0x4403])),
    hits K.fltStickyClear (leBytes 4 1) (served []) (fun _ v _ => decide (v = .num ((1 : Nat) : Int))),
    let s := late []; decide (s.log.lastFlushEnd + 10 * secTicks ≤ s.time.now ∧ s.log.flushing = none) && !s.bothFailed,
    hits K.recFlush [1] (served []) (fun _ _ u => decide (u.log.flushing = none) && !u.bothFailed),
    let s : State := { st [] with log := { Recorder.fresh with flushing := some 1, buffer := [(1, recOne)] } }; decide (s.log.flushing = some 1 ∧ s.log.pfailAt = none ∧ s.jr.bank0.failed = false ∧ s.jr.bank1.failed = false) && s.bankOk 0 && s.bankOk 1 && !s.flag K.recLoglost,
    let s : State := { st [] with log := { Recorder.fresh with waiting := [recOne] } }; decide (s.log.waiting = [recOne] ∧ s.log.buffer.length < 512),
    !failingNow (st []),
    let s : State := { served [] with log := { Recorder.fresh with buffer := [(0, recOne)] } };
     clears kRead { frameTo K.recRecord [] with describe := false } s (fun w u => ((readable u).find? (fun x => decide (x.1 = (u.master w.flow).cursor))).isSome),
    let s : State := permKept;
     clears kRead { frameTo K.recPermRecord [] with describe := false } s (fun w u => (u.perm[(u.master w.flow).permCursor]?).isSome)] : List Bool).all id = true := by decide

theorem witness_CapturesAreTaken :
    ([hits K.galArm [1] (served [(K.pdState 80, 3), (K.galState, gsIdle), (K.galSrcN 0, 0x1000), (K.galPre, 1), (K.galPost, 1)]) (fun _ _ u =>
     decide (u.num (K.pdState 80) = 3 ∧ u.num K.galState = gsIdle ∧ galSources u ≠ [] ∧ u.nat K.galPre + u.nat K.galPost ≤ galBlock (galSources u).length)),
    hits K.galArm [1] (served [(K.galState, gsHeld)]) (fun _ _ u => decide (u.num K.galState ≠ gsIdle)),
    hits K.galTrigger [1] (served [(K.galState, gsArmed)]) (fun _ _ u => decide (u.num K.galState = gsArmed)),
    hits K.galTrigger [1] (served [(K.galState, gsIdle)]) (fun _ _ u => decide (u.num K.galState = gsIdle)),
    hits K.galAbort [1] (served [(K.galState, gsArmed)]) (fun _ _ u => decide (u.num K.galState = gsArmed)),
    hits K.galAbort [1] { served [(K.galState, gsTriggered)] with gal := { Gallery.fresh with post := 9 } } (fun _ _ u => decide (u.num K.galState = gsTriggered) && !captureOver u),
    hits K.galAbort [1] (served [(K.galState, gsTriggered)]) (fun _ _ u => captureOver u),
    hits K.galRelease [1] (served [(K.galState, gsHeld), (K.galDriveState, 0)]) (fun _ _ u => decide (u.num K.galState = gsHeld ∧ u.num K.galDriveState ≠ 2)),
    hits K.galRelease [1] (served [(K.galState, gsIdle)]) (fun _ _ u => decide (u.num K.galState ≠ gsHeld)),
    hits K.galFormat [1] (served [(K.galState, gsIdle), (K.galDriveState, 4)]) (fun _ _ u => decide (u.num K.galState ≠ gsDraining ∧ u.num K.galState ≠ gsFull) && drivePresent u),
    hits K.galFormat [1] (served [(K.galState, gsDraining)]) (fun _ _ u => decide (u.num K.galState = gsDraining)),
    let s := st [(K.galState, gsFilling)]; decide (s.num K.galState = gsFilling ∧ s.gal.fillAt + s.gal.pre ≤ s.time.now),
    let s := st [(K.galState, gsTriggered)]; captureOver s,
    let s := st [(K.galState, gsHeld), (K.galDriveState, 2), (K.galMode, 0)]; decide (s.num K.galState = gsHeld ∧ s.num K.galDriveState = 2) && slotFree s,
    let s := st [(K.galState, gsDraining), (K.galAutoRearm, 0)]; decide (s.num K.galState = gsDraining) && !s.flag K.galAutoRearm,
    let s := st [(K.galState, gsDraining), (K.galAutoRearm, 1)]; decide (s.num K.galState = gsDraining) && s.flag K.galAutoRearm,
    let s := st [(K.pdState 81, 3)]; decide (s.num (K.pdState 81) = 3 ∧ 2 < 3),
    let s := st [(K.pdState 81, 3)]; decide (s.num (K.pdState 81) = 3 ∧ 3 ≤ 3),
    let s := st [(K.galDriveState, 2)]; drivePresent s,
    let s := st [(K.pdState 81, 3), (K.galState, gsIdle)]; decide (s.num (K.pdState 81) = 3 ∧ s.num K.galState ≠ gsHeld),
    let s := st [(K.pdState 81, 0)]; decide (s.num (K.pdState 81) ≠ 3)] : List Bool).all id = true := by decide

theorem witness_HostInterfaceActs :
    ([decide ((st []).host.irq = 0),
    let s := st []; !s.serving,
    let s := served []; s.serving,
    let s := served []; s.serving,
    let s := served []; s.serving && decide (indexStep s.host.reqCons 0 = 0),
    let s := served [(K.mrFrozen 1, 8)]; s.serving && decide (indexStep s.host.reqCons 1 = 1 ∧ s.num (K.mrFrozen 1) ≠ 0 ∧ s.host.held = [] ∧ s.host.rspProd < s.host.rspCons + 2048 ∧ leAt (padTo 64 []) 0 1 / 32 ≠ 6),
    let s := served []; s.serving && decide (2048 < indexStep s.host.reqCons 5000 ∧ s.num (K.mrFrozen 1) = 0),
    let s := served []; s.serving && decide (s.host.held = [] ∧ s.host.rspCons + indexStep s.host.rspCons 0 ≤ s.host.rspProd ∧ s.host.ntfCons + indexStep s.host.ntfCons 0 ≤ s.host.ntfProd),
    decide ((st []).host.irq = 0),
    decide ((st []).host.mirrorSeq = 0),
    let s : State := { late [(K.dmaState 3, 1), (K.dmaRingBlocks 3, 4)] with host := { HostIf.fresh with dmaFull := [(3, [DmaBlock.fresh])] } };
     decide (s.num (K.dmaState 3) = 1 ∧ fullOf s 3 = [DmaBlock.fresh] ∧ rptrOf s 3 ≤ 0 ∧ 0 ≤ wptrOf s 3 ∧ wptrOf s 3 < 0 + s.nat (K.dmaRingBlocks 3)),
    let s : State := { late [(K.dmaState 3, 1), (K.dmaSource 3, 0x1000), (K.dmaRingBlocks 3, 4), (K.dmaOverflow 3, 0)] with host := { HostIf.fresh with wptr := [(3, 5)], rptr := [(3, 1)], dmaFull := [(3, [DmaBlock.fresh])] } };
     decide (s.num (K.dmaState 3) = 1 ∧ fullOf s 3 = [DmaBlock.fresh] ∧ 0 < rptrOf s 3 ∧ s.num (K.dmaOverflow 3) = 0) && ringFull s 3,
    hits (K.dmaRun 3) [1] { served [(K.pdState 82, 3), (K.dmaSource 3, 0x1000), (K.dmaRingBlocks 3, 4), (K.hostLink, 0x45)] with host := { HostIf.fresh with busMaster := true } }
     (fun _ v u => decide (v = .num 1 ∧ u.num (K.pdState 82) = 3) && dmaMayStart u 3),
    hits (K.dmaRun 3) [1] (served [(K.pdState 82, 3)]) (fun _ v u => decide (v = .num 1 ∧ u.num (K.pdState 82) = 3) && !dmaMayStart u 3),
    hits (K.dmaRun 3) [0] (served [(K.pdState 82, 3), (K.dmaState 3, 1)]) (fun _ v u => decide (v = .num 0 ∧ u.num (K.pdState 82) = 3 ∧ u.num (K.dmaState 3) = 1)),
    let s := st [(K.hostLink, 0x45)]; decide (dmaRunning s = [] ∧ s.num K.hostLink ≠ 0),
    decide ((st []).host.busMaster = false)] : List Bool).all id = true := by decide +kernel


/-- A root record, a credential record, a permit record and an empty revocation list, of root 0. -/
def rootRecord : List Byte := [0x4D, 0x59, 0x52, 0x4B, 1, 0, 2, 0xFF] ++ List.replicate 140 0

def credRecord : List Byte := [0x4D, 0x59, 0x43, 0x52, 2, 0, 0, 0] ++ List.replicate 192 0

def permitRecord : List Byte := [0x4D, 0x59, 0x50, 0x4D, 1, 0, 2, 0] ++ List.replicate 8 0 ++ leBytes 4 9 ++ leBytes 4 700000 ++ leBytes 4 800000 ++ List.replicate 100 0

def revokeRecord : List Byte := [0x4D, 0x59, 0x52, 0x56, 1, 0, 0, 0] ++ List.replicate 80 0

/-- A BLOB written by a frame of master 4, as its last frame leaves it. -/
def blobHits (k : Nat) (b : List Byte) (org : Origin) (s : State) (p : Who → Val → State → Bool) : Bool :=
  match reaches k { frameOf b with org := org, more := true } s with
  | some (w, v, u) => p w v u
  | none => false

theorem witness_CloisterAnswers :
    ([blobHits K.secRootInstall rootRecord (.master 1) (st [(K.pdBootStage, 6), (K.mrLevel 1, 3)]) (fun w v u => decide (v = .oct rootRecord) && rootFormat rootRecord &&
     decide (leAt rootRecord 7 1 = 0xFF ∧ leAt rootRecord 5 1 = 0 ∧ u.num K.secState = 0 ∧ w.flow = 1) && !w.tunnel),
    blobHits K.secRootInstall (List.replicate 148 0) (.master 4) (served []) (fun _ v _ => decide (v = .oct (List.replicate 148 0)) && !rootFormat (List.replicate 148 0)),
    blobHits K.secCredInstall credRecord (.master 4) (served []) (fun _ v _ => decide (v = .oct credRecord) && credFormat credRecord),
    hits K.secUnlock [2] (served [(K.secCredLevels, 4)]) (fun w v u => decide (v = .num ((2 : Nat) : Int) ∧ u.num K.secState ≠ 2) && !lockedOut u && u.bit K.secCredLevels 2 && !w.tunnel),
    hits K.secUnlock [2] (served [(K.secState, 2)]) (fun _ v u => decide (v = .num ((2 : Nat) : Int) ∧ u.num K.secState = 2)),
    hits K.secResponse (List.replicate 32 0) ((served []).setMaster 4 { Master.fresh with challenge := some (2, [1], 9) }) (fun w _ u => decide ((u.master w.flow).challenge = some (2, [1], 9) ∧ u.time.now < 9)),
    hits K.secResponse (List.replicate 32 0) (served []) (fun w _ u => decide ((u.master w.flow).challenge = none)),
    let s := (st []).setMaster 4 { Master.fresh with challenge := some (2, [1], 0) }; decide ((s.master 4).challenge = some (2, [1], 0) ∧ 0 ≤ s.time.now),
    let s := st [(K.secLockoutEnd, 5)]; let u := withTime { Time.fresh with ot := 9 } s; decide (u.num K.secLockoutEnd ≠ 0) && !lockedOut u,
    blobHits K.secPermitInstall permitRecord (.master 4) (served []) (fun _ v u => decide (v = .oct permitRecord) && permitFormat permitRecord && decide (heldPermits u = []) &&
     !idRevoked u (pmRoot permitRecord) (pmId permitRecord) && (permitSlot u).isSome),
    blobHits K.secRevoke revokeRecord (.master 4) (served []) (fun _ v _ => decide (v = .oct revokeRecord) && revokeFormat revokeRecord),
    hits K.secFwWrite [1, 2, 3] (served []) (fun _ v u => decide (v = .oct [1, 2, 3] ∧ u.nat K.secFwOffset + 3 ≤ 2 ^ 24)),
    hits K.secFwCommit [1] (served []) (fun _ _ _ => true),
    hits K.secFwConfirm [1] (served []) (fun _ _ _ => true)] : List Bool).all id = true := by decide

theorem witness_PartResetsAndBoots :
    ([decide ((st []).boot.por = true ∧ (st []).boot.porst = false ∧ (st []).boot.warm = false),
    let s : State := { st [] with boot := { Boot.fresh with porst := true } }; s.boot.porst,
    let s : State := { st [] with boot := { Boot.fresh with por := false } }; decide (s.boot.por = false ∧ s.boot.porst = false ∧ s.boot.warm = false),
    let s : State := { st [] with boot := { Boot.fresh with por := false, porst := true } }; decide (s.boot.por = false ∧ s.boot.porst = true ∧ s.boot.warm = false),
    let s : State := { st [] with boot := { Boot.fresh with por := false, warm := true } }; decide (s.boot.por = false ∧ s.boot.porst = false ∧ s.boot.warm = true),
    [1, 2, 3, 4, 5].all (fun n => decide ((st [(K.pdBootStage, (n : Nat))]).nat K.pdBootStage = n)),
    let s := late [(K.pdBootStage, 7)]; decide (s.num K.pdBootStage = 7 ∧ s.boot.reportAt + 10 * secTicks ≤ s.time.now),
    let s : State := { late [(K.pdState 3, dsPowering)] with domDue := [(3, some 5)] }; decide (Tab.get (fun _ => none) s.domDue 3 = some 5 ∧ 5 ≤ s.time.now ∧ s.num (K.pdState 3) = dsPowering),
    let s : State := { late [(K.pdState 80, dsPowering)] with domDue := [(80, some 5)] }; decide (Tab.get (fun _ => none) s.domDue 80 = some 5 ∧ 5 ≤ s.time.now ∧ s.num (K.pdState 80) = dsPowering),
    let s : State := { late [(K.pdState 3, dsChecking)] with domDue := [(3, some 5)] }; decide (Tab.get (fun _ => none) s.domDue 3 = some 5 ∧ 5 ≤ s.time.now ∧ s.num (K.pdState 3) = dsChecking ∧ startedIn s 3 = []),
    hits K.pdRepair [1] (served []) (fun _ _ u => decide (u.num K.pdRepairGen ≠ 65535) && (List.range 32).all (fun p => decide (u.num (K.portState p) = psOff ∨ u.num (K.portState p) = psSleep)))] : List Bool).all id = true := by decide


/-- A self-test of rail 3 that runs until a tick. -/
def testing (due : Nat) : SelfTest := ⟨0x503, 4, due, false, false⟩

def withTest (due : Nat) (s : State) : State := { s with panel := { s.panel with test := some (testing due) } }

theorem witness_SelfTestsRun :
    ([hits K.stRun (leBytes 2 0x503) (served [(K.rlState 3, rsOff)]) (fun _ v u => decide (v = .num ((0x503 : Nat) : Int) ∧ u.panel.test = none) && testAllowed u (0x503 / 256) (0x503 % 256)),
    hits K.stRun (leBytes 2 0x503) (served [(K.rlState 3, rsGood)]) (fun _ v u => decide (v = .num ((0x503 : Nat) : Int) ∧ u.panel.test = none) && !testAllowed u (0x503 / 256) (0x503 % 256)),
    hits K.stRun (leBytes 2 0x503) (withTest 9 (served [])) (fun _ _ u => decide (u.panel.test = some (testing 9))),
    hits (K.portLoopbackTest 3) [1] (served [(K.portState 3, psStandby)]) (fun _ _ u => decide (u.panel.test = none) && testAllowed u 1 3),
    hits (K.portLoopbackTest 3) [1] (served [(K.portState 3, psOff)]) (fun _ _ u => decide (u.panel.test = none) && !testAllowed u 1 3),
    decide ((withTest 9 (st [])).panel.test = some (testing 9)),
    decide ((withTest 0 (st [])).panel.test = some (testing 0)) && testOver (withTest 0 (st [])) (testing 0) && !(testing 0).late,
    decide ((st []).panel.test = none),
    hits K.stAbort [1] (withTest 9 (served [])) (fun _ v u => decide (v = .num 1 ∧ u.panel.test = some (testing 9)) && !testOver u (testing 9)),
    hits K.stAbort [1] (withTest 0 (served [])) (fun _ v u => decide (v = .num 1 ∧ u.panel.test = some (testing 0)) && testOver u (testing 0)),
    let s : State := { late [] with panel := { (st []).panel with blink := some ⟨0, 5, 0x503, 2⟩ } }; decide (s.panel.blink = some ⟨0, 5, 0x503, 2⟩ ∧ 5 + 12 * secTicks ≤ s.time.now)] : List Bool).all id = true := by decide


/-- Key 3 has been touched, and pressed at tick 0, and no key has been released but at tick 0. -/
def keyed (touched : Bool) (l : List (Nat × Int)) : State :=
  { withTime { Time.fresh with now := 10 ^ 16 } (served l) with panel := { (st []).panel with keys := [(3, { Key.fresh with touched := touched })], lastRelease := some 0 } }

theorem witness_PanelFollows :
    ([!(st []).serving,
    let s := served [(K.mtrSource 0, K.mtrScale 0)]; s.serving && decide (s.panel.test = none ∧ s.nat (K.mtrSource 0) ≠ 0) && !noValue s (s.nat (K.mtrSource 0)) && (Dict.rowOf (s.nat (K.mtrSource 0))).isSome && !measuredLive s (s.nat (K.mtrSource 0)),
    (served []).serving && decide (([1, 2, 3, 4] : List Int)[3]? = some 4),
    let s := keyed true [(K.keyState 3, 0)]; s.serving && decide (s.num (K.keyState 3) = 0) && (s.key 3).touched && settled s 3,
    let s := keyed false [(K.keyState 3, 1)]; s.serving && decide (s.num (K.keyState 3) ≠ 0) && !(s.key 3).touched && settled s 3,
    let s := keyed true [(K.keyState 3, 1)]; decide (s.num (K.keyState 3) = 1 ∧ (s.key 3).pressedAt + 60 * secTicks < s.time.now),
    let s := keyed true [(K.keyState 3, 1), (K.keyFunction 3, 1), (K.banState, 0)]; qualifies s 3 && decide (s.num K.banState = 0),
    let s : State := { keyed true [(K.keyState 3, 1), (K.keyFunction 3, 1), (K.banState, 1)] with panel := { (st []).panel with keys := [] } }; qualifies s 3 && decide (s.num K.banState ≠ 0) && !secondPress s 3,
    let s := late [(K.banState, 1), (K.banEnd, 5)]; decide (s.num K.banState ≠ 0 ∧ s.num K.banEnd ≤ s.time.ot),
    let s := keyed true [(K.keyState 3, 1), (K.keyFunction 3, 1), (K.banState, 1)]; decide (s.num K.banState ≠ 0) && qualifies s 3 && secondPress s 3,
    decide (((Tab.get (fun _ => []) (st []).parity 2).filter (fun x => decide ((st []).time.now < x + secTicks))).length < 16),
    let s : State := { st [] with parity := [(2, List.replicate 16 0)] }; decide (16 ≤ ((Tab.get (fun _ => []) s.parity 2).filter (fun x => decide (s.time.now < x + secTicks))).length) && !s.bit (dieKey 2) 3] : List Bool).all id = true := by decide


/-- The console at level 3 in a part that serves. -/
def consoled (l : List (Nat × Int)) : State := served ((K.mrLevel 2, 3) :: l)

theorem witness_ConsoleServesItsCommands :
    ([consoleReady (consoled []),
    let s := { consoled [] with con := ⟨none, some (K.conEcho, 100, 0), none⟩ }; let u := withTime { Time.fresh with now := 10 ^ 10 } s; consoleReady u && decide (u.con.watch = some (K.conEcho, 100, 0) ∧ 0 + 100 * msTicks ≤ u.time.now) && (Dict.rowOf K.conEcho).isSome,
    rowIs (frameTo K.conEcho []) (fun r _ => decide (r.access ≠ .wo)) && (Dict.rowOf K.conEcho).isSome,
    let s := consoled []; (admits (K.mtrSource 0) (leBytes 4 (K.conEcho : Nat)) (conWho s) (atConsole s)).isSome && (admits (K.mtrScale 0) (leBytes 4 5) (conWho s) (atConsole s)).isSome && (admits (K.mtrOffset 0) (leBytes 4 5) (conWho s) (atConsole s)).isSome,
    let s := consoled [(K.rlState 3, rsOff)]; decide (admits K.stRun (leBytes 2 ((5 * 256 + 3 : Nat) : Int)) (conWho s) (atConsole s) = some (.num ((5 * 256 + 3 : Nat) : Int)) ∧ s.panel.test = none) && testAllowed (atConsole s) 5 3,
    let s := withTest 9 (consoled []); decide (admits K.stAbort [1] (conWho s) (atConsole s) = some (.num 1) ∧ s.panel.test = some (testing 9)) && !testOver (atConsole s) (testing 9),
    let s := consoled [(K.secCredLevels, 4)]; decide (admits K.secUnlock (leBytes 1 (2 : Int)) (conWho s) (atConsole s) = some (.num (2 : Int)) ∧ s.num K.secState ≠ 2) && !lockedOut s && s.bit K.secCredLevels 2,
    let s := consoled []; (admits K.secResponse (List.replicate 32 0) (conWho s) (atConsole s)).isSome && decide ((s.master 2).challenge = none),
    let s := consoled []; decide (admits K.rpNote [65, 66] (conWho s) (atConsole s) = some (.oct [65, 66])),
    let s := consoled []; (admits K.pdRepair [1] (conWho s) (atConsole s)).isSome && decide (s.num K.pdRepairGen ≠ 65535) && (List.range 32).all (fun p => decide (s.num (K.portState p) = psOff ∨ s.num (K.portState p) = psSleep))] : List Bool).all id = true := by decide

/-- What a command leaves has a property. -/
def after (c : Instr) (s : State) (p : State → Bool) : Bool :=
  match exec c s with
  | .next t => p t
  | _ => false

/-! ### Well-formed commands -/

/-- Each check of WellFormed refuses a term. -/
theorem test_illFormedIsRefused :
    ([.read { frameOf [] with seq := 256 }, .read { frameOf [] with org := .master 72 }, .write { frameOf [] with org := .can 2 1 1 },
      .write { frameOf [] with org := .can 0 0 1 }, .stage { frameOf [] with org := .tunnel 3 0 0 0 }, .commit { frameOf [] with sub := 256 },
      .abort { frameOf [] with index := 65536 }, .segment ⟨.master 4, 0, false, List.replicate 63 0⟩, .mrUnfreeze 72 (frameOf []), .canBusOffRecovery 2,
      .canSlotRelease 72, .tunnelForward 3 ⟨⟨0, 0, 0, 0, 1, 0⟩, []⟩, .tunnelLevelResponse ⟨⟨512, 0, 0, 0, 1, 0⟩, 0, 0, 0, 0⟩, .sourceRevert 16, .stepMuteRelease 512,
      .linkAligned 3, .linkRoleExchange 0 2, .linkMeasureDone 3 0, .stwRetrain 3 (frameOf []), .timeCell 0 ⟨true, true, 0, 256, true, 0, 0⟩,
      .census 513 [] [] [], .portStateChange (.entry 4096), .gainHold (.action 0 0), .transactionCommit (2 ^ 32), .segmentBoundary 8, .txIdleAbort 64,
      .branch ⟨256, 0, 0, 0, 0, 0, 0, 0, 0, []⟩, .parts ⟨0, 0, 0, 0, 0, 0, 0, 0, 0, [512]⟩, .voteTimeout (2 ^ 32), .inDoubtTimeout 64, .portTransitionDone 32,
      .synthLockLoss true 32, .calStart 32 (frameOf []), .calComplete 32 true 0 0 0 0, .obsVisitEnd 8 ⟨0, 0, 0, [], false⟩, .fadeEnd 64,
      .gainUpdate 512 ⟨0, 0, none⟩, .cxReset 512 (frameOf []), .branchDeferredPlace 0 4, .hawkmothTrip 0 65536, .noiseEvaluation 512 0 0,
      .tmOutput 24 0 0, .tmConversionEnd 24, .tmInject 24 (frameOf []), .accClear 256 (frameOf []), .vselAccept 256, .railStart 24, .railRetry 24 0,
      .phaseShedDone 0 8, .phaseFail 24 0 0, .railTelemetryUpdate 24 0 0, .rlPeakClear 24 (frameOf []), .feedDetected 32 0, .feedOn 32,
      .feedSoaUpdate 32 0 0 0, .fdAbort 32 (frameOf []), .thermalEvaluation (List.replicate 49 0), .faultMajorHoldEnd 65536, .nvmeCommandFail 256 0 0,
      .mbReqProd 0 [List.replicate 65 0], .mbRspCons (2 ^ 32) 0, .irqCause 4 0, .dmaBlockWrite 32 0 0 0 0, .dmaRunStart 32 (frameOf []),
      .pcieLinkRetrain 256, .domainPowered 212, .sliceCheck 64 true, .watch (2 ^ 24) 0, .meter 2 0 0 0, .test 256 0, .unlock 256, .selftestComplete 256,
      .keyScan (List.replicate 9 0), .keyPress 8, .busParityError 6] : List Instr).all (fun c => !wellFormed c) = true := by decide

theorem test_wellFormedIsTaken :
    ([.read (frameOf []), .segment ⟨.master 4, 255, false, List.replicate 62 0⟩, .portStateChange (.action 7 16), .irqCause 3 0, .census 512 [] [] [3],
      .tunnelForward 2 ⟨⟨511, 511, 255, 3, 15, 0⟩, [1]⟩] : List Instr).all wellFormed = true := by decide

/-! ### Requests (R33, R36 to R52) -/

/-- R43: con.echo is RW and takes its value; the answer is OK. -/
theorem test_write_rw : after (.write (frameTo K.conEcho [1])) (served []) (fun t => decide (t.num K.conEcho = 1 ∧ (t.master 4).lastRsp.status = 0)) = true := by decide

/-- R43: id.serial is RO: RDONLY (3), and nothing changes but the count of requests. -/
theorem test_write_ro : after (.write (frameTo K.idSerial [1, 0, 0, 0, 0, 0, 0, 0])) (served [])
    (fun t => decide ((t.master 4).lastRsp.status = stRdOnly ∧ t.num (K.mrRequests 4) = 1)) = true := by decide

/-- R36: an index no table gives is NOOBJ, which freezes nobody (R51). -/
theorem test_read_noObject : after (.read (frameTo 0x00FF00 [])) (served [])
    (fun t => decide ((t.master 4).lastRsp.status = stNoObject ∧ t.num (K.mrFrozen 4) = 0)) = true := by decide

/-- R113: a STAGE with none open opens slot 0 and keeps the value there; the object keeps its own. -/
theorem test_stage_keeps : after (.stage (frameTo (K.portTarget 3) [1])) (served [])
    (fun t => decide ((t.slot 0).map (fun x => x.staged) = some [(K.portTarget 3, .num 1)] ∧ t.num (K.portTarget 3) = 0)) = true := by decide

/-- R116: an ABORT with nothing open is NOTX. -/
theorem test_abort_noTx : after (.abort (frameOf [])) (served []) (fun t => decide ((t.master 4).lastRsp.status = stNoTx)) = true := by decide

/-- R48: BREAK for less than 250 ms resets nothing; from 250 ms on it unfreezes master 2. -/
theorem test_break : (after (.consoleBreak 249) (st [(K.mrFrozen 2, 8)]) (fun t => decide (t.num (K.mrFrozen 2) = 8)) &&
    after (.consoleBreak 250) (st [(K.mrFrozen 2, 8)]) (fun t => decide (t.num (K.mrFrozen 2) = 0))) = true := by decide

/-- R46: a frame with two hops left goes on with one. -/
theorem test_tunnel_hops : (after (.tunnelForward 1 ⟨⟨9, 3, 5, 0, 2, 0⟩, [7]⟩) (served []) (fun t => decide (Out.tunnel 0 ⟨9, 3, 5, 0, 1, 0⟩ [7] ∈ t.out))) = true := by decide

/-! ### Time and links (R22, R63 to R81) -/

/-- R9: an idle step is one tick. -/
theorem test_idle_tick : (match step (st []) with | .next t => decide (t.time.now = 1) | _ => false) = true := by decide

/-- R63: e is Δ modulo one frame, from -6,144,000 to 6,143,999. -/
theorem test_frame_error : frameError 6144000 = -6144000 ∧ frameError 6143999 = 6143999 ∧ frameError 12288005 = 5 := by decide

/-- R75: a far end of the part's own role is Miswired. -/
theorem test_role : (after (.linkRoleExchange 1 1) (st [(K.stwLinkLState 1, lsRole)]) (fun t => decide (linkState t 1 = lsMiswired)) &&
    after (.linkRoleExchange 1 0) (st [(K.stwLinkLState 1, lsRole)]) (fun t => decide (linkState t 1 = lsMeasure))) = true := by decide

/-- R76: the depth is one more than the sender's, and ends at 9. -/
theorem test_depth : depthFrom 8 = 9 ∧ depthFrom 9 = 0xFF := by decide

/-- Table 3-7: 122,880 ticks of delay are the most a link comes up with. -/
theorem test_measure : (after (.linkMeasureDone 1 0) { st [(K.stwLinkLState 1, lsMeasure)] with links := [(1, { Link.fresh with exchanges := List.replicate 64 122880 })] }
    (fun t => decide (linkState t 1 = lsUp))) = true := by decide

/-- R80: a snapshot whose tick has passed is taken at once, and marked late. -/
theorem test_snapshot_late : after (.snapshotTrigger 4) (timed 9 9 []) (fun t => decide (t.num K.snapLate = 1 ∧ t.num K.snapSeq = 1)) = true := by decide

/-- Table 4-6: code 3 is 1.25 ms of 1,228.8 MHz ticks, code 10 is 20 ms. -/
theorem test_periods : periodTicks 3 = 1536000 ∧ periodTicks 10 = 24576000 := by decide

/-! ### Launches, ports and channels (R85 to R158) -/

/-- R88: kind 0x01 sets port.target. -/
theorem test_launch_port : after (.portStateChange (.entry 3)) (armed 1 5 2 []) (fun t => decide (t.num (K.portTarget 5) = 2 ∧ t.num (K.ltStatus 3) = leDone)) = true := by decide

/-- R91: an entry executed after its due tick is late. -/
theorem test_launch_late : after (.channelMute (.entry 3)) (withTime { Time.fresh with running := true, tb := 9 } (armed 3 5 0 []))
    (fun t => decide (t.num (K.ltStatus 3) = leLate) && t.bit (K.chMutes 5) cmLaunch) = true := by decide

/-- R398: a passed calibration counts up bits 15:0 of cal.generation, modulo 65,536. -/
theorem test_generation : after (.calComplete 3 true 0 0 0 0) ((inCal 1).set (K.calGeneration 3) 65535) (fun t => decide (t.num (K.calGeneration 3) = 0)) = true := by decide

/-- R222: the integrator wraps at 32 bits. -/
theorem test_integrator_wraps : wrap32 2147483648 = -2147483648 := by decide

/-! ### Supplies, feeds and heat (R276 to R316) -/

/-- Table 13-3: the classes end at 5, 15, 30, 60 and 100 mA. -/
theorem test_classes : classFor 49 = some 0 ∧ classFor 50 = some 1 ∧ classFor 599 = some 3 ∧ classFor 999 = some 4 ∧ classFor 1000 = none := by decide

/-- R302: an abort of a feed that is off is RANGE. -/
theorem test_feed_abort_off : after (.fdAbort 3 (frameOf [1])) (served [(K.fdState 3, fsOff)]) (fun t => decide ((t.master 4).lastRsp.status = stRange)) = true := by decide

/-- R316: th.learn is RANGE at any level but Normal. -/
theorem test_learn : after (.thLearn (frameOf [1])) (served [(K.thLevel, 1)]) (fun t => decide ((t.master 4).lastRsp.status = stRange) && !t.th.learn) = true := by decide

/-! ### The recorder, the host, the Cloister and boot (R320 to R412) -/

/-- R343: a read of rec.record answers 32 octets and moves the cursor on. -/
theorem test_record_read : after (.recRecord (frameTo K.recRecord [])) { served [] with log := { Recorder.fresh with buffer := [(0, recOne)] } }
    (fun t => decide ((t.master 4).cursor = 1 ∧ (t.master 4).lastRsp.payload.length = 32)) = true := by decide

/-- R363: a cause is cleared by writing 1; IRQ_CAUSE1 holds causes 32 to 63. -/
theorem test_irq : after (.irqCause 1 3) { st [] with host := { HostIf.fresh with irq := 7 * 2 ^ 32 + 1 } } (fun t => decide (t.host.irq = 4 * 2 ^ 32 + 1)) = true := by decide

/-- R372: tamper seals. -/
theorem test_tamper : after (.tamper 1 0) (st []) (fun t => decide (t.num K.secState = 2)) = true := by decide

/-- R391, R392: the release of power-on reset starts stage 1, and pd.last_reset tells of a cold start. -/
theorem test_power_on : after .powerOnResetRelease (st []) (fun t => decide (t.num K.pdBootStage = 1 ∧ t.num K.pdLastReset = 1) && !t.boot.por) = true := by decide

/-- R393: after a warm reset stage 2 is left out. -/
theorem test_boot_warm : after (.bootStageAdvance true 0 []) { st [(K.pdBootStage, 1)] with boot := { Boot.fresh with cause := 3 } }
    (fun t => decide (t.num K.pdBootStage = 3)) = true := by decide

/-- R408: a debounced press counts. -/
theorem test_key_press : after (.keyPress 3) (keyed true [(K.keyState 3, 0)]) (fun t => decide (t.num (K.keyState 3) = 1 ∧ t.num (K.keyPresses 3) = 1)) = true := by decide

/-- R26: sixteen parity errors within 1 s do not degrade the die's crossing: more than 16 do. -/
theorem test_parity : (after (.busParityError 2) { st [] with parity := [(2, List.replicate 15 0)] } (fun t => !t.bit (dieKey 2) 3)) = true := by decide

/-- R385: JTAG takes its instruction. -/
theorem test_jtag : after (.jtagInstruction .extest) (st []) (fun t => decide (t.jtag = .extest)) = true := by decide

/-- The table gives no row bits: no word spells a command, and a queue stays as it is. -/
theorem test_no_words : Sys2Proof.decodeTableWord 32 5 = none ∧ (st []).withFetchWord 32 5 = st [] := by decide

end Sys2Proof.Tests
end

section
/-! PROOFS. What leaves the clocks alone: no operation but the tick itself moves the time the part holds (State.time), so of what runs in an
idle step only the tick advances the tick clock and the counter of the timebase (R9, R56). -/

namespace Sys2Proof.Machine

/-! ### Choices, walks and the small operations of the state -/

theorem State.time_ite {c : Prop} [Decidable c] {s t : State} {x : Time} (hs : s.time = x) (ht : t.time = x) :
    (if c then s else t).time = x := by split <;> assumption

theorem forL_time {α : Type} {f : α → State → State} (h : ∀ a s, (f a s).time = s.time) (l : List α) (s : State) :
    (forL l f s).time = s.time := forL_fixes State.time f h l s

theorem forN_time {f : Nat → State → State} (h : ∀ n s, (f n s).time = s.time) (n : Nat) (s : State) :
    (forN n f s).time = s.time := forL_time h (List.range n) s

@[simp] theorem State.inc_time (s : State) (k n : Nat) : (s.inc k n).time = s.time := rfl

@[simp] theorem State.setBit_time (s : State) (k b : Nat) : (s.setBit k b).time = s.time := rfl

@[simp] theorem State.clrBit_time (s : State) (k b : Nat) : (s.clrBit k b).time = s.time := rfl

@[simp] theorem State.sticky_time (s : State) (b : Nat) : (s.sticky b).time = s.time := rfl

@[simp] theorem irq_time (v : Nat) (s : State) : (irq v s).time = s.time := by unfold irq; split <;> rfl

/-! ### Mutes and holds (R143, R190) -/

@[simp] theorem raiseCh_time (c b : Nat) (s : State) : (raiseCh c b s).time = s.time := by
  simp [raiseCh, apply_ite State.time]

@[simp] theorem raisePort_time (p b : Nat) (s : State) : (raisePort p b s).time = s.time := by
  simp [raisePort, apply_ite State.time]

@[simp] theorem releasePort_time (p b : Nat) (s : State) : (releasePort p b s).time = s.time := by
  simp [releasePort, apply_ite State.time]

@[simp] theorem holdPort_time (p : Nat) (h : Holder) (s : State) : (holdPort p h s).time = s.time := by simp [holdPort]

@[simp] theorem holdChan_time (c : Nat) (h : Holder) (s : State) : (holdChan c h s).time = s.time := by simp [holdChan]

/-! ### Records and their notices (R329, R335 to R341) -/

@[simp] theorem startFlush_time (s : State) : (startFlush s).time = s.time := by
  unfold startFlush
  split
  · rfl
  · split <;> rfl

@[simp] theorem bufferRec_time (r : Rec) (s : State) : (bufferRec r s).time = s.time := by
  simp [bufferRec, apply_ite State.time]

@[simp] theorem countDrop_time (s : State) : (countDrop s).time = s.time := rfl

@[simp] theorem placeRec_time (r : Rec) (s : State) : (placeRec r s).time = s.time := by
  unfold placeRec
  split
  · simp
  · split
    · split <;> simp
    · rfl

@[simp] theorem enterOne_time (r : Rec) (s : State) : (enterOne r s).time = s.time := by
  simp [enterOne, apply_ite State.time]

@[simp] theorem enterRec_time (r : Rec) (s : State) : (enterRec r s).time = s.time := by
  simp [enterRec, apply_ite State.time]

@[simp] theorem event_time (code p0 p1 p2 p3 : Nat) (s : State) : (event code p0 p1 p2 p3 s).time = s.time := by simp [event]

@[simp] theorem notifyOne_time (r : Rec) (m : Nat) (s : State) : (notifyOne r m s).time = s.time := by
  simp [notifyOne, apply_ite State.time]

@[simp] theorem notifyAll_time (r : Rec) (s : State) : (notifyAll r s).time = s.time := by
  simp [notifyAll, apply_ite State.time, forL_time]

@[simp] theorem setGal_time (v : Int) (s : State) : (setGal v s).time = s.time := by simp [setGal]

@[simp] theorem galTrigger_time (reason : Nat) (s : State) : (galTrigger reason s).time = s.time := by
  dsimp only [galTrigger]
  refine State.time_ite ?_ (State.time_ite (State.setBit_time s _ _) (State.inc_time s _ _))
  rw [setGal_time, State.set_time, State.set_time, State.set_time, State.set_time, State.set_time, State.set_time]

@[simp] theorem galFault_time (w cls : Nat) (s : State) : (galFault w cls s).time = s.time := by
  simp [galFault, apply_ite State.time]

/-! ### Faults, their reactions and their sources (R318 to R326) -/

@[simp] theorem stickyClass_time (cls : Nat) (s : State) : (stickyClass cls s).time = s.time := by
  simp [stickyClass, apply_ite State.time]

@[simp] theorem setSource_time (w : Nat) (v : Int) (s : State) : (setSource w v s).time = s.time := by
  simp [setSource, apply_ite State.time]

@[simp] theorem startHold_time (w : Nat) (s : State) : (startHold w s).time = s.time := rfl

@[simp] theorem sourceAfter_time (kind inst cls : Nat) (s : State) : (sourceAfter kind inst cls s).time = s.time := by
  simp [sourceAfter, apply_ite State.time]

@[simp] theorem shedSlice_time (sl w : Nat) (s : State) : (shedSlice sl w s).time = s.time := by
  simp [shedSlice, apply_ite State.time, forL_time]

@[simp] theorem railOffRamp_time (r : Nat) (s : State) : (railOffRamp r s).time = s.time := by
  dsimp only [railOffRamp, moveRef]
  rw [State.set_time, State.set_time, State.setRail_time, State.set_time, State.setRail_time]

@[simp] theorem enterFeed_time (f : Nat) (v : Int) (s : State) : (enterFeed f v s).time = s.time := rfl

@[simp] theorem stopPart_time (s : State) : (stopPart s).time = s.time := by
  dsimp only [stopPart]
  rw [State.set_time]
  refine (forN_time (fun f t => ?_) 32 _).trans (forN_time (fun r t => ?_) 24 s)
  · exact State.time_ite rfl (enterFeed_time f _ t)
  · exact State.time_ite (railOffRamp_time r t) rfl

@[simp] theorem react_time (kind inst cls : Nat) (s : State) : (react kind inst cls s).time = s.time := by
  unfold react
  cases portOf kind inst <;> simp [apply_ite State.time]

@[simp] theorem faultRecord_time (kind inst cls esc code p0 p1 p2 p3 : Nat) (s : State) :
    (faultRecord kind inst cls esc code p0 p1 p2 p3 s).time = s.time := by simp [faultRecord]

@[simp] theorem escalate_time (kind inst cls code p0 p1 p2 p3 : Nat) (s : State) :
    (escalate kind inst cls code p0 p1 p2 p3 s).time = s.time := by simp [escalate, apply_ite State.time]

@[simp] theorem fault_time (kind inst cls code p0 p1 p2 p3 : Nat) (s : State) :
    (fault kind inst cls code p0 p1 p2 p3 s).time = s.time := by simp [fault]

/-! ### Channels: taps, notches and divergences (R205, R208, R226) -/

@[simp] theorem clearTaps_time (c : Nat) (s : State) : (clearTaps c s).time = s.time := rfl

@[simp] theorem tapReset_time (c : Nat) (s : State) : (tapReset c s).time = s.time := by
  unfold tapReset
  extract_lets x s1 s2 s3
  have h1 : s1.time = s.time := (State.setChan_time _ _ _).trans (clearTaps_time c s)
  have h2 : s2.time = s.time := (forN_time (fun n t => State.set_time t _ _) 4 s1).trans h1
  have h3 : s3.time = s.time := State.time_ite ((State.set_time _ _ _).trans h2) h2
  refine State.time_ite rfl ?_
  rw [State.set_time, State.set_time, State.inc_time, h3]

@[simp] theorem diverge_time (c : Nat) (s : State) : (diverge c s).time = s.time := by
  simp [diverge, apply_ite State.time]

@[simp] theorem reviewNotches_time (c : Nat) (s : State) : (reviewNotches c s).time = s.time := by
  simp [reviewNotches, apply_ite State.time]

@[simp] theorem channelTick_time (c : Nat) (s : State) : (channelTick c s).time = s.time := by
  unfold channelTick
  dsimp only
  split <;> simp [apply_ite State.time]

/-! ### Ports: windows, holds and moves (R139 to R150) -/

@[simp] theorem freeHold_time (p : Nat) (s : State) : (freeHold p s).time = s.time := by
  simp [freeHold, apply_ite State.time]

@[simp] theorem raiseHold_time (p : Nat) (s : State) : (raiseHold p s).time = s.time := by
  simp [raiseHold, apply_ite State.time]

@[simp] theorem windowEnd_time (p : Nat) (s : State) : (windowEnd p s).time = s.time := by
  dsimp only [windowEnd]
  cases (s.port p).opener <;> simp [apply_ite State.time]

@[simp] theorem beginMove_time (p : Nat) (dest : Int) (s : State) : (beginMove p dest s).time = s.time := by
  simp [beginMove, apply_ite State.time]

@[simp] theorem holdInCal_time (p : Nat) (s : State) : (holdInCal p s).time = s.time := by
  simp [holdInCal, apply_ite State.time]

@[simp] theorem moveOn_time (p : Nat) (s : State) : (moveOn p s).time = s.time := by
  simp [moveOn, apply_ite State.time]

@[simp] theorem wantPort_time (q : Nat) (v : Int) (s : State) : (wantPort q v s).time = s.time := by simp [wantPort]

@[simp] theorem walkLeads_time (p : Nat) (s : State) : (walkLeads p s).time = s.time := by
  unfold walkLeads
  dsimp only
  split
  · exact forL_time (fun q s => by simp [apply_ite State.time]) _ s
  · rfl

/-! ### The sample path of a channel (R180 to R231) -/

@[simp] theorem putMem_time (c i : Nat) (v : Int) (s : State) : (putMem c i v s).time = s.time := rfl

@[simp] theorem decimate_time (b c : Nat) (s : State) : (decimate b c s).time = s.time := by
  dsimp only [decimate]
  rw [putMem_time, State.setPath_time]

@[simp] theorem dcBlock_time (c : Nat) (x : IQ) (s : State) : (dcBlock c x s).2.time = s.time := by
  simp [dcBlock, apply_ite State.time]

@[simp] theorem reference_time (c n p : Nat) (s : State) : (reference c n p s).time = s.time := by
  unfold reference
  refine (forN_time (fun b t => ?_) 2 _).trans (State.setPath_time s c _)
  exact putMem_time _ _ _ t

@[simp] theorem delayLine_time (c n : Nat) (s : State) : (delayLine c n s).time = s.time := rfl

@[simp] theorem adaptTaps_time (c : Nat) (y : Cpx) (s : State) : (adaptTaps c y s).time = s.time := by
  unfold adaptTaps
  refine forL_time (fun e t => ?_) _ s
  exact State.setPath_time t c _

@[simp] theorem cancel_time (c : Nat) (x : IQ) (s : State) : (cancel c x s).2.time = s.time := by
  simp [cancel, apply_ite State.time]

@[simp] theorem amplify_time (c : Nat) (y : Cpx) (s : State) : (amplify c y s).2.time = s.time := by
  simp [amplify, apply_ite State.time]

@[simp] theorem takeGain_time (c : Nat) (s : State) : (takeGain c s).time = s.time := by
  unfold takeGain
  dsimp only
  split <;> rfl

@[simp] theorem output_time (c o p : Nat) (x : Option IQ) (ok : Bool) (s : State) : (output c o p x ok s).time = s.time := by
  dsimp only [output]
  rw [putMem_time, State.setPath_time]

@[simp] theorem outputs_time (c : Nat) (x : Option IQ) (ok : Bool) (s : State) : (outputs c x ok s).time = s.time := by
  unfold outputs
  refine forL_time (fun e t => ?_) _ s
  exact output_time c e.1 e.2 x ok t

@[simp] theorem overTick_time (c : Nat) (s : State) : (overTick c s).time = s.time := by
  simp [overTick, apply_ite State.time]

@[simp] theorem takeFactors_time (c : Nat) (s : State) : (takeFactors c s).time = s.time := by
  unfold takeFactors
  extract_lets l s1
  have h1 : s1.time = s.time := by
    refine forL_time (fun e t => ?_) l s
    exact (State.set_time _ _ _).trans (State.setPath_time t c _)
  exact State.time_ite rfl ((State.setPath_time _ _ _).trans h1)

@[simp] theorem countSample_time (c : Nat) (s : State) : (countSample c s).time = s.time := by
  simp [countSample, apply_ite State.time]

@[simp] theorem sample_time (c : Nat) (s : State) : (sample c s).2.time = s.time := by
  dsimp only [sample]
  rw [countSample_time, State.setPath_time, amplify_time, cancel_time, dcBlock_time, State.setPath_time]
  refine forL_time (fun e t => ?_) _ s
  exact delayLine_time c e.1 t

@[simp] theorem filtered_time (c : Nat) (s : State) : (filtered c s).time = s.time := by
  simp [filtered, apply_ite State.time, forL_time]

@[simp] theorem repeated_time (c : Nat) (s : State) : (repeated c s).time = s.time := by
  unfold repeated
  split <;> simp

@[simp] theorem channelPath_time (c : Nat) (s : State) : (channelPath c s).time = s.time := by
  simp [channelPath, apply_ite State.time]

/-! ### The paths of a port (R142, R144, R187, R242) -/

@[simp] theorem paenTick_time (p : Nat) (s : State) : (paenTick p s).time = s.time := by
  simp [paenTick, apply_ite State.time]

@[simp] theorem transmit_time (cs : List Nat) (p : Nat) (s : State) : (transmit cs p s).time = s.time := by
  simp only [transmit, apply_ite State.time, State.setWing_time, ite_self]

@[simp] theorem receive_time (p : Nat) (s : State) : (receive p s).time = s.time := by
  unfold receive
  extract_lets w a x ov track s1 hist y s2
  have h1 : s1.time = s.time := State.time_ite rfl ((State.set_time _ _ _).trans (State.set_time _ _ _))
  have h2 : s2.time = s.time := State.time_ite ((State.inc_time _ _ _).trans h1) h1
  exact State.time_ite (State.time_ite rfl (State.setWing_time _ _ _)) ((State.setWing_time _ _ _).trans h2)

@[simp] theorem finalStage_time (p : Nat) (s : State) : (finalStage p s).time = s.time := by
  unfold finalStage
  extract_lets x m y above ranged w run ovr line due v s1 x1 s2 s3
  have h1 : s1.time = s.time := State.time_ite rfl (State.setWing_time _ _ _)
  have h2 : s2.time = s.time := State.time_ite ((State.setPort_time _ _ _).trans h1) h1
  have h3 : s3.time = s.time := State.time_ite h2 ((State.inc_time _ _ _).trans h2)
  exact State.time_ite ((State.set_time _ _ _).trans h3) h3

/-! ### Captures and DMA engines (R345, R365) -/

@[simp] theorem captureOne_time (n w : Nat) (s : State) : (captureOne n w s).time = s.time := by
  unfold captureOne
  split <;> rfl

@[simp] theorem captureAll_time (s : State) : (captureAll s).time = s.time := by
  unfold captureAll
  refine forN_time (fun n t => ?_) _ s
  split <;> simp

@[simp] theorem putFill_time (e : Nat) (b : DmaBlock) (s : State) : (putFill e b s).time = s.time := rfl

@[simp] theorem putFull_time (e : Nat) (l : List DmaBlock) (s : State) : (putFull e l s).time = s.time := rfl

@[simp] theorem putSeen_time (e v : Nat) (s : State) : (putSeen e v s).time = s.time := rfl

@[simp] theorem dmaSample_time (e : Nat) (s : State) : (dmaSample e s).time = s.time := by
  unfold dmaSample
  split
  · rfl
  · split
    · rfl
    · simp [apply_ite State.time]

/-! ### Rails (R276 to R278) -/

@[simp] theorem railBase_time (r : Nat) (s : State) : (railBase r s).time = s.time := by
  simp [railBase, apply_ite State.time]

@[simp] theorem phaseTick_time (r k : Nat) (s : State) : (phaseTick r k s).time = s.time := rfl

@[simp] theorem railTick_time (r : Nat) (s : State) : (railTick r s).time = s.time := by
  unfold railTick
  refine State.time_ite (State.time_ite rfl (State.setRail_time _ _ _)) ?_
  exact (forL_time (phaseTick_time r) _ _).trans ((railBase_time r _).trans (State.setRail_time s r _))

/-! ### Converters (R262 to R274) -/

@[simp] theorem startConv_time (m kind e : Nat) (s : State) : (startConv m kind e s).time = s.time := rfl

@[simp] theorem idleConv_time (m : Nat) (s : State) : (idleConv m s).time = s.time := rfl

@[simp] theorem startSeq_time (m e : Nat) (s : State) : (startSeq m e s).time = s.time := by
  unfold startSeq
  split <;> simp

@[simp] theorem startTest_time (m : Nat) (s : State) : (startTest m s).time = s.time := rfl

@[simp] theorem serveNext_time (m : Nat) (s : State) : (serveNext m s).time = s.time := by
  unfold serveNext
  cases (s.tm m).step <;> simp [apply_ite State.time]

@[simp] theorem preempt_time (m : Nat) (s : State) : (preempt m s).time = s.time := by
  simp [preempt, apply_ite State.time]

@[simp] theorem chainStep_time (m : Nat) (s : State) : (chainStep m s).time = s.time := by
  simp [chainStep, apply_ite State.time]

/-! ### The parts of an idle tick -/

@[simp] theorem clockTick_time (s : State) : (clockTick s).time = s.time := by
  simp [clockTick, apply_ite State.time]

@[simp] theorem ppsTick_time (s : State) : (ppsTick s).time = s.time := by
  unfold ppsTick
  split
  · rfl
  · simp [apply_ite State.time]

@[simp] theorem paenTicks_time (s : State) : (paenTicks s).time = s.time := forN_time paenTick_time 32 s

@[simp] theorem pathTick_time (s : State) : (pathTick s).time = s.time := by
  simp [pathTick, forL_time, forN_time]

@[simp] theorem galleryTick_time (s : State) : (galleryTick s).time = s.time := by
  simp [galleryTick, apply_ite State.time]

@[simp] theorem dmaTick_time (s : State) : (dmaTick s).time = s.time := forN_time dmaSample_time 32 s

@[simp] theorem channelsTick_time (s : State) : (channelsTick s).time = s.time := forL_time channelTick_time s.started s

@[simp] theorem leadsTick_time (s : State) : (leadsTick s).time = s.time := by
  simp [leadsTick, apply_ite State.time, forL_time]

@[simp] theorem railsTick_time (s : State) : (railsTick s).time = s.time := forN_time railTick_time 24 s

@[simp] theorem feedsTick_time (s : State) : (feedsTick s).time = s.time :=
  forN_time (fun f s => by simp [apply_ite State.time]) 32 s

@[simp] theorem tmTick_time (s : State) : (tmTick s).time = s.time := by
  simp [tmTick, apply_ite State.time, forN_time]

/-- Of all that runs in an idle step, the tick alone moves the clocks. -/
theorem idleTick_time (s : State) : (idleTick s).time = (tick s).time := by simp [idleTick]

/-! ### The tick itself (R9, R56, R334) -/

@[simp] theorem tickOt_now (t : Time) : (tickOt t).now = t.now := by unfold tickOt; split <;> rfl

@[simp] theorem tickOt_tb (t : Time) : (tickOt t).tb = t.tb := by unfold tickOt; split <;> rfl

@[simp] theorem tickOt_slewAcc (t : Time) : (tickOt t).slewAcc = t.slewAcc := by unfold tickOt; split <;> rfl

@[simp] theorem tickOt_running (t : Time) : (tickOt t).running = t.running := by unfold tickOt; split <;> rfl

/-- The time in a tick once the tick clock and operating time have moved on, before the counter of the timebase does. -/
def timeBeforeAdvance (s : State) : Time :=
  if otCounts s then tickOt { s.time with now := s.time.now + 1 } else { s.time with now := s.time.now + 1 }

@[simp] theorem timeBeforeAdvance_now (s : State) : (timeBeforeAdvance s).now = s.time.now + 1 := by
  unfold timeBeforeAdvance; split <;> simp

@[simp] theorem timeBeforeAdvance_tb (s : State) : (timeBeforeAdvance s).tb = s.time.tb := by
  unfold timeBeforeAdvance; split <;> simp

@[simp] theorem timeBeforeAdvance_slewAcc (s : State) : (timeBeforeAdvance s).slewAcc = s.time.slewAcc := by
  unfold timeBeforeAdvance; split <;> simp

@[simp] theorem timeBeforeAdvance_running (s : State) : (timeBeforeAdvance s).running = s.time.running := by
  unfold timeBeforeAdvance; split <;> simp

/-- Without core clocks the counter stands. -/
theorem tick_time_of_stopped {s : State} (h : s.time.running = false) : (tick s).time = timeBeforeAdvance s := by
  have hr : (!(timeBeforeAdvance s).running) = true := by simp [h]
  unfold tick
  exact congrArg State.time (if_pos hr)

/-- The counter of the timebase and its accumulator move; where that is not by one tick, the sources follow (R56, R63). -/
def advanceCounter (a : Nat × Int) (t : Time) : Time :=
  let t1 := { t with tb := t.tb + a.1, slewAcc := a.2 }
  if a.1 = 1 then t1 else shiftSources ((a.1 : Int) - 1) t1

@[simp] theorem advanceCounter_now (a : Nat × Int) (t : Time) : (advanceCounter a t).now = t.now := by
  dsimp only [advanceCounter]; split <;> rfl

@[simp] theorem advanceCounter_tb (a : Nat × Int) (t : Time) : (advanceCounter a t).tb = t.tb + a.1 := by
  dsimp only [advanceCounter]; split <;> rfl

/-- With core clocks the counter moves by what the tracking loop makes of the tick. -/
theorem tick_time_of_running {s : State} (h : s.time.running = true) :
    (tick s).time = advanceCounter (advanceBy ((timeBeforeAdvance s).slewAcc + s.num K.tbFreqOffset)) (timeBeforeAdvance s) := by
  have hr : ¬ (!(timeBeforeAdvance s).running) = true := by simp [h]
  unfold tick
  exact (congrArg State.time (if_neg hr)).trans (State.time_ite rfl rfl)

theorem tick_now (s : State) : (tick s).time.now = s.time.now + 1 := by
  cases h : s.time.running with
  | false => simp [tick_time_of_stopped h]
  | true => simp [tick_time_of_running h]

theorem tick_tb {s : State} (h : s.time.running = true) :
    (tick s).time.tb = s.time.tb + (advanceBy (s.time.slewAcc + s.num K.tbFreqOffset)).1 := by
  simp [tick_time_of_running h]

/-! ### The step of an empty queue -/

theorem step_of_no_command {s : State} (h : s.pending = []) : step s = .next (idleTick s) := by
  unfold step
  rw [h]

/-- Settles O2: an idle step is idleTick, and what runs in it beside the tick leaves the clocks alone. -/
theorem idleStepIsATick : Obligations.IdleStepIsATick := by
  intro s hs
  refine ⟨idleTick s, step_of_no_command hs, ?_⟩
  rw [idleTick_time]
  exact ⟨tick_now s, tick_tb⟩

end Sys2Proof.Machine
end

section
/-! PROOFS. What a fault leaves: it writes no object below the ports' (the clocks, the masters and the timebase stand), and of the words of the
ports and the channels it only raises bits, so that a mute once asked for stays through it (R29, R318 to R326). -/

namespace Sys2Proof.Machine

/-- The key of an object of instance y of a block lies at or above the keys of every index up to the block's first. -/
theorem le_key {m b y z : Nat} (h : m ≤ b) : m * 256 ≤ (b + y) * 256 + z := by omega

/-- From s to t no object of an index below 0x3000 has changed, and no bit of a word of an index below 0x6000 has been lost
(a key is 256 times its index plus the sub-index). -/
structure OnlyRaises (s t : State) : Prop where
  num : ∀ k, k < 0x3000 * 256 → t.num k = s.num k
  bits : ∀ k b, k < 0x6000 * 256 → s.bit k b = true → t.bit k b = true

namespace OnlyRaises

variable {s0 s t : State}

protected theorem refl (s : State) : OnlyRaises s s := ⟨fun _ _ => rfl, fun _ _ _ => id⟩

protected theorem trans (h : OnlyRaises s0 s) (h' : OnlyRaises s t) : OnlyRaises s0 t :=
  ⟨fun k hk => (h'.num k hk).trans (h.num k hk), fun k b hk hb => h'.bits k b hk (h.bits k b hk hb)⟩

/-! ### The operations of the state -/

protected theorem congr (h : OnlyRaises s0 s) (ht : t.obj = s.obj) : OnlyRaises s0 t := by
  have hn : ∀ k, t.num k = s.num k := State.num_congr ht
  refine h.trans ⟨fun k _ => hn k, fun k b _ hb => ?_⟩
  unfold State.bit State.nat at hb ⊢
  rwa [hn]

protected theorem set {k : Nat} {v : Int} (h : OnlyRaises s0 s) (hk : 0x6000 * 256 ≤ k) : OnlyRaises s0 (s.set k v) := by
  refine h.trans ⟨fun j hj => ?_, fun j b hj hb => ?_⟩
  · rw [State.num_set, if_neg (by omega)]
  · rwa [State.bit_set, if_neg (by omega)]

protected theorem inc {k n : Nat} (h : OnlyRaises s0 s) (hk : 0x6000 * 256 ≤ k) : OnlyRaises s0 (s.inc k n) := h.set hk

protected theorem setBit {k b : Nat} (h : OnlyRaises s0 s) (hk : 0x3000 * 256 ≤ k) : OnlyRaises s0 (s.setBit k b) := by
  refine h.trans ⟨fun j hj => ?_, fun j i _ hb => ?_⟩
  · rw [State.num_setBit, if_neg (by omega)]
  · rw [State.bit_setBit]
    split
    · next hjk => subst hjk; simp [hb]
    · exact hb

protected theorem sticky (h : OnlyRaises s0 s) (b : Nat) : OnlyRaises s0 (s.sticky b) := h.setBit (by decide)

protected theorem ite {c : Prop} [Decidable c] (hs : OnlyRaises s0 s) (ht : OnlyRaises s0 t) : OnlyRaises s0 (if c then s else t) := by
  split <;> assumption

protected theorem forL {α : Type} {f : α → State → State} (hf : ∀ a s, OnlyRaises s0 s → OnlyRaises s0 (f a s)) (l : List α)
    (h : OnlyRaises s0 s) : OnlyRaises s0 (forL l f s) := by
  induction l generalizing s with
  | nil => exact h
  | cons a l ih => exact ih (hf a s h)

protected theorem forN {f : Nat → State → State} (hf : ∀ a s, OnlyRaises s0 s → OnlyRaises s0 (f a s)) (n : Nat)
    (h : OnlyRaises s0 s) : OnlyRaises s0 (forN n f s) := OnlyRaises.forL hf (List.range n) h

protected theorem irq (h : OnlyRaises s0 s) (v : Nat) : OnlyRaises s0 (irq v s) := h.congr (irq_obj v s)

/-! ### Mutes and holds (R143, R190) -/

protected theorem raiseCh (h : OnlyRaises s0 s) (c b : Nat) : OnlyRaises s0 (raiseCh c b s) := by
  unfold raiseCh
  extract_lets w x s1
  have h1 : OnlyRaises s0 s1 := .ite h (.ite (h.congr (by rfl)) (.ite (h.congr (by rfl)) h))
  exact h1.setBit (le_key (by decide))

protected theorem raisePort (h : OnlyRaises s0 s) (p b : Nat) : OnlyRaises s0 (raisePort p b s) :=
  .ite h ((h.irq _).setBit (le_key (by decide)))

protected theorem holdPort (h : OnlyRaises s0 s) (p : Nat) (x : Holder) : OnlyRaises s0 (holdPort p x s) :=
  (h.congr (by rfl)).raisePort p pmFault

protected theorem holdChan (h : OnlyRaises s0 s) (c : Nat) (x : Holder) : OnlyRaises s0 (holdChan c x s) :=
  (h.congr (by rfl)).raiseCh c cmFault

/-! ### Records and their notices (R329, R335 to R341) -/

protected theorem startFlush (h : OnlyRaises s0 s) : OnlyRaises s0 (startFlush s) := by
  unfold startFlush
  split
  · exact h
  · exact .ite h (h.congr (by rfl))

protected theorem bufferRec (h : OnlyRaises s0 s) (r : Rec) : OnlyRaises s0 (bufferRec r s) := by
  unfold bufferRec
  extract_lets n log s1 s2 s3
  have h2 : OnlyRaises s0 s2 := .ite (h.congr (by rfl)) (h.congr (by rfl))
  have h3 : OnlyRaises s0 s3 := (h2.set (by decide)).set (by decide)
  exact .ite h3.startFlush h3

protected theorem countDrop (h : OnlyRaises s0 s) : OnlyRaises s0 (countDrop s) :=
  (h.inc (k := K.recDropped) (n := 32) (by decide)).congr (by rfl)

protected theorem placeRec (h : OnlyRaises s0 s) (r : Rec) : OnlyRaises s0 (placeRec r s) := by
  unfold placeRec
  refine .ite (h.bufferRec _) (.ite ?_ (h.congr (by rfl)))
  split
  · exact (OnlyRaises.countDrop (h.congr (by rfl))).bufferRec _
  · exact h.countDrop

protected theorem enterOne (h : OnlyRaises s0 s) (r : Rec) : OnlyRaises s0 (enterOne r s) :=
  .ite h (.ite (h.congr (by rfl)) (h.placeRec r))

protected theorem enterRec (h : OnlyRaises s0 s) (r : Rec) : OnlyRaises s0 (enterRec r s) :=
  .ite (((h.enterOne r).set (by decide)).enterOne _) (h.enterOne r)

protected theorem event (h : OnlyRaises s0 s) (code p0 p1 p2 p3 : Nat) : OnlyRaises s0 (event code p0 p1 p2 p3 s) := h.enterRec _

protected theorem notifyOne (h : OnlyRaises s0 s) (r : Rec) (m : Nat) : OnlyRaises s0 (notifyOne r m s) := by
  unfold notifyOne
  extract_lets x s1 o
  have h1 : OnlyRaises s0 s1 := h.congr (by rfl)
  refine .ite (.ite ?_ ?_) (.ite (h1.congr (by rfl)) (h1.congr (by rfl)))
  · exact (h1.inc (k := K.hostNtfDropped) (n := 32) (by decide)).congr (by rfl)
  · exact OnlyRaises.irq (h1.congr (by rfl)) 1

protected theorem notifyAll (h : OnlyRaises s0 s) (r : Rec) : OnlyRaises s0 (notifyAll r s) :=
  .ite (.forL (fun m _ hs => hs.notifyOne r m) _ (.ite (h.irq 2) h)) h

protected theorem galTrigger (h : OnlyRaises s0 s) (reason : Nat) : OnlyRaises s0 (galTrigger reason s) := by
  unfold galTrigger
  extract_lets gal s1 s2 s3
  have h2 : OnlyRaises s0 s2 := (OnlyRaises.set (h.congr (by rfl)) (by decide)).set (by decide)
  have h3 : OnlyRaises s0 s3 := ((h2.set (by decide)).set (by decide)).set (by decide)
  exact .ite (((h3.set (by decide)).irq 5).set (by decide)) (.ite (h.setBit (by decide)) (h.inc (by decide)))

protected theorem galFault (h : OnlyRaises s0 s) (w cls : Nat) : OnlyRaises s0 (galFault w cls s) := .ite (h.galTrigger 0) h

/-! ### Faults, their reactions and their sources (R318 to R326) -/

protected theorem stickyClass (h : OnlyRaises s0 s) (cls : Nat) : OnlyRaises s0 (stickyClass cls s) := .ite h (h.sticky _)

protected theorem setSource (h : OnlyRaises s0 s) (w : Nat) (v : Int) : OnlyRaises s0 (setSource w v s) := by
  unfold setSource
  extract_lets old s1 s2 s3
  have h1 : OnlyRaises s0 s1 := .ite (h.set (by decide)) h
  have h2 : OnlyRaises s0 s2 := .ite (h1.set (by decide)) h1
  have h3 : OnlyRaises s0 s3 := .ite (h2.set (by decide)) h2
  exact h3.set (le_key (by omega))

protected theorem sourceAfter (h : OnlyRaises s0 s) (kind inst cls : Nat) : OnlyRaises s0 (sourceAfter kind inst cls s) := by
  unfold sourceAfter
  extract_lets w st renew
  have hs : OnlyRaises s0 (startHold w s) := h.congr (by rfl)
  exact .ite h (.ite (h.setSource _ _) (.ite (h.setSource _ _) (.ite h (.ite (hs.setSource _ _) (.ite hs h)))))

protected theorem shedSlice (h : OnlyRaises s0 s) (sl w : Nat) : OnlyRaises s0 (shedSlice sl w s) := by
  unfold shedSlice
  extract_lets flt s1 s2
  have h1 : OnlyRaises s0 s1 := h.congr (by rfl)
  have h2 : OnlyRaises s0 s2 := .ite h1 (h1.set (by unfold K.pdState; omega))
  exact .forL (fun c _ hs => hs.holdChan c _) _ h2

protected theorem moveRef (h : OnlyRaises s0 s) (r delay rate goal : Nat) : OnlyRaises s0 (moveRef r delay rate goal s) :=
  OnlyRaises.set (h.congr (by rfl)) (le_key (by decide))

protected theorem railOffRamp (h : OnlyRaises s0 s) (r : Nat) : OnlyRaises s0 (railOffRamp r s) := by
  unfold railOffRamp
  extract_lets rate s1 rail s2
  have h2 : OnlyRaises s0 s2 := (h.moveRef r _ _ _).congr (by rfl)
  exact (h2.set (le_key (by decide))).set (le_key (by decide))

protected theorem enterFeed (h : OnlyRaises s0 s) (f : Nat) (v : Int) : OnlyRaises s0 (enterFeed f v s) :=
  OnlyRaises.set (h.congr (by rfl)) (le_key (by decide))

protected theorem stopPart (h : OnlyRaises s0 s) : OnlyRaises s0 (stopPart s) := by
  unfold stopPart
  extract_lets s1 s2
  have h1 : OnlyRaises s0 s1 := .forN (fun r _ hs => .ite (hs.railOffRamp r) hs) 24 h
  have h2 : OnlyRaises s0 s2 := .forN (fun f _ hs => .ite hs (hs.enterFeed f _)) 32 h1
  exact h2.set (by decide)

protected theorem react (h : OnlyRaises s0 s) (kind inst cls : Nat) : OnlyRaises s0 (react kind inst cls s) := by
  unfold react
  extract_lets w allowed s1 s2 s3
  have h1 : OnlyRaises s0 s1 := .ite (h.holdChan _ _) h
  have h2 : OnlyRaises s0 s2 := by
    dsimp only [s2]
    split
    · exact .ite (h1.holdPort _ _) h1
    · exact h1
  have h3 : OnlyRaises s0 s3 := .ite (h2.shedSlice _ _) h2
  exact .ite h3.stopPart h3

protected theorem faultRecord (h : OnlyRaises s0 s) (kind inst cls esc code p0 p1 p2 p3 : Nat) :
    OnlyRaises s0 (faultRecord kind inst cls esc code p0 p1 p2 p3 s) :=
  (((((h.inc (by decide)).stickyClass cls).enterRec _).notifyAll _).galFault _ cls).react kind inst cls

protected theorem escalate (h : OnlyRaises s0 s) (kind inst cls code p0 p1 p2 p3 : Nat) :
    OnlyRaises s0 (escalate kind inst cls code p0 p1 p2 p3 s) := by
  unfold escalate
  extract_lets w n ts flt s1
  have h1 : OnlyRaises s0 s1 := h.congr (by rfl)
  exact .ite h (.ite ((h1.faultRecord _ _ _ _ _ _ _ _ _).setSource _ _) h1)

protected theorem fault (h : OnlyRaises s0 s) (kind inst cls code p0 p1 p2 p3 : Nat) :
    OnlyRaises s0 (fault kind inst cls code p0 p1 p2 p3 s) :=
  (((h.inc (le_key (by omega))).faultRecord _ _ _ _ _ _ _ _ _).sourceAfter _ _ _).escalate _ _ _ _ _ _ _ _

end OnlyRaises

end Sys2Proof.Machine
end

section
/-! PROOFS. What the return of the clocks runs through (R23) - the return checks of the ports, the mutes of the channels, the source of the
timebase, the grids and the walkers - leaves the clocks as they are: whether they run, and every object of the clocks (an index below 0x2000). -/

namespace Sys2Proof.Machine

/-- From s to t the clocks have neither stopped nor started, and no object of an index below 0x2000 has changed. -/
structure ClocksStand (s t : State) : Prop where
  running : t.time.running = s.time.running
  num : ∀ k, k < 0x2000 * 256 → t.num k = s.num k

theorem OnlyRaises.clocksStand {s t : State} (h : OnlyRaises s t) (ht : t.time = s.time) : ClocksStand s t :=
  ⟨by rw [ht], fun k hk => h.num k (by omega)⟩

namespace ClocksStand

variable {s0 s t : State}

protected theorem refl (s : State) : ClocksStand s s := ⟨rfl, fun _ _ => rfl⟩

protected theorem trans (h : ClocksStand s0 s) (h' : ClocksStand s t) : ClocksStand s0 t :=
  ⟨h'.running.trans h.running, fun k hk => (h'.num k hk).trans (h.num k hk)⟩

/-! ### The operations of the state -/

protected theorem congr (h : ClocksStand s0 s) (ho : t.obj = s.obj) (ht : t.time.running = s.time.running) :
    ClocksStand s0 t := h.trans ⟨ht, fun k _ => State.num_congr ho k⟩

protected theorem set {k : Nat} {v : Int} (h : ClocksStand s0 s) (hk : 0x2000 * 256 ≤ k) : ClocksStand s0 (s.set k v) :=
  h.trans ⟨rfl, fun j hj => by rw [State.num_set, if_neg (by omega)]⟩

protected theorem inc {k n : Nat} (h : ClocksStand s0 s) (hk : 0x2000 * 256 ≤ k) : ClocksStand s0 (s.inc k n) := h.set hk

protected theorem setBit {k b : Nat} (h : ClocksStand s0 s) (hk : 0x2000 * 256 ≤ k) : ClocksStand s0 (s.setBit k b) := h.set hk

protected theorem clrBit {k b : Nat} (h : ClocksStand s0 s) (hk : 0x2000 * 256 ≤ k) : ClocksStand s0 (s.clrBit k b) := h.set hk

protected theorem putBit {k b : Nat} {v : Bool} (h : ClocksStand s0 s) (hk : 0x2000 * 256 ≤ k) : ClocksStand s0 (s.putBit k b v) :=
  h.set hk

protected theorem ite {c : Prop} [Decidable c] (hs : ClocksStand s0 s) (ht : ClocksStand s0 t) : ClocksStand s0 (if c then s else t) := by
  split <;> assumption

protected theorem forL {α : Type} {f : α → State → State} (hf : ∀ a s, ClocksStand s0 s → ClocksStand s0 (f a s)) (l : List α)
    (h : ClocksStand s0 s) : ClocksStand s0 (forL l f s) := by
  induction l generalizing s with
  | nil => exact h
  | cons a l ih => exact ih (hf a s h)

protected theorem forN {f : Nat → State → State} (hf : ∀ a s, ClocksStand s0 s → ClocksStand s0 (f a s)) (n : Nat)
    (h : ClocksStand s0 s) : ClocksStand s0 (forN n f s) := ClocksStand.forL hf (List.range n) h

protected theorem irq (h : ClocksStand s0 s) (v : Nat) : ClocksStand s0 (irq v s) :=
  h.congr (irq_obj v s) (by rw [irq_time])

protected theorem event (h : ClocksStand s0 s) (code p0 p1 p2 p3 : Nat) : ClocksStand s0 (event code p0 p1 p2 p3 s) :=
  h.trans (((OnlyRaises.refl s).event _ _ _ _ _).clocksStand (event_time _ _ _ _ _ s))

protected theorem fault (h : ClocksStand s0 s) (kind inst cls code p0 p1 p2 p3 : Nat) :
    ClocksStand s0 (fault kind inst cls code p0 p1 p2 p3 s) :=
  h.trans (((OnlyRaises.refl s).fault _ _ _ _ _ _ _ _).clocksStand (fault_time _ _ _ _ _ _ _ _ s))

/-! ### Ports: mutes, windows, moves and return checks (R139 to R150, R397) -/

protected theorem raisePort (h : ClocksStand s0 s) (p b : Nat) : ClocksStand s0 (raisePort p b s) :=
  .ite h ((h.irq _).setBit (le_key (by decide)))

protected theorem releasePort (h : ClocksStand s0 s) (p b : Nat) : ClocksStand s0 (releasePort p b s) :=
  .ite ((h.irq _).clrBit (le_key (by decide))) h

protected theorem freeClock (h : ClocksStand s0 s) (p : Nat) : ClocksStand s0 (freeClock p s) := .ite (h.releasePort _ _) h

protected theorem windowEnd (h : ClocksStand s0 s) (p : Nat) : ClocksStand s0 (windowEnd p s) := by
  unfold windowEnd
  extract_lets x s2 s1
  have h2 : ClocksStand s0 s2 := (((h.setBit (by decide)).inc (by decide)).inc (le_key (by decide))).event _ _ _ _ _
  have h1 : ClocksStand s0 s1 := by
    refine .ite ?_ h
    split
    · exact .ite (h2.set (le_key (by omega))) h2
    · exact h2
  have h3 : ClocksStand s0 (s1.setPort p { s1.port p with window := false, lost := false, opener := none }) := h1.congr (by rfl) (by rfl)
  exact .ite h3 (h3.releasePort _ _)

protected theorem raiseHold (h : ClocksStand s0 s) (p : Nat) : ClocksStand s0 (raiseHold p s) :=
  ClocksStand.raisePort (.ite (h.congr (by rfl) (by rfl)) h) p pmSynth

protected theorem beginMove (h : ClocksStand s0 s) (p : Nat) (dest : Int) : ClocksStand s0 (beginMove p dest s) := by
  unfold beginMove
  extract_lets st s1 s2 port s3
  have h1 : ClocksStand s0 s1 := .ite (h.windowEnd p) h
  have h2 : ClocksStand s0 s2 := .ite (h1.raiseHold p) h1
  have h3 : ClocksStand s0 s3 := h2.congr (by rfl) (by rfl)
  exact h3.set (le_key (by decide))

protected theorem enterChrysalis (h : ClocksStand s0 s) (p : Nat) : ClocksStand s0 (enterChrysalis p s) := .ite h (h.beginMove p _)

protected theorem joinPending (h : ClocksStand s0 s) (p mask : Nat) : ClocksStand s0 (joinPending p mask s) :=
  (h.congr (by rfl) (by rfl)).set (le_key (by decide))

protected theorem markStale (h : ClocksStand s0 s) (p mask : Nat) : ClocksStand s0 (markStale p mask s) := by
  unfold markStale
  extract_lets port s1 s2 s3
  have h1 : ClocksStand s0 s1 := (h.congr (by rfl) (by rfl)).joinPending p mask
  have h2 : ClocksStand s0 s2 := h1.set (le_key (by decide))
  have h3 : ClocksStand s0 s3 := .ite h2 (h2.set (le_key (by decide)))
  exact .ite (h3.enterChrysalis p) h3

protected theorem returnFinds (h : ClocksStand s0 s) (p rows : Nat) : ClocksStand s0 (returnFinds p rows s) :=
  have hk : 0x2000 * 256 ≤ K.pdReturn p := by unfold K.pdReturn; omega
  .ite (h.set hk) (((h.set hk).markStale p _).fault _ _ _ _ _ _ _ _)

protected theorem returnCheck (h : ClocksStand s0 s) (p : Nat) (cold : Bool) : ClocksStand s0 (returnCheck p cold s) := by
  unfold returnCheck
  extract_lets fed ready rows s1
  have h1 : ClocksStand s0 s1 := h.returnFinds p rows
  exact .ite h1 ((h1.congr (by rfl) (by rfl)).enterChrysalis p)

protected theorem resumePort (h : ClocksStand s0 s) (p : Nat) : ClocksStand s0 (resumePort p s) :=
  .ite (h.returnCheck p true) (h.congr (by rfl) (by rfl))

protected theorem holdInCal (h : ClocksStand s0 s) (p : Nat) : ClocksStand s0 (holdInCal p s) := .ite (h.raiseHold p) h

protected theorem moveOn (h : ClocksStand s0 s) (p : Nat) : ClocksStand s0 (moveOn p s) :=
  .ite h (.ite (h.holdInCal p) (.ite (h.beginMove p _) (.ite h (h.beginMove p _))))

protected theorem wantPort (h : ClocksStand s0 s) (q : Nat) (v : Int) : ClocksStand s0 (wantPort q v s) :=
  (h.congr (by rfl) (by rfl)).moveOn q

/-! ### Channels: mutes, gains, filters and holds (R98, R190, R222, R230) -/

protected theorem raiseCh (h : ClocksStand s0 s) (c b : Nat) : ClocksStand s0 (raiseCh c b s) :=
  h.trans (((OnlyRaises.refl s).raiseCh c b).clocksStand (raiseCh_time c b s))

protected theorem setGain (h : ClocksStand s0 s) (c : Nat) (g : Int) : ClocksStand s0 (setGain c g s) :=
  ((h.putBit (le_key (by decide))).set (le_key (by decide))).set (le_key (by decide))

protected theorem reload (h : ClocksStand s0 s) (c : Nat) : ClocksStand s0 (reload c s) := by
  unfold reload
  extract_lets pRes x s1 s2 s3 s4 chan s5
  have h1 : ClocksStand s0 s1 := h.congr (by rfl) (by rfl)
  have h3 : ClocksStand s0 s3 := ((h1.inc (le_key (by decide))).set (le_key (by decide))).set (le_key (by decide))
  have h4 : ClocksStand s0 s4 := h3.setGain c _
  have h5 : ClocksStand s0 s5 := h4.congr (by rfl) (by rfl)
  exact h5.set (le_key (by decide))

protected theorem markWindow (h : ClocksStand s0 s) (c : Nat) : ClocksStand s0 (markWindow c s) :=
  .ite (h.congr (by rfl) (by rfl)) (h.congr (by rfl) (by rfl))

protected theorem releaseCh (h : ClocksStand s0 s) (c b : Nat) : ClocksStand s0 (releaseCh c b s) := by
  unfold releaseCh
  extract_lets w s1
  have h1 : ClocksStand s0 s1 := h.clrBit (le_key (by decide))
  exact .ite h1 (.ite (.ite (h1.reload c) (h1.markWindow c)) (.ite (.ite (h1.congr (by rfl) (by rfl)) (h1.reload c)) h1))

protected theorem clockUnmute (h : ClocksStand s0 s) (c : Nat) : ClocksStand s0 (clockUnmute c s) := .ite h (h.releaseCh c _)

protected theorem patternFreeze (h : ClocksStand s0 s) (c : Nat) (n : Option Nat) : ClocksStand s0 (patternFreeze c n s) := by
  unfold patternFreeze
  split
  · exact (h.congr (by rfl) (by rfl)).clrBit (le_key (by decide))
  · exact (h.congr (by rfl) (by rfl)).setBit (le_key (by decide))
  · exact (h.congr (by rfl) (by rfl)).setBit (le_key (by decide))

protected theorem implyChannel (h : ClocksStand s0 s) (c : Nat) : ClocksStand s0 (implyChannel c s) := by
  unfold implyChannel
  split
  · extract_lets pos
    split
    · exact .ite ((h.patternFreeze c _).releaseCh c _) (.ite (h.patternFreeze c _) ((h.patternFreeze c _).raiseCh c _))
    · exact h
  · exact (h.patternFreeze c _).releaseCh c _

protected theorem syncReset (h : ClocksStand s0 s) (c : Nat) : ClocksStand s0 (syncReset c s) :=
  ((((h.congr (by rfl) (by rfl)).set (le_key (by decide))).set (le_key (by decide))).inc (le_key (by decide))).raiseCh c cmSettling

protected theorem actHold (h : ClocksStand s0 s) (a : Action) : ClocksStand s0 (actHold a s) :=
  .ite h ((h.putBit (le_key (by decide))).markWindow _)

protected theorem actFreeze (h : ClocksStand s0 s) (a : Action) : ClocksStand s0 (actFreeze a s) := h.putBit (le_key (by decide))

protected theorem actDc (h : ClocksStand s0 s) (a : Action) : ClocksStand s0 (actDc a s) := h.congr (by rfl) (by rfl)

/-! ### Rails: set-points and phases -/

protected theorem moveRef (h : ClocksStand s0 s) (r delay rate goal : Nat) : ClocksStand s0 (moveRef r delay rate goal s) :=
  (h.congr (by rfl) (by rfl)).set (le_key (by decide))

protected theorem schedulePhases (h : ClocksStand s0 s) (r n : Nat) : ClocksStand s0 (schedulePhases r n s) :=
  .ite ((h.congr (by rfl) (by rfl)).set (le_key (by decide))) (.forL (fun _ _ hs => hs.congr (by rfl) (by rfl)) _ h)

protected theorem selectSetpoint (h : ClocksStand s0 s) (r n : Nat) : ClocksStand s0 (selectSetpoint r n s) := by
  unfold selectSetpoint
  extract_lets s1 v g s3 rail s2
  have h1 : ClocksStand s0 s1 := h.set (le_key (by decide))
  have h3 : ClocksStand s0 s3 := h1.moveRef r _ _ _
  have h2 : ClocksStand s0 s2 := .ite h1 (h3.congr (by rfl) (by rfl))
  exact .ite h (.ite h1 (h2.schedulePhases r n))

protected theorem railSelect (h : ClocksStand s0 s) (r n : Nat) : ClocksStand s0 (railSelect r n s) := .ite h (h.selectSetpoint r n)

/-! ### Walkers and grids at a resumption (R69, R100) -/

protected theorem stepRails (h : ClocksStand s0 s) (p : Nat) : ClocksStand s0 (stepRails p s) := by
  refine .forN (fun r t ht => ?_) 24 h
  split
  · exact ht.railSelect r _
  · exact ht

protected theorem stepHolds (h : ClocksStand s0 s) (p c : Nat) : ClocksStand s0 (stepHolds p c s) := by
  unfold stepHolds
  extract_lets pos s1 s2
  have h1 : ClocksStand s0 s1 := by
    dsimp only [s1]
    split
    · exact h.actHold _
    · exact h
  have h2 : ClocksStand s0 s2 := by
    dsimp only [s2]
    split
    · exact h1.actFreeze _
    · exact h1
  split
  · exact h2.actDc _
  · exact h2

protected theorem stepChannel (h : ClocksStand s0 s) (p c : Nat) : ClocksStand s0 (stepChannel p c s) := by
  unfold stepChannel
  extract_lets s1 s2 pos
  have h1 : ClocksStand s0 s1 := (h.raiseCh c _).setBit (le_key (by decide))
  have h2 : ClocksStand s0 s2 := (h1.syncReset c).implyChannel c
  exact h2.congr (by rfl) (by rfl)

protected theorem stepWalker (h : ClocksStand s0 s) (p : Nat) : ClocksStand s0 (stepWalker p s) := by
  unfold stepWalker
  extract_lets s1 s2 s3
  have h1 : ClocksStand s0 s1 := h.congr (by rfl) (by rfl)
  have h2 : ClocksStand s0 s2 := .forL (fun q _ hs => hs.wantPort q _) _ h1
  have h3 : ClocksStand s0 s3 := .forL (fun c _ hs => hs.stepChannel p c) _ h2
  exact .forL (fun c _ hs => hs.stepHolds p c) _ (h3.stepRails p)

protected theorem stepGrid (h : ClocksStand s0 s) (c : Nat) : ClocksStand s0 (stepGrid c s) := by
  unfold stepGrid
  extract_lets s1
  have h1 : ClocksStand s0 s1 := h.congr (by rfl) (by rfl)
  split
  · exact .ite (h1.congr (by rfl) (by rfl)) h1
  · exact h1

/-! ### The timebase (R23, R69) -/

protected theorem setTbState (h : ClocksStand s0 s) (v : Int) : ClocksStand s0 (setTbState v s) := .ite h ((h.irq 4).set (by decide))

protected theorem putStep (h : ClocksStand s0 s) (p : StepPlan) : ClocksStand s0 (putStep p s) :=
  ClocksStand.set (.forL (fun _ _ hs => hs.congr (by rfl) (by rfl)) _ (h.congr (by rfl) (by rfl))) (by decide)

protected theorem reacquire (h : ClocksStand s0 s) : ClocksStand s0 (reacquire s) := by
  unfold reacquire
  split
  · exact (((h.set (by decide)).set (by decide)).setTbState _).putStep _
  · exact (h.set (by decide)).setTbState _

end ClocksStand

end Sys2Proof.Machine
end

section
/-! PROOFS. The loss of the clocks and their return (R22, R23; the choices of log entry 45). The loss marks the timebase invalid and asks for the
mutes, and the fault it records takes none of that back; the return sets clk.status and lets the counter run, and nothing after it touches either. -/

namespace Sys2Proof.Machine

/-! ### Started channels -/

theorem Tab.mem_of_find? {α : Type} {t : Tab α} {k : Nat} {v : α} (h : Tab.find? t k = some v) : (k, v) ∈ t := by
  induction t with
  | nil => cases h
  | cons e t ih =>
    obtain ⟨j, w⟩ := e
    unfold Tab.find? at h
    split at h
    · next hj => cases h; simp [hj]
    · exact List.mem_cons_of_mem _ (ih h)

/-- A table lists every value that is not the default of its key. -/
theorem Tab.mem_of_get_ne {α : Type} {d : Nat → α} {t : Tab α} {k : Nat} (h : Tab.get d t k ≠ d k) : (k, Tab.get d t k) ∈ t := by
  unfold Tab.get at h ⊢
  split
  · next v hv => exact Tab.mem_of_find? hv
  · next hv => simp [hv] at h

/-- Of the rows of the channels that hold a sub-index 1, those that default to 1 stand at no first index of a channel's block of 16. -/
theorem channelRows_dflt_one :
    ∀ r ∈ rowsFor 0x4000, r.subLo ≤ 1 → r.dflt = 1 → r.stride = 16 ∧ 0x4000 ≤ r.base ∧ r.base % 16 ≠ 0 := by decide

theorem chRun_index (c : Nat) : K.chRun c / 256 = 0x4000 + c * 16 := by unfold K.chRun; omega

theorem chRun_sub (c : Nat) : K.chRun c % 256 = 1 := by unfold K.chRun; omega

theorem special_chRun {c : Nat} (hc : c < 512) : Dict.special (K.chRun c) = none := by
  have hi := chRun_index c
  have hs := chRun_sub c
  unfold Dict.special K.idSerial
  simp (disch := omega) only [hi, hs, if_neg]

theorem rowsFor_channel {c : Nat} (hc : c < 512) : rowsFor (0x4000 + c * 16) = rowsFor 0x4000 := by
  unfold rowsFor
  simp (disch := omega) only [if_pos, if_neg]

/-- A channel is not started by default (R35). -/
theorem default_chRun_ne_one {c : Nat} (hc : c < 512) : Dict.default (K.chRun c) ≠ 1 := by
  unfold Dict.default Dict.rowOf Dict.row?
  rw [special_chRun hc, chRun_index, chRun_sub, rowsFor_channel hc]
  dsimp only
  split
  · next r hr =>
    intro h1
    have hh : r.holds (0x4000 + c * 16) 1 = true := by simpa using List.find?_some hr
    simp only [ObjRow.holds, Bool.and_eq_true, decide_eq_true_eq] at hh
    obtain ⟨⟨⟨⟨hlo, -⟩, hbase⟩, hin⟩, -⟩ := hh
    obtain ⟨hstride, hfirst, hne⟩ := channelRows_dflt_one r (List.mem_of_find?_eq_some hr) hlo h1
    simp [hstride] at hin
    omega
  · decide

theorem mem_started {c : Nat} {s : State} (hc : c < 512) (h : s.num (K.chRun c) = 1) : c ∈ s.started := by
  have hne : s.num (K.chRun c) ≠ Dict.default (K.chRun c) := by rw [h]; exact (default_chRun_ne_one hc).symm
  have hmem : (K.chRun c, (1 : Int)) ∈ s.obj := h ▸ Tab.mem_of_get_ne hne
  have hi := chRun_index c
  have hs := chRun_sub c
  generalize K.chRun c = k at hmem hi hs
  have hlo : 0x400000 ≤ k := by omega
  have hhi : k < 0x600000 := by omega
  have hfirst : k / 256 % 16 = 0 := by omega
  have hk : (k / 256 - 0x4000) / 16 = c := by omega
  unfold State.started listed
  refine List.mem_map.mpr ⟨k, List.mem_filterMap.mpr ⟨_, hmem, ?_⟩, hk⟩
  simp [hs, hlo, hhi, hfirst]

/-! ### Mutes that a walk raises -/

theorem portMutes_lt {p : Nat} (hp : p < 32) : K.portMutes p < 0x6000 * 256 := by unfold K.portMutes; omega

theorem chMutes_lt {c : Nat} (hc : c < 512) : K.chMutes c < 0x6000 * 256 := by unfold K.chMutes; omega

theorem raiseCh_bit (c b : Nat) (s : State) : (raiseCh c b s).bit (K.chMutes c) b = true := State.bit_setBit_self _ _ _

theorem raisePort_bit (p b : Nat) (s : State) : (raisePort p b s).bit (K.portMutes p) b = true := by
  unfold raisePort
  split
  · assumption
  · exact State.bit_setBit_self _ _ _

/-- A walk whose every step raises the bit of its own word has raised the bit of each, since no step takes a bit away. -/
theorem forL_bit {α : Type} {f : α → State → State} {key : α → Nat} {b : Nat} (hf : ∀ a s, OnlyRaises s (f a s))
    (hb : ∀ a s, (f a s).bit (key a) b = true) {l : List α} {a : α} (ha : a ∈ l) (hk : key a < 0x6000 * 256) (s : State) :
    (forL l f s).bit (key a) b = true := by
  induction l generalizing s with
  | nil => cases ha
  | cons x l ih =>
    rcases List.mem_cons.mp ha with rfl | ha
    · exact (OnlyRaises.forL (fun x t ht => ht.trans (hf x t)) l (.refl (f a s))).bits _ _ hk (hb a s)
    · exact ih ha (f x s)

protected theorem OnlyRaises.clockMute {s0 s : State} (h : OnlyRaises s0 s) (c : Nat) : OnlyRaises s0 (clockMute c s) :=
  (h.congr (by rfl)).raiseCh c cmTimebase

@[simp] theorem clockMute_time (c : Nat) (s : State) : (clockMute c s).time = s.time := by simp [clockMute]

/-! ### The timebase is marked invalid (R22) -/

protected theorem OnlyRaises.muteForTrace {s0 s : State} (h : OnlyRaises s0 s) : OnlyRaises s0 (muteForTrace s) :=
  .ite h (.forL (fun c _ hs => (hs.congr (by rfl)).raiseCh c _) _ (h.fault _ _ _ _ _ _ _ _))

theorem setTrace_false_num {k : Nat} (hk : k < 0x3000 * 256) (s : State) :
    (setTrace false s).num k = if k = K.tbTrace then 0 else s.num k := by
  unfold setTrace
  split
  · next h =>
    have h0 : s.num K.tbTrace = 0 := by simpa [State.flag] using h
    split
    · next hkt => rw [hkt, h0]
    · rfl
  · exact ((OnlyRaises.refl _).muteForTrace.num k hk).trans (by simp)

theorem setTbState_num (v : Int) (k : Nat) (s : State) : (setTbState v s).num k = if k = K.tbState then v else s.num k := by
  unfold setTbState
  split
  · next h => split <;> simp_all
  · rw [State.num_set, irq_num]

theorem cancelStep_num (k : Nat) (s : State) : (cancelStep s).num k = if k = K.tbStepPending then ((noTime : Nat) : Int) else s.num k :=
  State.num_set _ _ _ _

/-- Of the objects below the ports', those of the state, the trace and the pending step of the timebase change. -/
theorem invalidate_num {k : Nat} (hk : k < 0x3000 * 256) (s : State) :
    (invalidate s).num k = if k = K.tbState then tsInvalid else if k = K.tbTrace then 0 else
      if k = K.tbStepPending then ((noTime : Nat) : Int) else s.num k := by
  rw [← cancelStep_num, ← setTrace_false_num hk, ← setTbState_num]
  rfl

theorem invalidate_running (s : State) : (invalidate s).time.running = false := rfl

/-! ### The loss of a clock (R22) -/

/-- The loss is shown and counted, and the management cores run on the hold oscillator. -/
def lossShown (src : ClkLoss) (s : State) : State :=
  let s1 := ((s.clrBit K.clkStatus (lossBit src)).clrBit K.clkStatus 7).setBit K.clkStatus 6
  if src = .refclk then s1.inc K.clkRefclkLossCount 32 else s1

/-- The timebase is invalid, and every started channel and every port is muted. -/
def silenced (s : State) : State := forN 32 (fun p s => raisePort p pmClock s) (forL s.started clockMute (invalidate s))

/-- The Severe fault of the loss. -/
def lossFault (src : ClkLoss) (s : State) : State := fault 0x02 0 3 (evCode 0x02 7) (lossBit src) 0 0 0 (s.sticky skRefclk)

theorem exec_refclkLoss_of_running (src : ClkLoss) {s : State} (h : s.time.running = true) :
    exec (.refclkLoss src) s = .next (lossFault src (silenced (lossShown src s))) := by
  have hr : ¬ (!s.time.running) = true := by simp [h]
  exact congrArg Host.Outcome.next (if_neg hr)

theorem lossShown_holdOsc (src : ClkLoss) (s : State) : (lossShown src s).bit K.clkStatus 6 = true := by
  unfold lossShown
  extract_lets s1
  have h1 : s1.bit K.clkStatus 6 = true := State.bit_setBit_self _ _ _
  split
  · rw [State.inc, State.bit_set, if_neg (by decide), h1]
  · exact h1

theorem lossShown_num {k : Nat} (hk : 0x1002 * 256 ≤ k) (src : ClkLoss) (s : State) : (lossShown src s).num k = s.num k := by
  have h1 : k ≠ K.clkStatus := by unfold K.clkStatus; omega
  have h2 : k ≠ K.clkRefclkLossCount := by unfold K.clkRefclkLossCount; omega
  unfold lossShown
  extract_lets s1
  have hs : s1.num k = s.num k := by simp [s1, h1]
  split
  · rw [State.num_inc, if_neg h2, hs]
  · exact hs

/-- The mutes are raised over the invalid timebase. -/
theorem silenced_raises (s : State) : OnlyRaises (invalidate s) (silenced s) :=
  .forN (fun p _ hs => hs.raisePort p pmClock) 32 (.forL (fun c _ hs => hs.clockMute c) _ (.refl _))

theorem silenced_time (s : State) : (silenced s).time = (invalidate s).time :=
  (forN_time (fun p t => raisePort_time p pmClock t) 32 _).trans (forL_time clockMute_time _ _)

theorem silenced_port {p : Nat} (hp : p < 32) (s : State) : (silenced s).bit (K.portMutes p) pmClock = true :=
  forL_bit (fun p _ => (OnlyRaises.refl _).raisePort p pmClock) (fun p t => raisePort_bit p pmClock t) (List.mem_range.mpr hp)
    (portMutes_lt hp) _

theorem silenced_chan {c : Nat} {s : State} (hc : c < 512) (h : s.num (K.chRun c) = 1) :
    (silenced s).bit (K.chMutes c) cmTimebase = true := by
  have hk := chMutes_lt hc
  have hmute : (forL s.started clockMute (invalidate s)).bit (K.chMutes c) cmTimebase = true :=
    forL_bit (fun c _ => (OnlyRaises.refl _).clockMute c) (fun c _ => raiseCh_bit c _ _) (mem_started hc h) hk _
  exact (OnlyRaises.forN (fun p _ hs => hs.raisePort p pmClock) 32 (.refl _)).bits _ _ hk hmute

theorem lossFault_raises (src : ClkLoss) (s : State) : OnlyRaises s (lossFault src s) := ((OnlyRaises.refl s).sticky _).fault _ _ _ _ _ _ _ _

@[simp] theorem lossFault_time (src : ClkLoss) (s : State) : (lossFault src s).time = s.time := by simp [lossFault]

/-- What the invalid timebase says stands through the mutes and the fault. -/
theorem loss_num {k : Nat} (hk : k < 0x3000 * 256) (src : ClkLoss) (s : State) :
    (lossFault src (silenced s)).num k = if k = K.tbState then tsInvalid else if k = K.tbTrace then 0 else
      if k = K.tbStepPending then ((noTime : Nat) : Int) else s.num k :=
  (((silenced_raises s).trans (lossFault_raises src _)).num k hk).trans (invalidate_num hk s)

/-! ### The return of the clocks (R23) -/

/-- The counter may run, and every clock is shown good. -/
def clocksBack (s : State) : State :=
  let s0 := keepTokens (List.range 72) s
  ({ s0 with time := { s0.time with running := true } }).set K.clkStatus 0x3F

/-- What the return sets off: the return checks of the ports, the mutes of the channels, the source, the grids and walkers, and a record. -/
def resumed (s : State) : State :=
  let s2 := forN 32 (fun p s => freeClock p (resumePort p s)) s
  let s3 := reacquire (forL s2.started clockUnmute s2)
  event (evCode 0x02 8) 0 0 0 0 (forL s3.started stepGrid (forL (walkersOn s3) stepWalker s3))

theorem exec_refclkResume_of_lost (x : Report) {s : State} (hr : s.time.running = false) (ho : s.holdOsc = true) :
    exec (.refclkResume x) s = .next (resumed (clocksBack s)) := by
  have h : ¬ (s.time.running = true ∨ (!s.holdOsc) = true) := by simp [hr, ho]
  exact congrArg Host.Outcome.next (if_neg h)

theorem exec_refclkResume_of_running (x : Report) {s : State} (hr : s.time.running = true) : exec (.refclkResume x) s = .next s :=
  congrArg Host.Outcome.next (if_pos (.inl hr))

theorem resumed_clocksStand (s : State) : ClocksStand s (resumed s) := by
  unfold resumed
  extract_lets s2 s3
  have h2 : ClocksStand s s2 := .forN (fun p _ hs => (hs.resumePort p).freeClock p) 32 (.refl s)
  have h3 : ClocksStand s s3 := ClocksStand.reacquire (.forL (fun c _ hs => hs.clockUnmute c) _ h2)
  exact ClocksStand.event (.forL (fun c _ hs => hs.stepGrid c) _ (.forL (fun p _ hs => hs.stepWalker p) _ h3)) _ _ _ _ _

theorem clocksBack_running (s : State) : (clocksBack s).time.running = true := rfl

theorem clocksBack_status (s : State) : (clocksBack s).num K.clkStatus = 0x3F := (State.num_set _ _ _ _).trans (if_pos rfl)

/-! ### The statement -/

/-- Settles O21: a fault takes back no mute and touches no object of the clocks or the timebase, and nothing that the return of the clocks sets off
stops them or touches clk.status. -/
theorem clockLossAndReturn : Obligations.ClockLossAndReturn := by
  refine ⟨fun src s hrun => ?loss, fun x s hstop hosc => ?back, fun x s hrun => ?running⟩
  case loss =>
    refine ⟨_, exec_refclkLoss_of_running src hrun, ?_⟩
    have hfault := lossFault_raises src (silenced (lossShown src s))
    refine ⟨?_, ?_, ?_, ?_, ?_, fun p hp => ?_, fun c hc hc1 => ?_⟩
    · rw [lossFault_time, silenced_time, invalidate_running]
    · exact loss_num (by decide) src _
    · exact loss_num (by decide) src _
    · exact loss_num (by decide) src _
    · have hnum : (lossFault src (silenced (lossShown src s))).num K.clkStatus = (lossShown src s).num K.clkStatus :=
        loss_num (by decide) src _
      rw [State.bit, State.nat, hnum]
      exact lossShown_holdOsc src s
    · exact hfault.bits _ _ (portMutes_lt hp) (silenced_port hp _)
    · have hrun1 : (lossShown src s).num (K.chRun c) = 1 := (lossShown_num (by unfold K.chRun; omega) src s).trans hc1
      exact hfault.bits _ _ (chMutes_lt hc) (silenced_chan hc hrun1)
  case back =>
    refine ⟨_, exec_refclkResume_of_lost x hstop hosc, ?_⟩
    have hstand := resumed_clocksStand (clocksBack s)
    exact ⟨hstand.running.trans (clocksBack_running s), (hstand.num _ (by decide)).trans (clocksBack_status s)⟩
  case running => exact ⟨s, exec_refclkResume_of_running x hrun, rfl⟩

end Sys2Proof.Machine
end

section
/-! PROOFS. The object tables at power-on and through a step: every object stands at its default (R33, R35), and what each operation keeps of the
tables (Laws/Keeps.lean) a step keeps. That a table has one canonical form is the model's own representation (log entries 23 and 24). -/

namespace Sys2Proof.Machine

theorem step_of_command {c : Instr} {rest : List Instr} {s : State} (h : s.pending = c :: rest) :
    step s = exec c { s with pending := rest } := by
  unfold step
  rw [h]

/-- Settles O5: a step is an idle tick or a command on the state with the rest of the queue, and both keep the tables canonical. -/
theorem everyStepKeepsCanonicalForm : Obligations.EveryStepKeepsCanonicalForm := by
  intro s t hstep hs
  cases hp : s.pending with
  | nil =>
    rw [step_of_no_command hp] at hstep
    injection hstep with ht
    subst ht
    exact (idleTick_keeps (keeps_refl s)).2 hs
  | cons c rest =>
    rw [step_of_command hp] at hstep
    exact (exec_keeps c hstep).2 hs

/-- Settles O6: the tables of the part as delivered are empty. -/
theorem resetIsCanonical : Obligations.ResetIsCanonical := ⟨Tab.wf_nil _, Tab.wf_nil _⟩

theorem reset_num (k : Nat) : State.reset.num k = Dict.default k := rfl

theorem reset_oct (k : Nat) : State.reset.oct k = Dict.defaultBlob k := rfl

/-- The part as delivered stands at boot stage 0, the default of pd.boot_stage (R392). -/
theorem reset_serving : State.reset.serving = false := by
  have h : Dict.default K.pdBootStage ≠ 6 := by decide
  unfold State.serving
  rw [reset_num]
  exact decide_eq_false h

/-- Settles O7: an object that nothing has set reads as its default, and the part as delivered holds nothing else. -/
theorem resetStandsAtDefaults : Obligations.ResetStandsAtDefaults :=
  ⟨reset_num, reset_oct, reset_serving, rfl, rfl, rfl⟩

end Sys2Proof.Machine
end

section
/-! PROOFS. What leaves the objects alone: the relations SameObjects and SameBut, one rule per operation of the state, and the rules of an answer
and of a reply (R39, R40). -/

namespace Sys2Proof.Machine

/-! ### Objects that stand -/

namespace SameObjects

variable {s t u : State}

protected theorem refl (s : State) : SameObjects s s := ⟨fun _ => rfl, fun _ => rfl⟩

protected theorem trans (h : SameObjects s t) (h' : SameObjects t u) : SameObjects s u :=
  ⟨fun k => (h'.1 k).trans (h.1 k), fun k => (h'.2 k).trans (h.2 k)⟩

/-- States with the same tables hold the same objects. -/
protected theorem of_tables (ho : t.obj = s.obj) (hb : t.blob = s.blob) : SameObjects s t :=
  ⟨State.num_congr ho, State.oct_congr hb⟩

protected theorem ite {c : Prop} [Decidable c] (ht : SameObjects s t) (hu : SameObjects s u) : SameObjects s (if c then t else u) := by
  split <;> assumption

protected theorem forL {α : Type} {f : α → State → State} (hf : ∀ a t, SameObjects t (f a t)) (l : List α) (s : State) :
    SameObjects s (forL l f s) :=
  ⟨fun k => forL_fixes (State.num · k) f (fun a t => (hf a t).1 k) l s, fun k => forL_fixes (State.oct · k) f (fun a t => (hf a t).2 k) l s⟩

protected theorem nat (h : SameObjects s t) (k : Nat) : t.nat k = s.nat k := congrArg Int.toNat (h.1 k)

protected theorem bit (h : SameObjects s t) (k b : Nat) : t.bit k b = s.bit k b := congrArg (Nat.testBit · b) (h.nat k)

protected theorem bucketMax (h : SameObjects s t) (m : Nat) : bucketMax t m = bucketMax s m := by
  unfold Machine.bucketMax State.holdOsc
  rw [h.bit, h.nat]

protected theorem banisterHolds (h : SameObjects s t) (k : Nat) : banisterHolds t k = banisterHolds s k := by
  unfold Machine.banisterHolds
  simp only [h.1]

end SameObjects

namespace SameBut

variable {ks : List Nat} {s t u : State}

protected theorem trans (h : SameBut ks s t) (h' : SameBut ks t u) : SameBut ks s u :=
  ⟨fun k hk => (h'.1 k hk).trans (h.1 k hk), fun k hk => (h'.2 k hk).trans (h.2 k hk)⟩

protected theorem mono {ls : List Nat} (h : SameBut ks s t) (hl : ks ⊆ ls) : SameBut ls s t :=
  ⟨fun k hk => h.1 k (fun hm => hk (hl hm)), fun k hk => h.2 k (fun hm => hk (hl hm))⟩

protected theorem set (h : SameBut ks s t) {k : Nat} {v : Int} (hk : k ∈ ks) : SameBut ks s (t.set k v) := by
  refine ⟨fun j hj => ?_, fun j hj => h.2 j hj⟩
  rw [State.num_set, if_neg (ne_of_mem_of_not_mem hk hj).symm]
  exact h.1 j hj

protected theorem inc (h : SameBut ks s t) {k n : Nat} (hk : k ∈ ks) : SameBut ks s (t.inc k n) := h.set hk

protected theorem setOct (h : SameBut ks s t) {k : Nat} {b : List Byte} (hk : k ∈ ks) : SameBut ks s (t.setOct k b) := by
  refine ⟨fun j hj => h.1 j hj, fun j hj => ?_⟩
  rw [State.oct_setOct, if_neg (ne_of_mem_of_not_mem hk hj).symm]
  exact h.2 j hj

end SameBut

theorem SameObjects.sameBut {s t : State} (h : SameObjects s t) (ks : List Nat) : SameBut ks s t := ⟨fun k _ => h.1 k, fun k _ => h.2 k⟩

theorem SameBut.refl (ks : List Nat) (s : State) : SameBut ks s s := (SameObjects.refl s).sameBut ks

theorem SameBut.andThen {ks : List Nat} {s t u : State} (h : SameBut ks s t) (h' : SameObjects t u) : SameBut ks s u := h.trans (h'.sameBut ks)

/-! ### Responses and answers (R39, R40) -/

theorem sameObjects_respond (w : Who) (kind : Nat) (f : Frame) (status : Nat) (b : List Byte) (s : State) :
    SameObjects s (respond w kind f status b s) := .of_tables (respond_obj ..) (respond_blob ..)

theorem sameObjects_answer (w : Who) (kind : Nat) (f : Frame) (status : Nat) (b : List Byte) (s : State) :
    SameObjects s (answer w kind f status b s) := ⟨answer_num w kind f status b s, answer_oct w kind f status b s⟩

@[simp] theorem answer_lastRsp (w : Who) (kind : Nat) (f : Frame) (status : Nat) (b : List Byte) (s : State) :
    ((answer w kind f status b s).master w.flow).lastRsp = ⟨status, b⟩ := by simp [answer_master]

/-- A response of no octets to a flow beyond PCIe and the console is one first frame. -/
theorem respond_empty {w : Who} (hw : 3 ≤ w.flow) (kind : Nat) (f : Frame) (status : Nat) (s : State) :
    respond w kind f status [] s = s.emit (.response w.flow kind f.seq f.index f.sub status 0 false []) := by
  unfold respond
  rw [if_neg (by omega), if_neg (by omega)]
  rfl

theorem mem_respond_empty {w : Who} (hw : 3 ≤ w.flow) (kind : Nat) (f : Frame) (status : Nat) (s : State) :
    Out.response w.flow kind f.seq f.index f.sub status 0 false [] ∈ (respond w kind f status [] s).out := by
  rw [respond_empty hw]
  exact List.mem_cons_self

/-! ### Replies -/

/-- A reply with a status is answered with it and its payload, and the answer changes no object. -/
theorem finish_answers {w : Who} {kind : Nat} {f : Frame} {r : Reply} {status : Nat} (h : r.status = some status) :
    Answered (finish w kind f r) w status ∧ ((finish w kind f r).master w.flow).lastRsp.payload = r.payload ∧
      SameObjects r.st (finish w kind f r) := by
  have hr : finish w kind f r = answer w kind f status r.payload r.st := by unfold finish; rw [h]
  rw [hr]
  exact ⟨answered_answer .., by rw [answer_lastRsp], sameObjects_answer ..⟩

/-- A reply that refuses is answered with its status and changes no object. -/
theorem finish_no (w : Who) (kind : Nat) (f : Frame) (s : State) (status : Nat) :
    Answered (finish w kind f (.no s status)) w status ∧ SameObjects s (finish w kind f (.no s status)) := by
  obtain ⟨hans, -, hsame⟩ := finish_answers (w := w) (kind := kind) (f := f) (r := .no s status) rfl
  exact ⟨hans, hsame⟩

end Sys2Proof.Machine
end

section
/-! PROOFS. Clearing a request (R43): who sends it, what the tests before the object leave, and what a command that is a request then comes to. -/

namespace Sys2Proof.Machine

/-- Objects of different sub-indices have different keys, whatever their indices. -/
theorem key_ne {i j a b : Nat} (h : a < 256 ∧ b < 256 ∧ a ≠ b) : i * 256 + a ≠ j * 256 + b := by omega

theorem sameObjects_takeToken (m : Nat) (s : State) : SameObjects s (takeToken m s) :=
  .ite (.refl s) (.of_tables rfl rfl)

theorem sameObjects_markSeq (w : Who) (seq : Nat) (s : State) : SameObjects s (markSeq w seq s) := .of_tables rfl rfl

/-- Binding a slot gives its master the identity of the node (R45). -/
theorem sameBut_bindSlot (m bus node : Nat) (s : State) : SameBut [K.mrIdent m] s (bindSlot m bus node s) :=
  SameBut.set (SameBut.refl _ s) List.mem_cons_self

/-- Finding out who sends a frame writes the identity of its master at most (R45). -/
theorem sameBut_whoSends {o : Origin} {s s0 : State} {w : Who} (h : whoSends o s = (some w, s0)) : SameBut [K.mrIdent w.charged] s s0 := by
  cases o with
  | master m =>
    obtain ⟨-, rfl⟩ := Prod.mk.inj h
    exact .refl _ s
  | can bus node dest =>
    unfold whoSends at h
    dsimp only at h
    split at h
    · obtain ⟨-, rfl⟩ := Prod.mk.inj h
      exact .refl _ s
    · split at h
      · next m _ =>
        obtain ⟨hw, rfl⟩ := Prod.mk.inj h
        obtain rfl := Option.some.inj hw
        exact sameBut_bindSlot m bus node s
      · exact absurd (Prod.mk.inj h).1 (by simp)
  | tunnel link origin om level =>
    obtain ⟨-, rfl⟩ := Prod.mk.inj h
    exact .refl _ s

/-- A request that is cleared has been counted, has taken its token and its place in the sequence. -/
theorem cleared_cases {kind : Nat} {f : Frame} {s u : State} {w : Who} (h : cleared kind f s = some (w, u)) :
    ∃ s0 q, whoSends f.org s = (some w, s0) ∧
      u = markSeq w q (takeToken w.charged (s0.set (K.mrRequests w.charged) (s0.num (K.mrRequests w.charged) + 1))) := by
  unfold cleared at h
  split at h
  · exact absurd h (by simp)
  · split at h
    · exact absurd h (by simp)
    · next w' s0 hwho =>
      dsimp only at h
      split at h
      · exact absurd h (by simp)
      · obtain ⟨rfl, rfl⟩ := Prod.mk.inj (Option.some.inj h)
        exact ⟨s0, _, hwho, rfl⟩

/-- Settles O8: the count is the one write after the sender is known, and binding a slot before it writes the identity alone. -/
theorem clearedRequestsCountThemselves : Obligations.ClearedRequestsCountThemselves := by
  intro kind f s u w h
  obtain ⟨s0, q, hwho, rfl⟩ := cleared_cases h
  have hbind := sameBut_whoSends hwho
  have hcount := (sameObjects_takeToken w.charged (s0.set (K.mrRequests w.charged) (s0.num (K.mrRequests w.charged) + 1))).trans
    (sameObjects_markSeq w q _)
  refine ⟨?_, ?_⟩
  · have hkey : K.mrRequests w.charged ∉ [K.mrIdent w.charged] := by rw [List.mem_singleton]; exact key_ne (by decide)
    rw [hcount.1, State.num_set, if_pos rfl, hbind.1 _ hkey]
  · exact ((hbind.mono (by simp)).set List.mem_cons_self).andThen hcount

/-! ### Commands that are requests -/

section
variable {f : Frame} {w : Who} {s u : State} {post : State → Prop}

theorem does_write (h : cleared kWrite f s = some (w, u)) (hp : post (finish w kWrite f (writeBody w f u))) : Does (.write f) s post :=
  ⟨_, congrArg Host.Outcome.next (request_cleared h writeBody), hp⟩

theorem does_stage (h : cleared kStage f s = some (w, u)) (hp : post (finish w kStage f (stageBody w f u))) : Does (.stage f) s post :=
  ⟨_, congrArg Host.Outcome.next (request_cleared h stageBody), hp⟩

theorem does_read (h : cleared kRead { f with describe := false, staged := false } s = some (w, u))
    (hp : post (finish w kRead { f with describe := false, staged := false } (valueBody w f u))) : Does (.read f) s post :=
  ⟨_, congrArg Host.Outcome.next (request_cleared h readBody), hp⟩

theorem does_readStaged (h : cleared kRead { f with staged := true } s = some (w, u)) (hf : f.describe = false)
    (hp : post (finish w kRead { f with staged := true } (stagedBody w f u))) : Does (.readStaged f) s post := by
  refine ⟨_, congrArg Host.Outcome.next (request_cleared h readBody), ?_⟩
  have hbody : readBody w { f with staged := true } u = stagedBody w f u := by simp [readBody, hf, stagedBody]
  rwa [hbody]

theorem does_readDescribe (h : cleared kRead { f with describe := true } s = some (w, u))
    (hp : post (finish w kRead { f with describe := true } (describeBody w f u))) : Does (.readDescribe f) s post :=
  ⟨_, congrArg Host.Outcome.next (request_cleared h readBody), hp⟩

end

/-! ### Examining a write (R43) -/

section
variable {f : Frame} {w : Who} {u : State} {r : ObjRow} {k : Nat} {act : Who → ObjRow → Nat → Val → State → Reply}

theorem examineWrite_ro (hl : lookup f.index f.sub = some (.live r k)) (hr : r.access = .ro) :
    examineWrite kWrite w f u act = .no u stRdOnly := by
  simp [examineWrite, hl, hr]

theorem examineWrite_rwv (hl : lookup f.index f.sub = some (.live r k)) (hr : r.access = .rwv) :
    examineWrite kWrite w f u act = .violation w u stOutsideTx := by
  simp [examineWrite, hl, hr]

theorem examineWrite_level (hl : lookup f.index f.sub = some (.live r k)) (hro : r.access ≠ .ro) (hrwv : r.access ≠ .rwv)
    (hw : w.tunnel = false) (hlevel : w.level < r.level) : examineWrite kWrite w f u act = .violation w u stLevel := by
  simp [examineWrite, hl, hro, hrwv, hw, hlevel]

theorem examineWrite_range (hl : lookup f.index f.sub = some (.live r k)) (hro : r.access ≠ .ro) (hrwv : r.access ≠ .rwv)
    (hlevel : r.level ≤ w.level) (hfit : fits u k r f.payload = .rangeBad) : examineWrite kWrite w f u act = .no u stRange := by
  simp [examineWrite, hl, hro, hrwv, Nat.not_lt.2 hlevel, hfit]

theorem examineWrite_rw {v : Val} (hl : lookup f.index f.sub = some (.live r k)) (hr : r.access = .rw) (hlevel : r.level ≤ w.level)
    (hfit : fits u k r f.payload = .ok v) : examineWrite kWrite w f u act = act w r k v u := by
  simp [examineWrite, hl, hr, Nat.not_lt.2 hlevel, hfit]

theorem examineStage_rwv {v : Val} (hl : lookup f.index f.sub = some (.live r k)) (hr : r.access = .rwv) (hlevel : r.level ≤ w.level)
    (hfit : fits u k r f.payload = .ok v) (hfree : stagedElsewhere u w.flow k = false) :
    examineWrite kStage w f u act = act w r k v u := by
  simp [examineWrite, hl, hr, Nat.not_lt.2 hlevel, hfit, hfree]

/-- The frame of an object that is no setting of a DMA engine is examined as any write is. -/
theorem writeBody_eq (h : dmaSetting (f.index * 256 + f.sub) = none) (w : Who) (u : State) :
    writeBody w f u = examineWrite kWrite w f u writeAct := by
  simp [writeBody, h]

end

end Sys2Proof.Machine
end

section
/-! PROOFS. Violations (R51): what freezing leaves of its master, the answer of a violation, and requests of a frozen master. -/

namespace Sys2Proof.Machine

/-- Master m is frozen with a code: it stands at Observer, and the level it held is kept (R51). -/
structure FrozenWith (t : State) (m code level : Nat) : Prop where
  frozen : t.num (K.mrFrozen m) = (code : Int)
  observer : t.num (K.mrLevel m) = 0
  held : t.num (K.mrFrozenLevel m) = (level : Int)

theorem FrozenWith.congr {s t : State} {m code level : Nat} (h : FrozenWith s m code level) (hst : SameObjects s t) :
    FrozenWith t m code level :=
  ⟨(hst.1 _).trans h.frozen, (hst.1 _).trans h.observer, (hst.1 _).trans h.held⟩

/-- The last three writes of a freeze are those of its master's record, whatever the fault before them does. -/
theorem freeze_frozenWith {m : Nat} (hm : m ≠ 0) (code : Nat) (s : State) : FrozenWith (freeze m code s) m code (s.levelOf m) := by
  unfold freeze
  rw [if_neg hm]
  refine ⟨?_, ?_, ?_⟩
  · rw [State.num_set, if_pos rfl]
  · rw [State.num_set, if_neg (key_ne (by decide)), State.num_set, if_pos rfl]
  · rw [State.num_set, if_neg (key_ne (by decide)), State.num_set, if_neg (key_ne (by decide)), State.num_set, if_pos rfl]

/-- A violation of a master of this part freezes it and is answered with its code. -/
theorem finish_violation {w : Who} (hw : w.tunnel = false) (hc : w.charged ≠ 0) (kind : Nat) (f : Frame) (u : State) (code : Nat) :
    Answered (finish w kind f (.violation w u code)) w code ∧
      FrozenWith (finish w kind f (.violation w u code)) w.charged code (u.levelOf w.charged) := by
  obtain ⟨hans, -, hsame⟩ := finish_answers (w := w) (kind := kind) (f := f) (r := .violation w u code) rfl
  have hst : (Reply.violation w u code).st = freeze w.charged code u := by simp [Reply.violation, hw]
  rw [hst] at hsame
  exact ⟨hans, (freeze_frozenWith hc code u).congr hsame⟩

theorem violate_frozenWith {w : Who} (hw : w.tunnel = false) (hc : w.charged ≠ 0) (kind : Nat) (f : Frame) (code : Nat) (u : State) :
    FrozenWith (violate w kind f code u) w.charged code (u.levelOf w.charged) :=
  (finish_violation hw hc kind f u code).2

/-- A request of a frozen master is answered FROZEN, before anything else is looked at. -/
theorem request_frozen {kind m : Nat} {f : Frame} {s : State} (ho : f.org = .master m) (hs : s.serving = true) (hm : s.num (K.mrFrozen m) ≠ 0)
    (body : Who → Frame → State → Reply) : request kind f s body = respond ⟨m, m, s.levelOf m, false⟩ kind f stFrozen [] s := by
  simp [request, ho, hs, hm, forThisPart, whoSends]

/-- Settles O9: of the tests of R43 the right comes before the level, each failing one freezes the master in the state its clearing leaves, and a
master that is frozen already is answered before any test. -/
theorem violationsFreezeTheMaster : Obligations.ViolationsFreezeTheMaster := by
  refine ⟨?outside, ?level, ?write, ?read⟩
  case outside =>
    intro f w s u r k hclear hw hc _ hdma hl hr
    refine does_write hclear ?_
    rw [writeBody_eq hdma, examineWrite_rwv hl hr]
    obtain ⟨hans, hfrozen⟩ := finish_violation hw hc kWrite f u stOutsideTx
    exact ⟨hans, hfrozen.frozen, hfrozen.observer, hfrozen.held⟩
  case level =>
    intro f w s u r k hclear hw hc hdma hl hro hrwv hlevel
    refine does_write hclear ?_
    rw [writeBody_eq hdma, examineWrite_level hl hro hrwv hw hlevel]
    obtain ⟨hans, hfrozen⟩ := finish_violation hw hc kWrite f u stLevel
    exact ⟨hans, hfrozen.frozen, hfrozen.observer, hfrozen.held⟩
  case write =>
    intro f m s ho hs hm h3
    refine ⟨_, congrArg Host.Outcome.next (request_frozen ho hs hm writeBody), ?_, sameObjects_respond ..⟩
    exact ⟨f.seq, f.index, f.sub, mem_respond_empty h3 ..⟩
  case read =>
    intro f m s ho hs hm h3
    refine ⟨_, congrArg Host.Outcome.next (request_frozen (f := { f with describe := false, staged := false }) ho hs hm readBody), ?_,
      sameObjects_respond ..⟩
    exact ⟨f.seq, f.index, f.sub, mem_respond_empty h3 ..⟩

end Sys2Proof.Machine
end

section
/-! PROOFS. READ in its three forms (R38, R43, R44): each answers what its body finds, and none writes an object. The descriptor is the model's
`describe` (log entry 8). -/

namespace Sys2Proof.Machine

section
variable {f : Frame} {w : Who} {u : State} {r : ObjRow} {k : Nat}

theorem valueBody_none (hl : lookup f.index f.sub = none) (w : Who) (u : State) : valueBody w f u = .no u stNoObject := by
  simp [valueBody, hl]

theorem valueBody_live (hl : lookup f.index f.sub = some (.live r k)) (hr : r.access ≠ .wo) (w : Who) (u : State) :
    valueBody w f u = readLive w.flow r k u := by
  simp [valueBody, hl, hr]

/-- A number that is not measured reads as its value in effect. -/
theorem readLive_num (flow : Nat) (h1 : k ≠ K.recRecord) (h2 : k ≠ K.recPermRecord) (ht : r.ty.octets = false) (hm : measuredLive u k = false) :
    readLive flow r k u = ⟨u, some stOk, encodeVal r.ty (.num (u.readNum flow k))⟩ := by
  simp [readLive, h1, h2, ht, hm]

/-- A STR or BLOB reads as its octets. -/
theorem readLive_oct (flow : Nat) (h1 : k ≠ K.recRecord) (h2 : k ≠ K.recPermRecord) (ht : r.ty.octets = true) :
    readLive flow r k u = ⟨u, some stOk, readOct u flow k⟩ := by
  simp [readLive, h1, h2, ht]

theorem stagedBody_staged {i : Nat} {x : Tx} {v : Val} (hl : lookup f.index f.sub = some (.live r k)) (hr : r.access ≠ .wo)
    (htx : txOf u w.flow [1, 2, 6, 7] = some (i, x)) (hv : x.staged.find? (fun e => decide (e.1 = k)) = some (k, v)) :
    stagedBody w f u = ⟨u, some stOk, encodeVal r.ty v⟩ := by
  simp [stagedBody, hl, hr, htx, hv]

theorem describeBody_live (hl : lookup f.index f.sub = some (.live r k)) (hr : r.access ≠ .wo) (w : Who) (u : State) :
    describeBody w f u = ⟨u, some stOk, describe r k⟩ := by
  simp [describeBody, hl, hr]

theorem describeBody_wo (hl : lookup f.index f.sub = some (.live r k)) (hr : r.access = .wo) (w : Who) (u : State) :
    describeBody w f u = .no u stWrOnly := by
  simp [describeBody, hl, hr]

end

/-- Settles O10: every body of a READ leaves the state it examines, so that the answer alone follows. -/
theorem readsAnswerTheirValue : Obligations.ReadsAnswerTheirValue := by
  refine ⟨?number, ?octets, ?staged, ?described, ?writeOnly, ?missing⟩
  case number =>
    intro f w s u r k hclear hl hr h1 h2 ht hm
    refine does_read hclear ?_
    rw [valueBody_live hl hr, readLive_num w.flow h1 h2 ht hm]
    exact finish_answers rfl
  case octets =>
    intro f w s u r k hclear hl hr h1 h2 ht
    refine does_read hclear ?_
    rw [valueBody_live hl hr, readLive_oct w.flow h1 h2 ht]
    exact finish_answers rfl
  case staged =>
    intro f w s u r k i x v hclear hf hl hr htx hv
    refine does_readStaged hclear hf ?_
    rw [stagedBody_staged hl hr htx hv]
    exact finish_answers rfl
  case described =>
    intro f w s u r k hclear hl hr
    refine does_readDescribe hclear ?_
    rw [describeBody_live hl hr]
    exact finish_answers rfl
  case writeOnly =>
    intro f w s u r k hclear hl hr
    refine does_readDescribe hclear ?_
    rw [describeBody_wo hl hr]
    exact finish_no ..
  case missing =>
    intro f w s u hclear hl
    refine does_read hclear ?_
    rw [valueBody_none hl]
    exact finish_no ..

end Sys2Proof.Machine
end

section
/-! PROOFS. WRITE (R33, R43): a setting takes its value and no other object changes; a write of a command object is the command's own row. -/

namespace Sys2Proof.Machine

/-! ### Settings -/

theorem sameObjects_keepTokens (ms : List Nat) (s : State) : SameObjects s (keepTokens ms s) := by
  unfold keepTokens
  refine .forL (fun m t => ?_) ms s
  exact .of_tables rfl rfl

/-- The object at key k holds the value v. -/
def Holds (s : State) (k : Nat) : Val → Prop
  | .num n => s.num k = n
  | .oct b => s.oct k = b

/-- What an effect gives when its object at key k has taken the value v and no other object has changed: it answers OK, with no payload. -/
structure Takes (k : Nat) (v : Val) (s : State) (r : Reply) : Prop where
  ok : r.status = some stOk
  value : Holds r.st k v
  rest : SameBut [k] s r.st

/-- A value put into its object, on a state that holds the same objects. -/
theorem takes_setVal {s t : State} (h : SameObjects s t) (k : Nat) (v : Val) : Takes k v s (.ok (t.setVal k v)) where
  ok := rfl
  value := by
    cases v with
    | num n => exact (State.num_set ..).trans (if_pos rfl)
    | oct b => exact (State.oct_setOct ..).trans (if_pos rfl)
  rest := by
    cases v with
    | num n => exact SameBut.set (h.sameBut _) List.mem_cons_self
    | oct b => exact SameBut.setOct (h.sameBut _) List.mem_cons_self

/-- A written number of tb.tod.next is its label, whose tick is kept beside the objects (R66). -/
theorem takes_todEffect (n : Int) (s : State) : Takes K.tbTodNext (.num n) s (.ok (todEffect n s)) where
  ok := rfl
  value := (State.num_set ..).trans (if_pos rfl)
  rest := SameBut.andThen (SameBut.set (.refl _ s) List.mem_cons_self) (.of_tables rfl rfl)

/-- A setting that is neither a cursor, the priority word, a threshold nor a DMA engine's takes its value; of tb.tod.next, a number. -/
theorem settingEffect_takes {k : Nat} {v : Val} {s : State} (w : Who) (hd : dmaSetting k = none) (hz : thresholdZone k = none)
    (h1 : k ≠ K.recCursor) (h2 : k ≠ K.recPermCursor) (h3 : k ≠ K.tbSourcePriority) (hb : banisterHolds s k = false)
    (htod : k = K.tbTodNext → v = .num v.int) : Takes k v s (settingEffect k w v s) := by
  unfold settingEffect
  rw [if_neg (by simp [hb])]
  by_cases hk : k = K.tbTodNext
  · obtain rfl := hk
    rw [if_pos rfl, htod rfl]
    exact takes_todEffect _ s
  · rw [if_neg hk, if_neg h3, if_neg h1, if_neg h2]
    split
    · exact takes_setVal (sameObjects_keepTokens _ s) k v
    · rw [hd, hz]
      exact takes_setVal (.refl s) k v

/-- A write that its object takes is answered OK. -/
theorem finish_takes {k : Nat} {v : Val} {s : State} {r : Reply} (h : Takes k v s r) (w : Who) (kind : Nat) (f : Frame) :
    Answered (finish w kind f r) w stOk ∧ SameObjects r.st (finish w kind f r) := by
  obtain ⟨hans, -, hsame⟩ := finish_answers (w := w) (kind := kind) (f := f) h.ok
  exact ⟨hans, hsame⟩

theorem writeAct_rw {r : ObjRow} (hr : r.access = .rw) (w : Who) (k : Nat) (v : Val) (s : State) :
    writeAct w r k v s = settingEffect k w v s := by
  simp [writeAct, hr]

/-- A write that passes every test of a setting is its effect. -/
theorem writeBody_rw {f : Frame} {w : Who} {u : State} {r : ObjRow} {k : Nat} {v : Val} (hdf : dmaSetting (f.index * 256 + f.sub) = none)
    (hl : lookup f.index f.sub = some (.live r k)) (hr : r.access = .rw) (hlevel : r.level ≤ w.level)
    (hfit : fits u k r f.payload = .ok v) : writeBody w f u = settingEffect k w v u := by
  rw [writeBody_eq hdf, examineWrite_rw hl hr hlevel hfit, writeAct_rw hr]

/-- Settles O11: a write that passes every test is its setting's effect, and one that fails at its right or its value is refused. -/
theorem writesSetTheirObject : Obligations.WritesSetTheirObject := by
  refine ⟨?takes, ?readOnly, ?range⟩
  case takes =>
    intro f w s u r k v hclear hl hr hlevel hfit hdf hd hz h1 h2 h3 hb
    refine does_write hclear ?_
    rw [writeBody_rw hdf hl hr hlevel hfit]
    have htakes := settingEffect_takes w hd hz h1 h2 h3 hb (v := .num v) (fun _ => rfl)
    obtain ⟨hans, hsame⟩ := finish_takes htakes w kWrite f
    exact ⟨hans, (hsame.1 k).trans htakes.value, htakes.rest.andThen hsame⟩
  case readOnly =>
    intro f w s u r k hclear hdf hl hr
    refine does_write hclear ?_
    rw [writeBody_eq hdf, examineWrite_ro hl hr]
    exact finish_no ..
  case range =>
    intro f w s u r k hclear hdf hl hro hrwv hlevel hfit
    refine does_write hclear ?_
    rw [writeBody_eq hdf, examineWrite_range hl hro hrwv hlevel hfit]
    exact finish_no ..

/-! ### Command objects -/

/-- A request depends on its body at its own frame alone. -/
theorem request_congr {kind : Nat} {f : Frame} {b1 b2 : Who → Frame → State → Reply} (h : ∀ w u, b1 w f u = b2 w f u) (s : State) :
    request kind f s b1 = request kind f s b2 := by
  unfold request
  simp only [h]

/-- Where the object at key k is a command and a write of it has an effect, a WRITE frame to it is a write of k with that effect. -/
theorem write_eq_requestWrite {k : Nat} {f : Frame} {effect : Who → Val → State → Reply} (hi : f.index = k / 256) (hs : f.sub = k % 256)
    (hl : ∃ r, lookup (k / 256) (k % 256) = some (.live r k) ∧ r.access = .cmd) (hd : dmaSetting k = none)
    (he : ∀ w v u, cmdEffect k w v u = effect w v u) (s : State) :
    exec (.write f) s = .next (requestWrite k f s effect) := by
  obtain ⟨r, hl, hr⟩ := hl
  have hf : ({ f with index := k / 256, sub := k % 256, describe := f.describe } : Frame) = f := by rw [← hi, ← hs]
  have hkey : dmaSetting (f.index * 256 + f.sub) = none := by rwa [hi, hs, Nat.div_add_mod']
  have hbody : ∀ w u, writeBody w f u = examineWrite kWrite w f u (fun w _ _ v s => effect w v s) := by
    intro w u
    rw [writeBody_eq hkey]
    simp only [examineWrite, hi, hs, hl, writeAct, hr, he, true_or, if_true]
  refine congrArg Host.Outcome.next ?_
  unfold requestWrite
  rw [hf]
  exact request_congr hbody s

/-- Settles O12: the effect of each of the four command objects, by its key, is the effect of its row. -/
theorem writesOfCommandsAreTheirRows : Obligations.WritesOfCommandsAreTheirRows := by
  intro f s
  exact ⟨fun hi hs => write_eq_requestWrite hi hs ⟨_, rfl, rfl⟩ rfl (fun _ _ _ => rfl) s,
    fun hi hs => write_eq_requestWrite hi hs ⟨_, rfl, rfl⟩ rfl (fun _ _ _ => rfl) s,
    fun hi hs => write_eq_requestWrite hi hs ⟨_, rfl, rfl⟩ rfl (fun _ _ _ => rfl) s,
    fun hi hs => write_eq_requestWrite hi hs ⟨_, rfl, rfl⟩ rfl (fun _ _ _ => rfl) s⟩

end Sys2Proof.Machine
end

section
/-! PROOFS. STAGE (R33, R113): the value goes into the requester's transaction, which is opened where it has none; no object takes it. -/

namespace Sys2Proof.Machine

theorem mem_putStaged (k : Nat) (v : Val) (l : List (Nat × Val)) : (k, v) ∈ putStaged k v l := by
  induction l with
  | nil => exact List.mem_cons_self
  | cons e l ih =>
    unfold putStaged
    split
    · exact List.mem_cons_self
    · exact List.mem_cons_of_mem _ ih

/-- A transaction with one more value staged, or with one in place of an earlier value of the same object. -/
def withStaged (k : Nat) (v : Val) (now : Nat) (x : Tx) : Tx := { x with staged := putStaged k v x.staged, lastActive := now }

/-- A requester's Open transaction takes the value. -/
theorem stageAct_open {w : Who} {k i : Nat} {x : Tx} {s : State} (r : ObjRow) (v : Val) (hheld : heldEntry s k = false)
    (htx : txOf s w.flow [1, 2] = some (i, x)) (hx : x.state = 1) (hroom : stagedCount s < maxStaged) :
    stageAct w r k v s = .ok (setSlot i (some (withStaged k v s.time.now x)) s) := by
  simp [stageAct, hheld, htx, hx, Nat.not_le.2 hroom, withStaged]

/-- With no slot in use the first is the lowest free one. -/
theorem freeVestibule_of_no_slots {s : State} (h : s.tx.slots = []) : freeVestibule s = some 0 := by
  have hzero : s.slot 0 = none := by unfold State.slot; rw [h]; rfl
  have hrange : List.range 64 = 0 :: (List.range 63).map Nat.succ := List.range_succ_eq_map
  unfold freeVestibule
  rw [hrange, List.find?_cons_of_pos (by simp [hzero])]

/-- The local transaction that a flow opens next (R112). -/
def localTx (s : State) (flow : Nat) : Tx :=
  ⟨s.nat K.txNextNumber, 1, flow, 1, [], unbounded, s.time.now, 0, 0, 0, 0, 0, (ownerOf s flow).1, (ownerOf s flow).2, [], none, none⟩

/-- The part with that transaction in slot i: its number is used. -/
def openedLocal (i flow : Nat) (s : State) : State :=
  setSlot i (some (localTx s flow)) (s.set K.txNextNumber (s.nat K.txNextNumber + 1 : Nat))

theorem openTx_local {i : Nat} {s : State} (h : freeVestibule s = some i) (flow : Nat) :
    openTx 1 flow (ownerOf s flow).1 (ownerOf s flow).2 0 s = some (i, openedLocal i flow s) := by
  unfold openTx
  rw [h]
  rfl

/-- Without a transaction, the requester's first value opens a local one. -/
theorem stageAct_new {w : Who} {k i : Nat} {s : State} (r : ObjRow) (v : Val) (hheld : heldEntry s k = false)
    (htx : txOf s w.flow [1, 2] = none) (hroom : stagedCount s < maxStaged) (hfree : freeVestibule s = some i) :
    stageAct w r k v s = .ok (setSlot i (some (withStaged k v s.time.now (localTx s w.flow))) (openedLocal i w.flow s)) := by
  have hslot : (openedLocal i w.flow s).slot i = some (localTx s w.flow) := (State.slot_setSlot ..).trans (if_pos rfl)
  simp only [stageAct, hheld, htx, Nat.not_le.2 hroom, openTx_local hfree, hslot]
  rfl

theorem sameObjects_setSlot (i : Nat) (x : Option Tx) (s : State) : SameObjects s (setSlot i x s) := .of_tables rfl rfl

theorem slot_congr {s t : State} (h : t.tx = s.tx) (i : Nat) : t.slot i = s.slot i := by unfold State.slot; rw [h]

@[simp] theorem irq_tx (v : Nat) (s : State) : (irq v s).tx = s.tx := by unfold irq; split <;> rfl

@[simp] theorem ringFrame_tx (o : Out) (s : State) : (ringFrame o s).tx = s.tx := by
  unfold ringFrame putResponse
  split <;> simp

/-- An answer leaves the transactions alone. -/
@[simp] theorem answer_tx (w : Who) (kind : Nat) (f : Frame) (status : Nat) (b : List Byte) (s : State) :
    (answer w kind f status b s).tx = s.tx :=
  respond_fixes State.tx ringFrame_tx (fun _ _ => rfl) ..

/-- What a slot holds once a transaction has been put into it and the request answered. -/
theorem slot_finish_setSlot (w : Who) (kind : Nat) (f : Frame) (i : Nat) (x : Tx) (s : State) :
    (finish w kind f (.ok (setSlot i (some x) s))).slot i = some x := by
  rw [finish_ok, slot_congr (answer_tx ..), State.slot_setSlot, if_pos rfl]

theorem stageBody_eq {f : Frame} {w : Who} {u : State} {r : ObjRow} {k : Nat} {v : Val} (hl : lookup f.index f.sub = some (.live r k))
    (hr : r.access = .rwv) (hlevel : r.level ≤ w.level) (hfit : fits u k r f.payload = .ok v) (hfree : stagedElsewhere u w.flow k = false) :
    stageBody w f u = stageAct w r k v u := examineStage_rwv hl hr hlevel hfit hfree

/-- Settles O13: of all a STAGE writes, the transaction alone holds the value, and of the objects only the next number counts on. -/
theorem stagesKeepTheirValue : Obligations.StagesKeepTheirValue := by
  refine ⟨?inOpen, ?inNew⟩
  case inOpen =>
    intro f w s u r k i x v hclear hl hr hlevel hfit hfree hheld htx hx hroom
    refine does_stage hclear ?_
    rw [stageBody_eq hl hr hlevel hfit hfree, stageAct_open r v hheld htx hx hroom]
    obtain ⟨hans, -, hsame⟩ := finish_answers (w := w) (kind := kStage) (f := f)
      (r := .ok (setSlot i (some (withStaged k v u.time.now x)) u)) rfl
    exact ⟨hans, (sameObjects_setSlot ..).trans hsame, _, slot_finish_setSlot .., mem_putStaged k v x.staged, hx⟩
  case inNew =>
    intro f w s u r k v hclear hl hr hlevel hfit hfree hheld htx hroom hslots
    refine does_stage hclear ?_
    rw [stageBody_eq hl hr hlevel hfit hfree, stageAct_new r v hheld htx hroom (freeVestibule_of_no_slots hslots)]
    obtain ⟨hans, -, hsame⟩ := finish_answers (w := w) (kind := kStage) (f := f)
      (r := .ok (setSlot 0 (some (withStaged k v u.time.now (localTx u w.flow))) (openedLocal 0 w.flow u))) rfl
    have hopened : SameObjects (u.set K.txNextNumber (u.nat K.txNextNumber + 1 : Nat)) _ :=
      ((sameObjects_setSlot ..).trans (sameObjects_setSlot ..)).trans hsame
    refine ⟨hans, ((SameBut.refl _ u).set List.mem_cons_self).andThen hopened, ?_, _, slot_finish_setSlot .., rfl, rfl, rfl, rfl⟩
    rw [hopened.1, State.num_set, if_pos rfl]

end Sys2Proof.Machine
end

section
/-! PROOFS. SEGMENT (R39, R41): a segment that is due joins the octets in progress, and the last one hands the whole value to the body of its
request. -/

namespace Sys2Proof.Machine

/-- The requester that a frame of master m stands for. -/
def masterWho (s : State) (m : Nat) : Who := ⟨m, m, s.levelOf m, false⟩

/-- The part once master m's next segment has been taken: the value in progress is taken up, and the next frame is due. -/
def segmentTaken (g : SegFrame) (m : Nat) (s : State) : State :=
  markSeq (masterWho s m) g.seq (s.setMaster m { s.master m with seg := none })

theorem sameObjects_segmentTaken (g : SegFrame) (m : Nat) (s : State) : SameObjects s (segmentTaken g m s) :=
  SameObjects.trans (.of_tables rfl rfl) (sameObjects_markSeq ..)

section
variable {g : SegFrame} {m kind : Nat} {h : Frame} {got : List Byte} {s : State}

/-- A segment that is due, of a value that is no repeat. -/
theorem takeSegment_due (ho : g.org = .master m) (hs : s.serving = true) (hm : s.num (K.mrFrozen m) = 0)
    (hseg : (s.master m).seg = some (kind, h, got, g.seq)) (hlast : (s.master m).lastReq = none) (hr : g.resv = false)
    (hlen : g.payload.length = segmentDue (h.length - got.length)) :
    takeSegment g s = if (got ++ g.payload).length < h.length
      then (segmentTaken g m s).setMaster m { (segmentTaken g m s).master m with seg := some (kind, h, got ++ g.payload, (g.seq + 1) % 256) }
      else finish (masterWho s m) kind { h with payload := got ++ g.payload }
        (bodyOf kind (masterWho s m) { h with payload := got ++ g.payload } (segmentTaken g m s)) := by
  simp [takeSegment, ho, hs, hm, hseg, hr, hlen, hlast, forThisPart, whoSends, beginsRepeat, masterWho, segmentTaken]

theorem takeSegment_more (ho : g.org = .master m) (hs : s.serving = true) (hm : s.num (K.mrFrozen m) = 0)
    (hseg : (s.master m).seg = some (kind, h, got, g.seq)) (hlast : (s.master m).lastReq = none) (hr : g.resv = false)
    (hlen : g.payload.length = segmentDue (h.length - got.length)) (hmore : got.length + g.payload.length < h.length) :
    takeSegment g s =
      (segmentTaken g m s).setMaster m { (segmentTaken g m s).master m with seg := some (kind, h, got ++ g.payload, (g.seq + 1) % 256) } := by
  rw [takeSegment_due ho hs hm hseg hlast hr hlen, if_pos (by rwa [List.length_append])]

theorem takeSegment_last (ho : g.org = .master m) (hs : s.serving = true) (hm : s.num (K.mrFrozen m) = 0)
    (hseg : (s.master m).seg = some (kind, h, got, g.seq)) (hlast : (s.master m).lastReq = none) (hr : g.resv = false)
    (hlen : g.payload.length = segmentDue (h.length - got.length)) (hall : got.length + g.payload.length = h.length) :
    takeSegment g s = finish (masterWho s m) kind { h with payload := got ++ g.payload }
      (bodyOf kind (masterWho s m) { h with payload := got ++ g.payload } (segmentTaken g m s)) := by
  rw [takeSegment_due ho hs hm hseg hlast hr hlen, if_neg (by rw [List.length_append]; omega)]

/-- A segment of no value in progress is MALFORMED. -/
theorem takeSegment_stray (ho : g.org = .master m) (hs : s.serving = true) (hm : s.num (K.mrFrozen m) = 0) (hseg : (s.master m).seg = none) :
    takeSegment g s = violate (masterWho s m) 6 ⟨g.org, g.seq, false, false, false, false, 0, 0, 0, []⟩ stMalformed s := by
  simp [takeSegment, ho, hs, hm, hseg, forThisPart, whoSends, masterWho]

end

/-- Settles O16: a due segment is one of the two outcomes of `takeSegment_due`, and the completed write is a write of the whole value. -/
theorem segmentsJoinTheirValue : Obligations.SegmentsJoinTheirValue := by
  refine ⟨?more, ?last, ?stray⟩
  case more =>
    intro g m kind h got s ho hs hm hseg hlast hr hlen hmore
    refine ⟨_, congrArg Host.Outcome.next (takeSegment_more ho hs hm hseg hlast hr hlen hmore), ?_, ?_⟩
    · rw [State.master_setMaster, if_pos rfl]
    · exact (sameObjects_segmentTaken g m s).trans (.of_tables rfl rfl)
  case last =>
    intro g m h got s r k v ho _ hs hm hseg hlast hr hlen hall hl hrw hlevel hdf hd hz h1 h2 htod h3 hb hfit
    refine ⟨_, congrArg Host.Outcome.next (takeSegment_last ho hs hm hseg hlast hr hlen hall), ?_⟩
    have hbody : bodyOf kWrite (masterWho s m) { h with payload := got ++ g.payload } (segmentTaken g m s) =
        settingEffect k (masterWho s m) (.oct v) (segmentTaken g m s) :=
      writeBody_rw (f := { h with payload := got ++ g.payload }) hdf hl hrw hlevel (hfit _ rfl rfl)
    have hhold : banisterHolds (segmentTaken g m s) k = false := ((sameObjects_segmentTaken g m s).banisterHolds k).trans hb
    have htakes := settingEffect_takes (masterWho s m) hd hz h1 h2 h3 hhold (v := .oct v) (fun hk => absurd hk htod)
    rw [hbody]
    obtain ⟨hans, hsame⟩ := finish_takes htakes (masterWho s m) kWrite { h with payload := got ++ g.payload }
    exact ⟨hans, (hsame.2 k).trans htakes.value⟩
  case stray =>
    intro g m s ho hm0 hs hm hseg
    refine ⟨_, congrArg Host.Outcome.next (takeSegment_stray ho hs hm hseg), ?_⟩
    have hfrozen := violate_frozenWith (w := masterWho s m) rfl hm0 6 ⟨g.org, g.seq, false, false, false, false, 0, 0, 0, []⟩ stMalformed s
    exact ⟨hfrozen.frozen, hfrozen.observer⟩

end Sys2Proof.Machine
end

section
/-! PROOFS. Unfreezing and interface resets (R48, R52; that unfreezing a master that is not frozen changes nothing is log entry 12). -/

namespace Sys2Proof.Machine

/-- Master m is not frozen and stands at Observer. -/
def AtObserver (m : Nat) (t : State) : Prop := t.num (K.mrFrozen m) = 0 ∧ t.num (K.mrLevel m) = 0

theorem AtObserver.congr {s t : State} {m : Nat} (h : AtObserver m s) (hst : SameObjects s t) : AtObserver m t :=
  ⟨(hst.1 _).trans h.1, (hst.1 _).trans h.2⟩

theorem atObserver_unfreeze (m : Nat) (s : State) : AtObserver m (unfreeze m s) := by
  unfold unfreeze
  refine ⟨?_, ?_⟩
  · rw [State.num_set, if_pos rfl]
  · rw [State.num_set, if_neg (key_ne (by decide)), State.num_set, if_pos rfl]

theorem sameBut_unfreeze (m : Nat) (s : State) : SameBut [K.mrFrozen m, K.mrLevel m] s (unfreeze m s) := by
  unfold unfreeze
  refine SameBut.set (SameBut.set ?_ (by simp)) (by simp)
  exact SameObjects.sameBut (.of_tables rfl rfl) _

/-- The next request of an unfrozen master may carry any seq (R40). -/
theorem unfreeze_lastSeq (m : Nat) (s : State) : ((unfreeze m s).master m).lastSeq = none := by simp [unfreeze]

/-! ### Interface resets -/

theorem sameObjects_sendDown (code : Nat) (nums : List Int) (s : State) : SameObjects s (sendDown code nums s) := by
  unfold sendDown
  refine .forL (fun l t => ?_) _ s
  exact .of_tables rfl rfl

theorem sameBut_abortSlot (i : Nat) (x : Tx) (s : State) : SameBut [K.txAborts] s (abortSlot i x s) := by
  unfold abortSlot
  extract_lets s1
  have h1 : SameObjects s s1 := .ite (.refl s) (.ite (sameObjects_sendDown ..) (.of_tables rfl rfl))
  exact ((h1.sameBut _).inc List.mem_cons_self).andThen (sameObjects_setSlot ..)

theorem sameBut_abortOpen (flow : Nat) (s : State) : SameBut [K.txAborts] s (abortOpen flow s) := by
  unfold abortOpen
  split
  · exact sameBut_abortSlot ..
  · exact .refl _ s

theorem sameBut_resetMaster (m : Nat) (s : State) : SameBut [K.mrFrozen m, K.mrLevel m, K.txAborts] s (resetMaster m s) :=
  ((sameBut_abortOpen m s).mono (by simp)).trans ((sameBut_unfreeze m _).mono (by simp))

/-- The level and the freeze of one master are none of what the reset of another writes. -/
theorem masterKey_notMem {j m x : Nat} (hj : j ≠ m) (hx : x = 2 ∨ x = 3) :
    (0x1100 + m) * 256 + x ∉ [K.mrFrozen j, K.mrLevel j, K.txAborts] := by
  unfold K.mrFrozen K.mrLevel K.txAborts
  simp only [List.mem_cons, List.not_mem_nil, or_false, not_or]
  omega

/-- The interface reset of a master sets it free, and freezes no other. -/
theorem atObserver_resetMaster {j m : Nat} {s : State} (h : j = m ∨ AtObserver m s) : AtObserver m (resetMaster j s) := by
  by_cases hj : j = m
  · obtain rfl := hj
    exact atObserver_unfreeze ..
  · obtain ⟨hf, hl⟩ := h.resolve_left hj
    have hsame := (sameBut_resetMaster j s).1
    unfold AtObserver
    rw [hsame _ (masterKey_notMem hj (.inr rfl)), hsame _ (masterKey_notMem hj (.inl rfl))]
    exact ⟨hf, hl⟩

theorem atObserver_resets (l : List Nat) {m : Nat} {s : State} (h : m ∈ l ∨ AtObserver m s) : AtObserver m (forL l resetMaster s) := by
  induction l generalizing s with
  | nil => exact h.resolve_left (by simp)
  | cons j l ih =>
    refine ih ?_
    rcases h with hm | hs
    · rcases List.mem_cons.1 hm with rfl | hm
      · exact .inr (atObserver_resetMaster (.inl rfl))
      · exact .inl hm
    · exact .inr (atObserver_resetMaster (.inr hs))

/-- The reset of a controller sets every master of it free. -/
theorem atObserver_resetCan (bus : Nat) (s : State) {i : Nat} (hi : i < 32) : AtObserver (canBase bus + i) (resetCan bus s) :=
  atObserver_resets _ (.inl (List.mem_map_of_mem (List.mem_range.2 hi)))

/-- The reset of a controller by a write is answered OK. -/
theorem finish_canReset (bus : Nat) (w : Who) (v : Val) (f : Frame) (u : State) :
    Answered (finish w kWrite f (canResetEffect bus w v u)) w stOk ∧
      ∀ i, i < 32 → AtObserver (canBase bus + i) (finish w kWrite f (canResetEffect bus w v u)) := by
  obtain ⟨hans, -, hsame⟩ := finish_answers (w := w) (kind := kWrite) (f := f) (r := canResetEffect bus w v u) rfl
  exact ⟨hans, fun i hi => (atObserver_resetCan bus u hi).congr hsame⟩

/-! ### The statement -/

/-- Settles O17: an unfreezing that its writer's level allows is `unfreeze` and an answer, one that it does not is a violation, and each interface
reset is a walk of `resetMaster` over its masters. -/
theorem unfreezingReturnsToObserver : Obligations.UnfreezingReturnsToObserver := by
  refine ⟨?frozen, ?notFrozen, ?violation, ?canA, ?canB, ?busOff, ?breakLong, ?breakShort⟩
  case frozen =>
    intro m f w v s u hreach hlevel hm
    refine ⟨_, congrArg Host.Outcome.next (requestWrite_reaches hreach (unfreezeEffect m)), ?_⟩
    have heffect : unfreezeEffect m w v u = .ok (unfreeze m u) := by simp [unfreezeEffect, hlevel, hm]
    rw [heffect, finish_ok]
    have hsame := sameObjects_answer w kWrite { f with index := K.mrUnfreeze m / 256, sub := K.mrUnfreeze m % 256 } stOk [] (unfreeze m u)
    obtain ⟨hf, hl⟩ := (atObserver_unfreeze m u).congr hsame
    refine ⟨answered_answer .., hf, hl, fun hne => ?_, (sameBut_unfreeze m u).andThen hsame⟩
    rw [answer_master, if_neg hne, unfreeze_lastSeq]
  case notFrozen =>
    intro m f w v s u hreach hlevel hm
    refine ⟨_, congrArg Host.Outcome.next (requestWrite_reaches hreach (unfreezeEffect m)), ?_⟩
    have heffect : unfreezeEffect m w v u = .ok u := by simp [unfreezeEffect, hlevel, hm]
    rw [heffect, finish_ok]
    exact ⟨answered_answer .., sameObjects_answer ..⟩
  case violation =>
    intro m f w v s u hreach hlevel hw hc
    refine ⟨_, congrArg Host.Outcome.next (requestWrite_reaches hreach (unfreezeEffect m)), ?_⟩
    have heffect : unfreezeEffect m w v u = .violation w u stLevel := by simp [unfreezeEffect, Nat.not_lt.2 hlevel]
    rw [heffect]
    obtain ⟨hans, hfrozen⟩ := finish_violation hw hc kWrite { f with index := K.mrUnfreeze m / 256, sub := K.mrUnfreeze m % 256 } u stLevel
    exact ⟨hans, hfrozen.frozen, hfrozen.observer⟩
  case canA =>
    intro f w v s u hreach
    exact ⟨_, congrArg Host.Outcome.next (requestWrite_reaches hreach (canResetEffect 0)), finish_canReset 0 ..⟩
  case canB =>
    intro f w v s u hreach
    exact ⟨_, congrArg Host.Outcome.next (requestWrite_reaches hreach (canResetEffect 1)), finish_canReset 1 ..⟩
  case busOff =>
    intro bus s
    exact ⟨_, rfl, fun i hi => atObserver_resetCan bus s hi⟩
  case breakLong =>
    intro ms s hms
    obtain ⟨hf, hl⟩ := atObserver_resetMaster (s := s) (m := 2) (.inl rfl)
    exact ⟨_, congrArg Host.Outcome.next (if_pos hms), hf, hl, sameBut_resetMaster 2 s⟩
  case breakShort =>
    intro ms s hms
    exact ⟨_, congrArg Host.Outcome.next (if_neg (Nat.not_le.2 hms)), rfl⟩

end Sys2Proof.Machine
end

section
/-! PROOFS. CAN slots and settings, relocking, and the refill of the buckets (R45, R48, R53). -/

namespace Sys2Proof.Machine

/-! ### The masters that the part holds a record of -/

theorem Tab.find?_eq_none_of_notMem {α : Type} {t : Tab α} {k : Nat} (h : k ∉ t.map Prod.fst) : Tab.find? t k = none := by
  induction t with
  | nil => rfl
  | cons e t ih =>
    obtain ⟨hne, ht⟩ := not_or.1 (mt List.mem_cons.2 h)
    exact (if_neg (Ne.symm hne)).trans (ih ht)

/-- A master without a record is one that nothing has been heard of. -/
theorem master_of_notMem {s : State} {m : Nat} (h : m ∉ s.masters.map Prod.fst) : s.master m = Master.fresh := by
  unfold State.master Tab.get
  rw [Tab.find?_eq_none_of_notMem h]

/-! ### Refilling -/

/-- Bucket m takes what the refill of 1 ms leaves it, reckoned from state s. -/
def refillOne (s : State) (m : Nat) (t : State) : State := t.setMaster m { t.master m with tokens := refilled s m }

theorem sameObjects_refills (s : State) (l : List Nat) (t : State) : SameObjects t (forL l (refillOne s) t) := by
  refine .forL (fun m t => ?_) l t
  exact .of_tables rfl rfl

theorem tokens_refills (s : State) (l : List Nat) (t : State) (m : Nat) :
    ((forL l (refillOne s) t).master m).tokens = if m ∈ l then refilled s m else (t.master m).tokens := by
  induction l generalizing t with
  | nil => simp [forL]
  | cons j l ih =>
    refine (ih (refillOne s j t)).trans ?_
    by_cases hl : m ∈ l
    · simp [hl]
    · by_cases hj : m = j
      · simp [refillOne, hj]
      · simp [refillOne, hl, hj]

theorem refilled_of_running {s : State} (h : s.holdOsc = false) (m : Nat) :
    refilled s m = if bucketMax s m ≤ tokensOf s m + s.nat (K.mrAllowance m) * 8 then none
      else some (tokensOf s m + s.nat (K.mrAllowance m) * 8) := by
  simp [refilled, h]

/-- What a bucket holds after a refill: an eighth of a token per token of allowance more, at most its burst; one without a record is full. -/
theorem tokensOf_refilled {s : State} (h : s.holdOsc = false) (m : Nat) :
    tokensOf (forL (s.masters.map Prod.fst).dedup (refillOne s) s) m = min (bucketMax s m) (tokensOf s m + s.nat (K.mrAllowance m) * 8) := by
  have hmax := (sameObjects_refills s (s.masters.map Prod.fst).dedup s).bucketMax m
  have htok := tokens_refills s (s.masters.map Prod.fst).dedup s m
  by_cases hm : m ∈ s.masters.map Prod.fst
  · rw [if_pos (List.mem_dedup.2 hm), refilled_of_running h] at htok
    conv_lhs => unfold tokensOf
    rw [htok, hmax]
    split
    · next hfull =>
      split at hfull
      · omega
      · exact absurd hfull (by simp)
    · next x hx =>
      split at hx
      · exact absurd hx (by simp)
      · obtain rfl := Option.some.inj hx
        exact Nat.min_comm ..
  · rw [if_neg (mt List.mem_dedup.1 hm), master_of_notMem hm] at htok
    have hfull : tokensOf s m = bucketMax s m := by unfold tokensOf; rw [master_of_notMem hm]; rfl
    rw [hfull]
    unfold tokensOf
    rw [htok, hmax]
    exact (Nat.min_eq_left (Nat.le_add_right _ _)).symm

/-- Settles O18: each event has its effect where its condition holds; the refill is `refillOne` over the masters with a record. -/
theorem slotsSettingsAndLevels : Obligations.SlotsSettingsAndLevels := by
  refine ⟨?release, ?apply, ?relock, ?wait, ?refill⟩
  case release =>
    intro m s hidle
    refine ⟨_, congrArg Host.Outcome.next (if_pos hidle), ?_, ?_, ?_⟩
    · rw [State.master_set, State.master_setMaster, if_pos rfl]
      rfl
    · rw [State.num_set, if_pos rfl]
    · exact SameBut.set (SameObjects.sameBut (.of_tables rfl rfl) _) List.mem_cons_self
  case apply =>
    intro s
    exact ⟨_, rfl, rfl, rfl, .of_tables rfl rfl⟩
  case relock =>
    intro m s hm hlevel hsilent
    refine ⟨_, congrArg Host.Outcome.next (if_pos ⟨hm, hlevel, hsilent⟩), ?_, SameBut.set (.refl _ s) List.mem_cons_self⟩
    rw [State.num_set, if_pos rfl]
  case wait =>
    intro m s hheard
    exact ⟨_, congrArg Host.Outcome.next (if_neg (fun hc => absurd hc.2.2 (Nat.not_le.2 hheard))), rfl⟩
  case refill =>
    intro s hosc
    exact ⟨_, rfl, sameObjects_refills s _ s, tokensOf_refilled hosc⟩

end Sys2Proof.Machine
end

section
/-! PROOFS. The Stairway tunnel (R46, R77): frames for other parts, and the LEVEL response (the model's reading of them: log entries 115 and
116). -/

namespace Sys2Proof.Machine

/-- A frame that is to go on goes on with one hop less, and changes no object. -/
theorem forward_goesOn {link : Nat} {h : TunHdr} {s : State} (b : List Byte) (hd : duplicated s h.dest = false) (hh : h.hops ≠ 1) :
    forward link h b s = s.emit (.tunnel (routeOf s h.dest) { h with hops := h.hops - 1 } b) := by
  simp [forward, hd, hh]

/-- The part once a frame for another part has taken the token of its link's neighbour, where it counts. -/
def chargedFrame (link : Nat) (b : List Byte) (s : State) : State := if counted b then takeToken (3 + link) s else s

theorem sameObjects_chargedFrame (link : Nat) (b : List Byte) (s : State) : SameObjects s (chargedFrame link b s) :=
  .ite (sameObjects_takeToken ..) (.refl s)

/-- A token taken is no matter of the links. -/
theorem chargedFrame_links (link : Nat) (b : List Byte) (s : State) :
    (chargedFrame link b s).links = s.links ∧ (chargedFrame link b s).dups = s.dups := by
  unfold chargedFrame takeToken
  split
  · split <;> exact ⟨rfl, rfl⟩
  · exact ⟨rfl, rfl⟩

theorem routeOf_congr {s t : State} (h : t.links = s.links) (dest : Nat) : routeOf t dest = routeOf s dest := by
  unfold routeOf State.link
  rw [h]

theorem duplicated_congr {s t : State} (h : t.dups = s.dups) (a : Nat) : duplicated t a = duplicated s a := by
  unfold duplicated
  rw [h]

/-- A frame for another part that passes the tests of its neighbour is forwarded. -/
theorem execTunnelForward_onward {link : Nat} {h : TunHdr} {b : List Byte} {s : State} (hm : s.num (K.mrFrozen (3 + link)) = 0)
    (hgood : headerBad h = false) (htoken : counted b = false ∨ hasToken s (3 + link) = true) (hdest : h.dest ≠ s.nat K.stwAddr) :
    execTunnelForward link ⟨h, b⟩ s = .next (forward link h b (chargedFrame link b s)) := by
  rcases htoken with hc | htok
  · simp [execTunnelForward, hm, hgood, hdest, hc, chargedFrame]
  · cases hc : counted b <;> simp [execTunnelForward, hm, hgood, hdest, hc, htok, chargedFrame]

theorem execTunnelForward_bad {link : Nat} {h : TunHdr} {s : State} (hm : s.num (K.mrFrozen (3 + link)) = 0) (hbad : headerBad h = true)
    (b : List Byte) : execTunnelForward link ⟨h, b⟩ s = .next (freeze (3 + link) stMalformed s) := by
  simp [execTunnelForward, hm, hbad]

/-- A response from another part to a master of this one, with a violation to charge: the master is frozen, and handed the response. -/
theorem tunnelAnswer_level {om : Nat} (h0 : om ≠ 0) (h72 : om < 72) (kind seq index sub : Nat) (s : State) :
    tunnelAnswer om kind seq index sub stLevel 0 [] s = respond ⟨om, om, 0, false⟩ kind
      ⟨.master om, seq, false, false, false, false, index, sub, 0, []⟩ stLevel [] (freeze om stLevel s) := by
  have hmaster : ¬ (om = 0 ∨ 72 ≤ om) := by omega
  simp [tunnelAnswer, hmaster, stLevel, stOutsideTx, stRate]

/-- The response freezes its master, whatever its route. -/
theorem frozenWith_tunnelAnswer {om : Nat} (h0 : om ≠ 0) (h72 : om < 72) (kind seq index sub : Nat) (s : State) :
    FrozenWith (tunnelAnswer om kind seq index sub stLevel 0 [] s) om stLevel (s.levelOf om) := by
  rw [tunnelAnswer_level h0 h72]
  exact (freeze_frozenWith h0 stLevel s).congr (sameObjects_respond ..)

/-- Settles O20: the tests of a tunnelled frame in their order, and the response of another part as `tunnelAnswer_level`. -/
theorem tunnelsForwardAndFreeze : Obligations.TunnelsForwardAndFreeze := by
  refine ⟨?onward, ?bad, ?dropped, ?level, ?levelHere⟩
  case onward =>
    intro link h b s hm hgood htoken hdest hd hh
    obtain ⟨hlinks, hdups⟩ := chargedFrame_links link b s
    refine ⟨_, execTunnelForward_onward hm hgood htoken hdest, ?_⟩
    rw [forward_goesOn b ((duplicated_congr hdups _).trans hd) hh, routeOf_congr hlinks]
    exact ⟨List.mem_cons_self, (sameObjects_chargedFrame link b s).trans (.of_tables rfl rfl)⟩
  case bad =>
    intro link h b s hm hbad
    refine ⟨_, execTunnelForward_bad hm hbad b, ?_⟩
    have hfrozen := freeze_frozenWith (m := 3 + link) (by omega) stMalformed s
    exact ⟨hfrozen.frozen, hfrozen.observer⟩
  case dropped =>
    intro link h b s hm
    exact ⟨s, congrArg Host.Outcome.next (if_pos hm), rfl⟩
  case level =>
    intro h kind seq index sub s hdest h3 h72
    have h0 : h.om ≠ 0 := by omega
    have hfrozen := frozenWith_tunnelAnswer h0 h72 kind seq index sub s
    refine ⟨_, congrArg Host.Outcome.next (if_pos hdest), hfrozen.frozen, hfrozen.observer, ?_⟩
    rw [tunnelAnswer_level h0 h72]
    exact mem_respond_empty (w := ⟨h.om, h.om, 0, false⟩) h3 kind ⟨.master h.om, seq, false, false, false, false, index, sub, 0, []⟩ stLevel _
  case levelHere =>
    intro h kind seq index sub s hdest hom
    have hfrozen := frozenWith_tunnelAnswer (om := h.om) (by omega) (by omega) kind seq index sub s
    exact ⟨_, congrArg Host.Outcome.next (if_pos hdest), hfrozen.frozen, hfrozen.observer⟩

end Sys2Proof.Machine
end

section
/-! PROOFS. The console's lines (R47): what a line that reads a number comes to, from its characters to its answer. A continued value that an
overrun discards is log entry 15. -/

namespace Sys2Proof.Machine

/-! ### Lines that are refused, and lines that are requests -/

theorem sameObjects_syntaxError (s : State) : SameObjects s (syntaxError s) := .of_tables rfl rfl

theorem printed_syntaxError (s : State) : Printed (syntaxError s) "err SYNTAX" [] [] := List.mem_cons_self

/-- A line that is too long does not parse, echoed or not. -/
theorem takeLine_tooLong {l : Chars} (h : 255 < l.length) (s : State) : ∃ t, takeLine l s = syntaxError t ∧ SameObjects s t :=
  ⟨_, if_pos h, .ite (.of_tables rfl rfl) (.of_tables rfl rfl)⟩

/-- The console as a request finds it: no watch runs, and no value is continued. -/
def quietConsole (s : State) : State := { s with con := { s.con with watch := none, cont := none } }

theorem consoleReady_serving {s : State} (h : consoleReady s = true) : s.serving = true := by
  simp only [consoleReady, Bool.and_eq_true] at h
  exact h.1.1.1

theorem consoleReady_cont {s : State} (h : consoleReady s = true) : s.con.cont = none := by
  simp only [consoleReady, Bool.and_eq_true, Option.isNone_iff_eq_none] at h
  exact h.1.1.2

/-- A console that is ready stays so without its watch. -/
theorem consoleReady_quiet {s : State} (h : consoleReady s = true) : consoleReady (quietConsole s) = true := by
  have hcont : (quietConsole s).con.cont = s.con.cont := (consoleReady_cont h).symm
  unfold consoleReady at h ⊢
  rw [hcont]
  exact h

/-- A whole line that spells a request is that request. -/
theorem takeLine_whole {l : Chars} {body : LineBody} {s : State} (hready : consoleReady s = true) (hlen : l.length ≤ 255)
    (hecho : s.flag K.conEcho = false) (hsome : trimEnd l ≠ []) (hwhole : unfinished l = none) (hbody : lineBody l none = some body) :
    takeLine l s = conRequest (quietConsole s) body := by
  simp [takeLine, Nat.not_lt.2 hlen, hecho, hsome, hwhole, runLine, hbody, consoleReady_cont hready, quietConsole]

/-- The watch that a line ends is no part of the state its command runs in. -/
theorem atConsole_quiet (s : State) : atConsole (quietConsole s) = atConsole s := rfl

theorem execConsoleLine_serving {s : State} (h : s.serving = true) (l : Chars) : exec (.consoleLine l) s = .next (takeLine l s) :=
  congrArg Host.Outcome.next (if_pos h)

/-! ### The line rd -/

theorem rd_append (l : Chars) : "rd ".toList ++ l = 'r' :: 'd' :: ' ' :: l := rfl

theorem dropSpaces_of_noSpace {l : Chars} (h : ' ' ∉ l) : l.dropWhile (fun c => c == ' ') = l := by
  cases l with
  | nil => rfl
  | cons c l => exact List.dropWhile_cons_of_neg (by simpa using ne_of_mem_of_not_mem List.mem_cons_self h)

theorem wordOf_of_noSpace {l : Chars} (h : ' ' ∉ l) : wordOf l = (l, []) := by
  have hne : ∀ c ∈ l, (c != ' ') = true := fun c hc => by simpa using ne_of_mem_of_not_mem hc h
  unfold wordOf
  dsimp only
  rw [dropSpaces_of_noSpace h, List.takeWhile_eq_self_iff.2 hne, List.dropWhile_eq_nil_iff.2 hne]
  rfl

/-- The first word of a line rd is rd, and the rest is its object. -/
theorem wordOf_rd {l : Chars} (h : ' ' ∉ l) : wordOf ("rd ".toList ++ l) = ("rd".toList, l) := by
  rw [rd_append]
  simp [wordOf, dropSpaces_of_noSpace h]

/-- The line rd of an object is a READ of its value in effect. -/
theorem lineBody_rd {l : Chars} {i j : Nat} (hobj : parseObj l = .obj i j) (h : ' ' ∉ l) :
    lineBody ("rd ".toList ++ l) none = some (readLine (lineFrame i j false false [])) := by
  have hdict : dictLine ("rd ".toList ++ l) none =
      some ⟨kRead, some (lineFrame i j false false []), readLine (lineFrame i j false false [])⟩ := by
    unfold dictLine
    rw [wordOf_rd h]
    dsimp only
    rw [wordOf_of_noSpace h, if_pos ⟨rfl, rfl⟩]
    simp [objLine, hobj, readForm]
  rw [rd_append] at hdict ⊢
  simp [lineBody, hdict]

theorem trimEnd_rd (l : Chars) : trimEnd ("rd ".toList ++ l) ≠ [] := by
  intro h
  have hall := List.dropWhile_eq_nil_iff.1 (List.reverse_eq_nil_iff.1 h) 'r' (by simp)
  exact absurd hall (by decide)

/-- A line that ends with no backslash is whole. -/
theorem unfinished_rd {l : Chars} (hne : l ≠ []) (h : l.getLast? ≠ some '\\') : unfinished ("rd ".toList ++ l) = none := by
  obtain ⟨m, c, rfl⟩ : ∃ m c, l = m ++ [c] := ⟨_, _, (List.dropLast_append_getLast hne).symm⟩
  have hc : c ≠ '\\' := by simpa using h
  unfold unfinished
  rw [← List.append_assoc, List.reverse_concat]
  split
  · next heq => exact absurd (List.cons.inj heq).1 hc
  · rfl

theorem parseObj_nil : parseObj [] = .bad := rfl

/-- A READ by the console of a number that is not measured finds its value in effect. -/
theorem readLine_num {i j k : Nat} {r : ObjRow} {w : Who} {u : State} (hl : lookup i j = some (.live r k)) (hrow : rowFor i j = some r)
    (hr : r.access ≠ .wo) (h1 : k ≠ K.recRecord) (h2 : k ≠ K.recPermRecord) (ht : r.ty.octets = false) (hm : measuredLive u k = false) :
    readLine (lineFrame i j false false []) w u = ⟨u, some stOk, encodeVal r.ty (.num (u.readNum w.flow k))⟩ := by
  have hread : readBody w (lineFrame i j false false []) u = ⟨u, some stOk, encodeVal r.ty (.num (u.readNum w.flow k))⟩ :=
    (valueBody_live (f := lineFrame i j false false []) hl hr w u).trans (readLive_num w.flow h1 h2 ht hm)
  have hblob : r.ty ≠ .blob := by
    intro hb
    simp [hb, Ty.octets] at ht
  unfold readLine
  rw [hread]
  simp [lineFrame, hrow, hblob]

/-- Settles O19: a line is refused by its length or is the request it spells, and the line rd is the READ of its object. -/
theorem consoleLinesAreTaken : Obligations.ConsoleLinesAreTaken := by
  refine ⟨?tooLong, ?whole, ?rd, ?overrun⟩
  case tooLong =>
    intro l s hs hlen
    obtain ⟨t, htake, hsame⟩ := takeLine_tooLong hlen s
    refine ⟨takeLine l s, execConsoleLine_serving hs l, ?_⟩
    rw [htake]
    exact ⟨printed_syntaxError t, hsame.trans (sameObjects_syntaxError t)⟩
  case whole =>
    intro l body s hready hlen hecho hsome hwhole hbody
    exact ⟨_, execConsoleLine_serving (consoleReady_serving hready) l, takeLine_whole hready hlen hecho hsome hwhole hbody⟩
  case rd =>
    intro l i j k r s hready hlen hecho hobj hspace hlast hl hrow hr h1 h2 ht hm
    have hne : l ≠ [] := by
      rintro rfl
      rw [parseObj_nil] at hobj
      exact Named.noConfusion hobj
    have hlength : ("rd ".toList ++ l).length ≤ 255 := by
      rw [rd_append]
      exact Nat.add_le_add_right hlen 3
    refine ⟨_, execConsoleLine_serving (consoleReady_serving hready) _, ?_⟩
    rw [takeLine_whole hready hlength hecho (trimEnd_rd l) (unfinished_rd hne hlast) (lineBody_rd hobj hspace),
      conRequest_ready (consoleReady_quiet hready), atConsole_quiet,
      readLine_num hl hrow hr h1 h2 ht hm]
    exact ⟨List.mem_cons_self, .of_tables rfl rfl⟩
  case overrun =>
    intro s
    exact ⟨_, rfl, rfl, List.mem_cons_self, .of_tables rfl rfl⟩

end Sys2Proof.Machine
end

section
/-! PROOFS. What a fault is apart from: beside the numeric objects, what the part sends, and what it keeps of masters, records, faults, channels,
ports, rails, feeds, domains, the Gallery and the host, a fault writes nothing (R318 to R329). -/

namespace Sys2Proof.Machine

/-- A state less all that a fault and its reactions write: two states that agree in it agree in every other field. -/
def State.pastFaults (s : State) : State :=
  { s with obj := [], out := [], masters := [], log := Recorder.fresh, flt := State.reset.flt, chans := [], ports := [], rails := [], feeds := [],
           domDue := [], gal := Gallery.fresh, host := HostIf.fresh }

/-! ### Choices, walks and the small operations of the state -/

theorem pastFaults_ite {c : Prop} [Decidable c] {s t x : State} (hs : s.pastFaults = x) (ht : t.pastFaults = x) :
    (if c then s else t).pastFaults = x := by split <;> assumption

theorem pastFaults_forL {α : Type} {f : α → State → State} (h : ∀ a s, (f a s).pastFaults = s.pastFaults) (l : List α) (s : State) :
    (forL l f s).pastFaults = s.pastFaults := forL_fixes State.pastFaults f h l s

theorem pastFaults_forN {f : Nat → State → State} (h : ∀ n s, (f n s).pastFaults = s.pastFaults) (n : Nat) (s : State) :
    (forN n f s).pastFaults = s.pastFaults := pastFaults_forL h (List.range n) s

theorem set_pastFaults (s : State) (k : Nat) (v : Int) : (s.set k v).pastFaults = s.pastFaults := rfl

theorem inc_pastFaults (s : State) (k n : Nat) : (s.inc k n).pastFaults = s.pastFaults := set_pastFaults ..

theorem setBit_pastFaults (s : State) (k b : Nat) : (s.setBit k b).pastFaults = s.pastFaults := set_pastFaults ..

theorem withHost_pastFaults (s : State) (x : HostIf) : ({ s with host := x } : State).pastFaults = s.pastFaults := rfl

theorem withLog_pastFaults (s : State) (x : Recorder) : ({ s with log := x } : State).pastFaults = s.pastFaults := rfl

theorem withFlt_pastFaults (s : State) (x : Faults) : ({ s with flt := x } : State).pastFaults = s.pastFaults := rfl

theorem setRail_pastFaults (s : State) (r : Nat) (x : Rail) : (s.setRail r x).pastFaults = s.pastFaults := rfl

theorem setFeed_pastFaults (s : State) (f : Nat) (x : Feed) : (s.setFeed f x).pastFaults = s.pastFaults := rfl

theorem setChan_pastFaults (s : State) (c : Nat) (x : Chan) : (s.setChan c x).pastFaults = s.pastFaults := rfl

theorem irq_pastFaults (v : Nat) (s : State) : (irq v s).pastFaults = s.pastFaults := pastFaults_ite rfl rfl

/-! ### Mutes and holds (R143, R190) -/

theorem raiseCh_pastFaults (c b : Nat) (s : State) : (raiseCh c b s).pastFaults = s.pastFaults :=
  (set_pastFaults ..).trans (pastFaults_ite rfl (pastFaults_ite rfl (pastFaults_ite rfl rfl)))

theorem raisePort_pastFaults (p b : Nat) (s : State) : (raisePort p b s).pastFaults = s.pastFaults :=
  pastFaults_ite rfl ((setBit_pastFaults ..).trans (irq_pastFaults _ s))

theorem holdPort_pastFaults (p : Nat) (h : Holder) (s : State) : (holdPort p h s).pastFaults = s.pastFaults :=
  (raisePort_pastFaults ..).trans (withFlt_pastFaults ..)

theorem holdChan_pastFaults (c : Nat) (h : Holder) (s : State) : (holdChan c h s).pastFaults = s.pastFaults :=
  (raiseCh_pastFaults ..).trans (withFlt_pastFaults ..)

/-! ### Records and their notices (R329, R335 to R341) -/

theorem startFlush_pastFaults (s : State) : (startFlush s).pastFaults = s.pastFaults := by
  unfold startFlush
  split
  · rfl
  · exact pastFaults_ite rfl rfl

theorem bufferRec_pastFaults (r : Rec) (s : State) : (bufferRec r s).pastFaults = s.pastFaults := by
  unfold bufferRec
  extract_lets n log s1 s2 s3
  have h2 : s2.pastFaults = s.pastFaults := pastFaults_ite rfl rfl
  have h3 : s3.pastFaults = s.pastFaults := ((set_pastFaults ..).trans (set_pastFaults ..)).trans h2
  exact pastFaults_ite ((startFlush_pastFaults s3).trans h3) h3

theorem countDrop_pastFaults (s : State) : (countDrop s).pastFaults = s.pastFaults := (withLog_pastFaults ..).trans (inc_pastFaults ..)

theorem placeRec_pastFaults (r : Rec) (s : State) : (placeRec r s).pastFaults = s.pastFaults := by
  refine pastFaults_ite (bufferRec_pastFaults _ s) (pastFaults_ite ?_ rfl)
  split
  · exact (bufferRec_pastFaults ..).trans ((countDrop_pastFaults _).trans (withLog_pastFaults ..))
  · exact countDrop_pastFaults s

theorem enterOne_pastFaults (r : Rec) (s : State) : (enterOne r s).pastFaults = s.pastFaults :=
  pastFaults_ite rfl (pastFaults_ite rfl (placeRec_pastFaults r s))

theorem enterRec_pastFaults (r : Rec) (s : State) : (enterRec r s).pastFaults = s.pastFaults :=
  pastFaults_ite ((enterOne_pastFaults ..).trans ((set_pastFaults ..).trans (enterOne_pastFaults r s))) (enterOne_pastFaults r s)

theorem notifyOne_pastFaults (r : Rec) (m : Nat) (s : State) : (notifyOne r m s).pastFaults = s.pastFaults := by
  unfold notifyOne
  extract_lets x s1 o
  have h1 : s1.pastFaults = s.pastFaults := rfl
  exact pastFaults_ite (pastFaults_ite ((withHost_pastFaults ..).trans ((inc_pastFaults ..).trans h1)) ((irq_pastFaults ..).trans h1))
    (pastFaults_ite h1 h1)

theorem notifyAll_pastFaults (r : Rec) (s : State) : (notifyAll r s).pastFaults = s.pastFaults :=
  pastFaults_ite ((pastFaults_forL (fun m t => notifyOne_pastFaults r m t) _ _).trans (pastFaults_ite (irq_pastFaults 2 s) rfl)) rfl

theorem setGal_pastFaults (v : Int) (s : State) : (setGal v s).pastFaults = s.pastFaults :=
  (set_pastFaults ..).trans (irq_pastFaults 5 s)

theorem galTrigger_pastFaults (reason : Nat) (s : State) : (galTrigger reason s).pastFaults = s.pastFaults := by
  unfold galTrigger
  extract_lets gal s1 s2 s3
  have h1 : s1.pastFaults = s.pastFaults := rfl
  have h2 : s2.pastFaults = s.pastFaults := ((set_pastFaults ..).trans (set_pastFaults ..)).trans h1
  have h3 : s3.pastFaults = s.pastFaults := ((set_pastFaults ..).trans ((set_pastFaults ..).trans (set_pastFaults ..))).trans h2
  exact pastFaults_ite (((setGal_pastFaults ..).trans (set_pastFaults ..)).trans h3)
    (pastFaults_ite (setBit_pastFaults ..) (inc_pastFaults ..))

theorem galFault_pastFaults (w cls : Nat) (s : State) : (galFault w cls s).pastFaults = s.pastFaults :=
  pastFaults_ite (galTrigger_pastFaults 0 s) rfl

/-! ### Faults, their reactions and their sources (R318 to R326) -/

theorem stickyClass_pastFaults (cls : Nat) (s : State) : (stickyClass cls s).pastFaults = s.pastFaults :=
  pastFaults_ite rfl (setBit_pastFaults ..)

theorem setSource_pastFaults (w : Nat) (v : Int) (s : State) : (setSource w v s).pastFaults = s.pastFaults := by
  unfold setSource
  extract_lets old s1 s2 s3
  have h1 : s1.pastFaults = s.pastFaults := pastFaults_ite (set_pastFaults ..) rfl
  have h2 : s2.pastFaults = s.pastFaults := pastFaults_ite ((set_pastFaults ..).trans h1) h1
  have h3 : s3.pastFaults = s.pastFaults := pastFaults_ite ((set_pastFaults ..).trans h2) h2
  exact (set_pastFaults ..).trans h3

theorem sourceAfter_pastFaults (kind inst cls : Nat) (s : State) : (sourceAfter kind inst cls s).pastFaults = s.pastFaults := by
  unfold sourceAfter
  extract_lets w st renew
  have hhold : (startHold w s).pastFaults = s.pastFaults := withFlt_pastFaults ..
  exact pastFaults_ite rfl (pastFaults_ite (setSource_pastFaults ..) (pastFaults_ite (setSource_pastFaults ..)
    (pastFaults_ite rfl (pastFaults_ite ((setSource_pastFaults ..).trans hhold) (pastFaults_ite hhold rfl)))))

theorem shedSlice_pastFaults (sl w : Nat) (s : State) : (shedSlice sl w s).pastFaults = s.pastFaults := by
  unfold shedSlice
  extract_lets flt s1 s2
  have h1 : s1.pastFaults = s.pastFaults := rfl
  have h2 : s2.pastFaults = s.pastFaults := pastFaults_ite h1 ((set_pastFaults ..).trans h1)
  exact (pastFaults_forL (fun c t => holdChan_pastFaults c _ t) _ s2).trans h2

theorem railOffRamp_pastFaults (r : Nat) (s : State) : (railOffRamp r s).pastFaults = s.pastFaults :=
  calc (railOffRamp r s).pastFaults
    _ = _ := set_pastFaults ..
    _ = _ := set_pastFaults ..
    _ = _ := setRail_pastFaults ..
    _ = _ := set_pastFaults ..
    _ = s.pastFaults := setRail_pastFaults ..

theorem enterFeed_pastFaults (f : Nat) (v : Int) (s : State) : (enterFeed f v s).pastFaults = s.pastFaults :=
  (set_pastFaults ..).trans (setFeed_pastFaults ..)

theorem stopPart_pastFaults (s : State) : (stopPart s).pastFaults = s.pastFaults := by
  unfold stopPart
  extract_lets s1 s2
  have h1 : s1.pastFaults = s.pastFaults := pastFaults_forN (fun r t => pastFaults_ite (railOffRamp_pastFaults r t) rfl) 24 s
  have h2 : s2.pastFaults = s1.pastFaults := pastFaults_forN (fun f t => pastFaults_ite rfl (enterFeed_pastFaults f _ t)) 32 s1
  exact (set_pastFaults ..).trans (h2.trans h1)

theorem react_pastFaults (kind inst cls : Nat) (s : State) : (react kind inst cls s).pastFaults = s.pastFaults := by
  unfold react
  extract_lets w allowed s1 s2 s3
  have h1 : s1.pastFaults = s.pastFaults := pastFaults_ite (holdChan_pastFaults inst _ s) rfl
  have h2 : s2.pastFaults = s.pastFaults := by
    dsimp only [s2]
    split
    · exact pastFaults_ite ((holdPort_pastFaults ..).trans h1) h1
    · exact h1
  have h3 : s3.pastFaults = s.pastFaults := pastFaults_ite ((shedSlice_pastFaults ..).trans h2) h2
  exact pastFaults_ite ((stopPart_pastFaults s3).trans h3) h3

theorem faultRecord_pastFaults (kind inst cls esc code p0 p1 p2 p3 : Nat) (s : State) :
    (faultRecord kind inst cls esc code p0 p1 p2 p3 s).pastFaults = s.pastFaults :=
  calc (faultRecord kind inst cls esc code p0 p1 p2 p3 s).pastFaults
    _ = _ := react_pastFaults ..
    _ = _ := galFault_pastFaults ..
    _ = _ := notifyAll_pastFaults ..
    _ = _ := enterRec_pastFaults ..
    _ = _ := stickyClass_pastFaults ..
    _ = s.pastFaults := inc_pastFaults ..

theorem escalate_pastFaults (kind inst cls code p0 p1 p2 p3 : Nat) (s : State) :
    (escalate kind inst cls code p0 p1 p2 p3 s).pastFaults = s.pastFaults :=
  pastFaults_ite rfl (pastFaults_ite ((setSource_pastFaults ..).trans ((faultRecord_pastFaults ..).trans (withFlt_pastFaults ..)))
    (withFlt_pastFaults ..))

theorem fault_pastFaults (kind inst cls code p0 p1 p2 p3 : Nat) (s : State) :
    (fault kind inst cls code p0 p1 p2 p3 s).pastFaults = s.pastFaults :=
  calc (fault kind inst cls code p0 p1 p2 p3 s).pastFaults
    _ = _ := escalate_pastFaults ..
    _ = _ := sourceAfter_pastFaults ..
    _ = _ := faultRecord_pastFaults ..
    _ = s.pastFaults := inc_pastFaults ..

/-- A fault is no matter of the links. -/
theorem fault_links (kind inst cls code p0 p1 p2 p3 : Nat) (s : State) : (fault kind inst cls code p0 p1 p2 p3 s).links = s.links :=
  congrArg (fun t => t.links) (fault_pastFaults kind inst cls code p0 p1 p2 p3 s)

end Sys2Proof.Machine
end

section
/-! PROOFS. Steps that are held and sources that are chosen (R60 to R62, R68): a held step is one write to the objects, and what choosing a
source leaves as it was - the links, what is qualified, and the objects of the Stairway (R72). -/

namespace Sys2Proof.Machine

/-! ### Steps (R68, R70) -/

protected theorem SameBut.ite {ks : List Nat} {c : Prop} [Decidable c] {s t u : State} (ht : SameBut ks s t) (hu : SameBut ks s u) :
    SameBut ks s (if c then t else u) := by split <;> assumption

@[simp] theorem sendDown_time (code : Nat) (nums : List Int) (s : State) : (sendDown code nums s).time = s.time := by
  unfold sendDown
  refine forL_time (fun l t => ?_) _ s
  rfl

theorem sendDown_links (code : Nat) (nums : List Int) (s : State) : (sendDown code nums s).links = s.links := by
  unfold sendDown
  refine forL_fixes State.links _ (fun l t => ?_) _ s
  rfl

@[simp] theorem putStep_time (p : StepPlan) (s : State) : (putStep p s).time = { s.time with step := some p } := by
  unfold putStep
  rw [State.set_time, sendDown_time]

theorem putStep_links (p : StepPlan) (s : State) : (putStep p s).links = s.links := by
  unfold putStep
  rw [State.set_links, sendDown_links]

theorem putStep_pending (p : StepPlan) (s : State) : (putStep p s).num K.tbStepPending = (tbWord p.at_ : Nat) :=
  (State.num_set ..).trans (if_pos rfl)

theorem sameBut_putStep (p : StepPlan) (s : State) : SameBut [K.tbStepPending] s (putStep p s) := by
  unfold putStep
  refine SameBut.set (SameObjects.sameBut ?_ _) List.mem_cons_self
  exact SameObjects.trans (.of_tables rfl rfl) (sameObjects_sendDown ..)

/-- The step that takes the place of one that waits is of its own instant, size and cause. -/
theorem heir_eq (s : State) (p : StepPlan) : ∃ back locks, heir s p = { p with back := back, locks := locks } := by
  unfold heir
  split
  · exact ⟨_, _, rfl⟩
  · exact ⟨_, _, rfl⟩

theorem sameBut_schedule (delta : Int) (cause back : Nat) (locks : Bool) (s : State) :
    SameBut [K.tbStepPending] s (schedule delta cause back locks s) := sameBut_putStep ..

/-- A step decided now waits for its instant. -/
theorem schedule_step (delta : Int) (cause back : Nat) (locks : Bool) (s : State) :
    ∃ p, (schedule delta cause back locks s).time.step = some p ∧ p.at_ = stepInstant s ∧ p.delta = delta ∧ p.cause = cause := by
  obtain ⟨b, l, hp⟩ := heir_eq s ⟨stepInstant s, delta, s.nat K.tbSourceSelected, cause, back, locks⟩
  refine ⟨_, congrArg Time.step (putStep_time _ s), ?_⟩
  rw [hp]
  exact ⟨rfl, rfl, rfl⟩

theorem schedule_pending (delta : Int) (cause back : Nat) (locks : Bool) (s : State) :
    (schedule delta cause back locks s).num K.tbStepPending = (tbWord (stepInstant s) : Nat) := by
  obtain ⟨b, l, hp⟩ := heir_eq s ⟨stepInstant s, delta, s.nat K.tbSourceSelected, cause, back, locks⟩
  refine (putStep_pending ..).trans ?_
  rw [hp]

theorem sameBut_cancelStep (s : State) : SameBut [K.tbStepPending] s (cancelStep s) :=
  SameBut.set (SameObjects.sameBut (.of_tables rfl rfl) _) List.mem_cons_self

/-! ### The state and the trace of the timebase (R60) -/

theorem planTraceRelease_pastFaults (s : State) : (planTraceRelease s).pastFaults = s.pastFaults :=
  pastFaults_forL (fun _ _ => setChan_pastFaults ..) _ s

theorem sameObjects_planTraceRelease (s : State) : SameObjects s (planTraceRelease s) := by
  unfold planTraceRelease
  refine .forL (fun c t => ?_) _ s
  exact .of_tables rfl rfl

theorem muteForTrace_pastFaults (s : State) : (muteForTrace s).pastFaults = s.pastFaults :=
  pastFaults_ite rfl ((pastFaults_forL (fun _ _ => (raiseCh_pastFaults ..).trans (setChan_pastFaults ..)) _ _).trans (fault_pastFaults ..))

theorem setTrace_pastFaults (v : Bool) (s : State) : (setTrace v s).pastFaults = s.pastFaults := by
  unfold setTrace
  extract_lets s1
  have h1 : s1.pastFaults = s.pastFaults := (set_pastFaults ..).trans (irq_pastFaults 4 s)
  exact pastFaults_ite rfl (pastFaults_ite ((planTraceRelease_pastFaults s1).trans h1) ((muteForTrace_pastFaults s1).trans h1))

/-- Of the objects below the ports', the trace alone changes with it. -/
theorem setTrace_num_of_ne {k : Nat} (hk : k < 0x3000 * 256) (hne : k ≠ K.tbTrace) (v : Bool) (s : State) : (setTrace v s).num k = s.num k := by
  cases v with
  | false => rw [setTrace_false_num hk, if_neg hne]
  | true =>
    unfold setTrace
    split
    · rfl
    · exact ((sameObjects_planTraceRelease _).1 k).trans (by simp [hne])

theorem setTbState_pastFaults (v : Int) (s : State) : (setTbState v s).pastFaults = s.pastFaults :=
  pastFaults_ite rfl ((set_pastFaults ..).trans (irq_pastFaults 4 s))

/-! ### What choosing a source leaves (R61, R62) -/

/-- From s to t the links and what is qualified stand, and with them every object of an index from the Stairway's (0x2040) up to the ports'
(0x3000). -/
structure SourcesStand (s t : State) : Prop where
  links : t.links = s.links
  qualified : t.time.qualified = s.time.qualified
  num : ∀ k, 0x2040 * 256 ≤ k → k < 0x3000 * 256 → t.num k = s.num k

namespace SourcesStand

variable {s0 s t : State}

protected theorem refl (s : State) : SourcesStand s s := ⟨rfl, rfl, fun _ _ _ => rfl⟩

protected theorem trans (h : SourcesStand s0 s) (h' : SourcesStand s t) : SourcesStand s0 t :=
  ⟨h'.links.trans h.links, h'.qualified.trans h.qualified, fun k hk hk' => (h'.num k hk hk').trans (h.num k hk hk')⟩

protected theorem congr (h : SourcesStand s0 s) (hl : t.links = s.links) (hq : t.time.qualified = s.time.qualified) (ho : t.obj = s.obj) :
    SourcesStand s0 t := h.trans ⟨hl, hq, fun k _ _ => State.num_congr ho k⟩

/-- What differs in fields that a fault writes, and in none of the objects in question. -/
protected theorem of_pastFaults (h : SourcesStand s0 s) (hp : t.pastFaults = s.pastFaults)
    (hn : ∀ k, 0x2040 * 256 ≤ k → k < 0x3000 * 256 → t.num k = s.num k) : SourcesStand s0 t :=
  h.trans ⟨congrArg (fun u => u.links) hp, congrArg (fun u => u.time.qualified) hp, hn⟩

protected theorem set {k : Nat} {v : Int} (h : SourcesStand s0 s) (hk : k < 0x2040 * 256 ∨ 0x3000 * 256 ≤ k) : SourcesStand s0 (s.set k v) :=
  h.of_pastFaults (set_pastFaults ..) (fun j hj hj' => by rw [State.num_set, if_neg (by omega)])

protected theorem sticky (h : SourcesStand s0 s) (b : Nat) : SourcesStand s0 (s.sticky b) := h.set (by decide)

protected theorem ite {c : Prop} [Decidable c] (hs : SourcesStand s0 s) (ht : SourcesStand s0 t) : SourcesStand s0 (if c then s else t) := by
  split <;> assumption

protected theorem setTrace (h : SourcesStand s0 s) (v : Bool) : SourcesStand s0 (setTrace v s) :=
  h.of_pastFaults (setTrace_pastFaults v s)
    (fun k hk hk' => setTrace_num_of_ne hk' (by unfold K.tbTrace; omega) v s)

protected theorem setTbState (h : SourcesStand s0 s) (v : Int) : SourcesStand s0 (setTbState v s) :=
  h.of_pastFaults (setTbState_pastFaults v s) (fun k hk _ => by rw [setTbState_num, if_neg (by unfold K.tbState; omega)])

protected theorem schedule (h : SourcesStand s0 s) (delta : Int) (cause back : Nat) (locks : Bool) :
    SourcesStand s0 (schedule delta cause back locks s) := by
  unfold schedule
  refine h.trans ⟨putStep_links .., by rw [putStep_time], fun k hk _ => (sameBut_putStep ..).1 k ?_⟩
  rw [List.mem_singleton]
  unfold K.tbStepPending
  omega

protected theorem cancelStep (h : SourcesStand s0 s) : SourcesStand s0 (cancelStep s) :=
  SourcesStand.set (h.congr (by rfl) (by rfl) (by rfl)) (by decide)

protected theorem cancelAlignment (h : SourcesStand s0 s) : SourcesStand s0 (cancelAlignment s) := by
  unfold cancelAlignment
  split
  · exact .ite (h.congr (by rfl) (by rfl) (by rfl)) (.ite h.cancelStep h)
  · exact h

protected theorem select (h : SourcesStand s0 s) (src : Nat) : SourcesStand s0 (select src s) := by
  unfold select
  extract_lets c d e t s1 st
  have h1 : SourcesStand s0 s1 := ((h.cancelAlignment.congr (by rfl) (by rfl) (by rfl)).set (by decide)).set (by decide)
  exact .ite ((h1.setTbState _).schedule ..) (.ite ((h1.setTbState _).schedule ..)
    (.ite (.ite (h1.schedule ..) (.ite (h1.schedule ..) ((h1.setTbState _).setTrace _))) h1))

protected theorem replaceSource (h : SourcesStand s0 s) (src : Nat) : SourcesStand s0 (replaceSource src s) := by
  unfold replaceSource
  extract_lets t s1
  have h1 : SourcesStand s0 s1 := SourcesStand.set (h.congr (by rfl) (by rfl) (by rfl)) (by decide)
  exact .ite ((h1.set (by decide)).schedule ..) (h1.setTrace _)

protected theorem loseSelected (h : SourcesStand s0 s) : SourcesStand s0 (loseSelected s) := by
  unfold loseSelected
  extract_lets st back acquired free t held s3
  refine .ite ?acquiring (.ite ?free (.ite ?locked h))
  case acquiring =>
    have h1 : SourcesStand s0 acquired := h.cancelAlignment.setTbState _
    split
    · exact h1.select _
    · exact .ite (h1.set (by decide)) h1
  case free =>
    have h1 : SourcesStand s0 free := h.cancelAlignment
    split
    · exact h1.select _
    · exact h1
  case locked =>
    split
    · exact h.replaceSource _
    · have h1 : SourcesStand s0 held := h.congr (by rfl) (by rfl) (by rfl)
      exact (((h1.set (by decide)).set (by decide)).sticky _).setTbState _

protected theorem reselectSource (h : SourcesStand s0 s) : SourcesStand s0 (reselectSource s) := by
  refine .ite h.loseSelected (.ite ?_ h)
  split
  · exact h.select _
  · exact h

end SourcesStand

/-! ### Qualification (R62) -/

theorem qualifiedSrc_congr {s t : State} (h : t.time.qualified = s.time.qualified) (src : Nat) : t.qualifiedSrc src = s.qualifiedSrc src := by
  unfold State.qualifiedSrc
  rw [h]

theorem qualifiedSrc_putQualified (src : Nat) (v : Option Nat) (s : State) : (putQualified src v s).qualifiedSrc src = v.isSome :=
  congrArg Option.isSome ((Tab.get_put ..).trans (if_pos rfl))

theorem showQualified_pastFaults (src : Nat) (v : Bool) (s : State) : (showQualified src v s).pastFaults = s.pastFaults :=
  pastFaults_ite (set_pastFaults ..) (pastFaults_ite (set_pastFaults ..) rfl)

theorem sameBut_showQualified (src : Nat) (v : Bool) (s : State) : SameBut [K.tbDonorState, K.tbPpsState] s (showQualified src v s) :=
  .ite ((SameBut.refl _ s).set (by decide)) (.ite ((SameBut.refl _ s).set (by decide)) (.refl _ s))

theorem showQualified_stands (src : Nat) (v : Bool) (s : State) : SourcesStand s (showQualified src v s) :=
  (SourcesStand.refl s).of_pastFaults (showQualified_pastFaults src v s) fun k hk _ =>
    (sameBut_showQualified src v s).1 k (by simp only [List.mem_cons, List.not_mem_nil, or_false]; unfold K.tbDonorState K.tbPpsState; omega)

/-- A source that disqualifies is unmarked; whatever is chosen in its place, it stays so (R61). -/
theorem disqualify_cases (src : Nat) (s : State) :
    (disqualify src s = s ∧ s.qualifiedSrc src = false) ∨ SourcesStand (putQualified src none s) (disqualify src s) := by
  unfold disqualify
  split
  · next h => exact .inl ⟨rfl, by simpa using h⟩
  · extract_lets s1 s2
    have h1 : SourcesStand (putQualified src none s) s1 := showQualified_stands ..
    have h2 : SourcesStand (putQualified src none s) s2 := .ite (h1.set (by decide)) h1
    exact .inr (.ite h2.loseSelected h2)

theorem disqualify_qualifiedSrc (src : Nat) (s : State) : (disqualify src s).qualifiedSrc src = false := by
  rcases disqualify_cases src s with ⟨hs, hq⟩ | hst
  · rw [hs, hq]
  · rw [qualifiedSrc_congr hst.qualified, qualifiedSrc_putQualified]
    rfl

theorem disqualify_links (src : Nat) (s : State) : (disqualify src s).links = s.links := by
  rcases disqualify_cases src s with ⟨hs, -⟩ | hst
  · rw [hs]
  · exact hst.links

theorem disqualify_num {k : Nat} (hk : 0x2040 * 256 ≤ k) (hk' : k < 0x3000 * 256) (src : Nat) (s : State) :
    (disqualify src s).num k = s.num k := by
  rcases disqualify_cases src s with ⟨hs, -⟩ | hst
  · rw [hs]
  · exact hst.num k hk hk'

end Sys2Proof.Machine
end

section
/-! PROOFS. Sources that qualify and disqualify, and the source that takes over (R61, R62). -/

namespace Sys2Proof.Machine

/-- A source that qualifies in this tick. -/
def qualifiedNow (src : Nat) (s : State) : State := showQualified src true (putQualified src (some s.time.now) s)

theorem execSourceQualify_of_may {src : Nat} {s : State} (h1 : 1 ≤ src) (h3 : src ≤ 3) (hq : s.qualifiedSrc src = false)
    (hm : mayQualify s src = true) (x : Report) :
    exec (.sourceQualify src x) s = .next (if freeToSelect (qualifiedNow src s) ∧ bestSource (qualifiedNow src s) = some src
      then select src (qualifiedNow src s) else qualifiedNow src s) := by
  have hc : ¬ (src < 1 ∨ 3 < src ∨ s.qualifiedSrc src = true ∨ (!mayQualify s src) = true) := by
    simp only [hq, hm]
    simp
    omega
  exact congrArg Host.Outcome.next (if_neg hc)

/-- A source that replaces the selected one is the selected one. -/
theorem replaceSource_selected (src : Nat) (s : State) : (replaceSource src s).num K.tbSourceSelected = src := by
  unfold replaceSource
  extract_lets t s1
  have h1 : s1.num K.tbSourceSelected = src := (State.num_set ..).trans (if_pos rfl)
  split
  · rw [(sameBut_schedule ..).1 _ (by decide), State.num_set, if_neg (by decide), h1]
  · rw [setTrace_num_of_ne (by decide) (by decide), h1]

/-- Settles O22: each event writes the mark of its source where its condition holds, and what is chosen after it leaves the marks as they are. -/
theorem sourcesQualify : Obligations.SourcesQualify := by
  refine ⟨?qualify, ?stays, ?disqualify, ?remains, ?revert⟩
  case qualify =>
    intro src x s h1 h3 hq hm
    refine ⟨_, execSourceQualify_of_may h1 h3 hq hm x, ?_⟩
    have hst : SourcesStand (putQualified src (some s.time.now) s) (qualifiedNow src s) := showQualified_stands ..
    exact (qualifiedSrc_congr (SourcesStand.ite (hst.select src) hst).qualified src).trans (qualifiedSrc_putQualified ..)
  case stays =>
    intro src x s hm
    exact ⟨s, congrArg Host.Outcome.next (if_pos (.inr (.inr (.inr (by rw [hm]; rfl))))), rfl⟩
  case disqualify =>
    intro src x s h1 h3 hm
    exact ⟨_, congrArg Host.Outcome.next (if_pos ⟨h1, h3, hm⟩), disqualify_qualifiedSrc src s⟩
  case remains =>
    intro src x s hm
    exact ⟨s, congrArg Host.Outcome.next (if_neg (fun hc => by simp [hm] at hc)), rfl⟩
  case revert =>
    intro src s hstate hsel hbest hdue
    exact ⟨_, congrArg Host.Outcome.next (if_pos ⟨hstate, hsel, hbest, hdue⟩), replaceSource_selected src s⟩

end Sys2Proof.Machine
end

section
/-! PROOFS. The tracking loop and Holdover (R63, R67). -/

namespace Sys2Proof.Machine

/-- The frame error of the selected source (R63). -/
def selectedError (s : State) : Int := frameError (sourceDelta s (s.nat K.tbSourceSelected))

/-- A run in Locked shows the error; beside it, it writes the correction and a step that it decides. -/
theorem sameBut_trackLocked (s : State) :
    SameBut [K.tbFreqOffset, K.tbStepPending] (s.set K.tbPhaseError (selectedError s)) (trackLocked s) := by
  unfold trackLocked
  extract_lets d e s1 beyond s2
  have h2 : SameBut [K.tbFreqOffset, K.tbStepPending] s1 s2 := by
    refine .ite ?_ ?_
    · unfold markExcess
      split
      · exact .refl ..
      · exact SameObjects.sameBut (.of_tables rfl rfl) _
    · exact SameBut.set (SameObjects.sameBut (.of_tables rfl rfl) _) List.mem_cons_self
  have hstep : ∀ delta cause, SameBut [K.tbFreqOffset, K.tbStepPending] s1 (schedule delta cause 3 false s2) :=
    fun _ _ => h2.trans ((sameBut_schedule ..).mono (by simp))
  exact .ite (hstep ..) (.ite (hstep ..) h2)

theorem sameBut_trackHoldover (s : State) : SameBut [K.tbHoldoverElapsed, K.tbHoldoverUncertainty] s (trackHoldover s) :=
  ((SameBut.refl _ s).set (by simp)).set (by simp)

theorem trackHoldover_elapsed (s : State) : (trackHoldover s).num K.tbHoldoverElapsed = (holdTicks s / msTicks : Nat) := by
  unfold trackHoldover
  rw [State.num_set, if_neg (by decide), State.num_set, if_pos rfl]

section
variable {s : State}

theorem execTrackingLoopUpdate_locked (h : s.num K.tbState = tsLocked) (x : Report) :
    exec (.trackingLoopUpdate x) s = .next (trackLocked s) := congrArg Host.Outcome.next (if_pos h)

theorem execTrackingLoopUpdate_holdover (h : s.num K.tbState = tsHoldover) (x : Report) :
    exec (.trackingLoopUpdate x) s = .next (trackHoldover s) :=
  congrArg Host.Outcome.next ((if_neg (by rw [h]; decide)).trans (if_pos h))

theorem execTrackingLoopUpdate_acquiring (h : s.num K.tbState = tsAcquiring) (x : Report) :
    exec (.trackingLoopUpdate x) s = .next (s.set K.tbPhaseError (selectedError s)) :=
  congrArg Host.Outcome.next ((if_neg (by rw [h]; decide)).trans ((if_neg (by rw [h]; decide)).trans (if_pos h)))

end

/-- Settles O23: one run of the loop for each of the three states, and the expiry of Holdover, whose state and trace are written last. -/
theorem trackingLoopRuns : Obligations.TrackingLoopRuns := by
  refine ⟨?locked, ?holdover, ?acquiring, ?expiry⟩
  case locked =>
    intro x s h
    refine ⟨_, execTrackingLoopUpdate_locked h x, ?_, ?_⟩
    · exact ((sameBut_trackLocked s).1 _ (by decide)).trans ((State.num_set ..).trans (if_pos rfl))
    · exact ((sameBut_trackLocked s).1 _ (by decide)).trans ((State.num_set ..).trans ((if_neg (by decide)).trans h))
  case holdover =>
    intro x s h
    exact ⟨_, execTrackingLoopUpdate_holdover h x, trackHoldover_elapsed s, sameBut_trackHoldover s⟩
  case acquiring =>
    intro x s h
    exact ⟨_, execTrackingLoopUpdate_acquiring h x, (State.num_set ..).trans (if_pos rfl), (SameBut.refl _ s).set List.mem_cons_self⟩
  case expiry =>
    intro s h hu
    refine ⟨_, congrArg Host.Outcome.next (if_pos ⟨h, hu⟩), ?_, ?_⟩
    · rw [setTrace_false_num (by decide), if_neg (by decide), setTbState_num, if_pos rfl]
    · rw [setTrace_false_num (by decide), if_pos rfl]

end Sys2Proof.Machine
end

section
/-! PROOFS. Host steps (R71). -/

namespace Sys2Proof.Machine

/-- tb.adjust reads the size of the host's step that waits, else 0. -/
theorem readNum_tbAdjust_host {s : State} {p : StepPlan} (h : s.time.step = some p) (hc : p.cause = 4) (flow : Nat) :
    s.readNum flow K.tbAdjust = p.delta := by
  simp [State.readNum, perMaster, derivedNum, K.tbAdjust, K.idSerial, K.tbNow, h, hc]

theorem readNum_tbAdjust_none {s : State} (h : s.time.step = none) (flow : Nat) : s.readNum flow K.tbAdjust = 0 := by
  simp [State.readNum, perMaster, derivedNum, K.tbAdjust, K.idSerial, K.tbNow, h]

@[simp] theorem ringFrame_time (o : Out) (s : State) : (ringFrame o s).time = s.time := by
  unfold ringFrame putResponse
  split <;> simp

/-- An answer leaves the clocks and the timebase alone. -/
@[simp] theorem answer_time (w : Who) (kind : Nat) (f : Frame) (status : Nat) (b : List Byte) (s : State) :
    (answer w kind f status b s).time = s.time :=
  respond_fixes State.time ringFrame_time (fun _ _ => rfl) ..

theorem adjustAllowed_iff (s : State) :
    adjustAllowed s = true ↔ (s.num K.tbSourceSelected = 3 ∨ s.num K.tbSourceSelected = 4) ∧ (isNewel s = true ∨ downUp s = []) := by
  simp [adjustAllowed]

section
variable {u : State} (w : Who)

theorem adjustEffect_step (h : adjustAllowed u = true) {d : Int} (hd : d ≠ 0) :
    adjustEffect w (.num d) u = .ok (schedule d 4 (u.nat K.tbState) false u) := by
  simp [adjustEffect, h, Val.int, hd]

theorem adjustEffect_refused (h : adjustAllowed u = false) (v : Val) : adjustEffect w v u = .no u stRange := by
  simp [adjustEffect, h]

theorem adjustEffect_cancel (h : adjustAllowed u = true) {p : StepPlan} (hp : u.time.step = some p) (hc : p.cause = 4)
    (hs : u.num K.tbState ≠ tsAcquiring) : adjustEffect w (.num 0) u = .ok (cancelStep u) := by
  simp [adjustEffect, h, Val.int, hostStepWaits, hp, hc, hs]

end

/-- Settles O25: the three outcomes of a write to tb.adjust, and what tb.adjust reads of the step that then waits. -/
theorem hostStepsAreScheduled : Obligations.HostStepsAreScheduled := by
  refine ⟨?step, ?refused, ?cancel⟩
  case step =>
    intro f w d s u hreach hsel htree hd
    refine ⟨_, congrArg Host.Outcome.next (requestWrite_reaches hreach adjustEffect), ?_⟩
    rw [adjustEffect_step w ((adjustAllowed_iff u).2 ⟨hsel, htree⟩) hd, finish_ok]
    obtain ⟨p, hp, hat, hdelta, hcause⟩ := schedule_step d 4 (u.nat K.tbState) false u
    rw [← answer_time w kWrite { f with index := K.tbAdjust / 256, sub := K.tbAdjust % 256 } stOk [] (schedule d 4 (u.nat K.tbState) false u)] at hp
    refine ⟨answered_answer .., ⟨p, hp, hdelta, hcause, hat⟩, (readNum_tbAdjust_host hp hcause _).trans hdelta, ?_, ?_⟩
    · rw [answer_num, schedule_pending]
    · exact (sameBut_schedule ..).andThen (sameObjects_answer ..)
  case refused =>
    intro f w v s u hreach hno
    refine ⟨_, congrArg Host.Outcome.next (requestWrite_reaches hreach adjustEffect), ?_⟩
    have hallowed : adjustAllowed u = false := by
      rw [Bool.eq_false_iff, ne_eq, adjustAllowed_iff, not_and_or, not_or, not_or, Bool.not_eq_true]
      exact hno
    rw [adjustEffect_refused w hallowed]
    exact finish_no ..
  case cancel =>
    intro f w p s u hreach hsel htree hp hc hs
    refine ⟨_, congrArg Host.Outcome.next (requestWrite_reaches hreach adjustEffect), ?_⟩
    rw [adjustEffect_cancel w ((adjustAllowed_iff u).2 ⟨hsel, htree⟩) hp hc hs, finish_ok]
    have hnone : (answer w kWrite { f with index := K.tbAdjust / 256, sub := K.tbAdjust % 256 } stOk [] (cancelStep u)).time.step = none := by
      rw [answer_time]
      rfl
    refine ⟨answered_answer .., hnone, readNum_tbAdjust_none hnone _, ?_, (sameBut_cancelStep u).andThen (sameObjects_answer ..)⟩
    rw [answer_num, cancelStep_num, if_pos rfl]

end Sys2Proof.Machine
end

section
/-! PROOFS. The step instant (R69): why a step may wait after it. Whatever launches in the step tick runs with the step itself (R70), and a committed
pd.hold of the Stairway ports (R396) takes the upstream link down, so that a selected Stairway source is lost and a new step is decided to align to
another. -/

namespace Sys2Proof.Machine

/-! ### What of a step tick moves the timebase -/

theorem setTrace_time (v : Bool) (s : State) : (setTrace v s).time = s.time := congrArg (fun t => t.time) (setTrace_pastFaults v s)

theorem setTbState_time (v : Int) (s : State) : (setTbState v s).time = s.time := congrArg (fun t => t.time) (setTbState_pastFaults v s)

theorem planTraceRelease_time (s : State) : (planTraceRelease s).time = s.time := congrArg (fun t => t.time) (planTraceRelease_pastFaults s)

theorem recordStep_time (p : StepPlan) (s : State) : (recordStep p s).time = s.time := by simp [recordStep]

theorem lockAfterStep_time (p : StepPlan) (s : State) : (lockAfterStep p s).time = s.time :=
  State.time_ite ((setTrace_time ..).trans (setTbState_time ..)) rfl

/-- The part once the counter has stepped by p. -/
def stepped (p : StepPlan) (s : State) : State := stepSeen (stepCounter p { s with time := { s.time with excessSince := none } })

/-- The part once the transactions that are due after the step have launched. -/
def steppedAndLaunched (p : StepPlan) (s : State) : State := commitDue (stepped p s).tx.accepted.length (stepped p s)

/-- Without channels, walkers and due entries, the launches are the last to move the timebase in a step tick. -/
theorem takeStep_time {p : StepPlan} {s : State} (hrun : launchRuns (stepped p s) = true) (hc : (steppedAndLaunched p s).started = [])
    (hw : walkersOn (steppedAndLaunched p s) = []) (he : dueEntries (steppedAndLaunched p s) = []) :
    (takeStep p s).time = (steppedAndLaunched p s).time := by
  unfold takeStep
  extract_lets time s1 run s2 s3 s4 s5
  have h2 : s2 = steppedAndLaunched p s := if_pos hrun
  have h3 : s3 = steppedAndLaunched p s := by
    dsimp only [s3]
    rw [h2, hc, hw]
    rfl
  have h4 : s4 = steppedAndLaunched p s := by
    refine (if_pos hrun).trans ?_
    rw [h3, he]
    rfl
  have h5 : s5.time = (steppedAndLaunched p s).time :=
    ((lockAfterStep_time ..).trans (recordStep_time ..)).trans (congrArg (fun t => t.time) h4)
  exact State.time_ite ((planTraceRelease_time s5).trans h5) h5

/-! ### A step that is decided in the step tick -/

/-- The step that waits in `lossInStepTick`: it aligns to the Stairway source. -/
def alignmentStep : StepPlan := ⟨1000, 500, 1, 1, 1, true⟩

/-- A part in Acquiring in the tick of its step: Stairway is selected, PPS_IN is qualified too, the upstream link is Up, and a transaction that
holds the Stairway ports off (pd.hold of domain 83) launches in this tick. -/
def lossInStepTick : State :=
  let s := [(K.pdBootStage, 6), (K.tbState, tsAcquiring), (K.tbSourceSelected, 1), (K.stwLinkLState 0, lsUp), (K.pdState 83, dsOn)].foldl
    (fun s e => s.set e.1 e.2) State.reset
  { s with
    time := { Time.fresh with tb := 1000, running := true, step := some alignmentStep, qualified := [(1, some 0), (3, some 0)] }
    tx := { s.tx with accepted := [⟨7, 1, 1000, 0, [(K.pdHold 83, .num 1)], 0, 0, 4, none⟩] } }

theorem lossInStepTick_runs : launchRuns (stepped alignmentStep lossInStepTick) = true := by decide

/-- The launch has decided a step to PPS_IN, and nothing else has work in the tick. -/
theorem lossInStepTick_launched :
    (steppedAndLaunched alignmentStep lossInStepTick).started = [] ∧ walkersOn (steppedAndLaunched alignmentStep lossInStepTick) = [] ∧
      dueEntries (steppedAndLaunched alignmentStep lossInStepTick) = [] ∧
      (steppedAndLaunched alignmentStep lossInStepTick).time.step.isSome = true := by decide

theorem execStepInstant_due {p : StepPlan} {s : State} (hp : s.time.step = some p) (hrun : s.time.running = true) (hat : p.at_ ≤ s.time.tb) :
    exec .stepInstant s = .next (takeStep p s) := by
  refine congrArg Host.Outcome.next ?_
  rw [hp]
  exact if_pos ⟨hrun, hat⟩

/-- Refutes O24: in the tick of `alignmentStep` the launch of pd.hold takes the selected Stairway source away, and the step to PPS_IN that is decided
for it waits after the step. -/
theorem not_stepsAreDecidedAndTaken : ¬ Obligations.StepsAreDecidedAndTaken := by
  intro h
  obtain ⟨hinstant, -⟩ := h
  obtain ⟨t, ht, -, -, -, hnone⟩ := hinstant alignmentStep lossInStepTick rfl rfl (by decide)
  rw [execStepInstant_due rfl rfl (by decide)] at ht
  cases ht
  obtain ⟨hc, hw, he, hwaits⟩ := lossInStepTick_launched
  rw [takeStep_time lossInStepTick_runs hc hw he] at hnone
  simp [hnone] at hwaits

end Sys2Proof.Machine
end

section
/-! PROOFS. Donor detections and PPS edges (R65, R66). That a detection's frame start is its symbol start less the offset, the group delay and the
compensation is log entry 122; that an edge counts toward qualification by its label and its spacing is log entry 121. -/

namespace Sys2Proof.Machine

theorem putSource_delta (src : Nat) (d : Int) (s : State) : Tab.get (fun _ => none) (putSource src d s).time.srcDelta src = some d :=
  (Tab.get_put (fun _ => none) src src (some d) s.time.srcDelta).trans (if_pos rfl)

theorem sameObjects_putSource (src : Nat) (d : Int) (s : State) : SameObjects s (putSource src d s) := .of_tables rfl rfl

/-- The part once a detection has been counted as good or bad, and its timing, where it is good, kept. -/
def donorCounted (metric : Int) (start : Nat) (s : State) : State :=
  let good := decide (s.num K.tbDonorMinMetric ≤ metric)
  let s1 := { s with time := { s.time with
    donorGood := if good then (if timingAgrees s (donorFrame s start) then s.time.donorGood + 1 else 1) else 0
    donorBad := if good then 0 else s.time.donorBad + 1
    donorLast := if good then some (donorFrame s start) else s.time.donorLast } }
  if good then putSource 2 (frameError (-(donorFrame s start))) s1 else s1

theorem execDonorDetection_taken {s : State} (h : donorRuns s = true) (metric : Int) (start : Nat) :
    exec (.donorDetection metric start) s = .next ((if s.num K.tbDonorState = 3 then donorCounted metric start s
      else (donorCounted metric start s).set K.tbDonorState (if decide (s.num K.tbDonorMinMetric ≤ metric) then 2 else 1)).set K.tbDonorMetric
        metric) :=
  congrArg Host.Outcome.next (if_neg (by rw [h]; decide))

theorem donorCounted_good {metric : Int} {s : State} (h : s.num K.tbDonorMinMetric ≤ metric) (start : Nat) :
    (donorCounted metric start s).time.donorLast = some (donorFrame s start) ∧
      Tab.get (fun _ => none) (donorCounted metric start s).time.srcDelta 2 = some (frameError (-(donorFrame s start))) := by
  unfold donorCounted
  extract_lets good t s1
  have hgood : good = true := decide_eq_true h
  rw [if_pos hgood]
  exact ⟨if_pos hgood, putSource_delta ..⟩

theorem sameObjects_donorCounted (metric : Int) (start : Nat) (s : State) : SameObjects s (donorCounted metric start s) :=
  .ite (.of_tables rfl rfl) (.of_tables rfl rfl)

/-- The part once a detection on a channel that no donor feeds has been counted as missed. -/
def donorMissed (s : State) : State := { s with time := { s.time with donorGood := 0, donorBad := s.time.donorBad + 1 } }

theorem execDonorDetection_missed {s : State} (h : donorRuns s = false) (metric : Int) (start : Nat) :
    exec (.donorDetection metric start) s =
      .next (if s.num K.tbDonorState = 3 then donorMissed s else (donorMissed s).set K.tbDonorState 0) :=
  congrArg Host.Outcome.next (if_pos (by rw [h]; rfl))

theorem sameObjects_donorMissed (s : State) : SameObjects s (donorMissed s) := .of_tables rfl rfl

/-- The part once PPS_IN has changed its level. -/
def ppsFlipped (s : State) : State := { s with time := { s.time with ppsPin := !s.time.ppsPin } }

theorem execPpsEdge_taken {s : State} (h : s.time.ppsPin = decide (s.num K.tbPpsEdge = 1)) : exec .ppsEdge s = .next (takeEdge (ppsFlipped s)) :=
  congrArg Host.Outcome.next (if_pos (decide_eq_true h))

theorem execPpsEdge_other {s : State} (h : s.time.ppsPin ≠ decide (s.num K.tbPpsEdge = 1)) : exec .ppsEdge s = .next (ppsFlipped s) :=
  congrArg Host.Outcome.next (if_neg (by simpa [ppsActive] using h))

/-- What an edge that is taken leaves: its stamp is kept, an absent input is present, and a spacing beyond the tolerance counts. -/
structure EdgeTaken (s t : State) : Prop where
  pin : t.time.ppsPin = s.time.ppsPin
  last : t.time.ppsLast = some (ppsStamp s)
  present : s.num K.tbPpsState ≠ 2 → t.num K.tbPpsState = 1
  missed : s.time.ppsLast.isSome = true → spacingGood s (ppsStamp s) = false →
    t.num K.tbPpsMissed = min (s.num K.tbPpsMissed + 1) (maxWord 32)
  rest : SameBut [K.tbPpsMissed, K.tbPpsState] s t

theorem takeEdge_taken (s : State) : EdgeTaken s (takeEdge s) := by
  unfold takeEdge
  extract_lets stamp good l at_ time s1 s2 s3
  have h2 : SameObjects s s2 := SameObjects.trans (.of_tables rfl rfl) (sameObjects_putSource ..)
  have htime : s3.time = s2.time := State.time_ite (State.inc_time ..) rfl
  have hlast : s3.time.ppsLast = some (ppsStamp s) := by rw [htime]; rfl
  have hpin : s3.time.ppsPin = s.time.ppsPin := by rw [htime]; rfl
  have h3 : SameBut [K.tbPpsMissed, K.tbPpsState] s s3 := .ite ((h2.sameBut _).inc (by simp)) (h2.sameBut _)
  have hmissed : s.time.ppsLast.isSome = true → spacingGood s (ppsStamp s) = false →
      s3.num K.tbPpsMissed = min (s.num K.tbPpsMissed + 1) (maxWord 32) := by
    intro hsome hbad
    have hs3 : s3 = s2.inc K.tbPpsMissed 32 := if_pos ⟨hsome, by simp [good, stamp, hbad]⟩
    rw [hs3, State.num_inc, if_pos rfl, h2.1]
  split
  · next hq => exact ⟨hpin, hlast, fun hne => absurd hq hne, hmissed, h3⟩
  · refine ⟨hpin, hlast, fun _ => (State.num_set ..).trans (if_pos rfl), fun hsome hbad => ?_, h3.set (by simp)⟩
    rw [State.num_set, if_neg (by decide), hmissed hsome hbad]

/-- Settles O26: a detection or an edge that counts is kept in the time of the part, and of the objects only those of its source change. -/
theorem donorAndPpsAreFollowed : Obligations.DonorAndPpsAreFollowed := by
  refine ⟨?detected, ?notFed, ?other, ?taken⟩
  case detected =>
    intro metric start s h
    refine ⟨_, execDonorDetection_taken h metric start, (State.num_set ..).trans (if_pos rfl), fun hgood => ?_, ?_⟩
    · obtain ⟨hlast, hdelta⟩ := donorCounted_good hgood start
      have htime : ∀ v, ((if s.num K.tbDonorState = 3 then donorCounted metric start s
          else (donorCounted metric start s).set K.tbDonorState v).set K.tbDonorMetric metric).time = (donorCounted metric start s).time :=
        fun v => State.time_ite rfl rfl
      rw [htime]
      exact ⟨hlast, hdelta⟩
    · have hsame := (sameObjects_donorCounted metric start s).sameBut [K.tbDonorMetric, K.tbDonorState]
      exact (SameBut.ite hsame (hsame.set (by simp))).set (by simp)
  case notFed =>
    intro metric start s h
    have htime : (if s.num K.tbDonorState = 3 then donorMissed s else (donorMissed s).set K.tbDonorState 0).time = (donorMissed s).time :=
      State.time_ite rfl rfl
    refine ⟨_, execDonorDetection_missed h metric start, congrArg Time.donorGood htime, congrArg Time.donorBad htime, ?_⟩
    have hsame := (sameObjects_donorMissed s).sameBut [K.tbDonorState]
    exact .ite hsame (hsame.set (by simp))
  case other =>
    intro s h
    exact ⟨_, execPpsEdge_other h, rfl, .of_tables rfl rfl⟩
  case taken =>
    intro s h
    refine ⟨_, execPpsEdge_taken h, ?_⟩
    obtain ⟨hpin, hlast, hpresent, hmissed, hrest⟩ := takeEdge_taken (ppsFlipped s)
    exact ⟨hpin, hlast, hpresent, hmissed, hrest⟩

end Sys2Proof.Machine
end

section
/-! PROOFS. The states of a link (R74, Table 3-7). The delay tested at Measure is the rounded mean of log entry 124; that a write of 1 to
stw.linkL.retrain (Table 3-10) retrains a link from every state but Down, not from Miswired alone, is the model's choice. -/

namespace Sys2Proof.Machine

/-! ### Entering a state -/

theorem linkState_enterLink (l : Nat) (v : Int) (s : State) : linkState (enterLink l v s) l = v := (State.num_set ..).trans (if_pos rfl)

theorem sameBut_enterLink (l : Nat) (v : Int) (s : State) : SameBut [K.stwLinkLState l] s (enterLink l v s) :=
  SameBut.set (SameObjects.sameBut (.of_tables rfl rfl) _) List.mem_cons_self

/-- From whatever state, a link that is retrained stands in Align. -/
theorem linkState_retrain (l : Nat) (s : State) : linkState (retrain l s) l = lsAlign := by
  unfold retrain
  split <;> exact linkState_enterLink ..

/-! ### Up (R124, R132) -/

theorem sameObjects_sendOwed (l : Nat) (s : State) : SameObjects s (sendOwed l s) := by
  unfold sendOwed
  extract_lets send s1
  have h1 : SameObjects s s1 := by
    refine .forL (fun x t => ?_) _ s
    exact .ite (.of_tables rfl rfl) (.refl t)
  exact h1.trans (.of_tables rfl rfl)

/-- The part once link l has come Up with a delay. -/
def cameUp (l : Nat) (delay : Int) (s : State) : State :=
  let s1 := (irq 7 s).set (K.stwLinkLDelay l) delay
  sendOwed l (enterLink l lsUp (if l = 0 then s1.set K.stwPartition 0 else s1))

theorem linkState_cameUp (l : Nat) (delay : Int) (s : State) : linkState (cameUp l delay s) l = lsUp :=
  ((sameObjects_sendOwed ..).1 _).trans (linkState_enterLink ..)

theorem sameBut_cameUp (l : Nat) (delay : Int) (s : State) :
    SameBut [K.stwLinkLState l, K.stwLinkLDelay l, K.stwPartition] s (cameUp l delay s) := by
  have h0 : SameObjects s (irq 7 s) := .of_tables (irq_obj 7 s) (irq_blob 7 s)
  have h1 := (h0.sameBut [K.stwLinkLState l, K.stwLinkLDelay l, K.stwPartition]).set (k := K.stwLinkLDelay l) (v := delay) (by simp)
  have h2 := SameBut.ite (c := l = 0) (h1.set (k := K.stwPartition) (v := 0) (by simp)) h1
  exact (h2.trans ((sameBut_enterLink ..).mono (by simp))).andThen (sameObjects_sendOwed ..)

theorem delay_cameUp {l : Nat} (hl : l < 3) (delay : Int) (s : State) : (cameUp l delay s).num (K.stwLinkLDelay l) = delay := by
  have h1 : K.stwLinkLDelay l ∉ [K.stwLinkLState l] := by rw [List.mem_singleton]; exact key_ne (by decide)
  have h2 : K.stwLinkLDelay l ≠ K.stwPartition := by unfold K.stwLinkLDelay K.stwPartition; omega
  refine ((sameObjects_sendOwed ..).1 _).trans (((sameBut_enterLink ..).1 _ h1).trans ?_)
  split
  · rw [State.num_set, if_neg h2, State.num_set, if_pos rfl]
  · rw [State.num_set, if_pos rfl]

/-! ### The end of Measure -/

section
variable {l : Nat} {s : State}

theorem execLinkMeasureDone_waits (h : (s.link l).exchanges.length < 64) (x : Report) : exec (.linkMeasureDone l x) s = .next s :=
  congrArg Host.Outcome.next (if_pos (.inr (.inr h)))

/-- A link in Measure with its 64 exchanges leaves the test of its command. -/
theorem measureTest_passes (hl : l < 3) (hs : linkState s l = lsMeasure) (hn : 64 ≤ (s.link l).exchanges.length) :
    ¬ (¬ isLink l ∨ linkState s l ≠ lsMeasure ∨ (s.link l).exchanges.length < 64) := by
  rintro (h | h | h)
  · exact h hl
  · exact h hs
  · omega

theorem execLinkMeasureDone_up (hl : l < 3) (hs : linkState s l = lsMeasure) (hn : 64 ≤ (s.link l).exchanges.length)
    (h0 : 0 ≤ meanDelay (s.link l).exchanges) (h1 : meanDelay (s.link l).exchanges ≤ 122880) (x : Report) :
    exec (.linkMeasureDone l x) s = .next (cameUp l (meanDelay (s.link l).exchanges) s) :=
  congrArg Host.Outcome.next ((if_neg (measureTest_passes hl hs hn)).trans (if_pos ⟨h0, h1⟩))

theorem execLinkMeasureDone_down (hl : l < 3) (hs : linkState s l = lsMeasure) (hn : 64 ≤ (s.link l).exchanges.length)
    (hd : ¬ (0 ≤ meanDelay (s.link l).exchanges ∧ meanDelay (s.link l).exchanges ≤ 122880)) (x : Report) :
    ∃ u, exec (.linkMeasureDone l x) s = .next (enterLink l lsDown u) :=
  ⟨_, congrArg Host.Outcome.next ((if_neg (measureTest_passes hl hs hn)).trans (if_neg hd))⟩

end

/-- A role reported in Role decides between Miswired and Measure. -/
theorem execLinkRoleExchange_role {l : Nat} {s : State} (hl : l < 3) (hs : linkState s l = lsRole) (far : Nat) :
    exec (.linkRoleExchange l far) s =
      .next (enterLink l (if far = ownRole l then lsMiswired else lsMeasure) (s.setLink l { s.link l with farRole := some far })) :=
  congrArg Host.Outcome.next ((if_neg (by simpa using hl)).trans (if_pos hs))

/-- Settles O27: each arrow of Table 3-7 ends in `enterLink`, which writes the state. -/
theorem linksFollowTheirStates : Obligations.LinksFollowTheirStates := by
  refine ⟨?signal, ?aligned, ?timeout, ?role, ?up, ?down, ?waits, ?errors, ?retrain⟩
  case signal =>
    intro l s hl hs hen hpd
    exact ⟨_, congrArg Host.Outcome.next (if_pos ⟨hl, hs, hen, hpd⟩), linkState_enterLink .., sameBut_enterLink ..⟩
  case aligned =>
    intro l s hl hs
    exact ⟨_, congrArg Host.Outcome.next (if_pos ⟨hl, hs⟩), linkState_enterLink .., sameBut_enterLink ..⟩
  case timeout =>
    intro l s hl hs ht
    exact ⟨_, congrArg Host.Outcome.next (if_pos ⟨hl, hs, ht⟩), linkState_enterLink .., sameBut_enterLink ..⟩
  case role =>
    intro l far s hl hs
    have hlink : SameObjects s (s.setLink l { s.link l with farRole := some far }) := .of_tables rfl rfl
    exact ⟨_, execLinkRoleExchange_role hl hs far, linkState_enterLink .., (hlink.sameBut _).trans (sameBut_enterLink ..)⟩
  case up =>
    intro l x s hl hs hn h0 h1
    exact ⟨_, execLinkMeasureDone_up hl hs hn h0 h1 x, linkState_cameUp .., delay_cameUp hl .., sameBut_cameUp ..⟩
  case down =>
    intro l x s hl hs hn hd
    obtain ⟨u, hu⟩ := execLinkMeasureDone_down hl hs hn (by omega) x
    exact ⟨_, hu, linkState_enterLink ..⟩
  case waits =>
    intro l x s hn
    exact ⟨s, execLinkMeasureDone_waits hn x, rfl⟩
  case errors =>
    intro l s hl hs he
    exact ⟨_, congrArg Host.Outcome.next (if_pos ⟨hl, hs, he⟩), linkState_retrain l s⟩
  case retrain =>
    intro l f w s u hreach hs
    refine ⟨_, congrArg Host.Outcome.next (requestWrite_reaches hreach (retrainEffect l)), ?_⟩
    have heffect : retrainEffect l w (.num 1) u = .ok (retrain l u) := congrArg Reply.ok (if_pos ⟨rfl, hs⟩)
    rw [heffect, finish_ok]
    exact ⟨answered_answer .., (answer_num ..).trans (linkState_retrain l u)⟩

end Sys2Proof.Machine
end

section
/-! PROOFS. Cells (R72, R75 to R77): time cells, cells in error, delay cells and the census. The rounding of the mean of the delay cells is log entry
124; when stw.conflict is set, and the depth that a time cell gives, are log entry 27. -/

namespace Sys2Proof.Machine

theorem link_congr {s t : State} (h : t.links = s.links) (l : Nat) : t.link l = s.link l := by
  unfold State.link
  rw [h]

/-! ### Time cells (R75, R76) -/

/-- Depth, Newel and trace are those of time cell c. -/
structure CellTaken (c : TimeCell) (t : State) : Prop where
  depth : t.num K.stwDepth = (depthFrom c.depth : Nat)
  newel : t.num K.stwNewel = (c.newel : Nat)
  trace : (t.link 0).upTrace = c.trace

theorem CellTaken.congr {c : TimeCell} {s t : State} (h : CellTaken c s) (hl : t.links = s.links)
    (hn : ∀ k, 0x2040 * 256 ≤ k → k < 0x3000 * 256 → t.num k = s.num k) : CellTaken c t :=
  ⟨(hn _ (by decide) (by decide)).trans h.depth, (hn _ (by decide) (by decide)).trans h.newel,
    (congrArg Link.upTrace (link_congr hl 0)).trans h.trace⟩

/-- Whatever follows from a depth, a fault or the loss of the source, it stands, and the trace of the link with it. -/
theorem takeDepth_stands (d : Nat) (s : State) :
    (takeDepth d s).num K.stwDepth = (depthFrom d : Nat) ∧ ((takeDepth d s).link 0).upTrace = (s.link 0).upTrace := by
  unfold takeDepth
  extract_lets n deep s1 x s2
  have h1 : s1.links = s.links := by
    dsimp only [s1]
    split
    · exact fault_links ..
    · rfl
  have hdepth : s2.num K.stwDepth = (depthFrom d : Nat) := (State.num_set ..).trans (if_pos rfl)
  have htrace : (s2.link 0).upTrace = (s.link 0).upTrace := by
    rw [← link_congr h1 0]
    simp [s2, x]
  split
  · have hst := (SourcesStand.refl s2).reselectSource
    exact ⟨(hst.num _ (by decide) (by decide)).trans hdepth, (congrArg Link.upTrace (link_congr hst.links 0)).trans htrace⟩
  · exact ⟨hdepth, htrace⟩

theorem enterLink_upTrace (l : Nat) (v : Int) (s : State) : ((enterLink l v s).link l).upTrace = (s.link l).upTrace := by
  simp [enterLink]

/-- A good time cell of the upstream link is taken, whatever source is selected. -/
theorem execTimeCell_taken {c : TimeCell} (hc : c.crcOk = true) (s : State) : ∃ t, execTimeCell 0 c s = .next t ∧ CellTaken c t := by
  unfold execTimeCell
  rw [if_neg (by decide)]
  extract_lets y s0 x s1 s2 s3 s4 s5
  rw [if_neg (by simp [hc]), if_neg (by decide)]
  have h1 : (s1.link 0).upTrace = c.trace := congrArg Link.upTrace ((State.link_setLink ..).trans (if_pos rfl))
  have h2 : (s2.link 0).upTrace = c.trace := by
    dsimp only [s2]
    split
    · exact (enterLink_upTrace ..).trans h1
    · exact h1
  obtain ⟨hdepth, htrace⟩ := takeDepth_stands c.depth s2
  have h3 : CellTaken c s3 :=
    ⟨(State.num_set ..).trans ((if_neg (by decide)).trans hdepth), (State.num_set ..).trans (if_pos rfl), htrace.trans h2⟩
  have h4 : CellTaken c s4 := by
    dsimp only [s4]
    split
    · exact h3.congr rfl (fun k _ _ => rfl)
    · exact h3
  have h5 : CellTaken c s5 := by
    dsimp only [s5]
    split
    · exact h4.congr (disqualify_links 1 s4) (fun k hk hk' => disqualify_num hk hk' 1 s4)
    · exact h4
  refine ⟨_, rfl, ?_⟩
  split
  · have hst := (SourcesStand.refl s5).setTrace c.trace
    exact h5.congr hst.links hst.num
  · exact h5

/-! ### Cells in error -/

theorem crcError_counts (l : Nat) (time : Bool) (s : State) :
    (crcError l time s).num (K.stwLinkLCrcErrors l) = min (s.num (K.stwLinkLCrcErrors l) + 1) (maxWord 32) :=
  (State.num_inc ..).trans (if_pos rfl)

theorem sameBut_crcError (l : Nat) (time : Bool) (s : State) : SameBut [K.stwLinkLCrcErrors l] s (crcError l time s) :=
  SameBut.inc (SameObjects.sameBut (.of_tables rfl rfl) _) List.mem_cons_self

/-- The part once the start character of a time cell on link l has been judged. -/
def startJudged (l : Nat) (c : TimeCell) (s : State) : State :=
  s.setLink l { s.link l with badStart := if c.good then 0 else (s.link l).badStart + 1 }

theorem sameObjects_startJudged (l : Nat) (c : TimeCell) (s : State) : SameObjects s (startJudged l c s) := .of_tables rfl rfl

theorem execTimeCell_error {l : Nat} {c : TimeCell} (hl : l < 3) (hc : c.crcOk = false) (s : State) :
    exec (.timeCell l c) s = .next (crcError l true (startJudged l c s)) :=
  congrArg Host.Outcome.next ((if_neg (by simpa using hl)).trans (if_pos (by rw [hc]; rfl)))

/-! ### Delay cells (R75) -/

/-- The part with one more value of d_down on link l. -/
def delayKept (l : Nat) (d : Int) (s : State) : State :=
  let xs := d :: (s.link l).exchanges.take 1023
  (s.setLink l { s.link l with exchanges := xs }).set (K.stwLinkLDelay l) (clampI (meanDelay xs) 0 0xFFFFFFFF)

theorem delayKept_delay (l : Nat) (d : Int) (s : State) : (delayKept l d s).num (K.stwLinkLDelay l) =
    clampI (meanDelay (d :: (s.link l).exchanges.take 1023)) 0 0xFFFFFFFF := (State.num_set ..).trans (if_pos rfl)

theorem sameBut_delayKept (l : Nat) (d : Int) (s : State) : SameBut [K.stwLinkLDelay l] s (delayKept l d s) :=
  SameBut.set (SameObjects.sameBut (.of_tables rfl rfl) _) List.mem_cons_self

/-- The value that a delay cell gives: of the upstream link the one it reports, else the one its stamps give. -/
theorem execDelayCell_good {l : Nat} {c : DelayCell} (hl : l < 3) (hc : c.crcOk = true) (s : State) :
    exec (.delayCell l c) s = .next (delayKept l
      (if l = 0 then c.dDown else qdiv ((c.t4 - c.t1) - (c.t3 - c.t2) + s.num (K.stwLinkLAsym l)) 2) s) :=
  congrArg Host.Outcome.next ((if_neg (by simpa using hl)).trans (if_neg (by rw [hc]; decide)))

/-! ### The census (R77) -/

/-- The addresses that stand twice, as this part finds them in a census. -/
def foundTwice (s : State) (subA subB dups : List Nat) : List Nat :=
  dups ++ subA.filter (fun a => decide (a ∈ subB)) ++ (if s.nat K.stwAddr ∈ subA ++ subB then [s.nat K.stwAddr] else [])

theorem own_mem_foundTwice (s : State) (subA subB dups : List Nat) :
    s.nat K.stwAddr ∈ foundTwice s subA subB dups ↔ s.nat K.stwAddr ∈ dups ∨ s.nat K.stwAddr ∈ subA ∨ s.nat K.stwAddr ∈ subB := by
  unfold foundTwice
  by_cases h : s.nat K.stwAddr ∈ subA ++ subB
  · simpa [h] using .inr (List.mem_append.1 h)
  · have hAB := not_or.1 (mt List.mem_append.2 h)
    simp [hAB.1, hAB.2]

/-- The part with the addresses below its downstream links, and those that stand twice. -/
def censusKept (subA subB twice : List Nat) (s : State) : State :=
  let s1 := s.setLink 1 { s.link 1 with below := subA }
  { s1.setLink 2 { s1.link 2 with below := subB } with dups := twice }

theorem censusKept_below (subA subB twice : List Nat) (s : State) :
    ((censusKept subA subB twice s).link 1).below = subA ∧ ((censusKept subA subB twice s).link 2).below = subB := by
  have h1 : (censusKept subA subB twice s).link 1 = { s.link 1 with below := subA } :=
    (State.link_setLink _ 2 1 _).trans ((if_neg (by decide)).trans ((State.link_setLink s 1 1 _).trans (if_pos rfl)))
  have h2 := State.link_setLink (s.setLink 1 { s.link 1 with below := subA }) 2 2
    { (s.setLink 1 { s.link 1 with below := subA }).link 2 with below := subB }
  exact ⟨congrArg Link.below h1, congrArg Link.below (h2.trans (if_pos rfl))⟩

/-- A census keeps the addresses below each downstream link, and writes the conflict and the count last. -/
theorem execCensus_kept (parts : Nat) (subA subB dups : List Nat) (s : State) :
    ∃ u : State, exec (.census parts subA subB dups) s =
        .next ((u.setFlag K.stwConflict (decide (s.nat K.stwAddr ∈ foundTwice s subA subB dups))).set K.stwCensus (parts : Int)) ∧
      u.links = (censusKept subA subB (foundTwice s subA subB dups) s).links := by
  refine ⟨if s.nat K.stwAddr ∈ foundTwice s subA subB dups ∧ !s.flag K.stwConflict then
      fault 0x05 0 2 (evCode 0x02 6) (s.nat K.stwAddr) 0 0 0 (censusKept subA subB (foundTwice s subA subB dups) s)
    else censusKept subA subB (foundTwice s subA subB dups) s, rfl, ?_⟩
  split
  · exact fault_links ..
  · rfl

/-- Settles O28: a good time cell is taken whatever follows from its depth, and each other cell ends in the writes of its own objects. -/
theorem cellsAreTaken : Obligations.CellsAreTaken := by
  refine ⟨?time, ?error, ?delay, ?upstream, ?census⟩
  case time =>
    intro c s hc
    obtain ⟨t, ht, hcell⟩ := execTimeCell_taken hc s
    exact ⟨t, ht, hcell.depth, hcell.newel, hcell.trace⟩
  case error =>
    intro l c s hl hc
    have hsame := sameObjects_startJudged l c s
    refine ⟨_, execTimeCell_error hl hc s, ?_, (hsame.sameBut _).trans (sameBut_crcError ..)⟩
    rw [crcError_counts, hsame.1]
  case delay =>
    intro l c s h1 hl hc
    refine ⟨_, execDelayCell_good hl hc s, ?_, sameBut_delayKept ..⟩
    rw [delayKept_delay, if_neg (by omega)]
  case upstream =>
    intro c s hc
    refine ⟨_, execDelayCell_good (by decide) hc s, ?_, sameBut_delayKept ..⟩
    rw [delayKept_delay, if_pos rfl]
  case census =>
    intro parts subA subB dups s
    obtain ⟨u, hu, hlinks⟩ := execCensus_kept parts subA subB dups s
    obtain ⟨hA, hB⟩ := censusKept_below subA subB (foundTwice s subA subB dups) s
    refine ⟨_, hu, (State.num_set ..).trans (if_pos rfl), ?_, ?_, ?_⟩
    · exact (congrArg Link.below (link_congr hlinks 1)).trans hA
    · exact (congrArg Link.below (link_congr hlinks 2)).trans hB
    rw [State.num_set, if_neg (by decide), State.num_setFlag, if_pos rfl, ← own_mem_foundTwice]
    simp

end Sys2Proof.Machine
end

section
/-! PROOFS. Snapshots (R80, R81): held against their tick, or taken, which of the snapshots' own objects writes the last three. -/

namespace Sys2Proof.Machine

/-! ### Taking a snapshot (R80) -/

theorem restartAcc_num {k : Nat} (hk : k < 0x3000 * 256) (a : Nat) (s : State) : (restartAcc a s).num k = s.num k := by
  unfold restartAcc
  extract_lets n v
  split
  · have h : ∀ i, 0x3000 ≤ i → k ≠ i * 256 + a % 128 := by intro i hi; omega
    simp only [State.num_set]
    rw [if_neg (h _ (by omega)), if_neg (h _ (by omega)), if_neg (h _ (by omega))]
  · rfl

theorem clearTr_num {k : Nat} (hk : k < 0x3000 * 256) (a : Nat) (s : State) : (clearTr a s).num k = s.num k := by
  have h : ∀ i, 0x3000 ≤ i → k ≠ i * 256 + a % 128 := by intro i hi; omega
  unfold clearTr
  simp only [State.num_set]
  rw [if_neg (h _ (by omega)), if_neg (h _ (by omega)), if_neg (h _ (by omega)), if_neg (h _ (by omega))]

theorem restartAcc_time (a : Nat) (s : State) : (restartAcc a s).time = s.time := State.time_ite rfl rfl

theorem clearTr_time (a : Nat) (s : State) : (clearTr a s).time = s.time := rfl

/-- The part whose values have been copied, and whose accumulators and trackers that empty on a snapshot have been emptied. -/
def snapCopied (s : State) : State :=
  let s1 := forL (accsOnSnap s) restartAcc { s with snap := snapValues s }
  forL (trsOnSnap s) clearTr s1

theorem snapCopied_time (s : State) : (snapCopied s).time = s.time :=
  (forL_time clearTr_time _ _).trans (forL_time restartAcc_time _ _)

theorem snapCopied_num {k : Nat} (hk : k < 0x3000 * 256) (s : State) : (snapCopied s).num k = s.num k :=
  (forL_fixes (State.num · k) clearTr (clearTr_num hk) _ _).trans (forL_fixes (State.num · k) restartAcc (restartAcc_num hk) _ _)

/-- What a snapshot shows: its tick, its number and whether it was late. -/
structure SnapTaken (late : Bool) (s t : State) : Prop where
  late : t.num K.snapLate = if late then 1 else 0
  tick : t.num K.snapTick = (s.tbNow : Nat)
  seq : t.num K.snapSeq = (s.num K.snapSeq + 1) % 4294967296
  time : t.time = s.time

theorem takeSnapshot_taken (late : Bool) (s : State) : SnapTaken late s (takeSnapshot late s) := by
  unfold takeSnapshot
  extract_lets s1 s2
  have h2 : s2 = snapCopied s := rfl
  rw [h2, snapCopied_num (by decide)]
  refine ⟨?_, ?_, ?_, ?_⟩
  · rw [State.num_set, if_neg (by decide), State.num_set, if_neg (by decide), State.num_setFlag, if_pos rfl]
  · rw [State.num_set, if_pos rfl]
  · rw [State.num_set, if_neg (by decide), State.num_set, if_pos rfl]
  · rw [State.set_time, State.set_time, State.setFlag_eq, State.set_time, snapCopied_time]

/-! ### Requests and triggers (R81) -/

theorem dueSnapshot_due (n : Nat) (s : State) : (dueSnapshot n s).time.snapDue = s.time.snapDue ++ [n] := rfl

theorem sameObjects_dueSnapshot (n : Nat) (s : State) : SameObjects s (dueSnapshot n s) := .of_tables rfl rfl

/-- An effect that answers OK, with the time and the objects it leaves. -/
theorem finish_held (w : Who) (f : Frame) (s : State) : Answered (finish w kWrite f (.ok s)) w stOk ∧
    SameObjects s (finish w kWrite f (.ok s)) ∧ (finish w kWrite f (.ok s)).time = s.time :=
  ⟨answered_answer .., sameObjects_answer .., answer_time ..⟩

/-- The part once a snapshot of its own has been asked for: held against the tick named, or due at the next one. -/
def snapAsked (d : Int) (s : State) : State :=
  if d = noTime then { s with time := { s.time with snapNext := s.time.snapNext ++ [s.time.now + 1] } } else dueSnapshot (tbTicks d.toNat) s

theorem snapLocalEffect_num (w : Who) (d : Int) (s : State) : snapLocalEffect w (.num d) s = .ok (snapAsked d s) := rfl

theorem sameObjects_snapAsked (d : Int) (s : State) : SameObjects s (snapAsked d s) := .ite (.of_tables rfl rfl) (sameObjects_dueSnapshot ..)

theorem snapAsked_next {d : Int} (h : d = noTime) (s : State) : (snapAsked d s).time.snapNext = s.time.snapNext ++ [s.time.now + 1] := by
  unfold snapAsked
  rw [if_pos h]

theorem snapAsked_due {d : Int} (h : d ≠ noTime) (s : State) : (snapAsked d s).time.snapDue = s.time.snapDue ++ [tbTicks d.toNat] := by
  unfold snapAsked
  rw [if_neg h, dueSnapshot_due]

theorem snapSystemEffect_held {w : Who} {d : Int} {u : State} (hn : isNewel u = true) (hd : d ≠ noTime)
    (hahead : u.time.tb + 12288000 ≤ tbTicks d.toNat) :
    snapSystemEffect w (.num d) u = .ok (dueSnapshot (tbTicks d.toNat) (sendDown 0x21 [(tbTicks d.toNat : Int)] u)) := by
  refine if_neg ?_
  rintro (h | h | h)
  · simp [hn] at h
  · exact hd h
  · exact absurd hahead (Nat.not_le.2 h)

theorem snapSystemEffect_refused {u : State} (hn : isNewel u = false) (w : Who) (v : Val) : snapSystemEffect w v u = .no u stRange :=
  if_pos (.inl (by rw [hn]; rfl))

/-- One snapshot is due. -/
theorem execSnapshotDue_one {d : Nat} {s : State} (hdue : s.time.snapDue = [d]) (hnext : s.time.snapNext = []) (hd : d ≤ s.time.tb) :
    exec .snapshotDue s = .next (takeSnapshot false { s with time := { s.time with snapDue := [], snapNext := [] } }) := by
  have hlate : ¬ s.time.tb < d := by omega
  refine congrArg Host.Outcome.next ?_
  simp [hdue, hnext, hd, hlate, forL]

/-- Settles O29: a request or a trigger ahead of its tick adds to the snapshots that are held, and one that is late or due is `takeSnapshot`. -/
theorem snapshotsAreTaken : Obligations.SnapshotsAreTaken := by
  refine ⟨?onePart, ?system, ?refused, ?late, ?ahead, ?due⟩
  case onePart =>
    intro f w d s u hreach
    refine ⟨_, congrArg Host.Outcome.next (requestWrite_reaches hreach snapLocalEffect), ?_⟩
    rw [snapLocalEffect_num]
    obtain ⟨hans, hsame, htime⟩ := finish_held w { f with index := K.snapLocal / 256, sub := K.snapLocal % 256 } (snapAsked d u)
    rw [htime]
    exact ⟨hans, (sameObjects_snapAsked d u).trans hsame, fun hd => snapAsked_next hd u, fun hd => snapAsked_due hd u⟩
  case system =>
    intro f w d s u hreach hn hd hahead
    refine ⟨_, congrArg Host.Outcome.next (requestWrite_reaches hreach snapSystemEffect), ?_⟩
    rw [snapSystemEffect_held hn hd hahead]
    obtain ⟨hans, hsame, htime⟩ := finish_held w { f with index := K.snapSystem / 256, sub := K.snapSystem % 256 }
      (dueSnapshot (tbTicks d.toNat) (sendDown 0x21 [(tbTicks d.toNat : Int)] u))
    refine ⟨hans, ((sameObjects_sendDown ..).trans (sameObjects_dueSnapshot ..)).trans hsame, ?_⟩
    rw [htime, dueSnapshot_due, sendDown_time]
  case refused =>
    intro f w v s u hreach hn
    refine ⟨_, congrArg Host.Outcome.next (requestWrite_reaches hreach snapSystemEffect), ?_⟩
    rw [snapSystemEffect_refused hn]
    exact finish_no ..
  case late =>
    intro n s hn
    have hsent := sameObjects_sendDown 0x21 [(n : Int)] s
    obtain ⟨hlate, htick, hseq, -⟩ := takeSnapshot_taken true (sendDown 0x21 [(n : Int)] s)
    rw [hsent.1] at hseq
    rw [State.tbNow, sendDown_time] at htick
    exact ⟨_, congrArg Host.Outcome.next (if_pos hn), hlate, htick, hseq⟩
  case ahead =>
    intro n s hn
    refine ⟨_, congrArg Host.Outcome.next (if_neg (Nat.not_lt.2 hn)), ?_, (sameObjects_sendDown ..).trans (sameObjects_dueSnapshot ..)⟩
    rw [dueSnapshot_due, sendDown_time]
  case due =>
    intro d s hdue hnext hd
    obtain ⟨hlate, htick, hseq, htime⟩ := takeSnapshot_taken false { s with time := { s.time with snapDue := [], snapNext := [] } }
    exact ⟨_, execSnapshotDue_one hdue hnext hd, congrArg Time.snapDue htime, hlate, htick, hseq⟩

end Sys2Proof.Machine
end

section
/-! PROOFS. The execution of launch entries and pattern actions (R88 to R91, R99): a row of Table 4-2 runs its entry when the entry's turn has come,
and beyond its action an execution writes the counts of the launch table, its entry's status and a mark. -/

namespace Sys2Proof.Machine

/-! ### A row and its turn -/

/-- The command of a launch kind is `launchStep` of that kind. -/
theorem exec_launchRow {kind : Nat} {row : LaunchSrc → Instr} (h : launchRow kind = some row) (l : LaunchSrc) (s : State) :
    exec (row l) s = .next (launchStep kind l s) := by
  unfold launchRow at h
  split at h <;> cases h <;> rfl

theorem launchStep_entry {kind n : Nat} {s : State} (hready : entryReady s n = true) (hidle : walkersIdle s = true)
    (hkind : (entryAction (entryOct s n)).kind = kind) : launchStep kind (.entry n) s = runEntry n s :=
  if_pos (by simp [hready, hidle, hkind])

theorem launchStep_entry_waits {n : Nat} {s : State} (h : entryReady s n = false) (kind : Nat) : launchStep kind (.entry n) s = s :=
  if_neg (by simp [h])

theorem launchStep_action {kind p a : Nat} {s : State} (hready : actionReady s p a = true)
    (hkind : (actAction (s.oct (K.patAction p a))).kind = kind) : launchStep kind (.action p a) s = runPatternAction p a s :=
  if_pos (by simp [hready, hkind])

/-- The command of an entry whose turn has come does what the execution of the entry does. -/
theorem does_of_runEntry {kind n : Nat} {row : LaunchSrc → Instr} {s : State} {post : State → Prop} (hrow : launchRow kind = some row)
    (hready : entryReady s n = true) (hidle : walkersIdle s = true) (hkind : (entryAction (entryOct s n)).kind = kind)
    (h : post (runEntry n s)) : Does (row (.entry n)) s post :=
  ⟨_, (exec_launchRow hrow _ s).trans (congrArg Host.Outcome.next (launchStep_entry hready hidle hkind)), h⟩

/-! ### What an execution writes beyond its action -/

theorem doneStatus_cases (s : State) (n : Nat) (held : Bool) :
    doneStatus s n held = leDone ∨ doneStatus s n held = leLate ∨ doneStatus s n held = leHeld := by
  unfold doneStatus
  split
  · exact .inr (.inr rfl)
  · split
    · exact .inr (.inl rfl)
    · exact .inl rfl

theorem executed_runEntry (n : Nat) (s : State) : Executed (runEntry n s) n := by
  have h : (runEntry n s).num (K.ltStatus n) = doneStatus _ n _ := (State.num_set ..).trans (if_pos rfl)
  unfold Executed
  rw [h]
  exact doneStatus_cases ..

theorem sameBut_entryDone (n : Nat) (held : Bool) (s : State) : SameBut [K.ltExecuted, K.ltLate, K.ltStatus n] s (entryDone n held s) := by
  have hcount : SameBut [K.ltExecuted, K.ltLate, K.ltStatus n] s (s.inc K.ltExecuted 64) := (SameBut.refl _ s).inc (by simp)
  exact (SameBut.ite (hcount.inc (by simp)) hcount).set (by simp)

/-- An execution writes the objects of its action, the counts of the launch table and the status of its entry. -/
theorem sameBut_runEntry (n : Nat) (s : State) :
    SameBut [K.ltExecuted, K.ltLate, K.ltStatus n] (runAction (entryAction (entryOct s n)) (some n) s) (runEntry n s) :=
  ((SameObjects.of_tables rfl rfl).sameBut _).trans (sameBut_entryDone ..)

/-- An object outside the launch table stands after an execution as its action has left it. -/
theorem runEntry_num {n k : Nat} (hn : n < 4096) (hk : k < 0x2100 * 256 ∨ 0x2130 * 256 ≤ k) (s : State) :
    (runEntry n s).num k = (runAction (entryAction (entryOct s n)) (some n) s).num k := by
  refine (sameBut_runEntry n s).1 k ?_
  simp only [List.mem_cons, List.not_mem_nil, or_false]
  unfold K.ltExecuted K.ltLate K.ltStatus
  omega

/-- Settles O30: the last write of an execution is the status of its entry, and a turn that has not come leaves the state alone. -/
theorem launchEntriesExecute : Obligations.LaunchEntriesExecute := by
  refine ⟨?entry, ?waits, ?action⟩
  case entry =>
    intro kind row n s hrow _ hready hidle hkind
    exact does_of_runEntry hrow hready hidle hkind (executed_runEntry n s)
  case waits =>
    intro kind row n s hrow hready
    exact ⟨s, (exec_launchRow hrow _ s).trans (congrArg Host.Outcome.next (launchStep_entry_waits hready kind)), rfl⟩
  case action =>
    intro kind row p a s hrow hready hkind
    exact ⟨_, (exec_launchRow hrow _ s).trans (congrArg Host.Outcome.next (launchStep_action hready hkind)), rfl⟩

end Sys2Proof.Machine
end

section
/-! PROOFS. The launch of a port change (R88) where the port's window was opened by a number outside the launch table. The end of a lost window gives
the entry that opened it status 5 (Table 4-3), and a number far enough beyond the table leads that write to an object of another block. -/

namespace Sys2Proof.Machine

/-! ### What an event writes (R335 to R341) -/

/-- The objects that the entry of a record writes. -/
def recordKeys : List Nat := [K.recNext, K.recBuffered, K.recDropped, K.recPermFull]

theorem sameObjects_startFlush (s : State) : SameObjects s (startFlush s) := by
  unfold startFlush
  split
  · exact .refl s
  · exact .ite (.refl s) (.of_tables rfl rfl)

theorem sameBut_bufferRec (r : Rec) (s : State) : SameBut recordKeys s (bufferRec r s) := by
  unfold bufferRec
  extract_lets n log s1 s2 s3
  have h2 : SameObjects s s2 := .ite (.of_tables rfl rfl) (.of_tables rfl rfl)
  have h3 : SameBut recordKeys s s3 := ((h2.sameBut _).set (by simp [recordKeys])).set (by simp [recordKeys])
  exact .ite (h3.andThen (sameObjects_startFlush s3)) h3

theorem sameBut_countDrop (s : State) : SameBut recordKeys s (countDrop s) :=
  SameBut.andThen ((SameBut.refl _ s).inc (k := K.recDropped) (n := 32) (by simp [recordKeys])) (.of_tables rfl rfl)

theorem sameBut_placeRec (r : Rec) (s : State) : SameBut recordKeys s (placeRec r s) := by
  refine .ite (sameBut_bufferRec ..) (.ite ?_ ((SameObjects.of_tables rfl rfl).sameBut _))
  split
  · exact SameBut.trans (SameBut.trans ((SameObjects.of_tables rfl rfl).sameBut _) (sameBut_countDrop _)) (sameBut_bufferRec ..)
  · exact sameBut_countDrop s

theorem sameBut_enterOne (r : Rec) (s : State) : SameBut recordKeys s (enterOne r s) :=
  .ite (.refl _ s) (.ite ((SameObjects.of_tables rfl rfl).sameBut _) (sameBut_placeRec ..))

theorem sameBut_event (code p0 p1 p2 p3 : Nat) (s : State) : SameBut recordKeys s (event code p0 p1 p2 p3 s) := by
  refine .ite (SameBut.trans (SameBut.set (sameBut_enterOne ..) ?_) (sameBut_enterOne ..)) (sameBut_enterOne ..)
  simp [recordKeys]

theorem sameBut_releasePort (p b : Nat) (s : State) : SameBut [K.portMutes p] s (releasePort p b s) :=
  .ite (((SameObjects.of_tables (irq_obj ..) (irq_blob ..)).sameBut _).set List.mem_cons_self) (.refl _ s)

/-! ### The end of a lost window, and a port that leaves Relay (R140, Table 4-3) -/

/-- The objects that the end of a lost window of port p writes beside the status of its opener. -/
def lostWindowKeys (p : Nat) : List Nat := K.fltSticky :: K.ltLostWindows :: K.portWindowsLost p :: K.portMutes p :: recordKeys

/-- The end of a lost window gives its opener status 5, wherever the status of the number stands. -/
theorem windowEnd_opener {p n : Nat} {s : State} (hopen : (s.port p).window = true) (hlost : (s.port p).lost = true)
    (hopener : (s.port p).opener = some n) (hdone : s.num (K.ltStatus n) = leDone) (hn : K.ltStatus n ∉ lostWindowKeys p) :
    (windowEnd p s).num (K.ltStatus n) = leLost := by
  unfold windowEnd
  extract_lets x s2 s1
  have hcount : SameBut (lostWindowKeys p) s (((s.sticky skWindowLost).inc K.ltLostWindows 32).inc (K.portWindowsLost p) 32) :=
    (((SameBut.refl _ s).set (by simp [lostWindowKeys])).inc (by simp [lostWindowKeys])).inc (by simp [lostWindowKeys])
  have h2 : s2.num (K.ltStatus n) = leDone :=
    ((hcount.trans ((sameBut_event ..).mono fun k hk => by simp [lostWindowKeys, hk])).1 _ hn).trans hdone
  have h1 : s1.num (K.ltStatus n) = leLost := by
    dsimp only [s1]
    rw [if_pos ⟨hopen, hlost⟩, hopener]
    dsimp only
    rw [if_pos (.inl h2), State.num_set, if_pos rfl]
  have hfree : SameBut [K.portMutes p] s1 (freeHold p (s1.setPort p { s1.port p with window := false, lost := false, opener := none })) :=
    SameBut.trans ((SameObjects.of_tables rfl rfl).sameBut _) (.ite (.refl _ _) (sameBut_releasePort ..))
  exact (hfree.1 _ fun h => hn (by simp [lostWindowKeys, List.mem_singleton.1 h])).trans h1

theorem beginMove_num_of_relay {p k : Nat} {s : State} {dest : Int} (h : s.num (K.portState p) = psRelay) (hd : dest ≠ psRelay)
    (hk : k ≠ K.portChangingTo p) : (beginMove p dest s).num k = (windowEnd p s).num k := by
  unfold beginMove
  extract_lets st s1 s2 port s3
  have h1 : s1 = windowEnd p s := if_pos h
  have h2 : s2 = s1 := if_neg fun hc => hd hc.1
  rw [State.num_set, if_neg hk, ← h1, ← h2]
  rfl

/-- A port in Relay that no calibration holds goes to Listen when it is wanted elsewhere. -/
theorem moveOn_of_relay {p : Nat} {s : State} (hc : changing s p = false) (h : s.num (K.portState p) = psRelay)
    (hcal : calHolds s p = false) (hw : wantState s p ≠ psRelay) : moveOn p s = beginMove p psListen s := by
  have hnext : nextState psRelay (wantState s p) = psListen := by simp [nextState, hw]
  unfold moveOn
  rw [h, hc, hcal]
  dsimp only
  rw [hnext]
  simp

/-! ### An opener beyond the launch table -/

/-- The part serves, and entry 3 is due: port 5, in Relay, is to go to Standby. Its open window is lost, and the number it holds for the entry that
opened it is one whose status would stand where the port's own target does. -/
def strayOpener : State :=
  let s := [(K.pdBootStage, 6), (K.tbState, tsLocked), (K.ltStatus 3, leArmed), (K.portState 5, psRelay)].foldl
    (fun s e => s.set e.1 e.2) State.reset
  let t := { s with time := { Time.fresh with running := true } }
  (t.setPort 5 { Port.fresh with window := true, lost := true, opener := some (K.portTarget 5 - K.ltStatus 0) }).setOct (K.ltEntry 3)
    (leBytes 8 0 ++ leBytes 1 1 ++ [0] ++ leBytes 2 5 ++ leBytes 4 2)

theorem strayOpener_ready : entryReady strayOpener 3 = true := by decide

theorem strayOpener_idle : walkersIdle strayOpener = true := by decide

theorem strayOpener_action : entryAction (entryOct strayOpener 3) = ⟨0x01, 5, 2⟩ := by decide

/-- The part when the launched target stands. -/
def strayTargeted : State := strayOpener.set (K.portTarget 5) 2

theorem strayTargeted_leaves : moveOn 5 strayTargeted = beginMove 5 psListen strayTargeted :=
  moveOn_of_relay (by decide) (by decide) (by decide) (by decide)

/-- The port's target is 2, which the end of the window takes for the status of a done entry. -/
theorem strayOpener_target : (runEntry 3 strayOpener).num (K.portTarget 5) = leLost := by
  have haction : runAction ⟨0x01, 5, 2⟩ (some 3) strayOpener = moveOn 5 strayTargeted := rfl
  rw [runEntry_num (by decide) (by decide), strayOpener_action, haction, strayTargeted_leaves,
    beginMove_num_of_relay (by decide) (by decide) (by decide)]
  exact windowEnd_opener (n := K.portTarget 5 - K.ltStatus 0) (by decide) (by decide) (by decide) (by decide) (by decide)

/-- Refutes O31: in `strayOpener` the launched target is overwritten by status 5 of the opener, which lies outside the launch table. The clause of
PORT_STATE_CHANGE lacks the premise that the opener of the port's window, if any, is an entry (below 4096). -/
theorem not_launchKindsActOnTheirTarget : ¬ Obligations.LaunchKindsActOnTheirTarget := by
  intro h
  obtain ⟨hport, -⟩ := h 3 ⟨0x01, 5, 2⟩ strayOpener (by decide) strayOpener_ready strayOpener_idle strayOpener_action
  obtain ⟨t, ht, htarget⟩ := hport rfl (by decide)
  have hrun : exec (.portStateChange (.entry 3)) strayOpener = .next (runEntry 3 strayOpener) :=
    congrArg Host.Outcome.next (launchStep_entry strayOpener_ready strayOpener_idle (congrArg Action.kind strayOpener_action))
  have hrunt : runEntry 3 strayOpener = t := Host.Outcome.next.inj (hrun.symm.trans ht)
  rw [← hrunt, strayOpener_target] at htarget
  exact absurd htarget (by decide)

end Sys2Proof.Machine
end

section
/-! PROOFS. What the launch kinds for rails, banks, snapshots, calibrations, the Gallery and feeds write (Table 4-2), and what they leave of the
object they are about. -/

namespace Sys2Proof.Machine

/-! ### Rails (R280) -/

theorem sameBut_moveRef (r delay rate goal : Nat) (s : State) : SameBut [K.rlVref r] s (moveRef r delay rate goal s) :=
  SameBut.set ((SameObjects.of_tables rfl rfl).sameBut _) List.mem_cons_self

theorem sameObjects_shedPhase (r k : Nat) (byLoad : Bool) (s : State) : SameObjects s (shedPhase r k byLoad s) := .of_tables rfl rfl

theorem sameBut_readdPhases (r : Nat) (l : List Nat) (s : State) : SameBut [K.rlActivePhases r] s (readdPhases r l s) :=
  SameBut.set ((SameObjects.of_tables rfl rfl).sameBut _) List.mem_cons_self

theorem sameBut_schedulePhases (r n : Nat) (s : State) : SameBut [K.rlActivePhases r] s (schedulePhases r n s) := by
  refine .ite (sameBut_readdPhases ..) (SameObjects.sameBut ?_ _)
  exact .forL (fun k t => sameObjects_shedPhase r k false t) _ s

/-- The set-point that is selected stands, whether the rail moves or not. -/
theorem selectSetpoint_setpoint (r n : Nat) (s : State) : (selectSetpoint r n s).num (K.rlSetpoint r) = n := by
  unfold selectSetpoint
  split
  · assumption
  · extract_lets s1 v g s3 rail s2
    have h1 : s1.num (K.rlSetpoint r) = n := (State.num_set ..).trans (if_pos rfl)
    have h3 : SameBut [K.rlVref r] s1 s3 := sameBut_moveRef ..
    have h2 : SameBut [K.rlVref r] s1 s2 := .ite (.refl _ s1) (h3.andThen (.of_tables rfl rfl))
    have hset : s2.num (K.rlSetpoint r) = n := (h2.1 _ (mt List.mem_singleton.1 (key_ne (by decide)))).trans h1
    split
    · exact h1
    · exact ((sameBut_schedulePhases ..).1 _ (mt List.mem_singleton.1 (key_ne (by decide)))).trans hset

theorem railSelect_setpoint {r : Nat} {s : State} (h : s.num (K.rlSelSource r) ≠ 1) (n : Nat) :
    (railSelect r n s).num (K.rlSetpoint r) = n := by
  unfold railSelect
  rw [if_neg h, selectSetpoint_setpoint]

/-! ### Channels, seen from the objects of their slice -/

/-- From s to t no object of a slice's banks and fades has changed: the last of the 16 indices of a channel's block, below 0x6000. -/
def SlicesStand (s t : State) : Prop := ∀ k, k / 256 % 16 = 15 → k < 0x6000 * 256 → t.num k = s.num k

namespace SlicesStand

variable {s0 s t : State}

protected theorem refl (s : State) : SlicesStand s s := fun _ _ _ => rfl

protected theorem trans (h : SlicesStand s0 s) (h' : SlicesStand s t) : SlicesStand s0 t :=
  fun k h15 hk => (h' k h15 hk).trans (h k h15 hk)

protected theorem congr (h : SlicesStand s0 s) (ht : t.obj = s.obj) : SlicesStand s0 t := h.trans fun k _ _ => State.num_congr ht k

protected theorem set {k : Nat} {v : Int} (h : SlicesStand s0 s) (hk : 0x6000 * 256 ≤ k) : SlicesStand s0 (s.set k v) :=
  h.trans fun j _ hj => by rw [State.num_set, if_neg (by omega)]

protected theorem setMutes {c : Nat} {v : Int} (h : SlicesStand s0 s) : SlicesStand s0 (s.set (K.chMutes c) v) :=
  h.trans fun j h15 _ => by rw [State.num_set, if_neg (by unfold K.chMutes; omega)]

protected theorem ite {c : Prop} [Decidable c] (hs : SlicesStand s0 s) (ht : SlicesStand s0 t) : SlicesStand s0 (if c then s else t) := by
  split <;> assumption

protected theorem forL {α : Type} {f : α → State → State} (hf : ∀ a s, SlicesStand s (f a s)) (l : List α) (s : State) :
    SlicesStand s (forL l f s) :=
  fun k h15 hk => forL_fixes (State.num · k) f (fun a t => hf a t k h15 hk) l s

protected theorem setGain (h : SlicesStand s0 s) (c : Nat) (g : Int) : SlicesStand s0 (setGain c g s) :=
  (h.setMutes.set (le_key (by decide))).set (le_key (by decide))

protected theorem reload (h : SlicesStand s0 s) (c : Nat) : SlicesStand s0 (reload c s) := by
  unfold reload
  extract_lets pRes x s1 s2 s3 s4 chan s5
  have h1 : SlicesStand s0 s1 := h.congr (by rfl)
  have h2 : SlicesStand s0 s2 := SlicesStand.set (h1.set (le_key (by decide))) (le_key (by decide))
  have h4 : SlicesStand s0 s4 := (h2.set (le_key (by decide))).setGain c _
  have h5 : SlicesStand s0 s5 := h4.congr (by rfl)
  exact h5.set (le_key (by decide))

protected theorem markWindow (h : SlicesStand s0 s) (c : Nat) : SlicesStand s0 (markWindow c s) :=
  .ite (h.congr (by rfl)) (h.congr (by rfl))

protected theorem releaseCh (h : SlicesStand s0 s) (c b : Nat) : SlicesStand s0 (releaseCh c b s) := by
  unfold releaseCh
  extract_lets w s1
  have h1 : SlicesStand s0 s1 := h.setMutes
  exact .ite h1 (.ite (.ite (h1.reload c) (h1.markWindow c)) (.ite (.ite (h1.congr (by rfl)) (h1.reload c)) h1))

protected theorem raiseCh (h : SlicesStand s0 s) (c b : Nat) : SlicesStand s0 (raiseCh c b s) := by
  unfold raiseCh
  extract_lets w x s1
  have h1 : SlicesStand s0 s1 := .ite h (.ite (h.congr (by rfl)) (.ite (h.congr (by rfl)) h))
  exact h1.setMutes

protected theorem showPermit (h : SlicesStand s0 s) (c : Nat) (n : Option Nat) : SlicesStand s0 (showPermit c n s) := by
  unfold showPermit
  split
  · exact ((h.set (le_key (by decide))).set (le_key (by decide))).set (le_key (by decide))
  · exact (h.set (le_key (by decide))).set (le_key (by decide))

protected theorem takePermit (h : SlicesStand s0 s) (c : Nat) : SlicesStand s0 (takePermit c s) := by
  unfold takePermit
  extract_lets n s1
  have h1 : SlicesStand s0 s1 := h.showPermit c n
  cases n with
  | some _ => exact h1.releaseCh c _
  | none => exact h1.raiseCh c _

protected theorem tapReset (h : SlicesStand s0 s) (c : Nat) : SlicesStand s0 (tapReset c s) := by
  unfold tapReset
  extract_lets x s1 s2 s3
  have h1 : SlicesStand s0 s1 := h.congr (by rfl)
  have h2 : SlicesStand s0 s2 :=
    h1.trans (.forL (fun n t => (SlicesStand.refl t).set (by unfold K.cxPaGainN; omega)) (List.range 4) s1)
  have h3 : SlicesStand s0 s3 := .ite (h2.set (le_key (by decide))) h2
  exact .ite h (((h3.set (le_key (by decide))).set (le_key (by decide))).set (le_key (by decide)))

end SlicesStand

/-! ### Banks of a slice (R184, R185) -/

theorem sameBut_endFade (sl : Nat) (s : State) : SameBut [K.slFadeEnd sl, K.slFading sl] s (endFade sl s) := by
  unfold endFade
  extract_lets s1
  have h1 : SameObjects s s1 := by
    refine .forL (fun c t => ?_) _ s
    exact .of_tables rfl rfl
  exact ((h1.sameBut _).set (by simp)).set (by simp)

theorem sameBut_beginFade (sl f : Nat) (s : State) : SameBut [K.slFading sl] s (beginFade sl f s) := by
  unfold beginFade
  extract_lets s0 s1
  have h0 : SameObjects s s0 := .of_tables rfl rfl
  have h1 : SameObjects s s1 := by
    refine h0.trans (.forL (fun c t => ?_) _ s0)
    exact .of_tables rfl rfl
  exact (h1.sameBut _).set (by simp)

/-- The part when swap a of a slice has been counted, its bank has changed, and its cross-fade has begun. -/
def bankFading (a : Action) (s : State) : State :=
  let s1 := s.inc (K.slSwaps a.target) 32
  let s2 := if s1.flag (K.slFading a.target) then endFade a.target s1 else s1
  beginFade a.target (a.param % 65536) (s2.set (K.slBankActive a.target) (a.param / 65536 : Nat))

theorem bankFading_num {a : Action} {k : Nat} (hk : k ∉ [K.slFadeEnd a.target, K.slFading a.target]) (s : State) :
    (bankFading a s).num k = if k = K.slBankActive a.target then ((a.param / 65536 : Nat) : Int) else
      if k = K.slSwaps a.target then min (s.num (K.slSwaps a.target) + 1) (maxWord 32) else s.num k := by
  unfold bankFading
  extract_lets s1 s2
  have h2 : s2.num k = s1.num k := (SameBut.ite (sameBut_endFade a.target s1) (.refl _ s1)).1 k hk
  rw [(sameBut_beginFade ..).1 k (fun h => hk (List.mem_cons_of_mem _ h)), State.num_set, h2, State.num_inc]

/-- A swap to the bank that is active is counted; any other changes the bank, and the channels of the slice follow. -/
theorem actSwap_cases (a : Action) (s : State) :
    (actSwap a s = s.inc (K.slSwaps a.target) 32 ∧ (s.inc (K.slSwaps a.target) 32).nat (K.slBankActive a.target) = a.param / 65536) ∨
      SlicesStand (bankFading a s) (actSwap a s) := by
  unfold actSwap
  extract_lets sl b s1 s2 s3
  split
  · next h => exact .inl ⟨rfl, h⟩
  · refine .inr (.forL (fun c t => ?_) _ s3)
    exact SlicesStand.takePermit (.ite ((SlicesStand.refl t).tapReset c) (.refl t)) c

theorem actSwap_swapped {a : Action} (ha : a.target < 64) (s : State) :
    (actSwap a s).nat (K.slBankActive a.target) = a.param / 65536 ∧
      (actSwap a s).num (K.slSwaps a.target) = min (s.num (K.slSwaps a.target) + 1) (maxWord 32) := by
  rcases actSwap_cases a s with ⟨h, hbank⟩ | h
  · rw [h]
    exact ⟨hbank, (State.num_inc ..).trans (if_pos rfl)⟩
  · constructor
    · rw [State.nat, h _ (by unfold K.slBankActive; omega) (by unfold K.slBankActive; omega), bankFading_num (by simp), if_pos rfl,
        Int.toNat_natCast]
    · rw [h _ (by unfold K.slSwaps; omega) (by unfold K.slSwaps; omega), bankFading_num (by simp), if_neg (by simp), if_pos rfl]

/-! ### Calibrations (R152) -/

theorem putCalStatus_calRuns (p : Nat) (s : State) : calRuns (putCalStatus p 2 s) p = true := by
  unfold calRuns putCalStatus
  rw [State.nat_set, if_pos rfl]
  split <;> rfl

theorem putCalStatus_calStatusNow (p : Nat) (s : State) : calStatusNow (putCalStatus p 2 s) p = 2 := by
  unfold calStatusNow putCalStatus
  rw [State.num_set, if_pos rfl]
  split <;> rfl

/-- A port that is in Standby writes only where it is going when it begins to move. -/
theorem sameBut_beginMove_of_standby {p : Nat} {s : State} (h : s.num (K.portState p) = psStandby) {dest : Int} (hd : dest ≠ psRelay) :
    SameBut [K.portChangingTo p] s (beginMove p dest s) := by
  have hst : ¬ s.num (K.portState p) = psRelay := by rw [h]; decide
  unfold beginMove
  extract_lets st s1 s2 port s3
  have h1 : s1 = s := if_neg hst
  have h2 : s2 = s := (if_neg fun hc => hd hc.1).trans h1
  have h3 : SameObjects s s3 := .of_tables (congrArg (fun u => u.obj) h2) (congrArg (fun u => u.blob) h2)
  exact (h3.sameBut _).set List.mem_cons_self

/-- Nor does one that a calibration takes from Standby. -/
theorem sameBut_moveOn_to_cal {p : Nat} {s : State} (h : s.num (K.portState p) = psStandby) (hc : calHolds s p = true) :
    SameBut [K.portChangingTo p] s (moveOn p s) := by
  have hcal : ¬ s.num (K.portState p) = psCal := by rw [h]; decide
  have hrelay : ¬ s.num (K.portState p) = psRelay := by rw [h]; decide
  have hon : psStandby ≤ s.num (K.portState p) := by rw [h]
  refine .ite (.refl _ s) ?_
  extract_lets st dest
  rw [if_neg hcal, if_pos ⟨hc, hon⟩, if_neg hrelay]
  exact sameBut_beginMove_of_standby h (by decide)

/-- The part when a calibration is marked as running on port p, before the port moves. -/
def calMarked (p kind : Nat) (s : State) : State :=
  let s1 := s.setPort p { s.port p with staleNew := 0, lateAbort := false }
  let s2 := (s1.clrBit (K.calPending p) kind).set (K.calKind p) (kind : Nat)
  putCalStatus p 2 (s2.set (K.calIrPieces p) (if kind = 2 then s2.num (K.calIrPieces p) else 0))

theorem calBegin_eq (p kind : Nat) (s : State) : calBegin p kind s = moveOn p (calMarked p kind s) := rfl

theorem calMarked_kind (p kind : Nat) (s : State) : (calMarked p kind s).num (K.calKind p) = kind := by
  unfold calMarked putCalStatus
  rw [State.num_set, if_neg (by simp), State.num_set, if_neg (by simp), State.num_set, if_pos rfl]

theorem calMarked_portState (p kind : Nat) (s : State) : (calMarked p kind s).num (K.portState p) = s.num (K.portState p) := by
  unfold calMarked putCalStatus
  rw [State.num_set, if_neg (key_ne (by decide)), State.num_set, if_neg (key_ne (by decide)), State.num_set, if_neg (key_ne (by decide)),
    State.num_clrBit, if_neg (key_ne (by decide))]
  rfl

theorem calMarked_holds (p kind : Nat) (s : State) : calHolds (calMarked p kind s) p = true := by
  unfold calHolds
  rw [calMarked, putCalStatus_calRuns, Bool.true_or]

/-- A calibration that begins on a port in Standby runs, and is of the kind asked for. -/
theorem calBegin_runs {p : Nat} {s : State} (h : s.num (K.portState p) = psStandby) (kind : Nat) :
    calStatusNow (calBegin p kind s) p = 2 ∧ (calBegin p kind s).num (K.calKind p) = kind := by
  have hsame := sameBut_moveOn_to_cal ((calMarked_portState p kind s).trans h) (calMarked_holds p kind s)
  rw [calBegin_eq]
  constructor
  · rw [calStatusNow, hsame.1 _ (mt List.mem_singleton.1 (key_ne (by decide)))]
    exact putCalStatus_calStatusNow ..
  · rw [hsame.1 _ (mt List.mem_singleton.1 (key_ne (by decide))), calMarked_kind]

theorem actCal_eq_calBegin {a : Action} {s : State} (hc : calHolds s a.target = false) (h : s.num (K.portState a.target) = psStandby) :
    actCal a s = calBegin a.target a.param s :=
  if_neg (by simp [hc, h])

/-! ### The Gallery (R347) -/

theorem galTrigger_of_armed {s : State} (h : s.num K.galState = gsArmed) (reason : Nat) : (galTrigger reason s).num K.galState = gsTriggered := by
  unfold galTrigger
  rw [if_pos (.inr h)]
  exact (State.num_set ..).trans (if_pos rfl)

theorem galLaunchTrigger_of_armed {s : State} (hl : s.gal.launch = true) (h : s.num K.galState = gsArmed) (tag : Nat) :
    (galLaunchTrigger tag s).num K.galState = gsTriggered := by
  have hon : ¬ (!s.gal.launch) = true := by simp [hl]
  have htrig := galTrigger_of_armed h 2
  unfold galLaunchTrigger
  rw [if_neg hon]
  dsimp only
  split
  · rw [State.num_set, if_neg (by decide), htrig]
  · exact htrig

/-! ### Feeds (R295, R301) -/

theorem sameBut_raisePort (p b : Nat) (s : State) : SameBut [K.portMutes p] s (raisePort p b s) :=
  .ite (.refl _ s) (((SameObjects.of_tables (irq_obj ..) (irq_blob ..)).sameBut _).set List.mem_cons_self)

theorem sameBut_holdPort (p : Nat) (h : Holder) (s : State) : SameBut [K.portMutes p] s (holdPort p h s) :=
  SameBut.trans ((SameObjects.of_tables rfl rfl).sameBut _) (sameBut_raisePort ..)

theorem sameBut_unholdPort (p : Nat) (h : Holder) (s : State) : SameBut [K.portMutes p] s (unholdPort p h s) := by
  unfold unholdPort
  extract_lets l flt s1
  have h1 : SameBut [K.portMutes p] s s1 := (SameObjects.of_tables rfl rfl).sameBut _
  exact .ite (h1.trans (sameBut_releasePort ..)) h1

theorem sameBut_reviewRequired (f : Nat) (s : State) : SameBut [K.portMutes f] s (reviewRequired f s) :=
  .ite (sameBut_holdPort ..) (sameBut_unholdPort ..)

/-- The objects that a feed writes when it is switched, beside the switch. -/
def feedKeys (f : Nat) : List Nat := [K.fdState f, K.portMutes f, K.fdStatus f, K.fdRetriesLeft f]

theorem sameBut_feedTo (f : Nat) (v : Int) (s : State) : SameBut (feedKeys f) s (feedTo f v s) := by
  have henter : SameBut (feedKeys f) s (enterFeed f v s) :=
    SameBut.set ((SameObjects.of_tables rfl rfl).sameBut _) (by simp [feedKeys])
  exact henter.trans ((sameBut_reviewRequired ..).mono (by simp [feedKeys]))

theorem sameBut_feedEnabled (f : Nat) (s : State) : SameBut (feedKeys f) s (feedEnabled f s) := by
  refine .ite (.refl _ s) (.ite (sameBut_feedTo ..) ?_)
  exact ((SameBut.refl _ s).set (by simp [feedKeys])).trans (sameBut_feedTo ..)

theorem sameBut_feedDisabled (f : Nat) (s : State) : SameBut (feedKeys f) s (feedDisabled f s) := by
  refine .ite (.refl _ s) ?_
  have hretries : SameBut (feedKeys f) s (restoreRetries f s) := (SameBut.refl _ s).set (by simp [feedKeys])
  exact (hretries.set (by simp [feedKeys])).trans (sameBut_feedTo ..)

theorem feedSwitch_enable (f v : Nat) (s : State) : (feedSwitch f v s).num (K.fdEnable f) = v := by
  unfold feedSwitch
  extract_lets old s1
  have h1 : s1.num (K.fdEnable f) = v := (State.num_set ..).trans (if_pos rfl)
  have hsame : SameBut (feedKeys f) s1 (if v = 1 ∧ old = 0 then feedEnabled f s1 else if v = 0 then feedDisabled f s1 else s1) :=
    .ite (sameBut_feedEnabled ..) (.ite (sameBut_feedDisabled ..) (.refl _ s1))
  refine (hsame.1 _ ?_).trans h1
  simp only [feedKeys, List.mem_cons, List.not_mem_nil, or_false]
  unfold K.fdEnable K.fdState K.portMutes K.fdStatus K.fdRetriesLeft
  omega

/-! ### The statement -/

/-- Settles O32: each kind writes the object of its block, and neither what follows that write nor the counts of the launch table write it again. -/
theorem launchKindsActOnTheirBlock : Obligations.LaunchKindsActOnTheirBlock := by
  rintro n a s hn hready hidle rfl
  refine ⟨?rail, ?bank, ?snapshot, ?cal, ?gallery, ?feed⟩
  case rail =>
    intro hkind _
    refine does_of_runEntry rfl hready hidle hkind fun hsel => ?_
    rw [runEntry_num hn (.inr (le_key (by decide))), runAction, hkind]
    exact railSelect_setpoint hsel _
  case bank =>
    intro hkind hslice
    refine does_of_runEntry rfl hready hidle hkind ?_
    rw [State.nat, runEntry_num hn (.inr (le_key (by decide))), runEntry_num hn (.inr (le_key (by decide))), runAction, hkind]
    exact actSwap_swapped hslice s
  case snapshot =>
    intro hkind
    refine does_of_runEntry rfl hready hidle hkind ?_
    rw [runEntry_num hn (by decide), runEntry_num hn (by decide), runAction, hkind]
    have hsnap := takeSnapshot_taken false s
    exact ⟨hsnap.tick, hsnap.late⟩
  case cal =>
    intro hkind _ _ hfree hstandby
    refine does_of_runEntry rfl hready hidle hkind ?_
    rw [calStatusNow, runEntry_num hn (.inr (le_key (by decide))), runEntry_num hn (.inr (le_key (by decide))), runAction, hkind]
    have hcal := calBegin_runs hstandby (entryAction (entryOct s n)).param
    rw [← actCal_eq_calBegin hfree hstandby] at hcal
    exact hcal
  case gallery =>
    intro hkind hlaunch harmed
    refine does_of_runEntry rfl hready hidle hkind ?_
    rw [runEntry_num hn (by decide), runAction, hkind]
    exact galLaunchTrigger_of_armed hlaunch harmed _
  case feed =>
    intro hkind _
    refine does_of_runEntry rfl hready hidle hkind ?_
    rw [runEntry_num hn (.inr (le_key (by decide))), runAction, hkind]
    exact feedSwitch_enable ..

end Sys2Proof.Machine
end

section
/-! PROOFS. Walkers at their boundaries (R97, R98): a walker moves on first, and what its channels and ports then do moves no walker. -/

namespace Sys2Proof.Machine

/-! ### What leaves the walkers alone -/

theorem State.walkers_ite {c : Prop} [Decidable c] {s t : State} {x : Tab Walker} (hs : s.walkers = x) (ht : t.walkers = x) :
    (if c then s else t).walkers = x := by split <;> assumption

@[simp] theorem irq_walkers (v : Nat) (s : State) : (irq v s).walkers = s.walkers := State.walkers_ite rfl rfl

@[simp] theorem raiseCh_walkers (c b : Nat) (s : State) : (raiseCh c b s).walkers = s.walkers :=
  congrArg (fun t => t.walkers) (raiseCh_pastFaults c b s)

@[simp] theorem raisePort_walkers (p b : Nat) (s : State) : (raisePort p b s).walkers = s.walkers :=
  congrArg (fun t => t.walkers) (raisePort_pastFaults p b s)

@[simp] theorem releasePort_walkers (p b : Nat) (s : State) : (releasePort p b s).walkers = s.walkers :=
  State.walkers_ite (irq_walkers _ s) rfl

@[simp] theorem event_walkers (code p0 p1 p2 p3 : Nat) (s : State) : (event code p0 p1 p2 p3 s).walkers = s.walkers :=
  congrArg (fun t => t.walkers) (enterRec_pastFaults _ s)

/-! ### Channels at a boundary (R98, R230) -/

@[simp] theorem setGain_walkers (c : Nat) (g : Int) (s : State) : (setGain c g s).walkers = s.walkers := rfl

@[simp] theorem reload_walkers (c : Nat) (s : State) : (reload c s).walkers = s.walkers := by
  unfold reload
  extract_lets pRes x s1 s2 s3 s4 chan s5
  have h1 : s1.walkers = s.walkers := rfl
  have h3 : s3.walkers = s1.walkers := rfl
  have h4 : s4.walkers = s3.walkers := setGain_walkers ..
  exact ((State.set_walkers ..).trans (State.setChan_walkers ..)).trans (h4.trans (h3.trans h1))

@[simp] theorem markWindow_walkers (c : Nat) (s : State) : (markWindow c s).walkers = s.walkers := State.walkers_ite rfl rfl

@[simp] theorem releaseCh_walkers (c b : Nat) (s : State) : (releaseCh c b s).walkers = s.walkers := by
  refine State.walkers_ite rfl (State.walkers_ite ?_ ?_)
  · exact State.walkers_ite (reload_walkers ..) (markWindow_walkers ..)
  · exact State.walkers_ite (State.walkers_ite rfl (reload_walkers ..)) rfl

@[simp] theorem patternFreeze_walkers (c : Nat) (n : Option Nat) (s : State) : (patternFreeze c n s).walkers = s.walkers := by
  unfold patternFreeze
  split <;> rfl

@[simp] theorem walkChannel_walkers (p a b c : Nat) (s : State) : (walkChannel p a b c s).walkers = s.walkers := by
  refine State.walkers_ite ?_ (State.walkers_ite ?_ rfl)
  · rw [releaseCh_walkers, patternFreeze_walkers]
  · rw [raiseCh_walkers, patternFreeze_walkers]

/-! ### Ports at a boundary (R97, R139 to R150) -/

@[simp] theorem freeHold_walkers (p : Nat) (s : State) : (freeHold p s).walkers = s.walkers := State.walkers_ite rfl (releasePort_walkers ..)

@[simp] theorem raiseHold_walkers (p : Nat) (s : State) : (raiseHold p s).walkers = s.walkers :=
  (raisePort_walkers ..).trans (State.walkers_ite rfl rfl)

@[simp] theorem windowEnd_walkers (p : Nat) (s : State) : (windowEnd p s).walkers = s.walkers := by
  unfold windowEnd
  extract_lets x s2 s1
  have h2 : s2.walkers = s.walkers := event_walkers ..
  have h1 : s1.walkers = s.walkers := by
    refine State.walkers_ite ?_ rfl
    split
    · exact State.walkers_ite h2 h2
    · exact h2
  exact (freeHold_walkers ..).trans h1

@[simp] theorem beginMove_walkers (p : Nat) (dest : Int) (s : State) : (beginMove p dest s).walkers = s.walkers := by
  unfold beginMove
  extract_lets st s1 s2 port s3
  have h1 : s1.walkers = s.walkers := State.walkers_ite (windowEnd_walkers ..) rfl
  exact State.walkers_ite ((raiseHold_walkers ..).trans h1) h1

@[simp] theorem moveOn_walkers (p : Nat) (s : State) : (moveOn p s).walkers = s.walkers := by
  refine State.walkers_ite rfl (State.walkers_ite ?_ ?_)
  · exact State.walkers_ite (raiseHold_walkers ..) rfl
  · exact State.walkers_ite (beginMove_walkers ..) (State.walkers_ite rfl (beginMove_walkers ..))

@[simp] theorem wantPort_walkers (q : Nat) (v : Int) (s : State) : (wantPort q v s).walkers = s.walkers := moveOn_walkers ..

@[simp] theorem openTxWindow_walkers (p : Nat) (s : State) : (openTxWindow p s).walkers = s.walkers := State.walkers_ite rfl rfl

@[simp] theorem drivePort_walkers (cur nxt : Seg) (later : Option Seg) (q : Nat) (s : State) :
    (drivePort cur nxt later q s).walkers = s.walkers := by
  unfold drivePort
  extract_lets v s0 s1
  have h0 : s0.walkers = s.walkers := State.walkers_ite (openTxWindow_walkers ..) (State.walkers_ite (windowEnd_walkers ..) rfl)
  have h1 : s1.walkers = s.walkers := (wantPort_walkers ..).trans h0
  split
  · exact State.walkers_ite ((wantPort_walkers ..).trans h1) h1
  · exact h1

/-! ### A boundary, and the end of a transient -/

theorem walkBoundary_walker {p : Nat} {s : State} {cur nxt : Seg} (hcur : (segsOf s p)[(s.walker p).seg]? = some cur)
    (hnxt : (segsOf s p)[((s.walker p).seg + 1) % max 1 (segsOf s p).length]? = some nxt) :
    (walkBoundary p s).walker p =
      { s.walker p with due := (s.walker p).due + nxt.len, seg := ((s.walker p).seg + 1) % max 1 (segsOf s p).length } := by
  unfold walkBoundary
  extract_lets w l i
  split
  · next cur' nxt' _ hnxt' =>
    have hsame : nxt' = nxt := Option.some.inj (hnxt'.symm.trans hnxt)
    extract_lets s1 s2 s3
    have h2 : s2.walkers = s1.walkers := State.walkers_ite (irq_walkers ..) rfl
    have h3 : s3.walkers = s2.walkers := forL_fixes State.walkers _ (fun c t => walkChannel_walkers p cur'.dir nxt'.dir c t) _ s2
    have h4 := forL_fixes State.walkers _ (fun q t => drivePort_walkers cur' nxt' (segAfter s p i) q t) (portsOf s3 p) s3
    rw [State.walker, h4, h3, h2, ← hsame]
    exact (State.walker_setWalker s p p _).trans (if_pos rfl)
  · next h => exact (h cur nxt hcur hnxt).elim

theorem patternFreeze_ended (c : Nat) (s : State) :
    ((patternFreeze c (some 0) s).chan c).transientDue = none ∧ (patternFreeze c (some 0) s).bit (K.cxFreezes c) 1 = false ∧
      SameBut [K.cxFreezes c] s (patternFreeze c (some 0) s) := by
  refine ⟨?_, State.bit_clrBit_self .., SameBut.set ((SameObjects.of_tables rfl rfl).sameBut _) List.mem_cons_self⟩
  exact congrArg Chan.transientDue ((State.chan_setChan s c c _).trans (if_pos rfl))

/-- Settles O33: the walker of a due boundary stands in the next segment until the end of it, and a transient that has passed takes its freezes with
it. -/
theorem walkersCrossBoundaries : Obligations.WalkersCrossBoundaries := by
  refine ⟨?boundary, ?waits, ?transient⟩
  case boundary =>
    intro p cur nxt s hruns hcommit hdue hfirst hcur hnxt
    refine ⟨_, congrArg Host.Outcome.next (if_pos (by simp [hruns, hcommit, hdue, hfirst])), ?_⟩
    have hw := walkBoundary_walker hcur hnxt
    exact ⟨congrArg Walker.seg hw, congrArg Walker.due hw⟩
  case waits =>
    intro p s hdue
    exact ⟨s, congrArg Host.Outcome.next (if_neg (by simp [hdue])), rfl⟩
  case transient =>
    intro c r s hr hpast
    refine ⟨patternFreeze c (some 0) s, congrArg Host.Outcome.next ?_, patternFreeze_ended c s⟩
    rw [hr]
    exact if_pos hpast

end Sys2Proof.Machine
end

section
/-! PROOFS. COMMIT and ABORT of a local transaction (R114, R116): what admission's answer makes of the transaction, and what is left of one that is
aborted. -/

namespace Sys2Proof.Machine

/-! ### Answers leave the transactions and the journal alone -/

@[simp] theorem irq_jr (v : Nat) (s : State) : (irq v s).jr = s.jr := by unfold irq; split <;> rfl

@[simp] theorem ringFrame_jr (o : Out) (s : State) : (ringFrame o s).jr = s.jr := by
  unfold ringFrame putResponse
  split <;> simp

@[simp] theorem answer_jr (w : Who) (kind : Nat) (f : Frame) (status : Nat) (b : List Byte) (s : State) :
    (answer w kind f status b s).jr = s.jr :=
  respond_fixes State.jr ringFrame_jr (fun _ _ => rfl) ..

@[simp] theorem finish_tx (w : Who) (kind : Nat) (f : Frame) (r : Reply) : (finish w kind f r).tx = r.st.tx := by
  unfold finish
  split
  · exact answer_tx ..
  · rfl

@[simp] theorem finish_jr (w : Who) (kind : Nat) (f : Frame) (r : Reply) : (finish w kind f r).jr = r.st.jr := by
  unfold finish
  split
  · exact answer_jr ..
  · rfl

/-- A request whose answer is still to come is outstanding. -/
theorem finish_outstanding {r : Reply} (h : r.status = none) (w : Who) (kind : Nat) (f : Frame) :
    ((finish w kind f r).master w.flow).outstanding = true := by
  unfold finish
  rw [h]
  exact congrArg Master.outstanding ((State.master_setMaster ..).trans (if_pos rfl))

theorem slot_setSlot_same (i : Nat) (x : Option Tx) (s : State) : (setSlot i x s).slot i = x :=
  (State.slot_setSlot ..).trans (if_pos rfl)

section
variable {f : Frame} {w : Who} {s u : State} {post : State → Prop}

theorem does_commit (h : cleared kCommit f s = some (w, u)) (hp : post (finish w kCommit f (commitBody w f u))) : Does (.commit f) s post :=
  ⟨_, congrArg Host.Outcome.next (request_cleared h commitBody), hp⟩

theorem does_abort (h : cleared kAbort f s = some (w, u)) (hp : post (finish w kAbort f (abortBody w f u))) : Does (.abort f) s post :=
  ⟨_, congrArg Host.Outcome.next (request_cleared h abortBody), hp⟩

end

/-! ### COMMIT (R114) -/

/-- A refusal is reported in the three objects of Table 4-12. -/
abbrev reportKeys : List Nat := [K.admLastReason, K.admLastObject, K.admLastEarliest]

theorem sameBut_reportRefusal (code key : Nat) (e : Option Nat) (s : State) : SameBut reportKeys s (reportRefusal code key e s) :=
  (((SameBut.refl _ s).set (by simp)).set (by simp)).set (by simp)

theorem commitBody_local {w : Who} {f : Frame} {u : State} {i : Nat} {x : Tx} (htx : txOf u w.flow [1] = some (i, x)) (hx : x.kind = 1)
    (hword : leAt f.payload 0 8 = noTime) : commitBody w f u = commitLocal i x f (requestedTick noTime) u := by
  simp [commitBody, htx, hx, hword]

theorem commitBody_none {w : Who} {f : Frame} {u : State} (htx : txOf u w.flow [1] = none) : commitBody w f u = .no u stNoTx := by
  simp [commitBody, htx]

theorem commitLocal_pass {i n e : Nat} {x : Tx} {requested : Option Nat} {u : State} (hadm : admissionOf u x.staged requested = .pass n)
    (hentry : commitEntry u (x.staged.map Prod.fst) = some e) (f : Frame) :
    commitLocal i x f requested u = ⟨passLocal i e { x with launch := requested.getD unbounded } f n u, none, []⟩ := by
  simp [commitLocal, hadm, hentry]

theorem commitLocal_refuse {i code key : Nat} {e : Option Nat} {x : Tx} {requested : Option Nat} {u : State}
    (hadm : admissionOf u x.staged requested = .refuse code key e) (f : Frame) :
    commitLocal i x f requested u = refuseNow x code key e u := by
  simp [commitLocal, hadm]

/-- The entry of a commit is armed apart from the slots. -/
theorem armCommit_slot (n launch number : Nat) (s : State) (i : Nat) : (armCommit n launch number s).slot i = s.slot i := rfl

/-- A transaction that has passed is Committing in its slot, with its values. -/
theorem passLocal_slot (i n : Nat) (x : Tx) (f : Frame) (launch : Nat) (s : State) :
    (passLocal i n x f launch s).slot i = some { x with state := 2, req := some f, entry := n } :=
  (armCommit_slot n launch x.number _ i).trans (slot_setSlot_same ..)

/-- Its ACCEPT record joins those being written. -/
theorem passLocal_writing (i n : Nat) (x : Tx) (f : Frame) (launch : Nat) (s : State) :
    ∃ r, (passLocal i n x f launch s).jr.writing = s.jr.writing ++ [r] ∧ r.kind = 1 ∧ r.staged = x.staged ∧ r.launch = launch :=
  ⟨_, rfl, rfl, rfl, rfl⟩

theorem refuseNow_refusals (x : Tx) (code key : Nat) (e : Option Nat) (s : State) :
    (refuseNow x code key e s).st.num K.admRefusals = min (s.num K.admRefusals + 1) (maxWord 32) := by
  have hreport : (reportRefusal code key e s).num K.admRefusals = s.num K.admRefusals := (sameBut_reportRefusal code key e s).1 _ (by decide)
  refine (State.num_setBit ..).trans ((if_neg (by decide)).trans ?_)
  rw [State.num_inc, if_pos rfl, hreport]

/-- Settles O14: with a pass the transaction waits for its record, with a refusal the answer is `refuseNow`'s, and without a transaction NOTX. -/
theorem commitsAreAdmittedOrRefused : Obligations.CommitsAreAdmittedOrRefused := by
  refine ⟨?pass, ?refuse, ?noTx⟩
  case pass =>
    intro f w s u i n e x hclear htx hx hword hadm hentry
    refine does_commit hclear ?_
    rw [commitBody_local htx hx hword, commitLocal_pass hadm hentry]
    refine ⟨finish_outstanding rfl .., ⟨_, (slot_congr (finish_tx ..) i).trans (passLocal_slot ..), rfl, rfl⟩, ?_⟩
    rw [finish_jr]
    exact passLocal_writing ..
  case refuse =>
    intro f w s u i code key e x hclear htx hx hword hadm
    refine does_commit hclear ?_
    rw [commitBody_local htx hx hword, commitLocal_refuse hadm]
    obtain ⟨hans, hpayload, hsame⟩ := finish_answers (w := w) (kind := kCommit) (f := f) (r := refuseNow x code key e u) rfl
    exact ⟨hans, hpayload, (hsame.1 _).trans (refuseNow_refusals ..), finish_tx .., finish_jr ..⟩
  case noTx =>
    intro f w s u hclear htx
    refine does_commit hclear ?_
    rw [commitBody_none htx]
    exact finish_no ..

/-! ### ABORT (R116) -/

theorem abortBody_open {w : Who} {f : Frame} {u : State} {i : Nat} {x : Tx} (htx : txOf u w.flow [1, 2] = some (i, x))
    (hk : x.kind = 1 ∨ x.kind = 2) (hx : x.state = 1) : abortBody w f u = ⟨abortSlot i x u, some stAborted, leBytes 4 (x.number : Int)⟩ := by
  have hbranch : x.kind ≠ 3 := by omega
  simp [abortBody, htx, hbranch, hx]

theorem abortBody_none {w : Who} {f : Frame} {u : State} (htx : txOf u w.flow [1, 2] = none) (hvoted : txOf u w.flow [6, 7] = none)
    (hnow : acceptedNow u w.flow = none) : abortBody w f u = .no u stNoTx := by
  simp [abortBody, htx, hvoted, hnow]

@[simp] theorem sendDown_tx (code : Nat) (nums : List Int) (s : State) : (sendDown code nums s).tx = s.tx := by
  unfold sendDown
  refine forL_fixes State.tx _ (fun l t => ?_) _ s
  rfl

theorem abortSlot_slot (i : Nat) (x : Tx) (s : State) : (abortSlot i x s).slot i = none := slot_setSlot_same ..

theorem abortSlot_aborts (i : Nat) (x : Tx) (s : State) : (abortSlot i x s).num K.txAborts = min (s.num K.txAborts + 1) (maxWord 32) := by
  unfold abortSlot
  extract_lets s1
  have h1 : SameObjects s s1 := .ite (.refl s) (.ite (sameObjects_sendDown ..) (.of_tables rfl rfl))
  rw [(sameObjects_setSlot ..).1, State.num_inc, if_pos rfl, h1.1]

/-- Settles O15: an Open transaction goes by `abortSlot`, and the answer carries its number; without a transaction nothing changes. -/
theorem abortsFreeTheSlot : Obligations.AbortsFreeTheSlot := by
  refine ⟨?isOpen, ?noTx⟩
  case isOpen =>
    intro f w s u i x hclear htx hk hx
    refine does_abort hclear ?_
    rw [abortBody_open htx hk hx]
    obtain ⟨hans, hpayload, hsame⟩ := finish_answers (w := w) (kind := kAbort) (f := f)
      (r := ⟨abortSlot i x u, some stAborted, leBytes 4 (x.number : Int)⟩) rfl
    exact ⟨hans, hpayload, (slot_congr (finish_tx ..) i).trans (abortSlot_slot ..), (hsame.1 _).trans (abortSlot_aborts ..),
      (sameBut_abortSlot ..).andThen hsame⟩
  case noTx =>
    intro f w s u hclear htx hvoted hnow
    refine does_abort hclear ?_
    rw [abortBody_none htx hvoted hnow]
    exact finish_no ..

end Sys2Proof.Machine
end

section
/-! PROOFS. Transactions that open and that lie idle (R112, R113), and dry runs of admission (R110; what a pass reports is log entry 70, the idle
time is log entry 75). -/

namespace Sys2Proof.Machine

/-! ### Opening (R112) -/

/-- A transaction opens in the lowest free slot with the next number: Open, for its flow, with nothing staged. -/
theorem openTx_of_free {i : Nat} {s : State} (h : freeVestibule s = some i) (kind flow origin om sysId : Nat) :
    ∃ y : Tx, openTx kind flow origin om sysId s = some (i, setSlot i (some y) (s.set K.txNextNumber (y.number + 1 : Nat))) ∧
      y.flow = flow ∧ y.state = 1 ∧ y.staged = [] ∧ y.kind = kind ∧ (kind = 3 → y.sysId = sysId) := by
  unfold openTx
  rw [h]
  exact ⟨_, rfl, rfl, rfl, rfl, rfl, fun hk => by simp [hk]⟩

theorem openTx_of_full {s : State} (h : freeVestibule s = none) (kind flow origin om sysId : Nat) : openTx kind flow origin om sysId s = none := by
  unfold openTx
  rw [h]

/-- Of the objects an opened transaction changes the next number alone. -/
theorem sameBut_opened (i : Nat) (y : Tx) (n : Int) (s : State) : SameBut [K.txNextNumber] s (setSlot i (some y) (s.set K.txNextNumber n)) :=
  ((SameBut.refl _ s).set List.mem_cons_self).andThen (sameObjects_setSlot ..)

theorem txOpenEffect_opens {w : Who} {u : State} {i : Nat} (htx : txOf u w.flow [1, 2] = none) (hfree : freeVestibule u = some i) (v : Val) :
    ∃ y : Tx, txOpenEffect w v u = .ok (setSlot i (some y) (u.set K.txNextNumber (y.number + 1 : Nat))) ∧
      y.flow = w.flow ∧ y.state = 1 ∧ y.staged = [] ∧ y.kind = (if v.int = 0 then 1 else 2) := by
  obtain ⟨y, hopen, hflow, hstate, hstaged, hkind, -⟩ :=
    openTx_of_free hfree (if v.int = 0 then 1 else 2) w.flow (ownerOf u w.flow).1 (ownerOf u w.flow).2 0
  refine ⟨y, ?_, hflow, hstate, hstaged, hkind⟩
  simp [txOpenEffect, htx, hopen]

theorem txOpenEffect_full {w : Who} {u : State} (htx : txOf u w.flow [1, 2] = none) (hfree : freeVestibule u = none) (v : Val) :
    txOpenEffect w v u = .no u stTxLimit := by
  simp [txOpenEffect, htx, openTx_of_full hfree]

/-! ### Idle transactions (R113) -/

@[simp] theorem fault_tx (kind inst cls code p0 p1 p2 p3 : Nat) (s : State) : (fault kind inst cls code p0 p1 p2 p3 s).tx = s.tx :=
  congrArg (fun t => t.tx) (fault_pastFaults kind inst cls code p0 p1 p2 p3 s)

/-- A fault changes no object below the ports'. -/
theorem fault_num {k : Nat} (hk : k < 0x3000 * 256) (kind inst cls code p0 p1 p2 p3 : Nat) (s : State) :
    (fault kind inst cls code p0 p1 p2 p3 s).num k = s.num k :=
  ((OnlyRaises.refl s).fault kind inst cls code p0 p1 p2 p3).num k hk

/-! ### Dry runs (R110) -/

/-- What a report leaves of its three objects. -/
theorem reportRefusal_reports (code key : Nat) (e : Option Nat) (s : State) :
    (reportRefusal code key e s).num K.admLastReason = code ∧ (reportRefusal code key e s).num K.admLastObject = key ∧
      (reportRefusal code key e s).num K.admLastEarliest = tickOrNone e := by
  simp [reportRefusal]

theorem reportRefusal_tx (code key : Nat) (e : Option Nat) (s : State) : (reportRefusal code key e s).tx = s.tx := rfl

theorem dryRunEffect_pass {w : Who} {d : Int} {u : State} {i n : Nat} {x : Tx} (htx : txOf u w.flow [1] = some (i, x))
    (hadm : admissionOf u x.staged (requestedTick d.toNat) = .pass n) : dryRunEffect w (.num d) u = .ok (reportRefusal 0 0 (some n) u) := by
  simp [dryRunEffect, htx, Val.int, hadm]

theorem dryRunEffect_refuse {w : Who} {d : Int} {u : State} {i code key : Nat} {e : Option Nat} {x : Tx}
    (htx : txOf u w.flow [1] = some (i, x)) (hadm : admissionOf u x.staged (requestedTick d.toNat) = .refuse code key e) :
    dryRunEffect w (.num d) u = .ok (reportRefusal code key e u) := by
  simp [dryRunEffect, htx, Val.int, hadm]

theorem dryRunEffect_none {w : Who} {u : State} (htx : txOf u w.flow [1] = none) (v : Val) : dryRunEffect w v u = .no u stNoTx := by
  simp [dryRunEffect, htx]

/-- A command object's write that passes its tests is its effect and the answer. -/
theorem does_of_reaches {k : Nat} {f : Frame} {v : Val} {w : Who} {s u : State} (h : reaches k f s = some (w, v, u)) {c : Instr}
    {effect : Who → Val → State → Reply} (hc : exec c s = .next (requestWrite k f s effect)) {post : State → Prop}
    (hp : post (finish w kWrite { f with index := k / 256, sub := k % 256 } (effect w v u))) : Does c s post :=
  ⟨_, hc.trans (congrArg Host.Outcome.next (requestWrite_reaches h effect)), hp⟩

/-- Settles O35: a transaction opens by `openTx`, an idle one goes by `abortSlot` and a Notice, and a dry run is `reportRefusal`. -/
theorem transactionsOpenAndIdle : Obligations.TransactionsOpenAndIdle := by
  refine ⟨?opens, ?full, ?idle, ?noSlot, ?pass, ?refuse, ?noTx⟩
  case opens =>
    intro f w d s u i hreach htx hfree
    refine does_of_reaches hreach rfl ?_
    obtain ⟨y, heffect, hflow, hstate, hstaged, hkind⟩ := txOpenEffect_opens htx hfree (.num d)
    rw [heffect]
    obtain ⟨hans, -, hsame⟩ := finish_answers (w := w) (kind := kWrite) (f := { f with index := K.txOpen / 256, sub := K.txOpen % 256 })
      (r := .ok (setSlot i (some y) (u.set K.txNextNumber (y.number + 1 : Nat)))) rfl
    exact ⟨hans, (sameBut_opened ..).andThen hsame, y, slot_finish_setSlot .., hflow, hstate, hstaged, hkind⟩
  case full =>
    intro f w v s u hreach htx hfree
    refine does_of_reaches hreach rfl ?_
    rw [txOpenEffect_full htx hfree]
    exact finish_no ..
  case idle =>
    intro i x s hslot hx hidle
    refine ⟨fault 0x00 0 0 (evCode 0x04 1) x.number 0 0 0 (abortSlot i x s), congrArg Host.Outcome.next ?_, ?_, ?_⟩
    · rw [hslot]
      exact if_pos ⟨hx, hidle⟩
    · exact (slot_congr (fault_tx ..) i).trans (abortSlot_slot ..)
    · exact (fault_num (by decide) ..).trans (abortSlot_aborts ..)
  case noSlot =>
    intro i s hslot
    refine ⟨s, congrArg Host.Outcome.next ?_, rfl⟩
    rw [hslot]
  case pass =>
    intro f w d s u i n x hreach htx hadm
    refine does_of_reaches hreach rfl ?_
    rw [dryRunEffect_pass htx hadm, finish_ok]
    have hsame := sameObjects_answer w kWrite { f with index := K.admDryRun / 256, sub := K.admDryRun % 256 } stOk [] (reportRefusal 0 0 (some n) u)
    obtain ⟨hreason, -, hearliest⟩ := reportRefusal_reports 0 0 (some n) u
    exact ⟨answered_answer .., (hsame.1 _).trans (hreason.trans Nat.cast_zero), (hsame.1 _).trans hearliest,
      (sameBut_reportRefusal ..).andThen hsame, (answer_tx ..).trans (reportRefusal_tx ..)⟩
  case refuse =>
    intro f w d s u i code key e x hreach htx hadm
    refine does_of_reaches hreach rfl ?_
    rw [dryRunEffect_refuse htx hadm, finish_ok]
    have hsame := sameObjects_answer w kWrite { f with index := K.admDryRun / 256, sub := K.admDryRun % 256 } stOk [] (reportRefusal code key e u)
    obtain ⟨hreason, hobject, hearliest⟩ := reportRefusal_reports code key e u
    exact ⟨answered_answer .., (hsame.1 _).trans hreason, (hsame.1 _).trans hobject, (hsame.1 _).trans hearliest⟩
  case noTx =>
    intro f w v s u hreach htx
    refine does_of_reaches hreach rfl ?_
    rw [dryRunEffect_none htx]
    exact finish_no ..

end Sys2Proof.Machine
end

section
/-! PROOFS. The journal (R111, R119 to R125): what a durable ACCEPT record makes of its transaction, EXEC and CHECKPOINT records, and the rebuilding
of a bank (that the test of a bank ends by a free value is log entry 2; what a rebuilt bank holds is log entry 76). -/

namespace Sys2Proof.Machine

/-! ### Acceptance (R111) -/

/-- A record whose write checks all pass costs no bank, and no retry. -/
theorem writeChecks_pass (writer : Nat) (s : State) : writeChecks writer 0 0 s = s.incBy K.jrRetries 32 0 := by
  simp [writeChecks]

theorem sameBut_writeChecks_pass (writer : Nat) (s : State) : SameBut [K.jrRetries] s (writeChecks writer 0 0 s) := by
  rw [writeChecks_pass]
  exact (SameBut.refl _ s).set List.mem_cons_self

theorem bothFailed_of_bankOk {s : State} (h : s.bankOk 0 = true) : s.bothFailed = false := by simp [State.bothFailed, h]

/-- One row of the history is written. -/
def putHistory (k : Nat) (number seq state : Int) (s : State) : State :=
  ((s.set (K.txHistNumber k) number).set (K.txHistSeq k) seq).set (K.txHistState k) state

theorem putHistory_num {j : Nat} (hj : j < 0x2218 * 256) (k : Nat) (number seq state : Int) (s : State) :
    (putHistory k number seq state s).num j = s.num j := by
  unfold putHistory K.txHistNumber K.txHistSeq K.txHistState
  rw [State.num_set, if_neg (by omega), State.num_set, if_neg (by omega), State.num_set, if_neg (by omega)]

/-- What every write of a history row leaves alone, a new transaction in the history leaves alone. -/
theorem pushHistory_fixes {β : Type} (g : State → β) (h : ∀ k number seq state s, g (putHistory k number seq state s) = g s) (number seq : Nat)
    (s : State) : g (pushHistory number seq s) = g s := by
  unfold pushHistory
  exact (h ..).trans (forL_fixes g _ (fun j t => h (63 - j) _ _ _ t) (List.range 63) s)

theorem pushHistory_num {j : Nat} (hj : j < 0x2218 * 256) (number seq : Nat) (s : State) : (pushHistory number seq s).num j = s.num j :=
  pushHistory_fixes (State.num · j) (putHistory_num hj) number seq s

@[simp] theorem pushHistory_tx (number seq : Nat) (s : State) : (pushHistory number seq s).tx = s.tx :=
  pushHistory_fixes State.tx (fun _ _ _ _ _ => rfl) number seq s

@[simp] theorem pushHistory_jr (number seq : Nat) (s : State) : (pushHistory number seq s).jr = s.jr :=
  pushHistory_fixes State.jr (fun _ _ _ _ _ => rfl) number seq s

/-- From s to t the transaction x of slot i has been accepted for a launch tick: it has taken the next sequence number and given up its slot, and its
master has the answer. -/
structure Accepts (i launch : Nat) (x : Tx) (s t : State) : Prop where
  freed : t.slot i = none
  answered : (t.master x.flow).lastRsp.status = stAccepted ∧ (t.master x.flow).outstanding = false
  nextSeq : t.num K.txNextSeq = (s.nat K.txNextSeq + 1 : Nat)
  accepted : ∃ a, t.tx.accepted = s.tx.accepted ++ [a] ∧ a.launch = launch ∧ a.staged = x.staged ∧ a.seq = s.nat K.txNextSeq
  journal : t.jr = s.jr

/-- What an acceptance enters in the list of those that wait. -/
def acceptedOf (launch : Nat) (x : Tx) (s : State) : Accepted :=
  ⟨x.number, s.nat K.txNextSeq, launch, x.entry, x.staged, x.sysId, x.sysSeq, if x.kind = 3 then 0 else x.flow, some s.time.now⟩

/-- The part once the transaction x of slot i is accepted, before its master is answered. -/
def acceptedIn (i launch : Nat) (x : Tx) (s : State) : State :=
  pushHistory x.number (s.nat K.txNextSeq)
    ((setSlot i none { s with tx := { s.tx with accepted := s.tx.accepted ++ [acceptedOf launch x s] } }).set K.txNextSeq (s.nat K.txNextSeq + 1 : Nat))

theorem acceptSlot_of_slot {i : Nat} {x : Tx} {s : State} (h : s.slot i = some x) (launch : Nat) :
    acceptSlot i launch s = answerAbort x stAbortLate (answerCommit x stAccepted (leBytes 4 x.number) (acceptedIn i launch x s)) := by
  unfold acceptSlot
  rw [h]
  rfl

theorem acceptedIn_slot (i launch : Nat) (x : Tx) (s : State) : (acceptedIn i launch x s).slot i = none :=
  (slot_congr (pushHistory_tx ..) i).trans (slot_setSlot_same ..)

theorem acceptedIn_accepted (i launch : Nat) (x : Tx) (s : State) :
    (acceptedIn i launch x s).tx.accepted = s.tx.accepted ++ [acceptedOf launch x s] :=
  congrArg Vestibule.accepted (pushHistory_tx ..)

theorem acceptedIn_nextSeq (i launch : Nat) (x : Tx) (s : State) :
    (acceptedIn i launch x s).num K.txNextSeq = (s.nat K.txNextSeq + 1 : Nat) :=
  (pushHistory_num (by decide) ..).trans ((State.num_set ..).trans (if_pos rfl))

theorem acceptedIn_jr (i launch : Nat) (x : Tx) (s : State) : (acceptedIn i launch x s).jr = s.jr := pushHistory_jr ..

/-- The acceptance of a transaction whose COMMIT is outstanding, with no ABORT beside it. -/
theorem acceptSlot_accepts {i : Nat} {x : Tx} {f : Frame} {s : State} (hslot : s.slot i = some x) (hreq : x.req = some f) (habort : x.abort = none)
    (launch : Nat) : Accepts i launch x s (acceptSlot i launch s) := by
  have hanswer : acceptSlot i launch s = answer ⟨x.flow, x.flow, 0, decide (72 ≤ x.flow)⟩ kCommit f stAccepted (leBytes 4 x.number)
      (acceptedIn i launch x s) := by
    rw [acceptSlot_of_slot hslot]
    simp only [answerAbort, answerCommit, hreq, habort]
  rw [hanswer]
  exact ⟨(slot_congr (answer_tx ..) i).trans (acceptedIn_slot ..), answered_answer .., (answer_num ..).trans (acceptedIn_nextSeq ..),
    ⟨acceptedOf launch x s, (congrArg Vestibule.accepted (answer_tx ..)).trans (acceptedIn_accepted ..), rfl, rfl, rfl⟩,
    (answer_jr ..).trans (acceptedIn_jr ..)⟩

/-- The part when record r has left those being written and stands in the banks. -/
def recordHeld (r : JRec) (rest : List JRec) (s : State) : State :=
  let s1 := writeChecks 1 0 0 { s with jr := { s.jr with writing := rest } }
  addRec (ringRec s1 r) s1

theorem sameBut_recordHeld (r : JRec) (rest : List JRec) (s : State) : SameBut [K.jrRetries] s (recordHeld r rest s) :=
  (SameBut.trans ((SameObjects.of_tables rfl rfl).sameBut _) (sameBut_writeChecks_pass 1 _)).andThen (.of_tables rfl rfl)

theorem recordHeld_tx (r : JRec) (rest : List JRec) (s : State) : (recordHeld r rest s).tx = s.tx := by
  unfold recordHeld
  rw [writeChecks_pass]
  rfl

theorem recordHeld_writing (r : JRec) (rest : List JRec) (s : State) : (recordHeld r rest s).jr.writing = rest := by
  unfold recordHeld
  rw [writeChecks_pass]
  rfl

/-- An ACCEPT record that both banks hold accepts the transaction of its slot. -/
theorem execJournalRecordDurable_accept {r : JRec} {rest : List JRec} {s : State} (hw : s.jr.writing = r :: rest) (hr : r.kind = 1)
    (hbank : s.bankOk 0 = true) :
    exec (.journalRecordDurable 0 0) s = .next (acceptSlot r.slot r.launch (recordHeld r rest s)) := by
  have hok : (writeChecks 1 0 0 { s with jr := { s.jr with writing := rest } }).bothFailed = false := by
    refine bothFailed_of_bankOk (Eq.trans ?_ hbank)
    unfold State.bankOk
    rw [(sameBut_writeChecks_pass 1 _).1 _ (by decide)]
    rfl
  refine congrArg Host.Outcome.next ?_
  rw [hw]
  simp only [hok]
  unfold durableEffect
  simp [ringRec, JRec.sealed, hr, recordHeld]

/-! ### EXEC and CHECKPOINT records (R122, R123) -/

/-! ### Rebuilding a bank (R125) -/

theorem jrRebuildEffect_of_failed {b : Nat} {u : State} (h : failedBank u = some b) (w : Who) (v : Val) :
    jrRebuildEffect w v u = if u.fresh % 2 = 0 then
      .ok ({ u.drawn with jr := { u.drawn.jr with rebuildDue := some (u.time.now + 2 * secTicks) } }.set (bankKey b) 2) else .ok u.drawn := by
  unfold jrRebuildEffect
  rw [h]

/-- The keys of the banks' states stand below the ports' objects, beside the flag of a degraded journal. -/
theorem bankKey_bounds (b : Nat) : bankKey b < 0x3000 * 256 ∧ bankKey b ≠ K.jrDegraded := by
  unfold bankKey
  split <;> decide

theorem startFlush_jr (s : State) : (startFlush s).jr = s.jr := congrArg (fun t => t.jr) (startFlush_pastFaults s)

theorem fault_jr (kind inst cls code p0 p1 p2 p3 : Nat) (s : State) : (fault kind inst cls code p0 p1 p2 p3 s).jr = s.jr :=
  congrArg (fun t => t.jr) (fault_pastFaults kind inst cls code p0 p1 p2 p3 s)

theorem tellDropped_jr (s : State) : (tellDropped s).jr = s.jr := by
  unfold tellDropped
  split
  · rfl
  · exact fault_jr ..

theorem OnlyRaises.tellDropped {s0 s : State} (h : OnlyRaises s0 s) : OnlyRaises s0 (tellDropped s) :=
  .ite h (OnlyRaises.fault (h.congr (by rfl)) ..)

/-- The part when bank b holds its copy and is good again. -/
def rebuilt (b : Nat) (s : State) : State :=
  let s0 := copyBank b s
  let s1 := { s0 with jr := { s0.jr with rebuildDue := none } }.set (bankKey b) 0
  if s1.bankOk (1 - b) then s1.set K.jrDegraded 0 else s1

theorem rebuilt_state (b : Nat) (s : State) : (rebuilt b s).num (bankKey b) = 0 := by
  unfold rebuilt
  extract_lets s0 jr s1
  have h1 : s1.num (bankKey b) = 0 := (State.num_set ..).trans (if_pos rfl)
  split
  · exact (State.num_set ..).trans ((if_neg (bankKey_bounds b).2).trans h1)
  · exact h1

theorem rebuilt_due (b : Nat) (s : State) : (rebuilt b s).jr.rebuildDue = none := by
  unfold rebuilt
  extract_lets s0 jr s1
  split <;> rfl

/-- The end of a rebuilding is told in a record, or by a flush of what was buffered while the log was lost (R341). -/
def rebuildTold (b : Nat) (lost : Bool) (s : State) : State :=
  if lost then startFlush (tellDropped s) else fault 0x15 0 0 0x0005 b 0 0 0 s

theorem execRebuildComplete_of_bank {b : Nat} {s : State} (h : rebuildingBank s = some b) :
    exec .rebuildComplete s = .next (rebuildTold b (s.flag K.recLoglost) (rebuilt b s)) := by
  refine congrArg Host.Outcome.next ?_
  rw [h]
  rfl

theorem rebuildTold_jr (b : Nat) (lost : Bool) (s : State) : (rebuildTold b lost s).jr = s.jr := by
  unfold rebuildTold
  split
  · exact (startFlush_jr ..).trans (tellDropped_jr s)
  · exact fault_jr ..

theorem OnlyRaises.rebuildTold (b : Nat) (lost : Bool) (s : State) : OnlyRaises s (rebuildTold b lost s) :=
  .ite (OnlyRaises.refl s).tellDropped.startFlush ((OnlyRaises.refl s).fault ..)

/-- Settles O36: an ACCEPT record accepts by `acceptSlot`, EXEC and CHECKPOINT records join those being written, and a bank is good at the end. -/
theorem journalRecordsAreKept : Obligations.JournalRecordsAreKept := by
  refine ⟨?accept, ?marks, ?checkpoint, ?rebuild, ?complete, ?notRebuilding⟩
  case accept =>
    intro r rest x f s hw hr hslot hreq habort _ hbank _
    refine ⟨_, execJournalRecordDurable_accept hw hr hbank, ?_⟩
    have hheld := acceptSlot_accepts ((slot_congr (recordHeld_tx r rest s) r.slot).trans hslot) hreq habort r.launch
    have hseq : (recordHeld r rest s).num K.txNextSeq = s.num K.txNextSeq := (sameBut_recordHeld r rest s).1 _ (by decide)
    obtain ⟨hfreed, ⟨hstatus, hout⟩, hnext, ⟨a, hacc, hl, hst, hs⟩, hjr⟩ := hheld
    rw [State.nat, hseq] at hnext hs
    rw [recordHeld_tx] at hacc
    exact ⟨(congrArg Journal.writing hjr).trans (recordHeld_writing ..), hfreed, hstatus, hout, hnext, a, hacc, hl, hst, hs⟩
  case marks =>
    intro s hmarks hbanks
    exact ⟨_, congrArg Host.Outcome.next (if_neg (by simp [hmarks, hbanks])), rfl, rfl, .of_tables rfl rfl⟩
  case checkpoint =>
    intro s hlaunch hbanks hwriting
    have hdue : ¬ (s.jr.launchAt.isNone ∨ s.bothFailed ∨ s.jr.writing.any (fun r => decide (r.kind = 6))) := by
      rw [hbanks, hwriting, Option.isNone_iff_eq_none, ← Option.not_isSome_iff_eq_none, hlaunch]
      simp
    exact ⟨_, congrArg Host.Outcome.next (if_neg hdue), rfl, ⟨_, rfl, rfl, rfl⟩, .of_tables rfl rfl⟩
  case rebuild =>
    intro f w v b s u hreach hbank
    refine does_of_reaches hreach rfl ?_
    rw [jrRebuildEffect_of_failed hbank]
    by_cases heven : u.fresh % 2 = 0
    · rw [if_pos heven, finish_ok]
      refine ⟨answered_answer .., fun _ => ⟨?_, ?_⟩, fun hodd => absurd heven hodd⟩
      · rw [answer_num, State.num_set, if_pos rfl]
      · rw [answer_jr]
        rfl
    · rw [if_neg heven, finish_ok]
      exact ⟨answered_answer .., fun h => absurd h heven, fun _ => SameObjects.trans (.of_tables rfl rfl) (sameObjects_answer ..)⟩
  case complete =>
    intro b s hb
    refine ⟨_, execRebuildComplete_of_bank hb, ?_, ?_⟩
    · exact ((OnlyRaises.rebuildTold ..).num _ (bankKey_bounds b).1).trans (rebuilt_state b s)
    · exact (congrArg Journal.rebuildDue (rebuildTold_jr ..)).trans (rebuilt_due b s)
  case notRebuilding =>
    intro s hnone
    refine ⟨s, congrArg Host.Outcome.next ?_, rfl⟩
    rw [hnone]

end Sys2Proof.Machine
end

section
/-! PROOFS. What other parts and the operator make of a branch (R111, R127 to R132): it opens, prepares, votes, takes the decision, falls In doubt,
asks again, and is resolved by hand (closing is log entry 74, resolving log entry 75). -/

namespace Sys2Proof.Machine

/-! ### Messages leave the objects, the transactions and the journal alone -/

theorem State.tx_ite {c : Prop} [Decidable c] {s t : State} {x : Vestibule} (hs : s.tx = x) (ht : t.tx = x) : (if c then s else t).tx = x := by
  split <;> assumption

@[simp] theorem sendDown_jr (code : Nat) (nums : List Int) (s : State) : (sendDown code nums s).jr = s.jr := by
  unfold sendDown
  refine forL_fixes State.jr _ (fun l t => ?_) _ s
  rfl

theorem SameObjects.isNewel {s t : State} (h : SameObjects s t) : isNewel t = isNewel s := by
  unfold Machine.isNewel
  simp only [h.1]

theorem sameObjects_sendTo (code dest : Nat) (nums : List Int) (s : State) : SameObjects s (sendTo code dest nums s) := .of_tables rfl rfl

/-- A message for this part is acted on. -/
theorem takeControl_forThis {m : TxMsg} {s : State} (hs : s.serving = true) (hm : forThis m s = true) (code : Nat) (act : State → State) :
    takeControl code m act s = act s := by
  unfold takeControl
  rw [hs, hm]
  rfl

/-! ### PREPARE (R129) -/

/-- At a part that is not the Newel a vote is sent. -/
theorem castVote_sends {s : State} (h : isNewel s = false) (arg sysId sysSeq reason object : Nat) :
    castVote arg sysId sysSeq reason object s =
      sendTo 0x24 (newelAddr s) (msgNums s arg (newelAddr s) sysId sysSeq noTime reason object) s := by
  unfold castVote
  rw [h]
  rfl

/-- The branch x of this part after a PREPARE with a system sequence and a launch tick. -/
def preparedTx (x : Tx) (sysSeq launch now : Nat) (entry : Option Nat) : Tx :=
  { x with state := 2, sysSeq := sysSeq, launch := launch, since := now, entry := entry.getD noEntry }

/-- The part with the branch of slot i prepared; what PARTS has marked is used up. -/
def preparing (i : Nat) (x : Tx) (sysId sysSeq launch : Nat) (s : State) : State :=
  let s1 := { s with tx := { s.tx with sys := s.tx.sys.filter (fun x => !(decide (x.sysId = sysId) && decide (x.state = 4))) } }
  setSlot i (some (preparedTx x sysSeq launch s.time.now (commitEntry s1 (x.staged.map Prod.fst)))) s1

theorem preparing_slot (i : Nat) (x : Tx) (sysId sysSeq launch : Nat) (s : State) :
    ∃ e, (preparing i x sysId sysSeq launch s).slot i = some (preparedTx x sysSeq launch s.time.now e) :=
  ⟨_, slot_setSlot_same ..⟩

theorem sameObjects_preparing (i : Nat) (x : Tx) (sysId sysSeq launch : Nat) (s : State) :
    SameObjects s (preparing i x sysId sysSeq launch s) := .of_tables rfl rfl

/-- A prepared branch votes no, or its PREPARE record is being written. -/
theorem takePrepare_cases {sysId : Nat} {i : Nat} {x : Tx} {s : State} (h : branchSlot s sysId = some (i, x)) (sysSeq launch : Nat) :
    (∃ reason object, takePrepare sysId sysSeq launch s = castVote 0 sysId sysSeq reason object (preparing i x sysId sysSeq launch s)) ∨
      (∃ r, takePrepare sysId sysSeq launch s = writeRec r (preparing i x sysId sysSeq launch s) ∧ r.kind = 2 ∧ r.slot = i) := by
  unfold takePrepare
  extract_lets known tx s1
  have hslot : branchSlot s1 sysId = some (i, x) := h
  rw [hslot]
  dsimp only
  split
  · exact .inl ⟨_, _, rfl⟩
  · split
    · exact .inl ⟨_, _, rfl⟩
    · split
      · exact .inl ⟨_, _, rfl⟩
      · exact .inr ⟨_, rfl, rfl, rfl⟩

/-- What a participant shows when a PREPARE has been taken: its branch is Committing, and its record is being written or its no is on its way. -/
structure Prepared (i : Nat) (y : Option Nat → Tx) (s t : State) : Prop where
  slot : ∃ e, t.slot i = some (y e)
  recordOrNo : (∃ r, t.jr.writing = s.jr.writing ++ [r] ∧ r.kind = 2 ∧ r.slot = i) ∨ ∃ link nums, Out.cell 0x24 link (0 :: nums) ∈ t.out
  objects : SameObjects s t

theorem takePrepare_prepares {sysId : Nat} {i : Nat} {x : Tx} {s : State} (hn : isNewel s = false) (h : branchSlot s sysId = some (i, x))
    (sysSeq launch : Nat) : Prepared i (preparedTx x sysSeq launch s.time.now) s (takePrepare sysId sysSeq launch s) := by
  have hsame := sameObjects_preparing i x sysId sysSeq launch s
  rcases takePrepare_cases h sysSeq launch with ⟨reason, object, hvote⟩ | ⟨r, hrec, hkind, hslot⟩
  · rw [hvote, castVote_sends (hsame.isNewel.trans hn)]
    exact ⟨preparing_slot .., .inr ⟨_, _, List.mem_cons_self⟩, hsame.trans (sameObjects_sendTo ..)⟩
  · rw [hrec]
    exact ⟨preparing_slot .., .inl ⟨r, rfl, hkind, hslot⟩, hsame.trans (.of_tables rfl rfl)⟩

/-! ### Decisions (R129, R130) -/

/-- A decision at a part that is not the Newel is taken, whichever cell has brought it; one in a launch cell is repeated first. -/
theorem execDecide_takes {m : TxMsg} {s : State} (hs : s.serving = true) (hn : isNewel s = false) (hm : forAll m = true ∨ forThis m s = true) :
    ∃ t, exec (.decide m) s = .next (takeDecision m t) ∧ t.tx = s.tx ∧ t.jr = s.jr := by
  by_cases hall : forAll m = true
  · refine ⟨sendDown 0x25 (relayNums 0x25 m) s, congrArg Host.Outcome.next ?_, sendDown_tx .., sendDown_jr ..⟩
    rw [if_pos hall, if_neg (by simp [hs, hn])]
  · refine ⟨s, congrArg Host.Outcome.next ?_, rfl, rfl⟩
    rw [if_neg hall, takeControl_forThis hs (hm.resolve_left hall), if_neg (by simp [hn])]

/-- Branches are found by the slots alone. -/
theorem pairSlot_congr {s t : State} (h : t.tx = s.tx) (sysId sysSeq : Nat) : pairSlot t sysId sysSeq = pairSlot s sysId sysSeq := by
  unfold pairSlot slotsInUse
  rw [h]

/-- A decision other than a commit of no PREPARE concerns the branch of its pair. -/
theorem decidedSlot_eq {m : TxMsg} (h : m.sysSeq ≠ 0 ∨ m.arg ≠ 1) (s : State) : decidedSlot s m = pairSlot s m.sysId m.sysSeq := by
  unfold decidedSlot
  by_cases hseq : m.sysSeq = 0
  · have harg : m.arg ≠ 1 := h.resolve_left (not_not_intro hseq)
    rw [if_pos hseq, if_neg harg, hseq]
    rfl
  · rw [if_neg hseq]

theorem takeDecision_commit {m : TxMsg} {i : Nat} {x : Tx} {s : State} (harg : m.arg = 1) (hslot : decidedSlot s m = some (i, x))
    (hx : x.state = 6) : takeDecision m s = commitSlot i x s := by
  unfold takeDecision
  rw [hslot]
  simp [harg, hx]

theorem takeDecision_abort {m : TxMsg} {i : Nat} {x : Tx} {s : State} (harg : m.arg = 3) (hslot : decidedSlot s m = some (i, x)) :
    takeDecision m s = closeSlot i 3 x s := by
  unfold takeDecision
  rw [hslot]
  simp [harg]

/-- A commit that is new to a branch with an entry begins its OUTCOME record. -/
theorem commitSlot_writes {i : Nat} {x : Tx} {s : State} (hnew : s.jr.writing.any (fun r => decide (r.kind = 4 ∧ r.slot = i ∧ r.outcome = 1)) = false)
    (hentry : x.entry < 4096) :
    ∃ r, (commitSlot i x s).jr.writing = s.jr.writing ++ [r] ∧ r.kind = 4 ∧ r.outcome = 1 ∧ r.launch = x.launch ∧ r.staged = x.staged := by
  have hb : branchEntry x s = some x.entry := if_pos hentry
  unfold commitSlot
  rw [hnew, hb]
  exact ⟨_, rfl, rfl, rfl, rfl, rfl⟩

/-- An answer to a COMMIT, or to an ABORT that waits with it and is not late, leaves the transactions alone. -/
theorem answerCommit_tx (x : Tx) (status : Nat) (b : List Byte) (s : State) : (answerCommit x status b s).tx = s.tx := by
  unfold answerCommit
  split
  · exact answer_tx ..
  · rfl

theorem answerAbort_tx (x : Tx) (status : Nat) (s : State) : (answerAbort x status s).tx = s.tx := by
  unfold answerAbort
  split
  · refine (answer_tx ..).trans ?_
    split <;> rfl
  · rfl

/-- A branch that is closed has no slot. -/
theorem closeSlot_slot (i outcome : Nat) (x : Tx) (s : State) : (closeSlot i outcome x s).slot i = none := by
  unfold closeSlot
  extract_lets jr s1 s2 s3
  have h3 : s3.slot i = none := slot_setSlot_same i none s2
  split
  · exact (slot_congr ((answerAbort_tx ..).trans (answerCommit_tx ..)) i).trans h3
  · exact h3

/-! ### PARTS (R128) -/

theorem markParts_marks {m : TxMsg} {s : State} (hin : s.nat K.stwAddr ∈ m.bitmap) (hnew : marked s m.sysId = false) :
    marked (markParts m s) m.sysId = true ∧ SameObjects s (markParts m s) := by
  unfold markParts
  extract_lets s1
  rw [if_pos ⟨hin, by simp [hnew]⟩]
  exact ⟨by simp [marked], (sameObjects_sendDown ..).trans (.of_tables rfl rfl)⟩

/-! ### In doubt (R130, R132) -/

theorem resolveEffect_resolves {v : Val} {i : Nat} {x : Tx} {u : State}
    (hfind : (slotsInUse u).find? (fun e => decide (e.2.state = 7) && decide ((e.2.sysId : Int) = v.int)) = some (i, x))
    (hnewel : newelReached u x.sysSeq = false) (w : Who) :
    resolveEffect w v u = .ok (fault 0x00 0 2 (evCode 0x04 2) x.sysId x.sysSeq 0 0 (closeSlot i 3 x u)) := by
  simp [resolveEffect, hfind, hnewel]

theorem resolveEffect_reached {v : Val} {i : Nat} {x : Tx} {u : State}
    (hfind : (slotsInUse u).find? (fun e => decide (e.2.state = 7) && decide ((e.2.sysId : Int) = v.int)) = some (i, x))
    (hnewel : newelReached u x.sysSeq = true) (w : Who) : resolveEffect w v u = .no u stRange := by
  simp [resolveEffect, hfind, hnewel]

theorem resolveEffect_none {v : Val} {u : State}
    (hfind : (slotsInUse u).find? (fun e => decide (e.2.state = 7) && decide ((e.2.sysId : Int) = v.int)) = none) (w : Who) :
    resolveEffect w v u = .no u stRange := by
  simp [resolveEffect, hfind]

/-- Settles O37: each message is its operation on the branch of its identity, and each timer of a branch its one step. -/
theorem branchesFollowTheNewel : Obligations.BranchesFollowTheNewel := by
  refine ⟨?branch, ?prepare, ?commit, ?abort, ?parts, ?inDoubt, ?query, ?resolve, ?reached, ?unknown⟩
  case branch =>
    intro m i s hs hm hnew hfree
    obtain ⟨y, hopen, hflow, hstate, -, hkind, hid⟩ := openTx_of_free hfree 3 (tunnelFlow m.origin m.om) m.origin m.om m.sysId
    refine ⟨_, congrArg Host.Outcome.next (takeControl_forThis hs hm ..), ?_⟩
    rw [hnew, hopen]
    exact ⟨sameBut_opened .., y, slot_setSlot_same .., hkind, hstate, hid rfl, hflow⟩
  case prepare =>
    intro m i x s hs hn hslot
    have hdown := sameObjects_sendDown 0x23 (relayNums 0x23 m) s
    have hslots : branchSlot (sendDown 0x23 (relayNums 0x23 m) s) m.sysId = some (i, x) := by
      unfold branchSlot slotsInUse
      rw [sendDown_tx]
      exact hslot
    obtain ⟨⟨e, he⟩, hor, hsame⟩ := takePrepare_prepares (hdown.isNewel.trans hn) hslots m.sysSeq (tbTicks m.launch)
    refine ⟨_, congrArg Host.Outcome.next (if_neg (by simp [hs, hn])), ⟨e.getD noEntry, ?_⟩, ?_, hdown.trans hsame⟩
    · rw [he, sendDown_time]
      rfl
    · rwa [sendDown_jr] at hor
  case commit =>
    intro m i x s hs hn harg hm hseq hslot hx hentry hnew
    obtain ⟨t, hexec, htx, hjr⟩ := execDecide_takes hs hn hm
    have hdecided : decidedSlot t m = some (i, x) := by rw [decidedSlot_eq (.inl hseq), pairSlot_congr htx, hslot]
    refine ⟨_, hexec, ?_⟩
    rw [takeDecision_commit harg hdecided hx, ← hjr]
    exact commitSlot_writes (by rwa [hjr]) hentry
  case abort =>
    intro m i x s hs hn harg hm hslot
    obtain ⟨t, hexec, htx, hjr⟩ := execDecide_takes hs hn hm
    have hdecided : decidedSlot t m = some (i, x) := by rw [decidedSlot_eq (.inr (by omega)), pairSlot_congr htx, hslot]
    refine ⟨_, hexec, ?_⟩
    rw [takeDecision_abort harg hdecided]
    exact closeSlot_slot ..
  case parts =>
    intro m s hs hn hall hin hnew
    refine ⟨markParts m s, congrArg Host.Outcome.next ?_, markParts_marks hin hnew⟩
    rw [if_pos hall, if_neg (by simp [hs, hn])]
  case inDoubt =>
    intro i x s hslot hx hdue
    refine ⟨(setSlot i (some { x with state := 7 }) s).sticky skInDoubt, congrArg Host.Outcome.next ?_, ?_, ?_, ?_⟩
    · rw [hslot]
      exact if_pos ⟨hx, hdue⟩
    · exact slot_setSlot_same ..
    · exact State.bit_setBit_self ..
    · exact ((sameObjects_setSlot ..).sameBut _).set List.mem_cons_self
  case query =>
    intro i x s hslot hx hn
    have hnot : votedHere s x.sysSeq = false := by simp [votedHere, hn]
    have haddr : newelAddr s = s.nat K.stwNewel := by simp [newelAddr, hn]
    refine ⟨sendTo 0x26 (s.nat K.stwNewel) (msgNums s 0 (s.nat K.stwNewel) x.sysId x.sysSeq noTime 0 0) s, congrArg Host.Outcome.next ?_,
      sameObjects_sendTo .., msgNums s 0 (s.nat K.stwNewel) x.sysId x.sysSeq noTime 0 0, ?_⟩
    · rw [hslot]
      simp [hx, hnot]
    · rw [haddr]
      exact List.mem_cons_self
  case resolve =>
    intro f w v i x s u hreach hfind hnewel
    refine does_of_reaches hreach rfl ?_
    rw [resolveEffect_resolves hfind hnewel, finish_ok]
    exact ⟨answered_answer .., (slot_congr ((answer_tx ..).trans (fault_tx ..)) i).trans (closeSlot_slot ..)⟩
  case reached =>
    intro f w v i x s u hreach hfind hnewel
    refine does_of_reaches hreach rfl ?_
    rw [resolveEffect_reached hfind hnewel]
    exact finish_no ..
  case unknown =>
    intro f w v s u hreach hfind
    refine does_of_reaches hreach rfl ?_
    rw [resolveEffect_none hfind]
    exact finish_no ..

end Sys2Proof.Machine
end

section
/-! PROOFS. What the Newel makes of the messages of system transactions (R128 to R130): one vote runs at a time, and a decision begins with its
DECIDE record (queueing and deciding are log entry 73, aborting is log entry 75). -/

namespace Sys2Proof.Machine

/-- A message for the Newel is acted on. -/
theorem takeControl_newel {m : TxMsg} {s : State} (hs : s.serving = true) (hm : forThis m s = true) (hn : isNewel s = true) (code : Nat)
    (act : State → State) : takeControl code m (fun s => if isNewel s then act s else s) s = act s :=
  (takeControl_forThis hs hm ..).trans (if_pos hn)

/-! ### The queue (R129) -/

/-- A vote or a decision is under way. -/
def votingBusy (s : State) : Bool := s.tx.sys.any (fun x => decide (x.state = 1 ∨ x.state = 2))

/-- While a vote is under way, or nothing that waits has participants, no other begins. -/
theorem nextVote_waits {s : State} (h : votingBusy s = true ∨ s.tx.sys.find? (fun x => decide (x.state = 0) && decide (x.parts ≠ [])) = none)
    (n : Nat) : nextVote n s = showQueue s := by
  cases n with
  | zero => rfl
  | succ n =>
    unfold nextVote
    rcases h with hbusy | hnone
    · rw [if_pos (.inr hbusy)]
    · rw [hnone, ite_self]

/-- A request that comes to an empty queue waits there, without participants. -/
theorem queueRequest_first {s : State} (h : s.tx.sys = []) (m : TxMsg) :
    ∃ x : SysTx, (queueRequest m s).tx.sys = [x] ∧ x.sysId = m.sysId ∧ x.home = m.origin ∧ x.state = 0 ∧ x.parts = [] := by
  unfold queueRequest
  rw [h]
  exact ⟨_, rfl, rfl, rfl, rfl, rfl⟩

theorem showQueue_one {s : State} {x : SysTx} (h : s.tx.sys = [x]) (hx : x.state = 0) : (showQueue s).num K.txSysQueue = 1 := by
  unfold showQueue
  rw [State.num_set, if_pos rfl, h]
  simp [hx]

/-! ### Transactions in their places -/

theorem mem_putSys {x y z : SysTx} {s : State} (hz : z ∈ s.tx.sys) : (if z = x then y else z) ∈ (putSys x y s).tx.sys :=
  List.mem_map_of_mem hz

theorem mem_putSys_self {x y : SysTx} {s : State} (hx : x ∈ s.tx.sys) : y ∈ (putSys x y s).tx.sys := by
  have h := mem_putSys (x := x) (y := y) hx
  rwa [if_pos rfl] at h

theorem mem_putSys_of_ne {x y z : SysTx} {s : State} (hz : z ∈ s.tx.sys) (hne : z ≠ x) : z ∈ (putSys x y s).tx.sys := by
  have h := mem_putSys (x := x) (y := y) hz
  rwa [if_neg hne] at h

theorem votingBusy_of_mem {x : SysTx} {s : State} (hx : x ∈ s.tx.sys) (h : x.state = 1 ∨ x.state = 2) : votingBusy s = true :=
  List.any_eq_true.2 ⟨x, hx, decide_eq_true h⟩

/-- What the Newel holds under an identity and a sequence is one of its transactions, of that identity. -/
theorem sysOf_mem {s : State} {sysId sysSeq : Nat} {x : SysTx} (h : sysOf s sysId sysSeq = some x) : x ∈ s.tx.sys ∧ x.sysId = sysId := by
  have hp := List.find?_some h
  simp only [Bool.and_eq_true, decide_eq_true_eq] at hp
  exact ⟨List.mem_of_find?_eq_some h, hp.1.1⟩

/-! ### Participants (R128) -/

/-- A request that waits, with the participants that a message adds. -/
def withParts (m : TxMsg) (x : SysTx) : SysTx := { x with parts := x.parts ++ m.bitmap.filter (fun a => decide (a ∉ x.parts)) }

theorem gatherParts_waiting {m : TxMsg} {x : SysTx} {s : State} (h : sysOf s m.sysId 0 = some x) (hx : x.state = 0) :
    gatherParts m s = putSys x (withParts m x) s := by
  unfold gatherParts
  rw [h]
  exact if_pos hx

theorem mem_withParts {m : TxMsg} {a : Nat} (ha : a ∈ m.bitmap) (x : SysTx) : a ∈ (withParts m x).parts := by
  simp only [withParts, List.mem_append, List.mem_filter, decide_eq_true_eq]
  tauto

/-! ### Decisions (R129) -/

/-- A decision that is made: the transaction in its place, and its DECIDE record begun. -/
theorem decideSys_writes (x : SysTx) (outcome reason object noAddr : Nat) (s : State) :
    ∃ r, (decideSys x outcome reason object noAddr s).jr.writing = s.jr.writing ++ [r] ∧ r.kind = 3 ∧ r.outcome = outcome ∧ r.launch = x.launch := by
  unfold decideSys
  extract_lets y s1
  refine ⟨decideRec y, ?_, rfl, rfl, rfl⟩
  split <;> rfl

/-- A refusal names who said no, and why. -/
theorem decideSys_refusal (x : SysTx) (reason object noAddr : Nat) (s : State) :
    (decideSys x 2 reason object noAddr s).num K.txSysLastNoReason = reason ∧ (decideSys x 2 reason object noAddr s).num K.txSysLastNoAddr = noAddr := by
  simp [decideSys]

/-- Any other decision changes no object. -/
theorem sameObjects_decideSys {outcome : Nat} (h : outcome ≠ 2) (x : SysTx) (reason object noAddr : Nat) (s : State) :
    SameObjects s (decideSys x outcome reason object noAddr s) := by
  unfold decideSys
  rw [if_neg h]
  exact .of_tables rfl rfl

/-- What is decided on stays the one vote until its record is durable. -/
theorem decideSys_busy {x : SysTx} {s : State} (hx : x ∈ s.tx.sys) (outcome reason object noAddr : Nat) :
    votingBusy (decideSys x outcome reason object noAddr s) = true := by
  unfold decideSys
  extract_lets y s1
  have hy : y ∈ s1.tx.sys := mem_putSys_self hx
  refine votingBusy_of_mem (x := y) ?_ (.inr rfl)
  split <;> exact hy

/-! ### Votes -/

theorem takeVote_no {m : TxMsg} {x : SysTx} {s : State} (h : sysOf s m.sysId m.sysSeq = some x) (hx : x.state = 1) (harg : m.arg = 0) :
    takeVote m s = decideSys x 2 m.reason m.object m.origin s := by
  unfold takeVote
  rw [h]
  simp [hx, harg]

/-- The transaction x with one more yes. -/
def withYes (origin : Nat) (x : SysTx) : SysTx := { x with yes := if origin ∈ x.yes then x.yes else origin :: x.yes }

theorem mem_withYes {a origin : Nat} {x : SysTx} (h : a = origin ∨ a ∈ x.yes) : a ∈ (withYes origin x).yes := by
  unfold withYes
  dsimp only
  split
  · rcases h with rfl | h <;> assumption
  · exact List.mem_cons.2 h

theorem takeVote_lastYes {m : TxMsg} {x : SysTx} {s : State} (h : sysOf s m.sysId m.sysSeq = some x) (hx : x.state = 1) (harg : m.arg = 1)
    (hall : ∀ a, a ∈ x.parts → a = m.origin ∨ a ∈ x.yes) :
    takeVote m s = decideSys (withYes m.origin x) 1 0 0 0xFFFF (putSys x (withYes m.origin x) s) := by
  have hyes : (x.parts.all fun a => decide (a ∈ (withYes m.origin x).yes)) = true :=
    List.all_eq_true.2 fun a ha => decide_eq_true (mem_withYes (hall a ha))
  unfold takeVote
  rw [h]
  dsimp only
  rw [if_neg (by simp [hx]), if_neg (by simp [harg])]
  exact if_pos hyes

/-! ### Acknowledgements -/

/-- The transaction x with one more acknowledgement. -/
def withAck (origin : Nat) (x : SysTx) : SysTx := { x with acks := if origin ∈ x.acks then x.acks else origin :: x.acks }

theorem mem_withAck (origin : Nat) (x : SysTx) : origin ∈ (withAck origin x).acks := by
  unfold withAck
  dsimp only
  split
  · assumption
  · exact List.mem_cons_self

theorem takeAck_takes {origin sysId sysSeq : Nat} {x : SysTx} {s : State}
    (h : s.tx.sys.find? (fun x => decide (x.sysId = sysId ∧ x.sysSeq = sysSeq ∧ x.state = 3)) = some x) :
    SameObjects s (takeAck origin sysId sysSeq s) ∧ (takeAck origin sysId sysSeq s).tx = (putSys x (withAck origin x) s).tx := by
  unfold takeAck
  rw [h]
  dsimp only
  exact ⟨.ite (.of_tables rfl rfl) (.of_tables rfl rfl), State.tx_ite rfl rfl⟩

/-! ### Aborts (R117) -/

theorem takeAbort_voting {sysId sysSeq : Nat} {x : SysTx} {s : State} (h : abortTarget s sysId sysSeq = some x) (hx : x.state = 1) :
    takeAbort sysId sysSeq s = decideSys x 3 0 0 0xFFFF s := by
  unfold takeAbort
  rw [h]
  simp [hx]

theorem abortTarget_mem {s : State} {sysId sysSeq : Nat} {x : SysTx} (h : abortTarget s sysId sysSeq = some x) : x ∈ s.tx.sys :=
  List.mem_of_find?_eq_some h

/-! ### The statement -/

/-- Settles O38: each message is its operation on the transaction of its identity; while that one is voted on or decided, `nextVote` shows the queue
and begins nothing. -/
theorem newelDecides : Obligations.NewelDecides := by
  refine ⟨?request, ?parts, ?no, ?lastYes, ?missing, ?ack, ?query, ?abort⟩
  case request =>
    intro m s hs hm hn hempty
    obtain ⟨x, hsys, hid, hhome, hx, hparts⟩ := queueRequest_first hempty m
    refine ⟨nextVote 9 (queueRequest m s), congrArg Host.Outcome.next (takeControl_newel hs hm hn ..), ?_⟩
    have hnone : (queueRequest m s).tx.sys.find? (fun x => decide (x.state = 0) && decide (x.parts ≠ [])) = none := by simp [hsys, hparts]
    rw [nextVote_waits (.inr hnone)]
    exact ⟨showQueue_one hsys hx, x, hsys, hid, hhome, hx⟩
  case parts =>
    intro m x y s hs hall hm hn hsys hx hy hne hvote
    obtain ⟨hmem, hid⟩ := sysOf_mem hsys
    refine ⟨nextVote 9 (gatherParts m s), congrArg Host.Outcome.next ?_, ?_⟩
    · rw [if_neg (by simp [hall]), takeControl_newel hs hm hn]
    · have hyx : y ≠ x := fun h => hne (h ▸ hid)
      rw [gatherParts_waiting hsys hx, nextVote_waits (.inl (votingBusy_of_mem (mem_putSys_of_ne hy hyx) (.inl hvote)))]
      exact ⟨withParts m x, mem_putSys_self hmem, hid, fun a ha => mem_withParts ha x⟩
  case no =>
    intro m x s hs hm hn hsys hx harg
    refine ⟨takeVote m s, congrArg Host.Outcome.next (takeControl_newel hs hm hn ..), ?_⟩
    rw [takeVote_no hsys hx harg]
    obtain ⟨hreason, haddr⟩ := decideSys_refusal x m.reason m.object m.origin s
    obtain ⟨r, hw, hkind, hout, -⟩ := decideSys_writes x 2 m.reason m.object m.origin s
    exact ⟨hreason, haddr, r, hw, hkind, hout⟩
  case lastYes =>
    intro m x s hs hm hn hsys hx harg hall
    refine ⟨takeVote m s, congrArg Host.Outcome.next (takeControl_newel hs hm hn ..), ?_⟩
    rw [takeVote_lastYes hsys hx harg hall]
    exact ⟨SameObjects.trans (.of_tables rfl rfl) (sameObjects_decideSys (by decide) ..), decideSys_writes ..⟩
  case missing =>
    intro id x s hvoting hdue
    refine ⟨decideSys x 2 0x0604 0 ((x.parts.find? (fun a => decide (a ∉ x.yes))).getD 0xFFFF) s, congrArg Host.Outcome.next ?_, ?_⟩
    · rw [hvoting]
      exact if_pos hdue
    · obtain ⟨r, hw, hkind, hout, -⟩ := decideSys_writes x 2 0x0604 0 ((x.parts.find? (fun a => decide (a ∉ x.yes))).getD 0xFFFF) s
      exact ⟨(decideSys_refusal ..).1, r, hw, hkind, hout⟩
  case ack =>
    intro m x s hs hm hn hfind
    obtain ⟨hsame, htx⟩ := takeAck_takes (origin := m.origin) hfind
    refine ⟨takeAck m.origin m.sysId m.sysSeq s, congrArg Host.Outcome.next (takeControl_newel hs hm hn ..), hsame, withAck m.origin x, ?_, ?_,
      mem_withAck ..⟩
    · rw [htx]
      exact mem_putSys_self (List.mem_of_find?_eq_some hfind)
    · have hp := List.find?_some hfind
      exact (of_decide_eq_true hp).1
  case query =>
    intro m s hs hm hn
    exact ⟨_, congrArg Host.Outcome.next (takeControl_newel hs hm hn ..), sameObjects_sendTo .., _, List.mem_cons_self⟩
  case abort =>
    intro m x s hs hm hn htarget hx
    refine ⟨nextVote 9 (takeAbort m.sysId m.sysSeq s), congrArg Host.Outcome.next (takeControl_newel hs hm hn ..), ?_⟩
    rw [takeAbort_voting htarget hx, nextVote_waits (.inl (decideSys_busy (abortTarget_mem htarget) ..))]
    obtain ⟨r, hw, hkind, hout, -⟩ := decideSys_writes x 3 0 0 0xFFFF s
    exact ⟨r, hw, hkind, hout⟩

end Sys2Proof.Machine
end

section
/-! PROOFS. What leaves the transactions that wait for their launch alone: every operation that staged values set off (R115). A link that a domain takes
down aborts the Open transaction of its neighbour, none that is accepted. -/

namespace Sys2Proof.Machine

/-- From s to t no transaction has joined or left those that wait for their launch. -/
def WaitingStand (s t : State) : Prop := t.tx.accepted = s.tx.accepted

namespace WaitingStand

variable {s0 s t : State}

protected theorem refl (s : State) : WaitingStand s s := rfl

protected theorem trans (h : WaitingStand s0 s) (h' : WaitingStand s t) : WaitingStand s0 t := Eq.trans h' h

/-! ### The operations of the state -/

protected theorem congr (h : WaitingStand s0 s) (ht : t.tx.accepted = s.tx.accepted) : WaitingStand s0 t := h.trans ht

protected theorem of_pastFaults (h : WaitingStand s0 s) (hp : t.pastFaults = s.pastFaults) : WaitingStand s0 t :=
  h.congr (congrArg (fun u => u.tx.accepted) hp)

protected theorem set (h : WaitingStand s0 s) (k : Nat) (v : Int) : WaitingStand s0 (s.set k v) := h.congr (by rfl)

protected theorem sticky (h : WaitingStand s0 s) (b : Nat) : WaitingStand s0 (s.sticky b) := h.set ..

protected theorem setChan (h : WaitingStand s0 s) (c : Nat) (x : Chan) : WaitingStand s0 (s.setChan c x) := h.congr (by rfl)

protected theorem setLink (h : WaitingStand s0 s) (l : Nat) (x : Link) : WaitingStand s0 (s.setLink l x) := h.congr (by rfl)

protected theorem ite {c : Prop} [Decidable c] (hs : WaitingStand s0 s) (ht : WaitingStand s0 t) : WaitingStand s0 (if c then s else t) := by
  split <;> assumption

protected theorem forL {α : Type} {f : α → State → State} (hf : ∀ a s, WaitingStand s0 s → WaitingStand s0 (f a s)) (l : List α)
    (h : WaitingStand s0 s) : WaitingStand s0 (forL l f s) := by
  induction l generalizing s with
  | nil => exact h
  | cons a l ih => exact ih (hf a s h)

protected theorem forN {f : Nat → State → State} (hf : ∀ a s, WaitingStand s0 s → WaitingStand s0 (f a s)) (n : Nat) (h : WaitingStand s0 s) :
    WaitingStand s0 (forN n f s) := WaitingStand.forL hf (List.range n) h

protected theorem irq (h : WaitingStand s0 s) (v : Nat) : WaitingStand s0 (irq v s) := h.of_pastFaults (irq_pastFaults v s)

protected theorem fault (h : WaitingStand s0 s) (kind inst cls code p0 p1 p2 p3 : Nat) :
    WaitingStand s0 (fault kind inst cls code p0 p1 p2 p3 s) := h.of_pastFaults (fault_pastFaults ..)

protected theorem event (h : WaitingStand s0 s) (code p0 p1 p2 p3 : Nat) : WaitingStand s0 (event code p0 p1 p2 p3 s) :=
  h.of_pastFaults (enterRec_pastFaults ..)

/-! ### Mutes and gains of channels (R190, R222, R230) -/

protected theorem raiseCh (h : WaitingStand s0 s) (c b : Nat) : WaitingStand s0 (raiseCh c b s) := h.of_pastFaults (raiseCh_pastFaults ..)

protected theorem setGain (h : WaitingStand s0 s) (c : Nat) (g : Int) : WaitingStand s0 (setGain c g s) := h.congr (by rfl)

protected theorem reload (h : WaitingStand s0 s) (c : Nat) : WaitingStand s0 (reload c s) := h.congr (by rfl)

protected theorem markWindow (h : WaitingStand s0 s) (c : Nat) : WaitingStand s0 (markWindow c s) :=
  .ite (h.congr (by rfl)) (h.congr (by rfl))

protected theorem releaseCh (h : WaitingStand s0 s) (c b : Nat) : WaitingStand s0 (releaseCh c b s) := by
  unfold releaseCh
  extract_lets w s1
  have h1 : WaitingStand s0 s1 := h.set ..
  exact .ite h1 (.ite (.ite (h1.reload c) (h1.markWindow c)) (.ite (.ite (h1.congr (by rfl)) (h1.reload c)) h1))

protected theorem patternFreeze (h : WaitingStand s0 s) (c : Nat) (n : Option Nat) : WaitingStand s0 (patternFreeze c n s) := by
  unfold patternFreeze
  split <;> exact h.congr (by rfl)

protected theorem implyChannel (h : WaitingStand s0 s) (c : Nat) : WaitingStand s0 (implyChannel c s) := by
  unfold implyChannel
  split
  · extract_lets pos
    split
    · exact .ite ((h.patternFreeze c _).releaseCh c _) (.ite (h.patternFreeze c _) ((h.patternFreeze c _).raiseCh c _))
    · exact h
  · exact (h.patternFreeze c _).releaseCh c _

protected theorem showPermit (h : WaitingStand s0 s) (c : Nat) (n : Option Nat) : WaitingStand s0 (showPermit c n s) := by
  unfold showPermit
  split <;> exact h.congr (by rfl)

protected theorem takePermit (h : WaitingStand s0 s) (c : Nat) : WaitingStand s0 (takePermit c s) := by
  unfold takePermit
  extract_lets n s1
  have h1 : WaitingStand s0 s1 := h.showPermit c n
  cases n with
  | some _ => exact h1.releaseCh c _
  | none => exact h1.raiseCh c _

/-! ### Cancellers (R202, R205, R314) -/

protected theorem unplace (h : WaitingStand s0 s) (c : Nat) : WaitingStand s0 (unplace c s) := .forN (fun _ _ ht => ht.set ..) 4 h

protected theorem placeChannel (h : WaitingStand s0 s) (c : Nat) : WaitingStand s0 (placeChannel c s) := by
  unfold placeChannel
  extract_lets s1
  have h1 : WaitingStand s0 s1 := by
    refine .forL (fun e t ht => ?_) _ h
    unfold placeBranch
    split
    · exact ht.set ..
    · exact ht
  exact .ite h (.ite (h1.fault ..) h1)

protected theorem placeAll (h : WaitingStand s0 s) (cs : List Nat) : WaitingStand s0 (placeAll cs s) :=
  .forL (fun c _ ht => ht.placeChannel c) _ (.forL (fun c _ ht => ht.placeChannel c) _ (.forL (fun c _ ht => ht.unplace c) _ h))

protected theorem tapReset (h : WaitingStand s0 s) (c : Nat) : WaitingStand s0 (tapReset c s) := by
  unfold tapReset
  extract_lets x s1 s2 s3
  have h1 : WaitingStand s0 s1 := h.congr (by rfl)
  have h2 : WaitingStand s0 s2 := .forN (fun _ _ ht => ht.set ..) 4 h1
  have h3 : WaitingStand s0 s3 := .ite (h2.set ..) h2
  exact .ite h (h3.congr (by rfl))

protected theorem unshedCanceller (h : WaitingStand s0 s) (c : Nat) : WaitingStand s0 (unshedCanceller c s) := by
  unfold unshedCanceller
  extract_lets s1
  have h1 : WaitingStand s0 s1 := WaitingStand.tapReset (h.set ..) c
  exact .ite h1 (h1.releaseCh c _)

protected theorem shedCanceller (h : WaitingStand s0 s) (c : Nat) : WaitingStand s0 (shedCanceller c s) := by
  unfold shedCanceller
  extract_lets x s1
  have h1 : WaitingStand s0 s1 := WaitingStand.raiseCh (h.congr (by rfl)) c cmThermal
  exact h1.congr (by rfl)

protected theorem retap (h : WaitingStand s0 s) (c : Nat) : WaitingStand s0 (retap c s) := by
  unfold retap
  extract_lets s1 s2
  have h1 : WaitingStand s0 s1 := h.tapReset c
  have h2 : WaitingStand s0 s2 := .ite (WaitingStand.releaseCh (h1.set ..) c _) h1
  exact .ite (h2.set ..) (.ite (h1.set ..) h1)

/-! ### Channels that start, stop or change (R169, R180, R181) -/

protected theorem showRefs (h : WaitingStand s0 s) (c : Nat) : WaitingStand s0 (showRefs c s) := .forN (fun _ _ ht => ht.set ..) 4 h

protected theorem syncReset (h : WaitingStand s0 s) (c : Nat) : WaitingStand s0 (syncReset c s) := by
  unfold syncReset
  extract_lets x s1 s2
  have h2 : WaitingStand s0 s2 := h.congr (by rfl)
  exact h2.raiseCh c cmSettling

protected theorem startChannel (h : WaitingStand s0 s) (c : Nat) : WaitingStand s0 (startChannel c s) := by
  unfold startChannel
  extract_lets w w1 w2 w3 w4 w5 w6 s1 s2 s3 s4 x s5
  have h1 : WaitingStand s0 s1 := WaitingStand.showPermit (WaitingStand.showRefs (h.set ..) c) c _
  have h2 : WaitingStand s0 s2 := WaitingStand.tapReset (h1.set ..) c
  have h3 : WaitingStand s0 s3 := WaitingStand.syncReset (h2.set ..) c
  have h4 : WaitingStand s0 s4 := h3.setGain ..
  have h5 : WaitingStand s0 s5 := h4.setChan ..
  exact WaitingStand.set (h5.set ..) ..

protected theorem stopChannel (h : WaitingStand s0 s) (c : Nat) : WaitingStand s0 (stopChannel c s) := by
  unfold stopChannel
  extract_lets s1 x y s2
  have h1 : WaitingStand s0 s1 := WaitingStand.unplace (h.set ..) c
  exact h1.congr (by rfl)

protected theorem noteLoads (h : WaitingStand s0 s) (o : State) (c : Nat) : WaitingStand s0 (noteLoads o c s) :=
  .forN (fun _ _ ht => .ite (ht.congr (by rfl)) ht) 2 h

protected theorem reviewRecords (h : WaitingStand s0 s) (o : State) (c : Nat) : WaitingStand s0 (reviewRecords o c s) :=
  .ite h (.forN (fun _ _ ht => .ite (ht.set ..) ht) 4 h)

protected theorem trimChannel (h : WaitingStand s0 s) (o : State) (c : Nat) : WaitingStand s0 (trimChannel o c s) :=
  .ite (h.congr (by rfl)) h

protected theorem reviewTrace (h : WaitingStand s0 s) (c : Nat) : WaitingStand s0 (reviewTrace c s) :=
  .ite (.ite h (h.raiseCh c _)) (.ite (.ite (h.congr (by rfl)) h) (h.releaseCh c _))

protected theorem changeChannel (h : WaitingStand s0 s) (o : State) (moved : List Nat) (c : Nat) : WaitingStand s0 (changeChannel o moved c s) := by
  unfold changeChannel
  extract_lets s1 s2 s3 s4 s5
  have h1 : WaitingStand s0 s1 := .ite (h.syncReset c) h
  have h2 : WaitingStand s0 s2 := .ite (h1.retap c) h1
  have h3 : WaitingStand s0 s3 := h2.trimChannel o c
  have h4 : WaitingStand s0 s4 := .ite (h3.setGain c _) h3
  have h5 : WaitingStand s0 s5 := .ite (h4.reviewTrace c) h4
  exact .ite (WaitingStand.implyChannel (h5.congr (by rfl)) c) h5

protected theorem takeChannel (h : WaitingStand s0 s) (o : State) (moved : List Nat) (c : Nat) : WaitingStand s0 (takeChannel o moved c s) := by
  unfold takeChannel
  extract_lets was runs s1 s2 s3
  have h1 : WaitingStand s0 s1 := (h.noteLoads o c).reviewRecords o c
  have h2 : WaitingStand s0 s2 := .ite (h1.set ..) h1
  have h3 : WaitingStand s0 s3 := .ite (h2.stopChannel c) (.ite ((h2.startChannel c).implyChannel c) (.ite (h2.changeChannel o moved c) h2))
  exact h3.showRefs c

protected theorem placeReset (h : WaitingStand s0 s) (cs : List Nat) : WaitingStand s0 (placeReset cs s) :=
  .forL (fun c _ ht => ht.unshedCanceller c) _ (h.placeAll _)

/-! ### Ports (R139 to R150) -/

protected theorem raisePort (h : WaitingStand s0 s) (p b : Nat) : WaitingStand s0 (raisePort p b s) := h.of_pastFaults (raisePort_pastFaults ..)

protected theorem releasePort (h : WaitingStand s0 s) (p b : Nat) : WaitingStand s0 (releasePort p b s) := .ite ((h.irq _).set ..) h

protected theorem raiseHold (h : WaitingStand s0 s) (p : Nat) : WaitingStand s0 (raiseHold p s) :=
  WaitingStand.raisePort (.ite (h.congr (by rfl)) h) p pmSynth

protected theorem windowEnd (h : WaitingStand s0 s) (p : Nat) : WaitingStand s0 (windowEnd p s) := by
  unfold windowEnd
  extract_lets x s2 s1
  have h2 : WaitingStand s0 s2 := WaitingStand.event (h.congr (by rfl)) ..
  have h1 : WaitingStand s0 s1 := by
    refine .ite ?_ h
    split
    · exact .ite (h2.set ..) h2
    · exact h2
  have h3 : WaitingStand s0 (s1.setPort p { s1.port p with window := false, lost := false, opener := none }) := h1.congr (by rfl)
  exact .ite h3 (h3.releasePort p pmSynth)

protected theorem beginMove (h : WaitingStand s0 s) (p : Nat) (dest : Int) : WaitingStand s0 (beginMove p dest s) := by
  unfold beginMove
  extract_lets st s1 s2 port s3
  have h1 : WaitingStand s0 s1 := .ite (h.windowEnd p) h
  have h2 : WaitingStand s0 s2 := .ite (h1.raiseHold p) h1
  exact h2.congr (by rfl)

protected theorem moveOn (h : WaitingStand s0 s) (p : Nat) : WaitingStand s0 (moveOn p s) :=
  .ite h (.ite (.ite (h.raiseHold p) h) (.ite (h.beginMove p _) (.ite h (h.beginMove p _))))

protected theorem implyPort (h : WaitingStand s0 s) (p q : Nat) : WaitingStand s0 (implyPort p q s) := by
  unfold implyPort wantPort
  split
  · exact WaitingStand.moveOn (h.congr (by rfl)) q
  · exact h

protected theorem takeDriven (h : WaitingStand s0 s) (o : State) (moved : List Nat) (q : Nat) : WaitingStand s0 (takeDriven o moved q s) := by
  unfold takeDriven
  split
  · exact .ite (h.implyPort _ q) h
  · exact .ite (WaitingStand.moveOn (.ite (h.windowEnd q) h) q) h

protected theorem addPending (h : WaitingStand s0 s) (p kind : Nat) : WaitingStand s0 (addPending p kind s) :=
  .ite (h.congr (by rfl)) (h.congr (by rfl))

protected theorem retune (h : WaitingStand s0 s) (tx : Bool) (p : Nat) (old new : Int) : WaitingStand s0 (retune tx p old new s) := by
  unfold retune
  extract_lets step st s1 s2
  have h1 : WaitingStand s0 s1 := h.congr (by rfl)
  have h2 : WaitingStand s0 s2 := .ite (h1.addPending p 2) h1
  have hlate : WaitingStand s0 (if 200000 ≤ step then addPending p 2 s else s) := .ite (h.addPending p 2) h
  exact .ite h (.ite (hlate.congr (by rfl)) (.ite (h2.raiseHold p) h2))

protected theorem takePort (h : WaitingStand s0 s) (o : State) (ks : List Nat) (p : Nat) : WaitingStand s0 (takePort o ks p s) := by
  unfold takePort
  extract_lets s1
  have h1 : WaitingStand s0 s1 := (h.retune ..).retune ..
  exact .ite (h1.moveOn p) h1

/-! ### Walkers -/

protected theorem takeWalker (h : WaitingStand s0 s) (o : State) (ks : List Nat) (p : Nat) : WaitingStand s0 (takeWalker o ks p s) :=
  .ite (.ite (h.congr (by rfl)) h) (.ite (h.congr (by rfl)) (.ite (h.congr (by rfl)) h))

/-! ### Rails (R279 to R288) and feeds (R295 to R303) -/

protected theorem schedulePhases (h : WaitingStand s0 s) (r n : Nat) : WaitingStand s0 (schedulePhases r n s) :=
  .ite (h.congr (by rfl)) (.forL (fun _ _ ht => ht.congr (by rfl)) _ h)

protected theorem selectSetpoint (h : WaitingStand s0 s) (r n : Nat) : WaitingStand s0 (selectSetpoint r n s) := by
  unfold selectSetpoint
  extract_lets s1 v g s3 rail s2
  have h1 : WaitingStand s0 s1 := h.set ..
  have h2 : WaitingStand s0 s2 := .ite h1 (h1.congr (by rfl))
  exact .ite h (.ite h1 (h2.schedulePhases r n))

protected theorem takeVsel (h : WaitingStand s0 s) (r v : Nat) : WaitingStand s0 (takeVsel r v s) :=
  .ite (WaitingStand.selectSetpoint (h.congr (by rfl)) r v) (h.congr (by rfl))

protected theorem railDisabled (h : WaitingStand s0 s) (r : Nat) : WaitingStand s0 (railDisabled r s) :=
  .ite (h.of_pastFaults (railOffRamp_pastFaults r s)) (.ite (h.congr (by rfl)) h)

protected theorem reselect (h : WaitingStand s0 s) (o : State) (r : Nat) : WaitingStand s0 (reselect o r s) := by
  unfold reselect
  extract_lets n v s2 rail s1
  have h1 : WaitingStand s0 s1 := .ite h (h.congr (by rfl))
  exact .ite h (.ite (h1.schedulePhases r n) h1)

protected theorem takeRail (h : WaitingStand s0 s) (o : State) (r : Nat) : WaitingStand s0 (takeRail o r s) := by
  unfold takeRail
  extract_lets s1 s2
  have h1 : WaitingStand s0 s1 := .ite (h.railDisabled r) (h.reselect o r)
  have h2 : WaitingStand s0 s2 := .ite (h1.set ..) h1
  exact .ite (h2.takeVsel r _) h2

protected theorem unholdPort (h : WaitingStand s0 s) (p : Nat) (x : Holder) : WaitingStand s0 (unholdPort p x s) := by
  unfold unholdPort
  extract_lets l flt s1
  have h1 : WaitingStand s0 s1 := h.congr (by rfl)
  exact .ite (h1.releasePort p _) h1

protected theorem reviewRequired (h : WaitingStand s0 s) (f : Nat) : WaitingStand s0 (reviewRequired f s) :=
  .ite (h.of_pastFaults (holdPort_pastFaults ..)) (h.unholdPort ..)

protected theorem feedTo (h : WaitingStand s0 s) (f : Nat) (v : Int) : WaitingStand s0 (feedTo f v s) :=
  WaitingStand.reviewRequired (h.congr (by rfl)) f

protected theorem feedEnabled (h : WaitingStand s0 s) (f : Nat) : WaitingStand s0 (feedEnabled f s) :=
  .ite h (.ite (h.feedTo f _) (WaitingStand.feedTo (h.set ..) f _))

protected theorem feedDisabled (h : WaitingStand s0 s) (f : Nat) : WaitingStand s0 (feedDisabled f s) :=
  .ite h (WaitingStand.feedTo (h.congr (by rfl)) f _)

protected theorem takeFeed (h : WaitingStand s0 s) (o : State) (f : Nat) : WaitingStand s0 (takeFeed o f s) := by
  unfold takeFeed
  extract_lets s1
  have h1 : WaitingStand s0 s1 := .ite h (.ite (h.feedEnabled f) (h.feedDisabled f))
  exact .ite (h1.reviewRequired f) h1

/-! ### Sources and links (R61, R62, R74) -/

protected theorem sendDown (h : WaitingStand s0 s) (code : Nat) (nums : List Int) : WaitingStand s0 (sendDown code nums s) :=
  h.congr (congrArg Vestibule.accepted (sendDown_tx ..))

protected theorem schedule (h : WaitingStand s0 s) (delta : Int) (cause back : Nat) (locks : Bool) :
    WaitingStand s0 (schedule delta cause back locks s) :=
  (WaitingStand.sendDown (h.congr (by rfl)) ..).set ..

protected theorem cancelAlignment (h : WaitingStand s0 s) : WaitingStand s0 (cancelAlignment s) := by
  unfold cancelAlignment
  split
  · exact .ite (h.congr (by rfl)) (.ite (h.congr (by rfl)) h)
  · exact h

protected theorem setTrace (h : WaitingStand s0 s) (v : Bool) : WaitingStand s0 (setTrace v s) := h.of_pastFaults (setTrace_pastFaults v s)

protected theorem setTbState (h : WaitingStand s0 s) (v : Int) : WaitingStand s0 (setTbState v s) := h.of_pastFaults (setTbState_pastFaults v s)

protected theorem select (h : WaitingStand s0 s) (src : Nat) : WaitingStand s0 (select src s) := by
  unfold select
  extract_lets c d e t s1 st
  have h1 : WaitingStand s0 s1 := h.cancelAlignment.congr (by rfl)
  exact .ite ((h1.setTbState _).schedule ..) (.ite ((h1.setTbState _).schedule ..)
    (.ite (.ite (h1.schedule ..) (.ite (h1.schedule ..) ((h1.setTbState _).setTrace _))) h1))

protected theorem replaceSource (h : WaitingStand s0 s) (src : Nat) : WaitingStand s0 (replaceSource src s) := by
  unfold replaceSource
  extract_lets t s1
  have h1 : WaitingStand s0 s1 := h.congr (by rfl)
  exact .ite (WaitingStand.schedule (h1.set ..) ..) (h1.setTrace _)

protected theorem loseSelected (h : WaitingStand s0 s) : WaitingStand s0 (loseSelected s) := by
  unfold loseSelected
  extract_lets st back acquired free t held s3
  refine .ite ?acquiring (.ite ?free (.ite ?locked h))
  case acquiring =>
    have h1 : WaitingStand s0 acquired := h.cancelAlignment.setTbState _
    split
    · exact h1.select _
    · exact .ite (h1.set ..) h1
  case free =>
    have h1 : WaitingStand s0 free := h.cancelAlignment
    split
    · exact h1.select _
    · exact h1
  case locked =>
    split
    · exact h.replaceSource _
    · exact WaitingStand.setTbState (h.congr (by rfl)) _

protected theorem disqualify (h : WaitingStand s0 s) (src : Nat) : WaitingStand s0 (disqualify src s) := by
  unfold disqualify
  extract_lets s1 s2
  have h1 : WaitingStand s0 s1 := WaitingStand.of_pastFaults (h.congr (t := putQualified src none s) (by rfl)) (showQualified_pastFaults ..)
  have h2 : WaitingStand s0 s2 := .ite (h1.set ..) h1
  exact .ite h (.ite h2.loseSelected h2)

protected theorem abortSlot (h : WaitingStand s0 s) (i : Nat) (x : Tx) : WaitingStand s0 (abortSlot i x s) := by
  unfold abortSlot
  extract_lets s1
  have h1 : WaitingStand s0 s1 := .ite h (.ite (h.sendDown ..) (h.congr (by rfl)))
  exact h1.congr (by rfl)

protected theorem resetMaster (h : WaitingStand s0 s) (m : Nat) : WaitingStand s0 (resetMaster m s) := by
  have hopen : WaitingStand s0 (abortOpen m s) := by
    unfold abortOpen
    split
    · exact h.abortSlot ..
    · exact h
  exact hopen.congr (by rfl)

protected theorem leaveUp (h : WaitingStand s0 s) (l : Nat) : WaitingStand s0 (leaveUp l s) := by
  unfold leaveUp
  extract_lets s1 s2
  have h1 : WaitingStand s0 s1 := ((h.irq 7).sticky _).resetMaster (3 + l)
  have h2 : WaitingStand s0 s2 := .ite (h1.set ..) h1
  exact .ite ((h2.setLink ..).disqualify 1) (h1.setLink ..)

protected theorem linkDown (h : WaitingStand s0 s) (l : Nat) : WaitingStand s0 (linkDown l s) :=
  (WaitingStand.ite (h.leaveUp l) h).congr (by rfl)

/-! ### Observation receivers (R159, R160), domains (R395, R396) and converters (R268) -/

protected theorem walkObs (h : WaitingStand s0 s) (r v n : Nat) : WaitingStand s0 (walkObs r v n s) := by
  induction n generalizing s v with
  | zero => exact h.set ..
  | succ n ih => exact .ite (ih h _) (.ite (h.congr (by rfl)) (ih (h.set ..) _))

protected theorem restartObs (h : WaitingStand s0 s) (r : Nat) : WaitingStand s0 (restartObs r s) :=
  .ite (h.walkObs ..) (h.congr (by rfl))

protected theorem dropFactors (h : WaitingStand s0 s) : WaitingStand s0 (dropFactors s) :=
  .forL (fun _ _ ht => .forL (fun _ _ hu => hu.congr (by rfl)) _ ht) _ h

protected theorem poolOff (h : WaitingStand s0 s) (sp : Nat) : WaitingStand s0 (poolOff sp s) := by
  unfold poolOff
  extract_lets hit s1
  have h1 : WaitingStand s0 s1 := .forL (fun c _ ht => ht.shedCanceller c) _ (h.set ..)
  exact .ite h (.ite h1 (h1.set ..))

protected theorem freeReceivers (h : WaitingStand s0 s) : WaitingStand s0 (freeReceivers s) :=
  .forL (fun _ _ ht => .ite (WaitingStand.walkObs (ht.set ..) ..) ht) _ h

protected theorem domainLost (h : WaitingStand s0 s) (d : Nat) : WaitingStand s0 (domainLost d s) := by
  unfold domainLost
  extract_lets gal s1
  have h1 : WaitingStand s0 s1 := h.congr (by rfl)
  refine .ite h (.ite (h.poolOff _) (.ite ?gallery (.ite (h.set ..) (.ite ?dma ?links))))
  case gallery => exact .ite h1 (h1.freeReceivers.of_pastFaults (setGal_pastFaults ..))
  case dma => exact (WaitingStand.forN (fun _ _ ht => .ite ((ht.irq _).set ..) ht) 32 h).set ..
  case links => exact .forN (fun l _ ht => .ite ht (ht.linkDown l)) 3 h

protected theorem reviewDomain (h : WaitingStand s0 s) (d : Nat) : WaitingStand s0 (reviewDomain d s) :=
  .ite (.ite ((h.domainLost d).congr (by rfl)) (h.set ..)) (.ite h (h.congr (by rfl)))

protected theorem tmRestart (h : WaitingStand s0 s) (m : Nat) : WaitingStand s0 (tmRestart m s) := by
  unfold tmRestart startSeq
  extract_lets x s1
  have h1 : WaitingStand s0 s1 := h.congr (by rfl)
  refine .ite (h1.congr (by rfl)) (.ite h1 ?_)
  split <;> exact h1.congr (by rfl)

/-! ### Staged values (R86, R115) -/

protected theorem setVal (h : WaitingStand s0 s) (k : Nat) (v : Val) : WaitingStand s0 (s.setVal k v) := by
  cases v <;> exact h.congr (by rfl)

protected theorem armStaged (h : WaitingStand s0 s) (e : Nat × Val) : WaitingStand s0 (armStaged e s) := by
  unfold armStaged
  split
  · exact .ite (h.set ..) (h.congr (by rfl))
  · exact h

protected theorem writeStaged (h : WaitingStand s0 s) (vals : List (Nat × Val)) : WaitingStand s0 (writeStaged vals s) :=
  .forL (fun _ _ ht => .forN (fun _ _ hu => .ite (hu.set ..) (hu.set ..)) 16 ht) _ (.forL (fun e _ ht => (ht.setVal ..).armStaged e) vals h)

protected theorem takePin (h : WaitingStand s0 s) (p : Nat) : WaitingStand s0 (takePin p s) := .ite (h.raisePort p _) (h.releasePort p _)

/-- Staged values that take effect neither accept a transaction nor launch one. -/
protected theorem applyStaged (h : WaitingStand s0 s) (vals : List (Nat × Val)) : WaitingStand s0 (applyStaged vals s) := by
  unfold applyStaged
  extract_lets ks s1 moved s2 cs rest s3 s4 ps s5 s6 s7 s8 s9
  have h1 : WaitingStand s0 s1 := h.writeStaged vals
  have h2 : WaitingStand s0 s2 := .ite h1 (.forN (fun p _ ht => ht.takeWalker s ks p) 8 h1)
  have h3 : WaitingStand s0 s3 := .forL (fun c _ ht => .ite (WaitingStand.implyChannel (ht.congr (by rfl)) c) ht) rest h2
  have h4 : WaitingStand s0 s4 := WaitingStand.placeReset (.forL (fun c _ ht => ht.takeChannel s moved c) cs h3) cs
  have h5 : WaitingStand s0 s5 := .forL (fun p _ ht => ht.takePort s ks p) ps (.ite h4 (.forN (fun q _ ht => ht.takeDriven s moved q) 32 h4))
  have h6 : WaitingStand s0 s6 := .forL (fun f _ ht => ht.takeFeed s f) _ (.forL (fun r _ ht => ht.takeRail s r) _ h5)
  have h7 : WaitingStand s0 s7 := .forL (fun d _ ht => ht.reviewDomain d) _ (.forL (fun m _ ht => ht.tmRestart m) _ h6)
  have h8 : WaitingStand s0 s8 := .forL (fun r _ ht => (ht.restartObs r).dropFactors) _ (.forL (fun p _ ht => ht.takePin p) _ h7)
  have h9 : WaitingStand s0 s9 := .forL (fun _ _ ht => .ite ht (ht.congr (by rfl))) _ h8
  exact .forL (fun c _ ht => ht.takePermit c) _ h9

end WaitingStand

end Sys2Proof.Machine
end

section
/-! PROOFS. The launch of a transaction (R115): its values stand, its entry is executed, and it waits no more. -/

namespace Sys2Proof.Machine

/-! ### The entry of a commit (R87, R91) -/

theorem State.num_ite {k : Nat} {c : Prop} [Decidable c] {s t : State} {x : Int} (hs : s.num k = x) (ht : t.num k = x) :
    (if c then s else t).num k = x := by split <;> assumption

theorem freeCommit_executed (x : Accepted) (held : Bool) (s : State) : Executed (freeCommit x held s) x.entry := by
  unfold freeCommit Executed
  extract_lets late s1 s2 s3 s4
  rw [State.num_set, if_pos rfl]
  cases held <;> cases late <;> simp

/-- Beside its mark an executed commit writes the counts and its entry. -/
theorem sameBut_freeCommit (x : Accepted) (held : Bool) (s : State) :
    SameBut [K.ltExecuted, K.ltLate, K.txSysLate, K.ltEntry x.entry, K.ltStatus x.entry] s (freeCommit x held s) := by
  unfold freeCommit
  extract_lets late s1 s2 s3 s4
  have h1 : SameBut [K.ltExecuted, K.ltLate, K.txSysLate, K.ltEntry x.entry, K.ltStatus x.entry] s s1 :=
    ((SameBut.refl _ s).inc (by simp)).andThen (.of_tables rfl rfl)
  have h2 : SameBut [K.ltExecuted, K.ltLate, K.txSysLate, K.ltEntry x.entry, K.ltStatus x.entry] s s2 := .ite (h1.inc (by simp)) h1
  have h3 : SameBut [K.ltExecuted, K.ltLate, K.txSysLate, K.ltEntry x.entry, K.ltStatus x.entry] s s3 := .ite (h2.inc (by simp)) h2
  exact (h3.setOct (by simp)).set (by simp)

theorem freeCommit_tx (x : Accepted) (held : Bool) (s : State) : (freeCommit x held s).tx = s.tx := by
  unfold freeCommit
  extract_lets late s1 s2 s3 s4
  have h2 : s2.tx = s.tx := State.tx_ite rfl rfl
  have h3 : s3.tx = s.tx := State.tx_ite h2 h2
  exact h3

/-! ### The history (R134) -/

/-- The history shows a new state in one row at most. -/
theorem histState_cases (number : Nat) (v : Int) (s : State) :
    histState number v s = s ∨ ∃ k, k < 64 ∧ histState number v s = s.set (K.txHistState k) v := by
  unfold histState
  split
  · next k hk => exact .inr ⟨k, List.mem_range.1 (List.mem_of_find?_eq_some hk), rfl⟩
  · exact .inl rfl

theorem histState_num {j : Nat} (hj : j < 0x221A * 256 ∨ 0x221B * 256 ≤ j) (number : Nat) (v : Int) (s : State) :
    (histState number v s).num j = s.num j := by
  rcases histState_cases number v s with h | ⟨k, hk, h⟩
  · rw [h]
  · rw [h, State.num_set, if_neg (by unfold K.txHistState; omega)]

theorem histState_tx (number : Nat) (v : Int) (s : State) : (histState number v s).tx = s.tx := by
  rcases histState_cases number v s with h | ⟨k, -, h⟩
  · rw [h]
  · rw [h, State.set_tx]

/-! ### The launch -/

/-- The part without the transaction x among those that wait. -/
def unqueued (x : Accepted) (s : State) : State :=
  { s with tx := { s.tx with accepted := s.tx.accepted.filter (fun y => decide (y.seq ≠ x.seq)) } }

/-- The part when the staged values of x have taken effect and its entry is free again. -/
def commitFreed (x : Accepted) (s : State) : State :=
  let s2 := applyStaged x.staged (unqueued x s)
  freeCommit x (resourcesHeld s2 (x.staged.map Prod.fst)) s2

/-- What follows the freeing of the entry is the journal's mark, a cause of the host's vector and the history. -/
theorem launchTx_num {j : Nat} (hj : j < 0x221A * 256 ∨ 0x221B * 256 ≤ j) (x : Accepted) (s : State) :
    (launchTx x s).num j = (commitFreed x s).num j := by
  unfold launchTx
  extract_lets tx s1 s2 s3 jr s4 s5
  have h4 : s4.num j = s3.num j := State.num_congr (s := s4) (t := s3) (by rfl) j
  have h5 : s5.num j = s3.num j := State.num_ite ((irq_num ..).trans h4) h4
  exact (histState_num hj ..).trans h5

theorem launchTx_accepted (x : Accepted) (s : State) :
    (launchTx x s).tx.accepted = s.tx.accepted.filter (fun y => decide (y.seq ≠ x.seq)) := by
  unfold launchTx
  extract_lets tx s1 s2 s3 jr s4 s5
  have h2 : s2.tx.accepted = s1.tx.accepted := (WaitingStand.refl s1).applyStaged x.staged
  have h3 : s3.tx = s2.tx := freeCommit_tx ..
  have h4 : s4.tx = s3.tx := by rfl
  have h5 : s5.tx = s3.tx := State.tx_ite ((irq_tx ..).trans h4) h4
  rw [histState_tx, h5, h3, h2]

theorem launchTx_executed {x : Accepted} (hx : x.entry < 4096) (s : State) : Executed (launchTx x s) x.entry := by
  have h : (launchTx x s).num (K.ltStatus x.entry) = (commitFreed x s).num (K.ltStatus x.entry) :=
    launchTx_num (.inl (by unfold K.ltStatus; omega)) x s
  unfold Executed
  rw [h]
  exact freeCommit_executed ..

theorem not_mem_launchTx (x : Accepted) (s : State) : x ∉ (launchTx x s).tx.accepted := by
  rw [launchTx_accepted]
  simp

theorem execTransactionCommit_launches {x : Accepted} {s : State} (hnext : nextCommit s = some x) (hruns : launchRuns s = true) :
    exec (.transactionCommit x.number) s = .next (launchTx x s) := by
  refine congrArg Host.Outcome.next ?_
  rw [hnext]
  exact if_pos ⟨hruns, rfl⟩

/-! ### A plain value (R115) -/

/-- A channel that has started is one of the part's 512. -/
theorem started_lt {s : State} {c : Nat} (h : c ∈ s.started) : c < 512 := by
  unfold State.started listed at h
  simp only [List.mem_map, List.mem_filterMap] at h
  obtain ⟨k, ⟨e, -, he⟩, rfl⟩ := h
  split at he
  · next hrange =>
    simp only [Bool.and_eq_true, decide_eq_true_eq, Option.some.injEq] at hrange he
    omega
  · exact absurd he (by simp)

/-- An object lies in the channels' own range (Table 0-4): their configuration, their engines and their cancellers. -/
def ChannelKey (j : Nat) : Prop := 0x4000 * 256 ≤ j ∧ j < 0x7000 * 256

theorem channelKey_config {c b z : Nat} (hc : c < 512) (h : 0x4000 ≤ b ∧ b < 0x4010 ∧ z < 256) : ChannelKey ((b + c * 0x10) * 256 + z) := by
  unfold ChannelKey
  omega

theorem channelKey_engine {c b z : Nat} (hc : c < 512) (h : 0x6000 ≤ b ∧ b < 0x6004 ∧ z < 256) : ChannelKey ((b + c * 0x4) * 256 + z) := by
  unfold ChannelKey
  omega

/-- A key that is none of a channel lies outside their range. -/
theorem not_channelKey_of_chanOf {k : Nat} (h : chanOf k = none) : ¬ ChannelKey k := by
  unfold chanOf at h
  unfold ChannelKey
  dsimp only at h
  split_ifs at h
  omega

section
variable {c k : Nat} (hc : c < 512) (hk : ¬ ChannelKey k)
include hk

theorem num_set_channelKey {j : Nat} (hj : ChannelKey j) (v : Int) (s : State) : (s.set j v).num k = s.num k := by
  refine (State.num_set ..).trans (if_neg ?_)
  rintro rfl
  exact hk hj

include hc

theorem setGain_num (g : Int) (s : State) : (setGain c g s).num k = s.num k := by
  unfold setGain
  extract_lets s1 s2
  rw [num_set_channelKey hk (channelKey_engine hc (by decide)), num_set_channelKey hk (channelKey_engine hc (by decide))]
  exact num_set_channelKey hk (channelKey_config hc (by decide)) _ s

theorem reload_num (s : State) : (reload c s).num k = s.num k := by
  unfold reload
  extract_lets pRes x s1 s2 s3 s4 chan s5
  have h3 : s3.num k = s.num k :=
    calc s3.num k
      _ = s2.num k := num_set_channelKey hk (channelKey_engine hc (by decide)) ..
      _ = (s1.inc (K.geReloads c) 32).num k := num_set_channelKey hk (channelKey_engine hc (by decide)) ..
      _ = s.num k := num_set_channelKey hk (channelKey_engine hc (by decide)) ..
  have h4 : s4.num k = s3.num k := setGain_num hc hk _ s3
  have h5 : s5.num k = s4.num k := State.num_congr (State.setChan_obj ..) k
  rw [num_set_channelKey hk (channelKey_engine hc (by decide)), h5, h4, h3]

theorem releaseCh_num (b : Nat) (s : State) : (releaseCh c b s).num k = s.num k := by
  unfold releaseCh
  extract_lets w s1
  have h1 : s1.num k = s.num k := num_set_channelKey hk (channelKey_config hc (by decide)) _ s
  have hreload : (reload c s1).num k = s.num k := (reload_num hc hk s1).trans h1
  have hchan : ∀ x, (s1.setChan c x).num k = s.num k := fun x => (State.num_congr (State.setChan_obj s1 c x) k).trans h1
  have hwindow : (markWindow c s1).num k = s.num k := State.num_ite (hchan _) (hchan _)
  exact State.num_ite h1 (State.num_ite (State.num_ite hreload hwindow) (State.num_ite (State.num_ite (hchan _) hreload) h1))

theorem raiseCh_num (b : Nat) (s : State) : (raiseCh c b s).num k = s.num k := by
  unfold raiseCh
  extract_lets w x s1
  have h1 : s1.num k = s.num k := State.num_ite rfl (State.num_ite rfl (State.num_ite rfl rfl))
  exact (num_set_channelKey hk (channelKey_config hc (by decide)) ..).trans h1

/-- A permit taken afresh changes the channel's own objects and the slot that is shown for it. -/
theorem takePermit_num (hp : k ≠ K.secChPermit c) (s : State) : (takePermit c s).num k = s.num k := by
  have hshow : ∀ n, (showPermit c n s).num k = s.num k := by
    intro n
    unfold showPermit
    split
    · rw [State.num_set, if_neg hp, num_set_channelKey hk (channelKey_engine hc (by decide)),
        num_set_channelKey hk (channelKey_engine hc (by decide))]
    · rw [State.num_set, if_neg hp, num_set_channelKey hk (channelKey_engine hc (by decide))]
  unfold takePermit
  extract_lets n s1
  have h1 : s1.num k = s.num k := hshow n
  cases n with
  | some _ => exact (releaseCh_num hc hk _ s1).trans h1
  | none => exact (raiseCh_num hc hk _ s1).trans h1

end

/-- A walk over members that each leave an object alone leaves it alone. -/
theorem forL_num {k : Nat} {f : Nat → State → State} {l : List Nat} (h : ∀ a, a ∈ l → ∀ s, (f a s).num k = s.num k) (s : State) :
    (forL l f s).num k = s.num k := by
  induction l generalizing s with
  | nil => rfl
  | cons a l ih =>
    exact (ih (fun b hb => h b (List.mem_cons_of_mem _ hb)) (f a s)).trans (h a List.mem_cons_self s)

/-- Where one value has changed that belongs to no channel, the permits looked at are those of whole-port channels whose receiver's frequency it is. -/
theorem mem_permitsTouched {k c : Nat} {v : Int} {s : State} (h : c ∈ permitsTouched s (s.set k v) []) :
    c < 512 ∧ ∃ q, k = K.synFreq false q := by
  unfold permitsTouched at h
  simp only [List.not_mem_nil, decide_false, Bool.false_or, List.mem_filter, Bool.and_eq_true, decide_eq_true_eq] at h
  obtain ⟨hstarted, -, hdiff⟩ := h
  refine ⟨started_lt hstarted, (s.set k v).nat (K.chInPort c), ?_⟩
  by_contra hne
  simp [differs, State.num_set, Ne.symm hne] at hdiff

/-- Such a value stands when those permits have been taken afresh. -/
theorem num_takePermits {k : Nat} (hk : chanOf k = none) (v : Int) (s : State) :
    (forL (permitsTouched s (s.set k v) []) takePermit (s.set k v)).num k = v := by
  refine (forL_num (fun c hc t => ?_) _).trans ((State.num_set ..).trans (if_pos rfl))
  obtain ⟨hlt, q, hq⟩ := mem_permitsTouched hc
  refine takePermit_num hlt (not_channelKey_of_chanOf hk) ?_ t
  rw [hq]
  unfold K.synFreq K.secChPermit
  simp only [Bool.false_eq_true, if_false]
  omega

theorem touched_none {n k : Nat} {f : Nat → Option Nat} (h : f k = none) : touched n f [k] = [] := by
  simp [touched, h]

theorem patsTouched_none {k : Nat} (h : patOf k = none) (s : State) : patsTouched s [k] = [] := by
  unfold patsTouched
  rw [List.filterMap_cons_none h]
  simp only [List.filterMap_nil, List.not_mem_nil, decide_false, Bool.false_or]
  refine List.filter_eq_nil_iff.2 fun p _ => ?_
  split <;> simp

/-- A value that no block follows is written, and nothing else comes of it but the permits of R381. -/
theorem applyStaged_plain {k : Nat} (hk : plainKey k = true) (v : Int) (s : State) :
    applyStaged [(k, .num v)] s = forL (permitsTouched s (s.set k v) []) takePermit (s.set k v) := by
  simp only [plainKey, Bool.and_eq_true, Option.isNone_iff_eq_none] at hk
  obtain ⟨⟨⟨⟨⟨⟨⟨⟨⟨⟨hentry, hpat⟩, hchan⟩, hport⟩, hfeed⟩, hrail⟩, hhold⟩, htm⟩, hobs⟩, hpin⟩, hem⟩ := hk
  have hwrite : writeStaged [(k, .num v)] s = s.set k v := by
    simp [writeStaged, forL, armStaged, hentry, patsTouched_none hpat, State.setVal]
  have htms : tmTouched [k] = [] := by simp [tmTouched, touched_none htm]
  unfold applyStaged
  simp only [List.map_cons, List.map_nil, hwrite, htms, touched_none hpat, touched_none hchan, touched_none hport, touched_none hfeed,
    touched_none hrail, touched_none hhold, touched_none hobs, touched_none hpin, touched_none hem]
  rfl

/-- Outside the launch table and the transactions' own objects, the launch of a plain value leaves what the value's effect leaves. -/
theorem commitFreed_num {x : Accepted} (hx : x.entry < 4096) {k : Nat} (hk : k / 256 < 0x2100 ∨ 0x2300 ≤ k / 256) (s : State) :
    (commitFreed x s).num k = (applyStaged x.staged (unqueued x s)).num k := by
  refine (sameBut_freeCommit x _ _).1 k ?_
  simp only [List.mem_cons, List.not_mem_nil, or_false]
  unfold K.ltExecuted K.ltLate K.txSysLate K.ltEntry K.ltStatus
  omega

theorem launchTx_plain {x : Accepted} {k : Nat} {v : Int} (hx : x.entry < 4096) (hstaged : x.staged = [(k, .num v)]) (hplain : plainKey k = true)
    (hk : k / 256 < 0x2100 ∨ 0x2300 ≤ k / 256) (s : State) : (launchTx x s).num k = v := by
  have hchan : chanOf k = none := by
    simp only [plainKey, Bool.and_eq_true, Option.isNone_iff_eq_none] at hplain
    tauto
  rw [launchTx_num (by omega), commitFreed_num hx hk, hstaged, applyStaged_plain hplain]
  exact num_takePermits hchan v _

/-- Settles O34: the launch of the transaction that commits next is `launchTx`, whose every write beside its values and its entry is the history's. -/
theorem commitsTakeEffect : Obligations.CommitsTakeEffect := by
  refine ⟨?executes, ?value, ?none⟩
  case executes =>
    intro x s hnext hruns hx
    exact ⟨_, execTransactionCommit_launches hnext hruns, launchTx_executed hx s, not_mem_launchTx x s⟩
  case value =>
    intro x k v s hnext hruns hx hstaged hplain hk
    exact ⟨_, execTransactionCommit_launches hnext hruns, launchTx_plain hx hstaged hplain hk s⟩
  case none =>
    intro n s hnext
    refine ⟨s, congrArg Host.Outcome.next ?_, rfl⟩
    rw [hnext]

end Sys2Proof.Machine
end

section
/-! PROOFS. Ports that leave Relay by a transition or for a calibration (R141, R152) where the port's window was opened by a number outside the
launch table, as in the refutation of the launch of a port change: the end of the lost window writes status 5 over an object of the port's own. -/

namespace Sys2Proof.Machine

/-! ### A port that leaves Relay with its window lost -/

/-- A port that begins to leave Relay gives the opener of its lost window status 5, wherever the status of the number stands. -/
theorem beginMove_opener {p n : Nat} {s : State} (hrelay : s.num (K.portState p) = psRelay) (hopen : (s.port p).window = true)
    (hlost : (s.port p).lost = true) (hopener : (s.port p).opener = some n) (hdone : s.num (K.ltStatus n) = leDone)
    (hn : K.ltStatus n ∉ K.portChangingTo p :: lostWindowKeys p) : (beginMove p psListen s).num (K.ltStatus n) = leLost := by
  rw [List.mem_cons, not_or] at hn
  rw [beginMove_num_of_relay hrelay (by decide) hn.1]
  exact windowEnd_opener hopen hlost hopener hdone hn.2

/-- A port in Relay that a calibration holds goes to Listen on its way to Cal. -/
theorem moveOn_of_relay_to_cal {p : Nat} {s : State} (hc : changing s p = false) (h : s.num (K.portState p) = psRelay)
    (hcal : calHolds s p = true) : moveOn p s = beginMove p psListen s := by
  unfold moveOn
  rw [h, hc, hcal]
  dsimp only
  rw [if_neg (by decide), if_neg (by decide), if_pos (by decide), if_pos rfl]

/-! ### The end of a scheduled Relay (R141) -/

/-- In `strayOpener` the Relay of port 5 is scheduled for 50 ticks, which are over, and its rest state is Standby. The number that its lost window
holds for an opener has its status where the port's target stands. -/
def strayRelay : State :=
  let s := (strayOpener.set (K.portTxWindow 5) 50).set (K.portRest 5) psStandby
  { s with time := { s.time with now := 50 } }

/-- The part when the rest state of the port is its target. -/
def strayResting : State := strayRelay.set (K.portTarget 5) (strayRelay.num (K.portRest 5))

theorem strayRelay_ends : exec (.txWindowEnd 5) strayRelay = .next (beginMove 5 psListen strayResting) :=
  congrArg Host.Outcome.next ((if_pos (by decide)).trans (moveOn_of_relay (by decide) (by decide) (by decide) (by decide)))

/-- The target is 2, which the end of the window takes for the status of a done entry. -/
theorem strayResting_target : (beginMove 5 psListen strayResting).num (K.portTarget 5) = leLost :=
  beginMove_opener (n := K.portTarget 5 - K.ltStatus 0) (by decide) (by decide) (by decide) (by decide) (by decide) (by decide)

/-- Refutes O39: in `strayRelay` the target, put to the rest state, is overwritten by status 5 of the opener, which lies outside the launch table.
The clause of TX_WINDOW_END lacks the premise that the opener of the port's window, if any, is an entry (below 4096). -/
theorem not_portTransitionsEnd : ¬ Obligations.PortTransitionsEnd := by
  rintro ⟨-, -, -, hwindow, -⟩
  obtain ⟨t, ht, htarget⟩ := hwindow 5 strayRelay (by decide) (by decide) (by decide) (by decide) (by decide) (by decide)
  obtain rfl := Host.Outcome.next.inj (strayRelay_ends.symm.trans ht)
  rw [strayResting_target] at htarget
  exact absurd htarget (by decide)

/-! ### A calibration that begins in Relay (R152) -/

/-- In `strayOpener`, with no entry armed, an offset calibration of port 5 is pending, and the number that the port's lost window holds for an opener
has its status where the status of the port's calibrations stands. -/
def strayPending : State :=
  ((strayOpener.set (K.ltStatus 3) leFree).set (K.calPending 5) 1).setPort 5
    { Port.fresh with window := true, lost := true, opener := some (K.calStatus 5 - K.ltStatus 0) }

theorem strayPending_begins : exec (.calPendingStart 5) strayPending = .next (beginMove 5 psListen (calMarked 5 0 strayPending)) := by
  have hnext : nextKind strayPending 5 = some 0 := by decide
  have hmove : moveOn 5 (calMarked 5 0 strayPending) = beginMove 5 psListen (calMarked 5 0 strayPending) :=
    moveOn_of_relay_to_cal (by decide) (by decide) (by decide)
  refine congrArg Host.Outcome.next ?_
  rw [hnext]
  exact (if_pos (by decide)).trans ((calBegin_eq ..).trans hmove)

/-- The status is 2, running, which the end of the window takes for the status of a done entry. -/
theorem strayPending_status : (beginMove 5 psListen (calMarked 5 0 strayPending)).num (K.calStatus 5) = leLost :=
  beginMove_opener (n := K.calStatus 5 - K.ltStatus 0) (by decide) (by decide) (by decide) (by decide) (by decide) (by decide)

/-- Refutes O41: in `strayPending` the status of the calibration that begins is overwritten by status 5 of the opener, which lies outside the launch
table. The clause of CAL_PENDING_START lacks the premise that the opener of the port's window, if any, is an entry (below 4096). -/
theorem not_calibrationsRun : ¬ Obligations.CalibrationsRun := by
  rintro ⟨-, -, -, hpending, -⟩
  obtain ⟨t, ht, hstatus, -⟩ := hpending 5 0 strayPending (by decide) (by decide) (by decide) (by decide) (by decide) (by decide)
  obtain rfl := Host.Outcome.next.inj (strayPending_begins.symm.trans ht)
  rw [calStatusNow, strayPending_status] at hstatus
  exact absurd hstatus (by decide)

end Sys2Proof.Machine
end

section
/-! PROOFS. Synthesisers (R148, R149): the end of a retune or relock, what it leaves of the objects below the channels', and the loss of lock. -/

namespace Sys2Proof.Machine

/-! ### Channels that reset, seen from the objects below theirs (R180, R205) -/

section
variable {k : Nat} (hk : k < 0x4000 * 256)
include hk

theorem num_set_above {j : Nat} (hj : 0x4000 * 256 ≤ j) (v : Int) (s : State) : (s.set j v).num k = s.num k :=
  (State.num_set ..).trans (if_neg (by omega))

theorem tapReset_num (c : Nat) (s : State) : (tapReset c s).num k = s.num k := by
  unfold tapReset
  extract_lets x s1 s2 s3
  have h2 : s2.num k = s1.num k := forL_num (fun n _ t => num_set_above hk (by unfold K.cxPaGainN; omega) 0 t) s1
  have h3 : s3.num k = s2.num k := State.num_ite (num_set_above hk (le_key (by decide)) ..) rfl
  refine State.num_ite rfl ?_
  calc (((s3.inc (K.cxResets c) 32).set (K.cxAdaptTicks c) 0).set (K.cxMarginState c) 0).num k
    _ = ((s3.inc (K.cxResets c) 32).set (K.cxAdaptTicks c) 0).num k := num_set_above hk (le_key (by decide)) ..
    _ = (s3.inc (K.cxResets c) 32).num k := num_set_above hk (le_key (by decide)) ..
    _ = s3.num k := num_set_above hk (le_key (by decide)) ..
    _ = s1.num k := h3.trans h2

theorem syncReset_num {c : Nat} (hc : c < 512) (s : State) : (syncReset c s).num k = s.num k := by
  unfold syncReset
  extract_lets x s1 s2
  have h2 : s2.num k = s1.num k :=
    ((num_set_above hk (le_key (by decide)) ..).trans (num_set_above hk (le_key (by decide)) ..)).trans
      (num_set_above hk (le_key (by decide)) ..)
  exact (raiseCh_num hc (fun h => absurd h.1 (by omega)) cmSettling s2).trans h2

theorem inputReturns_num (p : Nat) (s : State) : (inputReturns p s).num k = s.num k :=
  forL_num (fun _ hc t => syncReset_num hk (started_lt (List.mem_filter.1 hc).1) t) s

end

/-! ### The end of a retune or relock (R148, R149) -/

theorem sameBut_freeHold (p : Nat) (s : State) : SameBut [K.portMutes p] s (freeHold p s) := .ite (.refl _ s) (sameBut_releasePort ..)

/-- Of the objects below the channels', a synthesiser that locks changes its state and its frequency, and the mutes of its port. -/
theorem synLocked_num {p k : Nat} (hk : k < 0x4000 * 256) (hm : k ≠ K.portMutes p) (tx : Bool) (s : State) :
    (synLocked tx p s).num k = if k = K.synState tx p then 3 else if k = K.synFreqNow tx p then s.num (K.synFreq tx p) else s.num k := by
  unfold synLocked
  extract_lets s1 s2
  have h2 : s2.num k = s1.num k := forL_num (fun c _ t => tapReset_num hk c t) s1
  have hfree : (freeHold p s2).num k = s2.num k := (sameBut_freeHold p s2).1 k (mt List.mem_singleton.1 hm)
  rw [State.num_ite hfree rfl, h2, State.num_set, State.num_set]

theorem synKey_lt {p : Nat} (hp : p < 32) (tx : Bool) {z : Nat} (hz : z < 256) :
    (0x3002 + (if tx then 1 else 0) + p * 0x20) * 256 + z < 0x4000 * 256 := by
  split <;> omega

theorem synLocked_state {p : Nat} (hp : p < 32) (tx : Bool) (s : State) : (synLocked tx p s).num (K.synState tx p) = 3 :=
  (synLocked_num (synKey_lt hp tx (by decide)) (key_ne (by decide)) tx s).trans (if_pos rfl)

theorem synLocked_freqNow {p : Nat} (hp : p < 32) (tx : Bool) (s : State) :
    (synLocked tx p s).num (K.synFreqNow tx p) = s.num (K.synFreq tx p) :=
  (synLocked_num (synKey_lt hp tx (by decide)) (key_ne (by decide)) tx s).trans ((if_neg (key_ne (by decide))).trans (if_pos rfl))

/-- The channels that reset after a receive relock leave the synthesisers' objects alone. -/
theorem relockReturns_num {p z : Nat} (hp : p < 32) (hz : z < 256) (tx : Bool) (s : State) :
    (if !tx && rxValid s p then inputReturns p s else s).num ((0x3002 + (if tx then 1 else 0) + p * 0x20) * 256 + z) =
      s.num ((0x3002 + (if tx then 1 else 0) + p * 0x20) * 256 + z) :=
  State.num_ite (inputReturns_num (synKey_lt hp tx hz) p s) rfl

/-! ### Kinds that join the pending set (R152) -/

theorem joinPending_pending {mask k : Nat} (h : mask.testBit k = true) (p : Nat) (s : State) :
    (joinPending p mask s).bit (K.calPending p) k = true := by
  unfold joinPending
  extract_lets new x s1
  rw [State.bit_set, if_pos rfl, Int.toNat_natCast, Nat.testBit_or, h, Bool.or_true]

theorem sameBut_putCalStatus (p : Nat) (v : Int) (s : State) : SameBut [K.calStatus p] s (putCalStatus p v s) :=
  (SameBut.refl _ s).set List.mem_cons_self

theorem addPending_pending (p kind : Nat) (s : State) : (addPending p kind s).bit (K.calPending p) kind = true := by
  have hjoin : (joinPending p (2 ^ kind) s).bit (K.calPending p) kind = true := joinPending_pending (Nat.testBit_two_pow_self ..) p s
  unfold addPending
  extract_lets s1
  split
  · exact hjoin
  · rw [State.bit, State.nat, (sameBut_putCalStatus ..).1 _ (mt List.mem_singleton.1 (key_ne (by decide)))]
    exact hjoin

/-! ### The statement -/

/-- Settles O40: a synthesiser that locks writes its state and frequency, which the resets of the channels on it lie above; one that loses its lock
adds the oscillator calibration last but for its own state. -/
theorem synthesisersLock : Obligations.SynthesisersLock := by
  refine ⟨?retuned, ?lost, ?relocked, ?idle⟩
  case retuned =>
    intro tx p s hp hstate hdue
    exact ⟨_, congrArg Host.Outcome.next (if_pos ⟨hstate, hdue⟩), synLocked_state hp tx s, synLocked_freqNow hp tx s⟩
  case lost =>
    intro tx p s hp hstate
    refine ⟨_, congrArg Host.Outcome.next (if_neg (by omega)), (State.num_set ..).trans (if_pos rfl), ?_⟩
    rw [State.bit_set, if_neg (key_ne (by decide))]
    exact addPending_pending p 3 _
  case relocked =>
    intro tx p s hp hstate hdue
    refine ⟨_, congrArg Host.Outcome.next (if_pos ⟨hstate, hdue⟩), ?_, ?_⟩
    · exact (relockReturns_num hp (by decide) tx _).trans (synLocked_state hp tx s)
    · exact (relockReturns_num hp (by decide) tx _).trans (synLocked_freqNow hp tx s)
  case idle =>
    intro tx p s hstate
    exact ⟨s, congrArg Host.Outcome.next (if_neg fun h => hstate h.1), rfl⟩

end Sys2Proof.Machine
end

section
/-! PROOFS. Noise and emission mutes (R254, R256), and the visits of the observation receivers (R159): the choice of the next visit touches no port,
and what a forward visit gives to PA tracking is no object (log entries 31 and 41). -/

namespace Sys2Proof.Machine

/-! ### Causes of the protection mute (R258) -/

theorem raiseCause_cause (c b : Nat) (s : State) : (raiseCause c b s).bit (K.prCause c) b = true := State.bit_setBit_self ..

theorem releaseCause_cause {c : Nat} (hc : c < 512) (b : Nat) (s : State) : (releaseCause c b s).bit (K.prCause c) b = false := by
  have hkey : ¬ ChannelKey (K.prCause c) := fun h => absurd h.2 (by unfold K.prCause; omega)
  have hclear : (s.clrBit (K.prCause c) b).bit (K.prCause c) b = false := State.bit_clrBit_self ..
  unfold releaseCause
  extract_lets s1
  split
  · rw [State.bit, State.nat, releaseCh_num hc hkey]
    exact hclear
  · exact hclear

/-- The part when the breached emission entries of channel c are watched again, before its cause is let go (R256). -/
def emissionsFreed (c : Nat) (s : State) : State :=
  let s1 := forN 64 (fun m t => if t.nat (K.emChannel m) = c ∧ Tab.get (fun _ => some 0) t.emRun m = none then putEmRun m (some 0) t else t) s
  s1.setChan c { s1.chan c with emissionEnd := none }

theorem exec_emissionMuteRelease_due {c r : Nat} {s : State} (hend : (s.chan c).emissionEnd = some r) (hdue : r ≤ s.time.ot) :
    exec (.emissionMuteRelease c) s = .next (releaseCause c 2 (emissionsFreed c s)) := by
  refine congrArg Host.Outcome.next ?_
  rw [hend]
  exact if_pos hdue

theorem exec_noiseMuteRelease_due {c r : Nat} {s : State} (hend : (s.chan c).noiseEnd = some r) (hdue : r ≤ s.time.ot) :
    exec (.noiseMuteRelease c) s = .next (releaseCause c 1 (s.setChan c { s.chan c with noiseEnd := none })) := by
  refine congrArg Host.Outcome.next ?_
  rw [hend]
  exact if_pos hdue

/-! ### Noise (R254) -/

/-- The frames in a row whose noise has passed the limit, with one whose level is n. -/
def noisyFrames (c : Nat) (n : Int) (s : State) : Nat := if cdb (s.num (K.nlLimit c)) < n then (s.chan c).noiseRun + 1 else 0

theorem exec_noiseEvaluation_short {c count : Nat} {n : Int} {s : State} (hrun : s.num (K.chRun c) = 1) (hdir : s.num (K.chDir c) = 1)
    (hcount : 14 ≤ count) (h : noisyFrames c n s < s.nat K.nlFrames) :
    exec (.noiseEvaluation c n count) s = .next (s.setChan c { s.chan c with noiseRun := noisyFrames c n s }) :=
  congrArg Host.Outcome.next ((if_neg (by omega)).trans (if_pos h))

/-- The frame that makes the run long enough mutes the channel. -/
theorem exec_noiseEvaluation_long {c count : Nat} {n : Int} {s : State} (hrun : s.num (K.chRun c) = 1) (hdir : s.num (K.chDir c) = 1)
    (hcount : 14 ≤ count) (h : s.nat K.nlFrames ≤ noisyFrames c n s) :
    ∃ u, exec (.noiseEvaluation c n count) s = .next (raiseCause c 1 u) :=
  ⟨_, congrArg Host.Outcome.next ((if_neg (by omega)).trans (if_neg (Nat.not_lt.2 h)))⟩

/-! ### Visits (R159, R160, R200) -/

/-- The choice of the next visit writes what the receiver visits, and counts what it skips. -/
theorem sameBut_walkObs (r v n : Nat) (s : State) : SameBut [K.obsCurrent r, K.obsSkipped r] s (walkObs r v n s) := by
  induction n generalizing s v with
  | zero => exact (SameBut.refl _ s).set (by simp)
  | succ n ih =>
    have hskip : SameBut [K.obsCurrent r, K.obsSkipped r] s (s.inc (K.obsSkipped r) 32) := (SameBut.refl _ s).inc (by simp)
    have hstart : SameBut [K.obsCurrent r, K.obsSkipped r] s (startVisit r (v % 8) s) :=
      SameBut.set ((SameObjects.of_tables rfl rfl).sameBut _) (by simp)
    exact .ite (ih _ s) (.ite hstart (hskip.trans (ih _ _)))

theorem walkObs_ports (r v n : Nat) (s : State) : (walkObs r v n s).ports = s.ports := by
  induction n generalizing s v with
  | zero => rfl
  | succ n ih =>
    unfold walkObs
    extract_lets b
    split
    · exact ih _ s
    · split
      · rfl
      · exact ih _ _

theorem walkObs_port (r v n p : Nat) (s : State) : (walkObs r v n s).port p = s.port p :=
  congrArg (fun ports => Tab.get (fun _ => Port.fresh) ports p) (walkObs_ports r v n s)

theorem sameObjects_trackPa (p : Nat) (gain : Int) (phase : Nat) (s : State) : SameObjects s (trackPa p gain phase s) := by
  unfold trackPa
  extract_lets port s1
  refine SameObjects.trans (t := s1) (.of_tables rfl rfl) (.forL (fun c t => .ite (.refl t) (.forL (fun e u => ?_) _ t)) _ s1)
  dsimp only
  split <;> exact .of_tables rfl rfl

/-- The part when a forward visit of receiver r that measures no emission entry is over. -/
def forwardSeen (r : Nat) (m : ObsMeas) (s : State) : State :=
  let p := visitPort r (s.nat (K.obsCurrent r))
  let s2 := trackPa p m.gain m.phase (s.inc (K.obsVisits r) 64)
  s2.setPort p { s2.port p with obsFwd := some (m.power, s.time.now, m.still && portRadiates s p) }

theorem visitDone_forward {r : Nat} {m : ObsMeas} {s : State} (hfwd : (s.nat (K.obsCurrent r)).testBit 4 = false) (hlevels : m.levels = []) :
    visitDone r m s = forwardSeen r m s := by
  have hreflected : ¬ (s.nat (K.obsCurrent r)).testBit 4 = true := by simp [hfwd]
  refine (if_neg hreflected).trans ?_
  rw [hlevels]
  rfl

theorem forwardSeen_visits (r : Nat) (m : ObsMeas) (s : State) :
    (forwardSeen r m s).num (K.obsVisits r) = min (s.num (K.obsVisits r) + 1) (maxWord 64) := by
  have htrack := (sameObjects_trackPa (visitPort r (s.nat (K.obsCurrent r))) m.gain m.phase (s.inc (K.obsVisits r) 64)).1 (K.obsVisits r)
  exact htrack.trans ((State.num_inc ..).trans (if_pos rfl))

theorem forwardSeen_port (r : Nat) (m : ObsMeas) (s : State) :
    ((forwardSeen r m s).port (visitPort r (s.nat (K.obsCurrent r)))).obsFwd =
      some (m.power, s.time.now, m.still && portRadiates s (visitPort r (s.nat (K.obsCurrent r)))) := by
  simp [forwardSeen]

/-! ### The statement -/

/-- Settles O47: a noise limit passed long enough raises its cause last, a release clears it and at most releases the channel, and a visit is over
before the next one is chosen. -/
theorem noiseAndEmissionsAreWatched : Obligations.NoiseAndEmissionsAreWatched := by
  refine ⟨?muted, ?quiet, ?noiseEnd, ?emissionEnd, ?visit⟩
  case muted =>
    intro c n count s _ hrun hdir hcount hlevel hframes
    have hlong : s.nat K.nlFrames ≤ noisyFrames c n s := by rwa [noisyFrames, if_pos hlevel]
    obtain ⟨u, hexec⟩ := exec_noiseEvaluation_long hrun hdir hcount hlong
    exact ⟨_, hexec, raiseCause_cause ..⟩
  case quiet =>
    intro c n count s hrun hdir hcount hlevel hframes
    have hzero : noisyFrames c n s = 0 := if_neg (not_lt.2 hlevel)
    refine ⟨_, exec_noiseEvaluation_short hrun hdir hcount (by rwa [hzero]), ?_, .of_tables rfl rfl⟩
    rw [State.chan_setChan, if_pos rfl, hzero]
  case noiseEnd =>
    intro c r s hc hend hdue
    exact ⟨_, exec_noiseMuteRelease_due hend hdue, releaseCause_cause hc ..⟩
  case emissionEnd =>
    intro c r s hc hend hdue
    exact ⟨_, exec_emissionMuteRelease_due hend hdue, releaseCause_cause hc ..⟩
  case visit =>
    intro r m s hr howner hcurrent hfwd hdwell hlevels
    have hexec : exec (.obsVisitEnd r m) s = .next (walkObs r ((s.obsv r).idx + 1) 8 (forwardSeen r m s)) := by
      rw [← visitDone_forward hfwd hlevels]
      exact congrArg Host.Outcome.next ((if_neg (by omega)).trans ((if_neg hcurrent).trans (if_neg (by omega))))
    refine ⟨_, hexec, ?_, _, (congrArg Port.obsFwd (walkObs_port ..)).trans (forwardSeen_port r m s)⟩
    exact ((sameBut_walkObs ..).1 _ (by simp)).trans (forwardSeen_visits r m s)

end Sys2Proof.Machine
end

section
/-! PROOFS. Self-tests (R158, R406, R407): what their start and their end write last, whatever the port or the record before it does. That a port's
loopback test is the self-test of kind 1, with RANGE outside Standby and Listen, and what the record of a test holds, is log entry 90. -/

namespace Sys2Proof.Machine

/-! ### The start of a test (R406) -/

/-- The word of a test, its step and its state are the last writes of its start. -/
theorem startSelfTest_running (word m : Nat) (console : Bool) (s : State) :
    (startSelfTest word m console s).num K.stState = 1 ∧ (startSelfTest word m console s).num K.stBlock = word ∧
      (startSelfTest word m console s).num K.stStep = 0 := by
  simp [startSelfTest]

section
variable {n : Nat} {u : State} (w : Who)

theorem stRunEffect_starts (hfree : u.panel.test = none) (hok : testAllowed u (n / 256) (n % 256) = true) :
    stRunEffect false w (.num (n : Int)) u = .ok (startSelfTest n w.charged false u) := by
  simp [stRunEffect, Val.int, hfree, hok]

theorem stRunEffect_range (hfree : u.panel.test = none) (hno : testAllowed u (n / 256) (n % 256) = false) :
    stRunEffect false w (.num (n : Int)) u = .no u stRange := by
  simp [stRunEffect, Val.int, hfree, hno]

theorem stRunEffect_busy {x : SelfTest} (hruns : u.panel.test = some x) (v : Val) : stRunEffect false w v u = .no u stBusy := by
  simp [stRunEffect, hruns]

end

/-- A test that starts is answered OK, and runs. -/
theorem finish_startSelfTest (w : Who) (kind : Nat) (f : Frame) (word m : Nat) (console : Bool) (s : State) :
    let t := finish w kind f (.ok (startSelfTest word m console s))
    Answered t w stOk ∧ t.num K.stState = 1 ∧ t.num K.stBlock = word ∧ t.num K.stStep = 0 := by
  obtain ⟨hans, -, hsame⟩ := finish_answers (w := w) (kind := kind) (f := f) (r := .ok (startSelfTest word m console s)) rfl
  obtain ⟨hstate, hblock, hstep⟩ := startSelfTest_running word m console s
  exact ⟨hans, (hsame.1 _).trans hstate, (hsame.1 _).trans hblock, (hsame.1 _).trans hstep⟩

/-- The word of the loopback test of a port is that of its self-test, of kind 1. -/
theorem loopback_word {p : Nat} (hp : p < 32) : (256 + p) / 256 = 1 ∧ (256 + p) % 256 = p := by omega

/-! ### The end of a test (R407) -/

/-- The panel shows the end of a test, and its state and step stand. -/
def testShown (step : Nat) (state : Int) (b : Blink) (s : State) : State :=
  ({ s with panel := { s.panel with blink := some b } }.set K.stStep (step : Nat)).set K.stState state

theorem testShown_panel (step : Nat) (state : Int) (b : Blink) (s : State) : (testShown step state b s).panel.blink = some b := rfl

theorem testShown_num (step : Nat) (state : Int) (b : Blink) (s : State) :
    (testShown step state b s).num K.stState = state ∧ (testShown step state b s).num K.stStep = step := by
  simp [testShown]

/-- The part when the test x has ended at a step and is recorded, before the panel shows it. -/
def testEnded (step : Nat) (x : SelfTest) (s : State) : State :=
  let s1 := testLine x step (endTest x s)
  testRecord x (if step ≠ 0 then 1 else if x.late then 3 else 0) step (if step = 0 then s1 else s1.inc K.stFails 32)

/-- A test ends at its first failing step, or when its end has come. -/
theorem exec_selftestComplete_ends {step : Nat} {x : SelfTest} {s : State} (h : s.panel.test = some x) (hend : step = 0 → testOver s x = true) :
    exec (.selftestComplete step) s = .next (testShown step (if step ≠ 0 then 3 else if x.late then 5 else 2)
      ⟨(testEnded step x s).nat K.stLed, (testEnded step x s).time.now, x.block, step⟩ (testEnded step x s)) := by
  have hover : ¬ (step = 0 ∧ (!testOver s x) = true) := fun hc => by simp [hend hc.1] at hc
  refine congrArg Host.Outcome.next ?_
  rw [h]
  exact if_neg hover

/-! ### The abort of a test (R407, R117) -/

section
variable {x : SelfTest} {u : State} (w : Who)

/-- The state of an aborted test is the last write of its abort. -/
theorem stAbortEffect_aborts (hruns : u.panel.test = some x) (hnot : testOver u x = false) :
    ∃ t : State, stAbortEffect w (.num 1) u = .ok (t.set K.stState 4) := by
  unfold stAbortEffect
  rw [hruns]
  exact ⟨_, (if_neg (by decide)).trans (if_neg (by simp [hnot]))⟩

theorem stAbortEffect_late (hruns : u.panel.test = some x) (hover : testOver u x = true) :
    stAbortEffect w (.num 1) u = .late { u with panel := { u.panel with test := some { x with late := true } } } := by
  unfold stAbortEffect
  rw [hruns]
  exact (if_neg (by decide)).trans (if_pos hover)

end

/-- An answer leaves the panel alone. -/
theorem answer_panel (w : Who) (kind : Nat) (f : Frame) (status : Nat) (b : List Byte) (s : State) :
    (answer w kind f status b s).panel = s.panel := by
  refine respond_fixes State.panel (fun o t => ?_) (fun _ _ => rfl) ..
  unfold ringFrame putResponse
  split <;> simp [irq, apply_ite State.panel]

/-! ### The statement -/

/-- Settles O58: of what a start, an end or an abort writes, the objects of the self-tests come last, and a late abort is counted and marks the
test. -/
theorem selfTestsRun : Obligations.SelfTestsRun := by
  refine ⟨?starts, ?range, ?busy, ?loopback, ?loopbackRange, ?fails, ?passes, ?idle, ?aborts, ?late, ?blink⟩
  case starts =>
    intro f w n s u hreach hfree hok
    refine does_of_reaches hreach rfl ?_
    rw [stRunEffect_starts w hfree hok]
    exact finish_startSelfTest ..
  case range =>
    intro f w n s u hreach hfree hno
    refine does_of_reaches hreach rfl ?_
    rw [stRunEffect_range w hfree hno]
    exact finish_no ..
  case busy =>
    intro f w v x s u hreach hruns
    refine does_of_reaches hreach rfl ?_
    rw [stRunEffect_busy w hruns]
    exact finish_no ..
  case loopback =>
    intro p f w v s u hp hreach hfree hok
    obtain ⟨hkind, hinst⟩ := loopback_word hp
    refine does_of_reaches hreach rfl ?_
    rw [loopbackEffect, stRunEffect_starts w hfree (by rwa [hkind, hinst])]
    obtain ⟨hans, hstate, hblock, -⟩ := finish_startSelfTest w kWrite
      { f with index := K.portLoopbackTest p / 256, sub := K.portLoopbackTest p % 256 } (256 + p) w.charged false u
    exact ⟨hans, hstate, hblock⟩
  case loopbackRange =>
    intro p f w v s u hp hreach hfree hno
    obtain ⟨hkind, hinst⟩ := loopback_word hp
    refine does_of_reaches hreach rfl ?_
    rw [loopbackEffect, stRunEffect_range w hfree (by rwa [hkind, hinst])]
    exact finish_no ..
  case fails =>
    intro step x s hruns hstep
    refine ⟨_, exec_selftestComplete_ends hruns (absurd · hstep), ?_⟩
    obtain ⟨hstate, hshown⟩ := testShown_num step (if step ≠ 0 then 3 else if x.late then 5 else 2)
      ⟨(testEnded step x s).nat K.stLed, (testEnded step x s).time.now, x.block, step⟩ (testEnded step x s)
    exact ⟨hstate.trans (if_pos hstep), hshown, _, testShown_panel .., rfl⟩
  case passes =>
    intro x s hruns hover hlate
    refine ⟨_, exec_selftestComplete_ends hruns fun _ => hover, ?_⟩
    rw [hlate]
    exact testShown_num ..
  case idle =>
    intro step s hnone
    refine ⟨s, congrArg Host.Outcome.next ?_, rfl⟩
    rw [hnone]
  case aborts =>
    intro f w x s u hreach hruns hnot
    refine does_of_reaches hreach rfl ?_
    obtain ⟨t, heffect⟩ := stAbortEffect_aborts w hruns hnot
    rw [heffect, finish_ok]
    exact ⟨answered_answer .., (answer_num ..).trans ((State.num_set ..).trans (if_pos rfl))⟩
  case late =>
    intro f w x s u hreach hruns hover
    refine does_of_reaches hreach rfl ?_
    rw [stAbortEffect_late w hruns hover]
    have hcount : SameBut [K.txAbortsLate] u (Reply.late { u with panel := { u.panel with test := some { x with late := true } } }).st :=
      SameBut.inc ((SameObjects.of_tables rfl rfl).sameBut _) List.mem_cons_self
    obtain ⟨hans, -, hsame⟩ := finish_answers (w := w) (kind := kWrite) (f := { f with index := K.stAbort / 256, sub := K.stAbort % 256 })
      (r := .late { u with panel := { u.panel with test := some { x with late := true } } }) rfl
    exact ⟨hans, congrArg Panel.test (answer_panel ..), hcount.andThen hsame⟩
  case blink =>
    intro b s hblink hover
    refine ⟨{ s with panel := { s.panel with blink := none } }, congrArg Host.Outcome.next ?_, rfl, .of_tables rfl rfl⟩
    rw [hblink]
    exact if_pos hover

end Sys2Proof.Machine
end

section
/-! PROOFS. Cancellers and their channels (R179, R184, R202 to R211): the ends of settling and of fades, estimator windows and what they set off,
demonstration windows, tap resets, and the placement of branches. That a divergence acts in the tick after its window is R208. -/

namespace Sys2Proof.Machine

/-! ### Walks that leave something true -/

/-- What one member of a walk makes true, and every member keeps, is true after the walk. -/
theorem forL_makes {α : Type} {f : α → State → State} {P : State → Prop} {a : α} {l : List α} (ha : a ∈ l) (hmakes : ∀ t, P (f a t))
    (hkeeps : ∀ b, b ∈ l → ∀ t, P t → P (f b t)) (s : State) : P (forL l f s) := by
  have hstays : ∀ (m : List α) (t : State), (∀ b, b ∈ m → b ∈ l) → P t → P (forL m f t) := by
    intro m
    induction m with
    | nil => exact fun t _ ht => ht
    | cons b m ih =>
      exact fun t hm ht => ih (f b t) (fun x hx => hm x (List.mem_cons_of_mem _ hx)) (hkeeps b (hm b List.mem_cons_self) t ht)
  obtain ⟨before, after, rfl⟩ := List.append_of_mem ha
  have hwalk : forL (before ++ a :: after) f s = forL after f (f a (forL before f s)) := by simp [forL]
  rw [hwalk]
  exact hstays after _ (fun b hb => by simp [hb]) (hmakes _)

/-! ### Mute requests that are released (R190, R222, R230) -/

theorem State.bit_of_num {s t : State} {k : Nat} (h : s.num k = t.num k) (b : Nat) : s.bit k b = t.bit k b :=
  congrArg (fun v : Int => v.toNat.testBit b) h

section
variable {c b : Nat} (hc : c < 512)
include hc

/-- A write to a channel's engine leaves its mute requests alone. -/
theorem chMutes_set_engine {k : Nat} (hk : 0x6000 * 256 ≤ k) (v : Int) (s : State) : (s.set k v).num (K.chMutes c) = s.num (K.chMutes c) :=
  (State.num_set ..).trans (if_neg (ne_of_lt ((chMutes_lt hc).trans_le hk)))

/-- Of the mute requests of its channel, a gain that is set changes that of the floor alone. -/
theorem setGain_mute (hb : b ≠ cmFloor) (g : Int) (s : State) : (setGain c g s).bit (K.chMutes c) b = s.bit (K.chMutes c) b := by
  unfold setGain
  extract_lets s1 s2
  have hfloor : s1.bit (K.chMutes c) b = s.bit (K.chMutes c) b := by
    rw [State.bit_putBit, if_pos rfl, if_neg hb.symm]
  have hend : ((s1.set (K.geApplied c) (s.clampG c g)).set (K.geIntegrator c) g).num (K.chMutes c) = s1.num (K.chMutes c) :=
    (chMutes_set_engine hc (le_key (by decide)) ..).trans (chMutes_set_engine hc (le_key (by decide)) ..)
  exact (State.bit_of_num hend b).trans hfloor

/-- So does a reload. -/
theorem reload_mute (hb : b ≠ cmFloor) (s : State) : (reload c s).bit (K.chMutes c) b = s.bit (K.chMutes c) b := by
  unfold reload
  extract_lets pRes x s1 s2 s3 s4 chan s5
  have h3 : s3.num (K.chMutes c) = s.num (K.chMutes c) :=
    calc s3.num (K.chMutes c)
      _ = s2.num (K.chMutes c) := chMutes_set_engine hc (le_key (by decide)) ..
      _ = (s1.inc (K.geReloads c) 32).num (K.chMutes c) := chMutes_set_engine hc (le_key (by decide)) ..
      _ = s.num (K.chMutes c) := chMutes_set_engine hc (le_key (by decide)) ..
  have h4 : s4.bit (K.chMutes c) b = s3.bit (K.chMutes c) b := setGain_mute hc hb _ s3
  have h5 : s5.num (K.chMutes c) = s4.num (K.chMutes c) := State.setChan_num ..
  have hend : (s5.set (K.geAlcSetpoint c) (pRes + s5.num (K.geApplied c))).num (K.chMutes c) = s4.num (K.chMutes c) :=
    (chMutes_set_engine hc (le_key (by decide)) ..).trans h5
  exact (State.bit_of_num hend b).trans (h4.trans (State.bit_of_num h3 b))

/-- A mute request that is released, of a kind other than the floor's, is held no longer. -/
theorem releaseCh_mute (hb : b ≠ cmFloor) (s : State) : (releaseCh c b s).bit (K.chMutes c) b = false := by
  unfold releaseCh
  extract_lets w s1
  have h1 : s1.bit (K.chMutes c) b = false := State.bit_clrBit_self ..
  have hreload : (reload c s1).bit (K.chMutes c) b = false := (reload_mute hc hb s1).trans h1
  have hwindow : (markWindow c s1).bit (K.chMutes c) b = false := by
    unfold markWindow
    split <;> exact h1
  split_ifs
  exacts [h1, hreload, hwindow, h1, hreload, h1]

end

/-! ### Estimator windows (R208 to R210) -/

theorem sameObjects_demonstrate (c : Nat) (w : EstWindow) (s : State) : SameObjects s (demonstrate c w s) := by
  refine .ite (.refl s) (.forL (fun e t => ?_) _ s)
  exact .of_tables rfl rfl

theorem sameObjects_fireDetector (c det : Nat) (s : State) : SameObjects s (fireDetector c det s) := .ite (.of_tables rfl rfl) (.refl s)

/-- The objects a valid window writes: the margin, its state and error, and the depth. -/
def windowKeys (c : Nat) : List Nat := [K.cxMargin c, K.cxMarginState c, K.cxMarginError c, K.cxDepth c]

/-- A valid window makes the margin Fresh with the value m, and writes no object beside those of `windowKeys`. -/
theorem validWindow_margin (c : Nat) (w : EstWindow) (m : Int) (s : State) :
    (validWindow c w m s).num (K.cxMargin c) = m ∧ (validWindow c w m s).num (K.cxMarginState c) = 1 ∧
      (validWindow c w m s).num (K.cxMarginError c) = w.err ∧ SameBut (windowKeys c) s (validWindow c w m s) := by
  unfold validWindow
  extract_lets runs s1 x s2 depth s3
  have h2 : SameObjects s s2 := (sameObjects_demonstrate c w s).trans (.of_tables rfl rfl)
  have h3 : SameBut (windowKeys c) s s3 :=
    ((((h2.sameBut _).set (by simp [windowKeys])).set (by simp [windowKeys])).set (by simp [windowKeys])).set (by simp [windowKeys])
  have hfires : SameObjects s3 (if m < cdb (s.num K.oscMarginTrip) then fireDetector c 1 s3
      else if lineFires s w runs then fireDetector c 2 s3 else s3) :=
    .ite (sameObjects_fireDetector ..) (.ite (sameObjects_fireDetector ..) (.refl s3))
  have hmargin : s3.num (K.cxMargin c) = m := by simp [s3]
  have hstate : s3.num (K.cxMarginState c) = 1 := by simp [s3]
  have herror : s3.num (K.cxMarginError c) = w.err := by simp [s3]
  exact ⟨(hfires.1 _).trans hmargin, (hfires.1 _).trans hstate, (hfires.1 _).trans herror, h3.andThen hfires⟩

/-- The margin that a window gives. -/
def windowMargin (s : State) (c : Nat) (w : EstWindow) : Option Int :=
  marginOf s c (fun n => ((measured s c w).find? (fun e => decide (e.1 = n))).map (fun e => e.2.2))

/-- The part when the quantities of a window have been taken. -/
def windowTaken (c : Nat) (w : EstWindow) (s : State) : State :=
  match windowMargin s c w with
  | some m => if windowValid s c w then validWindow c w m s else invalidWindow c w s
  | none => invalidWindow c w s

theorem windowTaken_valid {c : Nat} {w : EstWindow} {m : Int} {s : State} (hm : windowMargin s c w = some m) (hv : windowValid s c w = true) :
    windowTaken c w s = validWindow c w m s := by
  unfold windowTaken
  rw [hm]
  exact if_pos hv

/-- The canceller subtracts, and the residual of the window is more than 3.00 dB above its input (R208). -/
def windowDiverges (s : State) (c : Nat) (w : EstWindow) : Bool :=
  decide (s.num (K.cxState c) = 1 ∨ s.num (K.cxState c) = 2) && decide (w.pIn + 3 * 65536 < w.pRes)

/-- A window of the channel ends: the next one begins, and a divergence is due in the next tick. -/
def windowEnded (c : Nat) (w : EstWindow) (s : State) : State :=
  let s0 := windowTaken c w s
  s0.setPath c { s0.pathOf c with est := 0, divergeAt := if windowDiverges s c w then some (s.time.now + 1) else (s0.pathOf c).divergeAt }

theorem exec_estimatorWindowEnd_ends {c : Nat} (w : EstWindow) {s : State} (hrun : s.num (K.chRun c) = 1)
    (hest : s.nat (K.cxEstWindow c) ≤ (s.pathOf c).est) : exec (.estimatorWindowEnd c w) s = .next (windowEnded c w s) :=
  congrArg Host.Outcome.next (if_neg (by omega))

theorem windowEnded_path (c : Nat) (w : EstWindow) (s : State) : ((windowEnded c w s).pathOf c).est = 0 ∧
    (windowDiverges s c w = true → ((windowEnded c w s).pathOf c).divergeAt = some (s.time.now + 1)) := by
  unfold windowEnded
  extract_lets s0
  rw [State.pathOf_setPath, if_pos rfl]
  exact ⟨rfl, fun h => if_pos h⟩

/-- The end of a window writes no object beside those that its quantities write. -/
theorem sameObjects_windowEnded (c : Nat) (w : EstWindow) (s : State) : SameObjects (windowTaken c w s) (windowEnded c w s) := .of_tables rfl rfl

/-! ### Demonstration windows (R211) -/

/-- The objects of the record of branch n. -/
def branchRecordKeys (c n : Nat) : List Nat :=
  [K.cxIsoN c n, K.cxDemoDepthN c n, K.cxBandLoN c n, K.cxBandHiN c n, K.cxIsoTimeN c n, K.cxRecords c]

/-- The record of branch n holds an isolation and a depth, and is marked as written. -/
structure Recorded (c n : Nat) (iso depth : Int) (t : State) : Prop where
  marked : t.bit (K.cxRecords c) n = true
  iso : t.num (K.cxIsoN c n) = iso
  depth : t.num (K.cxDemoDepthN c n) = depth

theorem sameBut_writeRecord (c n : Nat) (iso depth : Int) (s : State) : SameBut (branchRecordKeys c n) s (writeRecord c n iso depth s) := by
  unfold writeRecord
  extract_lets b s1 s2
  have h1 : SameBut (branchRecordKeys c n) s s1 :=
    (((SameBut.refl _ s).set (by simp [branchRecordKeys])).set (by simp [branchRecordKeys])).set (by simp [branchRecordKeys])
  have h2 : SameBut (branchRecordKeys c n) s s2 := (h1.set (by simp [branchRecordKeys])).set (by simp [branchRecordKeys])
  exact h2.set (by simp [branchRecordKeys])

theorem recorded_writeRecord {n : Nat} (hn : n < 4) (c : Nat) (iso depth : Int) (s : State) :
    Recorded c n iso depth (writeRecord c n iso depth s) where
  marked := State.bit_setBit_self ..
  iso := by
    simp only [writeRecord, State.num_setBit, State.num_set, K.cxIsoN, K.cxDemoDepthN, K.cxBandLoN, K.cxBandHiN, K.cxIsoTimeN, K.cxRecords]
    rw [if_neg (by omega), if_neg (by omega), if_neg (by omega), if_neg (by omega), if_neg (by omega), if_pos trivial]
  depth := by
    simp only [writeRecord, State.num_setBit, State.num_set, K.cxIsoN, K.cxDemoDepthN, K.cxBandLoN, K.cxBandHiN, K.cxIsoTimeN, K.cxRecords]
    rw [if_neg (by omega), if_neg (by omega), if_neg (by omega), if_neg (by omega), if_pos trivial]

theorem writeRecord_marked {c n m : Nat} {iso depth : Int} {s : State} (hm : m < 4) (h : s.bit (K.cxRecords c) n = true) :
    (writeRecord c m iso depth s).bit (K.cxRecords c) n = true := by
  unfold writeRecord
  extract_lets b s1 s2
  have h2 : s2.num (K.cxRecords c) = s.num (K.cxRecords c) := by
    simp only [s2, s1, State.num_set, K.cxIsoN, K.cxDemoDepthN, K.cxBandLoN, K.cxBandHiN, K.cxIsoTimeN, K.cxRecords]
    rw [if_neg (by omega), if_neg (by omega), if_neg (by omega), if_neg (by omega), if_neg (by omega)]
  have hkept : s2.bit (K.cxRecords c) n = true := (State.bit_of_num h2 n).trans h
  rw [State.bit_setBit, if_pos rfl, hkept, Bool.true_or]

/-- The record of another branch leaves that of branch n alone. -/
protected theorem Recorded.writeRecord {c n m : Nat} {iso depth iso' depth' : Int} {t : State} (h : Recorded c n iso depth t) (hn : n < 4)
    (hm : m < 4) (hne : m ≠ n) : Recorded c n iso depth (writeRecord c m iso' depth' t) := by
  have hkeys : K.cxIsoN c n ∉ branchRecordKeys c m ∧ K.cxDemoDepthN c n ∉ branchRecordKeys c m := by
    simp only [branchRecordKeys, List.mem_cons, List.not_mem_nil, or_false, K.cxIsoN, K.cxDemoDepthN, K.cxBandLoN, K.cxBandHiN, K.cxIsoTimeN,
      K.cxRecords]
    omega
  have hsame := sameBut_writeRecord c m iso' depth' t
  exact ⟨writeRecord_marked hm h.marked, (hsame.1 _ hkeys.1).trans h.iso, (hsame.1 _ hkeys.2).trans h.depth⟩

/-- The record of branch n is written where the demonstration window x has measured it. -/
def demoRecord (c : Nat) (x : Chan) (n : Nat) (s : State) : State :=
  match Tab.get (fun _ => none) x.demoIso n, Tab.get (fun _ => none) x.demoDepth n with
  | some i, some d => writeRecord c n i d s
  | _, _ => s

theorem demoRecord_measured {c n : Nat} {x : Chan} {i d : Int} (hi : Tab.get (fun _ => none) x.demoIso n = some i)
    (hd : Tab.get (fun _ => none) x.demoDepth n = some d) (s : State) : demoRecord c x n s = writeRecord c n i d s := by
  unfold demoRecord
  rw [hi, hd]

/-- Each record that the window has measured is written, whatever the walk over the branches writes beside it. -/
theorem recorded_demoRecords {c n : Nat} {x : Chan} {i d : Int} (hn : n < 4) (hi : Tab.get (fun _ => none) x.demoIso n = some i)
    (hd : Tab.get (fun _ => none) x.demoDepth n = some d) (s : State) : Recorded c n i d (forN 4 (demoRecord c x) s) := by
  have hwrites : ∀ t, Recorded c n i d (demoRecord c x n t) := by
    intro t
    rw [demoRecord_measured hi hd]
    exact recorded_writeRecord hn c i d t
  refine forL_makes (List.mem_range.2 hn) hwrites (fun m hm t ht => ?_) s
  by_cases hne : m = n
  · exact hne ▸ hwrites t
  · unfold demoRecord
    split
    · exact ht.writeRecord hn (List.mem_range.1 hm) hne
    · exact ht

/-- The part when a demonstration window has been recorded: the next one begins. -/
def demoEnded (c : Nat) (s : State) : State :=
  let s1 := forN 4 (demoRecord c (s.chan c)) s
  s1.setChan c { s1.chan c with demoFrom := some s.time.ot, demoIso := [], demoDepth := [] }

theorem exec_demoWindowEnd_due {c r : Nat} {s : State} (hfrom : (s.chan c).demoFrom = some r) (hstate : s.num (K.cxState c) = 2)
    (hdue : r + 60 * 1024 ≤ s.time.ot) : exec (.demoWindowEnd c) s = .next (demoEnded c s) := by
  refine congrArg Host.Outcome.next ?_
  rw [hfrom]
  exact if_pos ⟨hstate, hdue⟩

theorem demoEnded_from (c : Nat) (s : State) : ((demoEnded c s).chan c).demoFrom = some s.time.ot :=
  congrArg Chan.demoFrom ((State.chan_setChan ..).trans (if_pos rfl))

/-! ### Tap resets (R205) -/

/-- The first tap reset of a tick counts, and leaves neither a margin nor adapting ticks. -/
theorem tapReset_first {c : Nat} {s : State} (h : (s.chan c).tapAt ≠ some s.time.now) :
    (tapReset c s).num (K.cxMarginState c) = 0 ∧ (tapReset c s).num (K.cxAdaptTicks c) = 0 ∧
      (tapReset c s).num (K.cxResets c) = min (s.num (K.cxResets c) + 1) (maxWord 32) := by
  unfold tapReset
  extract_lets x s1 s2 s3
  rw [if_neg h]
  have h2 : s2.num (K.cxResets c) = s1.num (K.cxResets c) := by
    refine forL_num (fun n hn t => (State.num_set ..).trans (if_neg ?_)) s1
    have hlt := List.mem_range.1 hn
    unfold K.cxResets K.cxPaGainN
    omega
  have h3 : s3.num (K.cxResets c) = s2.num (K.cxResets c) := State.num_ite ((State.num_set ..).trans (if_neg (key_ne (by decide)))) rfl
  have hcount : s3.num (K.cxResets c) = s.num (K.cxResets c) := h3.trans h2
  simp [hcount]

/-! ### Branches that are placed (R202) -/

/-- The part when the taps of branch n are zero. -/
def branchTapsZero (c n : Nat) (s : State) : State :=
  s.setPath c { s.pathOf c with taps := Tab.put (fun _ => []) n [] (s.pathOf c).taps }

theorem exec_branchDeferredPlace_next {c n sp : Nat} {s : State} (hnext : nextDeferred s = some (c, n)) (hroom : roomFor s c = some sp) :
    exec (.branchDeferredPlace c n) s = .next ((branchTapsZero c n s).set (K.cxBranchSubpoolN c n) (sp : Nat)) := by
  refine congrArg Host.Outcome.next ((if_pos hnext).trans ?_)
  have hsame : roomFor (branchTapsZero c n s) c = some sp := hroom
  unfold branchTapsZero at hsame
  unfold placeBranch
  rw [hsame]
  rfl

/-! ### Fades (R184) -/

theorem exec_fadeEnd_ends {sl : Nat} {s : State} (hfading : s.flag (K.slFading sl) = true)
    (hdone : ∀ c, c ∈ startedIn s sl → (s.chan c).fadeDue = none ∨ ∃ r, (s.chan c).fadeDue = some r ∧ r ≤ s.time.now) :
    exec (.fadeEnd sl) s = .next (endFade sl s) := by
  refine congrArg Host.Outcome.next (if_pos ⟨hfading, List.all_eq_true.2 fun c hc => ?_⟩)
  obtain hnone | ⟨r, hdue, hle⟩ := hdone c hc
  · rw [hnone]
  · rw [hdue]
    exact decide_eq_true hle

theorem endFade_num (sl : Nat) (s : State) :
    (endFade sl s).num (K.slFading sl) = 0 ∧ (endFade sl s).num (K.slFadeEnd sl) = (s.tbNow : Nat) := by
  simp [endFade]

/-! ### The statement -/

/-- Settles O43: the end of a window is `windowEnded`, that of a demonstration window `demoEnded`, and that of a fade `endFade`; a write of cx.reset
is `tapReset`, and the reload that may follow the release of the settling mute moves no mute request but the floor's. -/
theorem cancellersAdapt : Obligations.CancellersAdapt := by
  refine ⟨?valid, ?diverges, ?idle, ?converged, ?expired, ?demo, ?reset, ?placed, ?settled, ?unsettled, ?fade⟩
  case valid =>
    intro c x m s _ hrun hest hmargin hvalid
    have htaken : windowTaken c x s = validWindow c x m s := windowTaken_valid hmargin hvalid
    obtain ⟨hm, hstate, herror, hkeys⟩ := validWindow_margin c x m s
    have hsame := htaken ▸ sameObjects_windowEnded c x s
    exact ⟨_, exec_estimatorWindowEnd_ends x hrun hest, (hsame.1 _).trans hm, (hsame.1 _).trans hstate, (hsame.1 _).trans herror,
      (windowEnded_path c x s).1, hkeys.andThen hsame⟩
  case diverges =>
    intro c x s _ hrun hest hstate hres
    have hdiverges : windowDiverges s c x = true := by rw [windowDiverges, decide_eq_true hstate, decide_eq_true hres, Bool.and_true]
    exact ⟨_, exec_estimatorWindowEnd_ends x hrun hest, (windowEnded_path c x s).2 hdiverges⟩
  case idle => exact fun c x s h => ⟨s, congrArg Host.Outcome.next (if_pos h), rfl⟩
  case converged =>
    intro c s hstate hticks hfresh
    refine ⟨_, congrArg Host.Outcome.next (if_pos ⟨hstate, hticks, hfresh⟩), (State.num_set ..).trans (if_pos rfl), ?_, ?_⟩
    · exact (State.num_set ..).trans ((if_neg (key_ne (by decide))).trans ((State.num_set ..).trans (if_pos rfl)))
    · exact (SameBut.set ((SameObjects.of_tables rfl rfl).sameBut _) (by simp)).set (by simp)
  case expired =>
    intro c s hheld hlimit
    exact ⟨_, congrArg Host.Outcome.next (if_pos ⟨hheld, hlimit⟩), (State.num_set ..).trans (if_pos rfl), (SameBut.refl _ s).set (by simp)⟩
  case demo =>
    intro c r n i d s _ hfrom hstate hdue hn hi hd
    have hrec : Recorded c n i d (forN 4 (demoRecord c (s.chan c)) s) := recorded_demoRecords hn hi hd s
    exact ⟨_, exec_demoWindowEnd_due hfrom hstate hdue, hrec.marked, hrec.iso, hrec.depth, demoEnded_from c s⟩
  case reset =>
    intro c f w v s u _ hreach hfirst
    refine does_of_reaches hreach rfl ?_
    obtain ⟨hmargin, hticks, hresets⟩ := tapReset_first hfirst
    obtain ⟨hans, -, hsame⟩ := finish_answers (w := w) (kind := kWrite)
      (f := { f with index := K.cxReset c / 256, sub := K.cxReset c % 256 }) (r := cxResetEffect c w v u) rfl
    exact ⟨hans, (hsame.1 _).trans hmargin, (hsame.1 _).trans hticks, (hsame.1 _).trans hresets⟩
  case placed =>
    intro c n sp s _ hnext hroom
    refine ⟨_, exec_branchDeferredPlace_next hnext hroom, (State.num_set ..).trans (if_pos rfl), ?_⟩
    exact SameBut.set ((SameObjects.of_tables rfl rfl).sameBut _) (by simp)
  case settled =>
    intro c s hc hmute hsettled
    exact ⟨_, congrArg Host.Outcome.next (if_pos ⟨hmute, hsettled⟩), releaseCh_mute hc (by decide) s⟩
  case unsettled =>
    intro c s hnot
    exact ⟨s, congrArg Host.Outcome.next (if_neg (by simp [hnot])), rfl⟩
  case fade =>
    intro sl s _ hfading hdone
    obtain ⟨hnow, hend⟩ := endFade_num sl s
    exact ⟨_, exec_fadeEnd_ends hfading hdone, hnow, hend, (sameBut_endFade sl s).mono (by simp)⟩

end Sys2Proof.Machine
end

section
/-! PROOFS. The gain control engine (R221, R222, R227 to R233): the window that ends at an update instant and the one that opens, a due rate applied
or discarded, the following-error trip, and fallback. Where a count of instants starts afresh is log entry 33, and the source of the fallback's record
log entry 32. -/

namespace Sys2Proof.Machine

theorem State.chan_setChan_self (s : State) (c : Nat) (x : Chan) : (s.setChan c x).chan c = x := (State.chan_setChan ..).trans (if_pos rfl)

/-! ### A gain that is set (R222) -/

/-- The objects a gain that is set writes: the mute requests with the floor's, the applied gain, and the integrator. -/
def gainKeys (c : Nat) : List Nat := [K.chMutes c, K.geApplied c, K.geIntegrator c]

theorem sameBut_setGain (c : Nat) (g : Int) (s : State) : SameBut (gainKeys c) s (setGain c g s) :=
  (((SameBut.refl _ s).set (by simp [gainKeys])).set (by simp [gainKeys])).set (by simp [gainKeys])

theorem setGain_integrator (c : Nat) (g : Int) (s : State) : (setGain c g s).num (K.geIntegrator c) = g := (State.num_set ..).trans (if_pos rfl)

theorem setGain_applied (c : Nat) (g : Int) (s : State) : (setGain c g s).num (K.geApplied c) = s.clampG c g :=
  (State.num_set ..).trans ((if_neg (key_ne (by decide))).trans ((State.num_set ..).trans (if_pos rfl)))

/-- Of the engine's status (Table 9-6), the objects past the integrator and the applied gain are none that a gain writes. -/
theorem status_notMem_gainKeys {z : Nat} (hz : 2 < z ∧ z < 256) (c : Nat) : (0x6001 + c * 0x4) * 256 + z ∉ gainKeys c := by
  simp only [gainKeys, List.mem_cons, List.not_mem_nil, or_false, K.chMutes, K.geApplied, K.geIntegrator]
  omega

/-! ### A pending rate (R221, R229) -/

/-- The multiplier's steps are no objects. -/
theorem sameObjects_stepMultiplier (c : Nat) (lock : Bool) (s : State) : SameObjects s (stepMultiplier c lock s) :=
  .ite (.of_tables rfl rfl) (.of_tables rfl rfl)

theorem stepMultiplier_time (c : Nat) (lock : Bool) (s : State) : (stepMultiplier c lock s).time = s.time := State.time_ite rfl rfl

theorem stepMultiplier_pendingRate (c : Nat) (lock : Bool) (s : State) :
    ((stepMultiplier c lock s).chan c).pendingRate = (s.chan c).pendingRate := by
  unfold stepMultiplier
  split <;> simp

/-- What is shown of an applied rate, and the multiplier's step, before the integrator moves. -/
def rateShown (c : Nat) (x : Pend) (s : State) : State :=
  let s1 := stepMultiplier c x.lock (((s.set (K.geWinner c) (x.loop : Int)).set (K.geRate c) x.rate).inc (K.geUpdates c) 64)
  if x.lock then s1 else s1.set (K.gePromptDelay c) (x.delay : Int)

theorem applyRate_eq (c : Nat) (x : Pend) (s : State) :
    applyRate c x s = setGain c (wrap32 (s.num (K.geIntegrator c) + x.rate)) (rateShown c x s) := rfl

theorem rateShown_time (c : Nat) (x : Pend) (s : State) : (rateShown c x s).time = s.time :=
  State.time_ite (stepMultiplier_time c x.lock _) (stepMultiplier_time c x.lock _)

theorem rateShown_pendingRate (c : Nat) (x : Pend) (s : State) : ((rateShown c x s).chan c).pendingRate = (s.chan c).pendingRate := by
  unfold rateShown
  extract_lets s1
  have h1 : (s1.chan c).pendingRate = (s.chan c).pendingRate := stepMultiplier_pendingRate ..
  split <;> exact h1

/-- The objects that show an applied rate. -/
def rateKeys (c : Nat) : List Nat := [K.geWinner c, K.geRate c, K.geUpdates c, K.gePromptDelay c]

theorem sameBut_rateShown (c : Nat) (x : Pend) (s : State) : SameBut (rateKeys c) s (rateShown c x s) := by
  unfold rateShown
  extract_lets s1
  have h1 : SameBut (rateKeys c) s s1 := SameBut.andThen
    ((((SameBut.refl _ s).set (by simp [rateKeys])).set (by simp [rateKeys])).inc (by simp [rateKeys])) (sameObjects_stepMultiplier ..)
  exact .ite h1 (h1.set (by simp [rateKeys]))

/-- The bounds of the gain are none of the objects that show a rate. -/
theorem rateShown_clampG (c : Nat) (x : Pend) (s : State) (g : Int) : (rateShown c x s).clampG c g = s.clampG c g := by
  have hbound : ∀ z, z < 3 → (rateShown c x s).num ((0x6000 + c * 0x4) * 256 + z) = s.num ((0x6000 + c * 0x4) * 256 + z) := by
    intro z hz
    refine (sameBut_rateShown c x s).1 _ ?_
    simp only [rateKeys, List.mem_cons, List.not_mem_nil, or_false, K.geWinner, K.geRate, K.geUpdates, K.gePromptDelay]
    omega
  unfold State.clampG State.gmin State.gmax
  rw [hbound 1 (by decide), hbound 2 (by decide)]

theorem rateShown_winner (c : Nat) (x : Pend) (s : State) :
    (rateShown c x s).num (K.geWinner c) = (x.loop : Nat) ∧ (rateShown c x s).num (K.geRate c) = x.rate := by
  unfold rateShown
  extract_lets s1
  have hshown : ∀ k, s1.num k = _ := (sameObjects_stepMultiplier c x.lock _).1
  split <;> simp [hshown]

/-- A rate that is applied moves the integrator by it, wrapping, and the applied gain follows within its bounds. -/
theorem applyRate_moves (c : Nat) (x : Pend) (s : State) :
    (applyRate c x s).num (K.geIntegrator c) = wrap32 (s.num (K.geIntegrator c) + x.rate) ∧ (applyRate c x s).num (K.geRate c) = x.rate ∧
      (applyRate c x s).num (K.geWinner c) = (x.loop : Nat) ∧
      (applyRate c x s).num (K.geApplied c) = s.clampG c (wrap32 (s.num (K.geIntegrator c) + x.rate)) := by
  rw [applyRate_eq]
  obtain ⟨hwinner, hrate⟩ := rateShown_winner c x s
  have hkept := (sameBut_setGain c (wrap32 (s.num (K.geIntegrator c) + x.rate)) (rateShown c x s)).1
  exact ⟨setGain_integrator .., (hkept _ (status_notMem_gainKeys (by decide) c)).trans hrate,
    (hkept _ (status_notMem_gainKeys (by decide) c)).trans hwinner, (setGain_applied ..).trans (rateShown_clampG ..)⟩

section
variable {c : Nat} {x : Pend} {s : State} (hpend : (s.chan c).pendingRate = some x) (hdue : pendDue s x = true)
include hpend hdue

theorem settlePending_applies (hheld : engineHeld s c = false) :
    settlePending c s = applyRate c x (s.setChan c { s.chan c with pendingRate := none }) := by
  unfold settlePending
  rw [hpend]
  simp [hdue, hheld]

theorem settlePending_discards (hheld : engineHeld s c = true) :
    settlePending c s = (s.setChan c { s.chan c with pendingRate := none }).inc (K.geDiscarded c) 32 := by
  unfold settlePending
  rw [hpend]
  simp [hdue, hheld]

end

theorem setChan_pendingRate_none (c : Nat) (s : State) : ((s.setChan c { s.chan c with pendingRate := none }).chan c).pendingRate = none :=
  congrArg Chan.pendingRate (State.chan_setChan_self ..)

theorem applyRate_pendingRate (c : Nat) (x : Pend) (s : State) : ((applyRate c x s).chan c).pendingRate = (s.chan c).pendingRate :=
  rateShown_pendingRate c x s

theorem settlePending_time (c : Nat) (s : State) : (settlePending c s).time = s.time := by
  unfold settlePending
  split
  · exact State.time_ite rfl (State.time_ite rfl (rateShown_time ..))
  · rfl

/-! ### Update windows (R227, R229) -/

/-- The loops' requests leave the clocks alone. -/
theorem requestLoops_time (c : Nat) (m : GainMeas) (s : State) : (requestLoops c m s).2.time = s.time := by
  unfold requestLoops
  refine List.foldlRecOn (motive := fun acc : List (Nat × Int) × State => acc.2.time = s.time) _ _ rfl fun acc hacc i _ => ?_
  split
  · exact hacc
  · dsimp only
    split <;> exact hacc

theorem supervise_time (c len : Nat) (m : GainMeas) (s : State) : (supervise c len m s).time = s.time := State.time_ite rfl rfl

theorem countUpdate_time (cost : Nat) (s : State) : (countUpdate cost s).time = s.time := rfl

/-- The window that opens runs from this tick. -/
theorem openWindow_windowFrom (c : Nat) (s : State) : ((openWindow c s).chan c).windowFrom = s.time.now := by
  unfold openWindow
  extract_lets b old mode s1 x x1
  split_ifs <;> exact congrArg Chan.windowFrom (State.chan_setChan_self ..)

/-- The window that ends in this tick, after a rate that is due in it: the requests of a clean one, and the part before the next one opens. A window
that is not clean yields none. -/
def windowClosed (c : Nat) (m : GainMeas) (s : State) : List (Nat × Int) × State :=
  let len := s.time.now - (s.chan c).windowFrom
  let s0 := (settlePending c s).set (K.geWindow c) (len : Nat)
  if (s.chan c).dirty then ([], s0)
  else
    let s1 := s0.set (K.geAlcSetpoint c) (advanceSetpoint s0 c len)
    let r := requestLoops c m (reviewNotches c (s1.set (K.geSupplyHeadroom c) ((supplyHeadroom s1 c).getD 0)))
    (r.1, countUpdate (costOf r.2 c) (supervise c len m r.2))

theorem windowClosed_time (c : Nat) (m : GainMeas) (s : State) : (windowClosed c m s).2.time = s.time := by
  unfold windowClosed
  extract_lets len s0 s1 r
  have h0 : s0.time = s.time := settlePending_time c s
  have hr : r.2.time = s.time := (requestLoops_time ..).trans ((reviewNotches_time ..).trans h0)
  split
  · exact h0
  · exact (countUpdate_time ..).trans ((supervise_time ..).trans hr)

/-- The next window opens, and of the requests of the last one the lowest waits for its tick. -/
def windowOpened (c : Nat) (r : List (Nat × Int)) (s : State) : State :=
  let t := openWindow c s
  let lock := decide (t.num (K.geModeNow c) ≠ 0)
  match lowestWins r with
  | none => t
  | some (i, q) =>
    let due := if lock then (match (t.chan c).nextInst with | some n => n | none => instantOf t c) else s.time.now + promptDelayOf s c
    t.setChan c { t.chan c with pendingRate := some ⟨q, i, due, lock, promptDelayOf s c⟩ }

theorem windowOpened_windowFrom (c : Nat) (r : List (Nat × Int)) (s : State) : ((windowOpened c r s).chan c).windowFrom = s.time.now := by
  unfold windowOpened
  extract_lets t lock
  split
  · exact openWindow_windowFrom c s
  · exact (congrArg Chan.windowFrom (State.chan_setChan_self ..)).trans (openWindow_windowFrom c s)

theorem exec_gainUpdate_instant {c : Nat} (m : GainMeas) {s : State} (hrun : s.num (K.chRun c) = 1) (hheld : engineHeld s c = false)
    (hat : atInstant s c = true) : exec (.gainUpdate c m) s = .next (windowOpened c (windowClosed c m s).1 (windowClosed c m s).2) := by
  refine congrArg Host.Outcome.next ((if_neg (by simp [hrun, hheld, hat])).trans ?_)
  unfold windowOpened
  rw [windowClosed_time]
  by_cases hdirty : (s.chan c).dirty = true
  · have hclosed : windowClosed c m s = (_, _) := if_pos hdirty
    rw [hclosed]
    exact if_pos hdirty
  · have hclosed : windowClosed c m s = (_, _) := if_neg hdirty
    rw [hclosed]
    exact if_neg hdirty

/-- Outside its instants an update does nothing (log entry 36). -/
theorem exec_gainUpdate_waits {c : Nat} (m : GainMeas) {s : State}
    (h : s.num (K.chRun c) ≠ 1 ∨ engineHeld s c = true ∨ atInstant s c = false) : exec (.gainUpdate c m) s = .next s :=
  congrArg Host.Outcome.next (if_pos (by simpa using h))

/-! ### The statement -/

/-- Settles O44: an update is `windowClosed` and then `windowOpened`, with no tick between them; a due rate is `applyRate`, or is dropped and counted;
a trip and the entry into fallback write their mark after the fault they record. -/
theorem gainIsControlled : Obligations.GainIsControlled := by
  refine ⟨?instant, ?waits, ?applied, ?discarded, ?trips, ?falls, ?returns⟩
  case instant =>
    intro c m s _ hrun hheld hat
    exact ⟨_, exec_gainUpdate_instant m hrun hheld hat,
      (windowOpened_windowFrom ..).trans (congrArg Time.now (windowClosed_time c m s))⟩
  case waits => exact fun c m s h => ⟨s, exec_gainUpdate_waits m h, rfl⟩
  case applied =>
    intro c x s _ hpend hdue hheld
    refine ⟨_, congrArg Host.Outcome.next (settlePending_applies hpend hdue hheld), ?_⟩
    obtain ⟨hintegrator, hrate, hwinner, happlied⟩ := applyRate_moves c x (s.setChan c { s.chan c with pendingRate := none })
    exact ⟨hintegrator, hrate, hwinner, (applyRate_pendingRate ..).trans (setChan_pendingRate_none c s), happlied⟩
  case discarded =>
    intro c x s hpend hdue hheld
    refine ⟨_, congrArg Host.Outcome.next (settlePending_discards hpend hdue hheld), setChan_pendingRate_none c s, ?_, ?_⟩
    · exact (State.num_inc ..).trans (if_pos rfl)
    · exact SameBut.inc ((SameObjects.of_tables rfl rfl).sameBut _) List.mem_cons_self
  case trips =>
    intro c s hrun htimer hfirst
    refine ⟨_, congrArg Host.Outcome.next (if_pos ⟨hrun, htimer, by simp [hfirst]⟩), ?_⟩
    exact congrArg Chan.feTripped (State.chan_setChan_self ..)
  case falls =>
    intro s hout hload
    exact ⟨_, congrArg Host.Outcome.next (if_neg (by simp [hout, hload])), (State.num_set ..).trans (if_pos rfl)⟩
  case returns =>
    intro s hin hlong hbefore hsince
    refine ⟨_, congrArg Host.Outcome.next (if_pos ⟨hin, hlong, hbefore, hsince⟩), (State.num_set ..).trans (if_pos rfl), ?_⟩
    exact (SameBut.refl _ s).set List.mem_cons_self

end Sys2Proof.Machine
end

section
/-! PROOFS. Protection of the ports (R244 to R248): the mute and the state are the last writes of a guard that trips, a guard that is released
writes only the two back, and a walk of the ports for MUTE_N writes the mutes of each port alone. -/

namespace Sys2Proof.Machine

/-! ### Mutes of a port (R143) -/

theorem portMutes_ne {p q : Nat} (h : p ≠ q) : K.portMutes p ≠ K.portMutes q := by unfold K.portMutes; omega

theorem releasePort_bit (p b : Nat) (s : State) : (releasePort p b s).bit (K.portMutes p) b = false := by
  unfold releasePort
  split
  · exact State.bit_clrBit_self ..
  · next h => exact Bool.eq_false_iff.2 h

/-- A mute that is not held is not held after a release on any port. -/
theorem releasePort_bit_false {p b : Nat} {s : State} (h : s.bit (K.portMutes p) b = false) (q : Nat) :
    (releasePort q b s).bit (K.portMutes p) b = false := by
  by_cases hq : p = q
  · rw [hq]
    exact releasePort_bit q b s
  · exact (State.bit_of_num ((sameBut_releasePort q b s).1 _ (mt List.mem_singleton.1 (portMutes_ne hq))) b).trans h

/-! ### The Hawkmoth guard (R244 to R247) -/

/-- A trip raises the mute of the port and then writes its condition, or 3 where it latches, whatever it counts and records before. -/
theorem hmTrip_eq (p cond : Nat) (s : State) : ∃ (u : State) (latch : Bool),
    hmTrip p cond s = (raisePort p pmHawkmoth u).set (K.hmState p) (if latch then 3 else (cond : Int)) := ⟨_, _, rfl⟩

theorem hmTrip_mute (p cond : Nat) (s : State) : (hmTrip p cond s).bit (K.portMutes p) pmHawkmoth = true := by
  obtain ⟨u, latch, heq⟩ := hmTrip_eq p cond s
  rw [heq, State.bit_set, if_neg (key_ne (by decide))]
  exact raisePort_bit ..

theorem hmTrip_state (p cond : Nat) (s : State) :
    (hmTrip p cond s).num (K.hmState p) = cond ∨ (hmTrip p cond s).num (K.hmState p) = 3 := by
  obtain ⟨u, latch, heq⟩ := hmTrip_eq p cond s
  rw [heq, State.num_set, if_pos rfl]
  cases latch
  · exact .inl rfl
  · exact .inr rfl

/-- The condition that the final stage of port p has found is taken up. -/
def guardTaken (p : Nat) (s : State) : State := s.setWing p { s.wingOf p with hmDue := none }

theorem guardTaken_hmDue (p : Nat) (s : State) : ((guardTaken p s).wingOf p).hmDue = none :=
  congrArg WingPath.hmDue ((State.wingOf_setWing ..).trans (if_pos rfl))

theorem exec_hawkmothTrip_due {p cond due : Nat} {s : State} (hp : p < 32) (hfound : (s.wingOf p).hmDue = some (due, cond))
    (hdue : due ≤ s.time.now) : exec (.hawkmothTrip p cond) s =
      .next (if s.num (K.hmState p) = 0 then hmTrip p cond (guardTaken p s) else guardTaken p s) := by
  refine congrArg Host.Outcome.next ?_
  rw [hfound]
  exact if_neg (by omega)

section
variable (p : Nat) (s : State)

theorem hmRelease_state : (hmRelease p s).num (K.hmState p) = 0 :=
  ((sameBut_releasePort ..).1 _ (mt List.mem_singleton.1 (key_ne (by decide)))).trans ((State.num_set ..).trans (if_pos rfl))

theorem hmRelease_mute : (hmRelease p s).bit (K.portMutes p) pmHawkmoth = false := releasePort_bit ..

theorem sameBut_hmRelease : SameBut [K.hmState p, K.portMutes p] s (hmRelease p s) :=
  ((SameBut.refl _ s).set List.mem_cons_self).trans ((sameBut_releasePort ..).mono (by simp))

end

theorem hmClearEffect_tripped {p : Nat} {u : State} (w : Who) (v : Val) (h : u.num (K.hmState p) ≠ 0) :
    hmClearEffect p w v u = .ok (hmRelease p u) := congrArg Reply.ok (if_neg h)

/-! ### MUTE_N (R248) -/

/-- What the pin does to port p. -/
def obeyPin (p : Nat) (s : State) : State := if s.flag (K.hmMutePin p) then raisePort p pmPin s else s

theorem obeyPin_flag (p q : Nat) (s : State) : (obeyPin q s).flag (K.hmMutePin p) = s.flag (K.hmMutePin p) := by
  have hsame : SameBut [K.portMutes q] s (obeyPin q s) := .ite (sameBut_raisePort ..) (.refl _ s)
  exact congrArg (fun v : Int => decide (v ≠ 0)) (hsame.1 _ (mt List.mem_singleton.1 (key_ne (by decide))))

theorem obeyPin_raises (q : Nat) (s : State) : OnlyRaises s (obeyPin q s) := .ite ((OnlyRaises.refl s).raisePort ..) (.refl s)

/-- A port that obeys the pin is held by it. -/
def HeldByPin (p : Nat) (s : State) : Prop := s.flag (K.hmMutePin p) = true → s.bit (K.portMutes p) pmPin = true

theorem obeyPin_holds (p : Nat) (s : State) : HeldByPin p (obeyPin p s) := by
  intro hobeys
  rw [obeyPin_flag] at hobeys
  rw [obeyPin, if_pos hobeys]
  exact raisePort_bit ..

theorem HeldByPin.obeyPin {p : Nat} {s : State} (hp : p < 32) (h : HeldByPin p s) (q : Nat) : HeldByPin p (obeyPin q s) := by
  intro hobeys
  rw [obeyPin_flag] at hobeys
  exact (obeyPin_raises q s).bits _ _ (portMutes_lt hp) (h hobeys)

theorem HeldByPin.shown {p : Nat} {s : State} (h : HeldByPin p s) (v : Int) : HeldByPin p (s.set K.prMutepin v) := by
  intro hobeys
  have hpin : K.hmMutePin p ≠ K.prMutepin := key_ne (by decide)
  have hmutes : K.portMutes p ≠ K.prMutepin := key_ne (by decide)
  rw [State.flag_set, if_neg hpin] at hobeys
  rw [State.bit_set, if_neg hmutes]
  exact h hobeys

/-- The pin is counted and recorded, then the ports obey, and then it is shown. -/
theorem exec_muteNAssert_high {s : State} (h : s.flag K.prMutepin = false) :
    ∃ u : State, exec .muteNAssert s = .next ((forN 32 obeyPin u).set K.prMutepin 1) :=
  ⟨_, congrArg Host.Outcome.next (if_neg (by simp [h]))⟩

theorem exec_muteNRelease_low {s : State} (h : s.flag K.prMutepin = true) :
    exec .muteNRelease s = .next ((forN 32 (fun p s => releasePort p pmPin s) s).set K.prMutepin 0) :=
  congrArg Host.Outcome.next (if_pos h)

/-! ### The statement -/

/-- Settles O45: a trip ends with the mute and the state, a release writes only these two, and of the walks for MUTE_N each member sees to its own
port and takes back nothing at another. -/
theorem portsAreGuarded : Obligations.PortsAreGuarded := by
  refine ⟨?trips, ?tripped, ?released, ?cleared, ?forced, ?freed⟩
  case trips =>
    intro p cond due s hp hfound hdue harmed
    refine ⟨_, exec_hawkmothTrip_due hp hfound hdue, ?_⟩
    rw [if_pos harmed]
    exact ⟨hmTrip_mute .., hmTrip_state ..⟩
  case tripped =>
    intro p cond due s hp hfound hdue htripped
    refine ⟨_, exec_hawkmothTrip_due hp hfound hdue, ?_⟩
    rw [if_neg htripped]
    exact ⟨guardTaken_hmDue p s, .of_tables rfl rfl⟩
  case released =>
    intro p s _ htripped hauto hclean
    exact ⟨_, congrArg Host.Outcome.next (if_pos ⟨htripped, hauto, hclean⟩), hmRelease_state p s, hmRelease_mute p s, sameBut_hmRelease p s⟩
  case cleared =>
    intro p f w v s u _ hreach htripped
    refine does_of_reaches hreach rfl ?_
    rw [hmClearEffect_tripped w v htripped, finish_ok]
    have hsame := sameObjects_answer w kWrite { f with index := K.hmClear p / 256, sub := K.hmClear p % 256 } stOk [] (hmRelease p u)
    exact ⟨answered_answer .., (hsame.1 _).trans (hmRelease_state p u), (hsame.bit ..).trans (hmRelease_mute p u),
      (sameBut_hmRelease p u).andThen hsame⟩
  case forced =>
    intro s hhigh
    obtain ⟨u, hexec⟩ := exec_muteNAssert_high hhigh
    refine ⟨_, hexec, (State.num_set ..).trans (if_pos rfl), fun p hp => ?_⟩
    have hheld : HeldByPin p (forN 32 obeyPin u) :=
      forL_makes (List.mem_range.2 hp) (obeyPin_holds p) (fun q _ t ht => ht.obeyPin hp q) u
    exact hheld.shown 1
  case freed =>
    intro s hlow
    refine ⟨_, exec_muteNRelease_low hlow, (State.num_set ..).trans (if_pos rfl), fun p hp => ?_⟩
    rw [State.bit_set, if_neg (key_ne (by decide))]
    exact forL_makes (P := fun t => t.bit (K.portMutes p) pmPin = false) (List.mem_range.2 hp) (releasePort_bit p pmPin)
      (fun q _ _ ht => releasePort_bit_false ht q) s

end Sys2Proof.Machine
end

section
/-! PROOFS. Oscillation (R250 to R253): a trip that restarts and a trip that seals write the channel's oscillation state last, and a restart lets the
cause go before it takes back the due time and the state. -/

namespace Sys2Proof.Machine

/-- Objects of one channel in blocks of different first indices have different keys. -/
theorem blockKey_ne {i j a b : Nat} (h : i ≠ j) : (i + a) * 256 + b ≠ (j + a) * 256 + b := by omega

/-! ### A trip (R250, R253) -/

/-- The channel's detector is heard, and the trip is counted. -/
def tripCounted (c : Nat) (s : State) : State :=
  ((s.setChan c { s.chan c with oscFired := none, oscTicks := 0 }).sticky skOscillation).inc K.oscTrips 32

theorem sameBut_tripCounted (c : Nat) (s : State) : SameBut [K.fltSticky, K.oscTrips] s (tripCounted c s) :=
  (SameBut.set ((SameObjects.of_tables rfl rfl).sameBut _) List.mem_cons_self).inc (by simp)

theorem tripCounted_restarts {c : Nat} (hc : c < 512) (s : State) : (tripCounted c s).num (K.oscRestarts c) = s.num (K.oscRestarts c) := by
  refine (sameBut_tripCounted c s).1 _ ?_
  simp only [List.mem_cons, List.not_mem_nil, or_false, K.oscRestarts, K.fltSticky, K.oscTrips]
  omega

theorem tripCounted_limit (c : Nat) (s : State) : (tripCounted c s).num K.oscRestartLimit = s.num K.oscRestartLimit :=
  (sameBut_tripCounted c s).1 _ (by decide)

theorem tripCounted_delay (c : Nat) (s : State) : (tripCounted c s).nat K.oscRestartDelay = s.nat K.oscRestartDelay :=
  congrArg Int.toNat ((sameBut_tripCounted c s).1 _ (by decide))

theorem tripCounted_time (c : Nat) (s : State) : (tripCounted c s).time = s.time := rfl

/-- A detector that fired for a channel that neither waits nor is sealed trips it: into a wait where restarts are left, else into its seal. -/
theorem exec_oscillationTrip_due {c det due : Nat} {s : State} (hc : c < 512) (hfired : (s.chan c).oscFired = some (det, due))
    (hdue : due ≤ s.time.now) (hwaits : s.num (K.oscState c) ≠ 1) (hsealed : s.num (K.oscState c) ≠ 2) :
    exec (.oscillationTrip c) s = .next (if s.num (K.oscRestarts c) < s.num K.oscRestartLimit then oscTrip c det (tripCounted c s)
      else oscSeal c det (tripCounted c s)) := by
  rw [← tripCounted_restarts hc s, ← tripCounted_limit c s]
  refine congrArg Host.Outcome.next ?_
  rw [hfired]
  exact (if_neg (Nat.not_lt.2 hdue)).trans (if_neg (not_or.2 ⟨hwaits, hsealed⟩))

/-- The due time and the state are the last writes of a trip that restarts. -/
theorem oscTrip_eq (c det : Nat) (s : State) : ∃ u : State, oscTrip c det s =
    (u.set (K.oscDue c) ((s.time.ot + 1024 * s.nat K.oscRestartDelay : Nat) : Int)).set (K.oscState c) 1 := ⟨_, rfl⟩

theorem oscTrip_waits (c det : Nat) (s : State) : (oscTrip c det s).num (K.oscState c) = 1 ∧
    (oscTrip c det s).num (K.oscDue c) = (s.time.ot + 1024 * s.nat K.oscRestartDelay : Nat) := by
  obtain ⟨u, heq⟩ := oscTrip_eq c det s
  rw [heq]
  exact ⟨(State.num_set ..).trans (if_pos rfl),
    (State.num_set ..).trans ((if_neg (blockKey_ne (by decide))).trans ((State.num_set ..).trans (if_pos rfl)))⟩

theorem oscSeal_state (c det : Nat) (s : State) : (oscSeal c det s).num (K.oscState c) = 2 := (State.num_set ..).trans (if_pos rfl)

/-! ### A restart (R251) -/

theorem oscRestart_armed (c : Nat) (s : State) : (oscRestart c s).num (K.oscState c) = 0 ∧ (oscRestart c s).num (K.oscDue c) = 0 :=
  ⟨(State.num_set ..).trans (if_pos rfl),
    (State.num_set ..).trans ((if_neg (blockKey_ne (by decide))).trans ((State.num_set ..).trans (if_pos rfl)))⟩

theorem oscRestart_cause {c : Nat} (hc : c < 512) (s : State) : (oscRestart c s).bit (K.prCause c) 0 = false := by
  have hstate : K.prCause c ≠ K.oscState c := blockKey_ne (by decide)
  have hdue : K.prCause c ≠ K.oscDue c := blockKey_ne (by decide)
  unfold oscRestart
  rw [State.bit_set, if_neg hstate, State.bit_set, if_neg hdue]
  exact releaseCause_cause hc 0 _

/-! ### The statement -/

/-- Settles O46: the channel's state and due time are written after all that a trip or a restart records and resets. -/
theorem oscillationIsTripped : Obligations.OscillationIsTripped := by
  refine ⟨?trips, ?seals, ?restarts, ?atOnce, ?range, ?decays⟩
  case trips =>
    intro c det due s hc hfired hdue hwaits hsealed hleft
    refine ⟨_, exec_oscillationTrip_due hc hfired hdue hwaits hsealed, ?_⟩
    rw [if_pos hleft, ← tripCounted_delay c s, ← tripCounted_time c s]
    exact oscTrip_waits ..
  case seals =>
    intro c det due s hc hfired hdue hwaits hsealed hnone
    refine ⟨_, exec_oscillationTrip_due hc hfired hdue hwaits hsealed, ?_⟩
    rw [if_neg (not_lt.2 hnone)]
    exact oscSeal_state ..
  case restarts =>
    intro c s hc hwaits hdue
    obtain ⟨hstate, hcleared⟩ := oscRestart_armed c s
    exact ⟨_, congrArg Host.Outcome.next (if_pos ⟨hwaits, hdue⟩), hstate, hcleared, oscRestart_cause hc s⟩
  case atOnce =>
    intro c f w v s u _ hreach hwaits
    refine does_of_reaches hreach rfl ?_
    rw [oscRestartNowEffect, if_pos hwaits, finish_ok]
    obtain ⟨hstate, hcleared⟩ := oscRestart_armed c u
    exact ⟨answered_answer .., (answer_num ..).trans hstate, (answer_num ..).trans hcleared⟩
  case range =>
    intro c f w v s u hreach hidle
    refine does_of_reaches hreach rfl ?_
    rw [oscRestartNowEffect, if_neg hidle]
    exact finish_no ..
  case decays =>
    intro c s hlong
    exact ⟨_, congrArg Host.Outcome.next (if_pos hlong), (State.num_set ..).trans (if_pos rfl), (SameBut.refl _ s).set List.mem_cons_self⟩

end Sys2Proof.Machine
end

section
/-! PROOFS. Conversions of the telemetry converters (R262 to R274): an output that is taken and routed, the end of a sequence conversion, and over-range.
That a result code is rounded once, after the whole chain, is the model's choice (log entry 34). -/

namespace Sys2Proof.Machine

/-! ### Fields of an entry (R267) -/

theorem leAt_one_lt (b : List Byte) (o : Nat) : leAt b o 1 < 256 := by
  unfold leAt
  cases b.drop o with
  | nil => exact Nat.zero_lt_succ _
  | cons x xs => simpa [ofLe] using x.isLt

theorem teGain_lt (b : List Byte) : teGain b < 8 := Nat.div_lt_of_lt_mul (leAt_one_lt b 1)

theorem teAcc_lt (b : List Byte) : teAcc b < 256 := leAt_one_lt b 8

/-! ### Accumulators and trackers (R269) -/

def accKeys (a : Nat) : List Nat := [K.accSum a, K.accCount a, K.accFull a]

def trKeys (a : Nat) : List Nat := [K.trMin a, K.trMax a, K.trMinTime a, K.trMaxTime a]

/-- An accumulator that is not full takes the code and counts it. -/
theorem addAcc_adds {a : Nat} {s : State} (hfull : s.flag (K.accFull a) = false) (v : Int) :
    (addAcc a v s).num (K.accCount a) = s.num (K.accCount a) + 1 ∧ (addAcc a v s).num (K.accSum a) = s.num (K.accSum a) + v := by
  simp [addAcc, hfull]

theorem addAcc_tms (a : Nat) (v : Int) (s : State) : (addAcc a v s).tms = s.tms := by
  unfold addAcc
  split <;> rfl

theorem sameBut_addTr (a : Nat) (v : Int) (s : State) : SameBut (trKeys a) s (addTr a v s) := by
  unfold addTr
  extract_lets s1
  have hmin : SameBut (trKeys a) s s1 := .ite (((SameBut.refl _ s).set (by simp [trKeys])).set (by simp [trKeys])) (.refl _ s)
  exact .ite ((hmin.set (by simp [trKeys])).set (by simp [trKeys])) hmin

theorem addTr_tms (a : Nat) (v : Int) (s : State) : (addTr a v s).tms = s.tms := by
  simp [addTr, apply_ite State.tms]

theorem acc_notMem_trKeys {a b : Nat} (ha : a < 256) : K.accCount a ∉ trKeys b ∧ K.accSum a ∉ trKeys b := by
  simp only [trKeys, List.mem_cons, List.not_mem_nil, or_false, K.accCount, K.accSum, K.trMin, K.trMax, K.trMinTime, K.trMaxTime]
  omega

/-! ### Routes (R269) -/

theorem route_tms (b : List Byte) (v : Int) (s : State) : (route b v s).tms = s.tms := by
  unfold route
  split <;> split <;> simp only [addAcc_tms, addTr_tms]

/-- A code that is routed to an accumulator that is not full is summed and counted there, whatever tracker it is shown to. -/
theorem route_accumulates {b : List Byte} {s : State} (hen : teAccEn b = true) (hfull : s.flag (K.accFull (teAcc b)) = false) (v : Int) :
    (route b v s).num (K.accCount (teAcc b)) = s.num (K.accCount (teAcc b)) + 1 ∧
      (route b v s).num (K.accSum (teAcc b)) = s.num (K.accSum (teAcc b)) + v := by
  obtain ⟨hcount, hsum⟩ := acc_notMem_trKeys (b := teTracker b) (teAcc_lt b)
  have hsame : SameBut (trKeys (teTracker b)) (addAcc (teAcc b) v s) (route b v s) := by
    unfold route
    rw [if_pos hen]
    exact .ite (sameBut_addTr ..) (.refl ..)
  rw [hsame.1 _ hcount, hsame.1 _ hsum]
  exact addAcc_adds hfull v

/-! ### An output (R262, R269) -/

/-- The output x of modulator m is taken from those that wait and counted. -/
def outputTaken (m : Nat) (x : Part) (rest : List Part) (s : State) : State :=
  s.setTm m { s.tm m with outs := (s.tm m).outs + 1, ready := rest, raw := (s.tm m).raw.add x,
                          cal := (s.tm m).cal.add (stage5 s m (s.tm m).oct x) }

theorem outputTaken_tm (m : Nat) (x : Part) (rest : List Part) (s : State) :
    ((outputTaken m x rest s).tm m).outs = (s.tm m).outs + 1 ∧ ((outputTaken m x rest s).tm m).ready = rest := by
  simp [outputTaken]

/-- The result code of an output of modulator m (R263). -/
def resultCode (m : Nat) (x : Part) (s : State) : Int := stage6 s m (s.tm m).entry (stage5 s m (s.tm m).oct x)

/-- An output that waits is taken; one of a calibration conversion goes no further. -/
theorem exec_tmOutput_ready {m : Nat} {x : Part} {rest : List Part} {s : State} (half seen : Report) (hready : (s.tm m).ready = x :: rest)
    (hkind : (s.tm m).kind ≠ 0) (houts : (s.tm m).outs < teOutputs (s.tm m).oct) :
    exec (.tmOutput m half seen) s = .next (if (s.tm m).kind = 3 then outputTaken m x rest s
      else route (s.tm m).oct (resultCode m x s) (outputTaken m x rest s)) := by
  refine congrArg Host.Outcome.next ?_
  extract_lets t
  rw [hready]
  exact if_neg (not_or.2 ⟨hkind, Nat.not_le.2 houts⟩)

/-! ### The end of a conversion (R267, R271, R274) -/

/-- What shows which conversion modulator m runs and what waits for it. -/
def serviceKeys (m : Nat) : List Nat := [K.tmEntryNow m, K.tmState m, K.tmInject m, K.tmCalStatus m]

theorem sameBut_startConv (m kind e : Nat) (s : State) : SameBut (serviceKeys m) s (startConv m kind e s) :=
  SameBut.set (SameBut.set (SameObjects.sameBut (.of_tables rfl rfl) _) (by simp [serviceKeys])) (by simp [serviceKeys])

theorem sameBut_idleConv (m : Nat) (s : State) : SameBut (serviceKeys m) s (idleConv m s) :=
  SameBut.set (SameBut.set (SameObjects.sameBut (.of_tables rfl rfl) _) (by simp [serviceKeys])) (by simp [serviceKeys])

theorem sameBut_startSeq (m e : Nat) (s : State) : SameBut (serviceKeys m) s (startSeq m e s) := by
  unfold startSeq
  split
  · exact sameBut_startConv ..
  · exact sameBut_idleConv ..

theorem sameBut_startTest (m : Nat) (s : State) : SameBut (serviceKeys m) s (startTest m s) :=
  SameBut.set (SameBut.set (SameBut.set (SameObjects.sameBut (.of_tables rfl rfl) _) (by simp [serviceKeys])) (by simp [serviceKeys]))
    (by simp [serviceKeys])

theorem sameBut_serveNext (m : Nat) (s : State) : SameBut (serviceKeys m) s (serveNext m s) := by
  have hinject (v : Int) : SameBut (serviceKeys m) s (s.set (K.tmInject m) v) := (SameBut.refl _ s).set (by simp [serviceKeys])
  have hstatus : SameBut (serviceKeys m) s (s.set (K.tmCalStatus m) 2) := (SameBut.refl _ s).set (by simp [serviceKeys])
  unfold serveNext
  refine .ite (sameBut_idleConv ..) (.ite (sameBut_startTest ..) (.ite ?injected ?others))
  case injected => exact .ite ((hinject 2).trans (sameBut_startConv ..)) ((hinject 3).trans (sameBut_startSeq ..))
  case others =>
    split
    · exact hstatus.trans (sameBut_startConv ..)
    · exact sameBut_startSeq ..

theorem serveNext_conversions (m : Nat) (s : State) : (serveNext m s).num (K.tmConversions m) = s.num (K.tmConversions m) :=
  (sameBut_serveNext m s).1 _ (by simp [serviceKeys])

/-- An offset estimate that is taken is no count of conversions. -/
theorem takeOffset_conversions (m : Nat) (s : State) : (takeOffset m s).num (K.tmConversions m) = s.num (K.tmConversions m) := by
  unfold takeOffset
  extract_lets t put
  have hgain : teGain t.oct < 8 := teGain_lt t.oct
  have hput (h : Nat) (v : Option Int) (u : State) : (put h v u).num (K.tmConversions m) = u.num (K.tmConversions m) := by
    cases v with
    | none => rfl
    | some o =>
      have hkey : K.tmConversions m ≠ K.tmOffsetG h (teGain t.oct) := by unfold K.tmConversions K.tmOffsetG; omega
      show (if u.flag (K.tmOffsetFreeze h) then u else u.set (K.tmOffsetG h (teGain t.oct)) o).num _ = _
      split
      · rfl
      · rw [State.num_set, if_neg hkey]
  split
  · rfl
  · rw [hput, hput]

/-- The sequence conversion of modulator m has ended: its estimate is taken, it is counted, and the next entry follows. -/
def sequenceEnded (m : Nat) (s : State) : State :=
  let s1 := (takeOffset m s).inc (K.tmConversions m) 64
  s1.setTm m { s1.tm m with next := ((s.tm m).entry + 1) % max 1 (s.nat (K.tmNentries m)), last := some (s.tm m).oct, kind := 0 }

theorem sequenceEnded_conversions (m : Nat) (s : State) :
    (sequenceEnded m s).num (K.tmConversions m) = min (s.num (K.tmConversions m) + 1) (maxWord 64) := by
  rw [sequenceEnded, State.setTm_num, State.num_inc, if_pos rfl, takeOffset_conversions]

theorem exec_tmConversionEnd_sequence {m : Nat} {s : State} (hkind : (s.tm m).kind = 1) (hends : (s.tm m).endsAt ≤ s.time.now)
    (houts : teOutputs (s.tm m).oct ≤ (s.tm m).outs) : exec (.tmConversionEnd m) s = .next (serveNext m (sequenceEnded m s)) := by
  have hover : ¬((s.tm m).kind = 0 ∨ s.time.now < (s.tm m).endsAt ∨ (s.tm m).outs < teOutputs (s.tm m).oct) := by omega
  exact congrArg Host.Outcome.next ((if_neg hover).trans (congrArg (serveNext m) (if_pos hkind)))

/-! ### Over-range (R272) -/

/-- The entry's bit is the last write of a detection that is new. -/
theorem exec_tmOverrange_new {m : Nat} {s : State} (hkind : (s.tm m).kind ≠ 0) (hnew : s.bit (K.tmOvr m) (s.tm m).entry = false) :
    ∃ u : State, exec (.tmOverrange m) s = .next (u.setBit (K.tmOvr m) (s.tm m).entry) :=
  ⟨_, congrArg Host.Outcome.next (if_neg (not_or.2 ⟨hkind, Bool.eq_false_iff.1 hnew⟩))⟩

/-! ### The statement -/

/-- Settles O48: a taken output is routed past the trackers to its accumulator, what is served after a conversion is no count of conversions, and the
bit of an over-range comes last. -/
theorem conversionsYieldTheirOutputs : Obligations.ConversionsYieldTheirOutputs := by
  refine ⟨?taken, ?accumulated, ?ended, ?runs, ?overrange⟩
  case taken =>
    intro m half seen x rest s _ hready hkind houts
    refine ⟨_, exec_tmOutput_ready half seen hready hkind houts, ?_⟩
    split
    · exact outputTaken_tm ..
    · have htm : (route (s.tm m).oct (resultCode m x s) (outputTaken m x rest s)).tm m = (outputTaken m x rest s).tm m :=
        congrArg (fun l => Tab.get (fun _ => Modulator.fresh) l m) (route_tms ..)
      rw [htm]
      exact outputTaken_tm ..
  case accumulated =>
    intro m half seen x rest s _ hready hkind houts hen hfull
    refine ⟨_, exec_tmOutput_ready half seen hready (by omega) houts, ?_⟩
    rw [if_neg (by omega)]
    exact route_accumulates (s := outputTaken m x rest s) hen hfull _
  case ended =>
    intro m s _ hkind hends houts
    exact ⟨_, exec_tmConversionEnd_sequence hkind hends houts, (serveNext_conversions ..).trans (sequenceEnded_conversions ..)⟩
  case runs =>
    intro m s hruns
    exact ⟨s, congrArg Host.Outcome.next (if_pos (.inr (.inl hruns))), rfl⟩
  case overrange =>
    intro m s _ hkind hnew
    obtain ⟨u, hexec⟩ := exec_tmOverrange_new hkind hnew
    exact ⟨_, hexec, State.bit_setBit_self ..⟩

end Sys2Proof.Machine
end

section
/-! PROOFS. Commands of the telemetry converters (R270 to R274): injection, calibration steps, and the clears of over-range bits, accumulators and
trackers. That restoring the defaults leaves the calibration status as it is, is the model's choice (log entry 34). -/

namespace Sys2Proof.Machine

/-! ### Answers to commands -/

/-- An answer leaves the converters alone. -/
theorem answer_tms (w : Who) (kind : Nat) (f : Frame) (status : Nat) (b : List Byte) (s : State) : (answer w kind f status b s).tms = s.tms := by
  refine respond_fixes State.tms (fun o t => ?_) (fun _ _ => rfl) ..
  unfold ringFrame putResponse
  split <;> simp [irq, apply_ite State.tms]

theorem answer_tm (w : Who) (kind : Nat) (f : Frame) (status : Nat) (b : List Byte) (s : State) (m : Nat) :
    (answer w kind f status b s).tm m = s.tm m := congrArg (fun l => Tab.get (fun _ => Modulator.fresh) l m) (answer_tms w kind f status b s)

/-- The state t is u answered OK to w: its objects and its converters are those of u. -/
structure AnsweredIn (w : Who) (u t : State) : Prop where
  answered : Answered t w stOk
  objects : SameObjects u t
  tm : ∀ m, t.tm m = u.tm m

/-- A command whose effect succeeds leaves what the effect made, answered. -/
theorem does_of_effect {k : Nat} {f : Frame} {v : Val} {w : Who} {s u t : State} {c : Instr} {effect : Who → Val → State → Reply}
    (hreach : reaches k f s = some (w, v, u)) (hc : exec c s = .next (requestWrite k f s effect)) (heffect : effect w v u = .ok t) :
    Does c s (AnsweredIn w t) := by
  refine does_of_reaches hreach hc ?_
  rw [heffect, finish_ok]
  exact ⟨answered_answer .., sameObjects_answer .., fun _ => answer_tm ..⟩

theorem does_mono {c : Instr} {s : State} {P Q : State → Prop} (h : Does c s P) (hpq : ∀ t, P t → Q t) : Does c s Q := by
  obtain ⟨t, hexec, hpost⟩ := h
  exact ⟨t, hexec, hpq t hpost⟩

/-! ### Injection (R274) -/

theorem tmInjectEffect_free {m : Nat} {u : State} (w : Who) (v : Val) (hwaits : u.num (K.tmInject m) ≠ 1) (hruns : u.num (K.tmInject m) ≠ 2) :
    tmInjectEffect m w v u = .ok (u.set (K.tmInject m) 1) := if_neg (not_or.2 ⟨hwaits, hruns⟩)

/-! ### Calibration (R273) -/

/-- The entry and the step that a calibration word names. -/
theorem calWord_fields {e st : Nat} (he : e < 32) (hst : st < 4) :
    (Val.num ((e * 256 + st : Nat) : Int)).int.toNat / 256 % 32 = e ∧ (Val.num ((e * 256 + st : Nat) : Int)).int.toNat % 4 = st := by
  simp only [Val.int, Int.toNat_natCast]
  omega

/-- Step st on entry e of modulator m waits for its calibration conversion. -/
def stepWaits (m e st : Nat) (s : State) : State := (s.setTm m { s.tm m with step := some (e, st) }).set (K.tmCalStatus m) 1

theorem stepWaits_step (m e st : Nat) (s : State) : ((stepWaits m e st s).tm m).step = some (e, st) := by simp [stepWaits]

theorem stepWaits_status (m e st : Nat) (s : State) : (stepWaits m e st s).num (K.tmCalStatus m) = 1 := (State.num_set ..).trans (if_pos rfl)

theorem sameBut_stepWaits (m e st : Nat) (s : State) : SameBut [K.tmCalStatus m] s (stepWaits m e st s) :=
  SameBut.set (SameObjects.sameBut (.of_tables rfl rfl) _) List.mem_cons_self

/-- A step waits where none does, step 2 on an entry whose zero result stands. -/
theorem tmCalEffect_waits {m e st : Nat} {u : State} (w : Who) (he : e < 32) (hst : st < 3) (hfree : (u.tm m).step = none)
    (hzero : st = 2 → Tab.get (fun _ => none) (u.tm m).zero e ≠ none) :
    tmCalEffect m w (.num ((e * 256 + st : Nat) : Int)) u = .ok (stepWaits m e st u) := by
  obtain ⟨hentry, hstep⟩ := calWord_fields he (Nat.lt_succ_of_lt hst)
  unfold tmCalEffect
  rw [hentry, hstep]
  extract_lets e' st'
  exact (if_neg (by omega)).trans ((if_neg (by simp [hfree])).trans (if_neg (fun h => hzero h.1 h.2)))

/-- What a waiting step shows once it is answered. -/
theorem stepWaits_answered {m e st : Nat} {w : Who} {u t : State} (h : AnsweredIn w (stepWaits m e st u) t) :
    Answered t w stOk ∧ (t.tm m).step = some (e, st) ∧ t.num (K.tmCalStatus m) = 1 ∧ SameBut [K.tmCalStatus m] u t := by
  refine ⟨h.answered, ?_, (h.objects.1 _).trans (stepWaits_status ..), (sameBut_stepWaits ..).andThen h.objects⟩
  rw [h.tm]
  exact stepWaits_step ..

/-- The stored calibration of entry e of modulator m is O = 0 and K = 1. -/
def calRestored (m e : Nat) (s : State) : State := (s.set (K.tmCalOffsetK m e) 0).set (K.tmCalGainK m e) 65536

theorem tmCalEffect_restores {m e : Nat} (w : Who) (u : State) (he : e < 32) :
    tmCalEffect m w (.num ((e * 256 + 3 : Nat) : Int)) u = .ok (calRestored m e u) := by
  obtain ⟨hentry, hstep⟩ := calWord_fields he (Nat.lt_succ_self 3)
  unfold tmCalEffect
  rw [hentry, hstep]
  exact if_pos rfl

theorem calRestored_num (m e : Nat) (s : State) :
    (calRestored m e s).num (K.tmCalOffsetK m e) = 0 ∧ (calRestored m e s).num (K.tmCalGainK m e) = 65536 := by
  simp [calRestored]

theorem sameBut_calRestored (m e : Nat) (s : State) : SameBut [K.tmCalOffsetK m e, K.tmCalGainK m e] s (calRestored m e s) :=
  ((SameBut.refl _ s).set (by simp)).set (by simp)

/-! ### Clears (R270) -/

theorem clearAcc_empty (a : Nat) (s : State) : (clearAcc a s).num (K.accSum a) = 0 ∧ (clearAcc a s).num (K.accCount a) = 0 ∧
    (clearAcc a s).num (K.accFull a) = 0 := by
  simp [clearAcc]

theorem sameBut_clearAcc (a : Nat) (s : State) : SameBut (accKeys a) s (clearAcc a s) :=
  (((SameBut.refl _ s).set (by simp [accKeys])).set (by simp [accKeys])).set (by simp [accKeys])

theorem clearTr_empty (a : Nat) (s : State) : (clearTr a s).num (K.trMin a) = 8388607 ∧ (clearTr a s).num (K.trMax a) = -8388608 := by
  simp [clearTr]

theorem sameBut_clearTr (a : Nat) (s : State) : SameBut (trKeys a) s (clearTr a s) :=
  ((((SameBut.refl _ s).set (by simp [trKeys])).set (by simp [trKeys])).set (by simp [trKeys])).set (by simp [trKeys])

/-! ### The statement -/

/-- Settles O49: each command is its effect and the answer, and each effect writes the objects it names alone. -/
theorem convertersAreCommanded : Obligations.ConvertersAreCommanded := by
  refine ⟨?injects, ?zero, ?gain, ?restores, ?overrange, ?accumulator, ?tracker⟩
  case injects =>
    intro m f w v s u hreach hwaits hruns
    refine does_mono (does_of_effect hreach rfl (tmInjectEffect_free w v hwaits hruns)) fun t h => ?_
    exact ⟨h.answered, (h.objects.1 _).trans ((State.num_set ..).trans (if_pos rfl)),
      ((SameBut.refl _ u).set List.mem_cons_self).andThen h.objects⟩
  case zero =>
    intro m e f w s u he hreach hfree
    exact does_mono (does_of_effect hreach rfl (tmCalEffect_waits w he (by decide) hfree (by simp))) fun _ => stepWaits_answered
  case gain =>
    intro m e z f w s u he hreach hfree hzero
    exact does_mono (does_of_effect hreach rfl (tmCalEffect_waits w he (by decide) hfree (by simp [hzero]))) fun _ => stepWaits_answered
  case restores =>
    intro m e f w s u he hreach
    obtain ⟨hoffset, hgain⟩ := calRestored_num m e u
    refine does_mono (does_of_effect hreach rfl (tmCalEffect_restores w u he)) fun t h => ?_
    exact ⟨h.answered, (h.objects.1 _).trans hoffset, (h.objects.1 _).trans hgain, (sameBut_calRestored m e u).andThen h.objects⟩
  case overrange =>
    intro m f w v s u hreach
    refine does_mono (does_of_effect hreach rfl rfl) fun t h => ?_
    exact ⟨h.answered, (h.objects.1 _).trans ((State.num_set ..).trans (if_pos rfl)),
      ((SameBut.refl _ u).set List.mem_cons_self).andThen h.objects⟩
  case accumulator =>
    intro a f w v s u hreach
    obtain ⟨hsum, hcount, hfull⟩ := clearAcc_empty a u
    refine does_mono (does_of_effect hreach rfl rfl) fun t h => ?_
    exact ⟨h.answered, (h.objects.1 _).trans hsum, (h.objects.1 _).trans hcount, (h.objects.1 _).trans hfull,
      (sameBut_clearAcc a u).andThen h.objects⟩
  case tracker =>
    intro a f w v s u hreach
    obtain ⟨hmin, hmax⟩ := clearTr_empty a u
    refine does_mono (does_of_effect hreach rfl rfl) fun t h => ?_
    exact ⟨h.answered, (h.objects.1 _).trans hmin, (h.objects.1 _).trans hmax, (sameBut_clearTr a u).andThen h.objects⟩

end Sys2Proof.Machine
end

section
/-! PROOFS. The queue (the model's choice of one queue of commands is log entry 1): a step executes the command at the front, every command has a
next state, and none touches the commands that wait. -/

namespace Sys2Proof.Machine

/-- Settles O1: it is the branch of `step` for a queue that is not empty. -/
theorem stepExecutesTheFrontCommand : Obligations.StepExecutesTheFrontCommand := fun _ _ _ h => step_of_command h

/-- Settles O3: the meaning of each command, arm for arm of the dispatch, is a next state; no arm raises a fault or a refusal. -/
theorem noCommandStops : Obligations.NoCommandStops := by
  intro c s
  cases c <;> exact ⟨_, rfl⟩

/-- Settles O4: that no command touches the queue is the first half of what every command keeps. -/
theorem commandsLeaveTheQueue : Obligations.CommandsLeaveTheQueue := fun c _ _ h => (exec_keeps c h).1

/-! ### Commands with a condition -/

section
variable {c : Instr} {s t u : State} {p : Prop} [Decidable p] {post : State → Prop}

/-- A command whose condition holds leaves what its effect makes. -/
theorem does_of_pos (hc : exec c s = .next (if p then t else u)) (h : p) (ht : post t) : Does c s post :=
  ⟨t, hc.trans (congrArg Host.Outcome.next (if_pos h)), ht⟩

/-- A command whose condition does not hold leaves the alternative. -/
theorem does_of_neg (hc : exec c s = .next (if p then t else u)) (h : ¬ p) (hu : post u) : Does c s post :=
  ⟨u, hc.trans (congrArg Host.Outcome.next (if_neg h)), hu⟩

end

end Sys2Proof.Machine
end

section
/-! PROOFS. The objects that a fault writes (R318 to R329): its counts and its source, what its record, its notices and the Gallery's trigger write,
the mutes and the slice it takes, and the rails and feeds of a part that stops. -/

namespace Sys2Proof.Machine

/-- The objects that a capture's trigger writes (R347). -/
def triggerKeys : List Nat :=
  [K.galTriggerTb, K.galPreActual, K.galNumber, K.galStatus, K.galTag, K.galReasons, K.galState, K.galIgnored]

/-- The objects of the part as a whole that a fault writes. -/
def faultTotals : List Nat := [K.fltTotal, K.fltSticky, K.fltSevereCount, K.fltSealedCount, K.fltStopped, K.hostNtfDropped]

/-- The objects that a fault writes of its source: its counter and its state, and the mutes of its port, its channel and the
channels of its slice. -/
def FaultWritesOf (k : Nat) : Prop :=
  (∃ kind i, kind < 32 ∧ i < 1024 ∧ (k = K.fcCount kind i ∨ k = K.fcState kind i)) ∨
    ∃ i, i < 1024 ∧ (k = K.portMutes i ∨ k = K.chMutes i ∨ k = K.pdState i)

/-- The objects that the stop of the part writes of rails and feeds (R326). -/
def StopWrites (k : Nat) : Prop := (∃ r, r < 24 ∧ (k = K.rlVref r ∨ k = K.rlPg r ∨ k = K.rlState r)) ∨ ∃ f, f < 32 ∧ k = K.fdState f

/-- A fault of some source of Table 15-2 may write the object. -/
def FaultWrites (k : Nat) : Prop := k ∈ recordKeys ∨ k ∈ triggerKeys ∨ k ∈ faultTotals ∨ FaultWritesOf k ∨ StopWrites k

theorem sameBut_enterRec (r : Rec) (s : State) : SameBut recordKeys s (enterRec r s) :=
  .ite (SameBut.trans (SameBut.set (sameBut_enterOne ..) (by simp [recordKeys])) (sameBut_enterOne ..)) (sameBut_enterOne ..)

theorem sameBut_notifyOne (r : Rec) (m : Nat) (s : State) : SameBut [K.hostNtfDropped] s (notifyOne r m s) := by
  unfold notifyOne
  extract_lets x s1 o
  have h1 : SameBut [K.hostNtfDropped] s s1 := (SameObjects.of_tables rfl rfl).sameBut _
  refine .ite (.ite ?_ ?_) (.ite (h1.andThen (.of_tables rfl rfl)) (h1.andThen (.of_tables rfl rfl)))
  · exact SameBut.andThen (h1.inc List.mem_cons_self) (.of_tables rfl rfl)
  · exact h1.andThen (.of_tables ((irq_obj ..).trans rfl) ((irq_blob ..).trans rfl))

theorem SameBut.forL {α : Type} {ks : List Nat} {f : α → State → State} (hf : ∀ a t, SameBut ks t (f a t)) (l : List α) (s : State) :
    SameBut ks s (forL l f s) := by
  induction l generalizing s with
  | nil => exact .refl ks s
  | cons a l ih => exact (hf a s).trans (ih (f a s))

theorem sameObjects_irq (v : Nat) (s : State) : SameObjects s (irq v s) := .of_tables (irq_obj ..) (irq_blob ..)

theorem sameBut_notifyAll (r : Rec) (s : State) : SameBut [K.hostNtfDropped] s (notifyAll r s) := by
  have h : SameObjects s (if 2 ≤ r.cls then irq 2 s else s) := .ite (sameObjects_irq 2 s) (.refl s)
  exact .ite ((h.sameBut _).trans (.forL (fun m t => sameBut_notifyOne r m t) _ _)) (.refl _ s)

theorem sameBut_setGal (v : Int) (s : State) : SameBut [K.galState] s (setGal v s) :=
  ((sameObjects_irq 5 s).sameBut _).set List.mem_cons_self

theorem sameBut_galTrigger (reason : Nat) (s : State) : SameBut triggerKeys s (galTrigger reason s) := by
  unfold galTrigger
  extract_lets gal s1 s2 s3
  have h1 : SameBut triggerKeys s s1 := (SameObjects.of_tables rfl rfl).sameBut _
  have h2 : SameBut triggerKeys s s2 := (h1.set (by simp [triggerKeys])).set (by simp [triggerKeys])
  have h3 : SameBut triggerKeys s s3 := ((h2.set (by simp [triggerKeys])).set (by simp [triggerKeys])).set (by simp [triggerKeys])
  refine .ite (SameBut.trans (h3.set (by simp [triggerKeys])) ((sameBut_setGal ..).mono (by simp [triggerKeys]))) (.ite ?_ ?_)
  · exact (SameBut.refl _ s).set (by simp [triggerKeys])
  · exact (SameBut.refl _ s).inc (by simp [triggerKeys])

theorem sameBut_galFault (w cls : Nat) (s : State) : SameBut triggerKeys s (galFault w cls s) := .ite (sameBut_galTrigger ..) (.refl _ s)

theorem sameBut_raiseCh (c b : Nat) (s : State) : SameBut [K.chMutes c] s (raiseCh c b s) := by
  unfold raiseCh
  extract_lets w x s1
  have h1 : SameObjects s s1 := .ite (.refl s) (.ite (.of_tables rfl rfl) (.ite (.of_tables rfl rfl) (.refl s)))
  exact (h1.sameBut _).set List.mem_cons_self

theorem sameBut_holdChan (c : Nat) (h : Holder) (s : State) : SameBut [K.chMutes c] s (holdChan c h s) :=
  SameBut.trans ((SameObjects.of_tables rfl rfl).sameBut _) (sameBut_raiseCh ..)

theorem sameBut_railOffRamp (r : Nat) (s : State) : SameBut [K.rlVref r, K.rlPg r, K.rlState r] s (railOffRamp r s) := by
  unfold railOffRamp
  extract_lets rate s1 rail s2
  have h2 : SameBut [K.rlVref r, K.rlPg r, K.rlState r] s s2 := ((sameBut_moveRef ..).mono (by simp)).andThen (.of_tables rfl rfl)
  exact (h2.set (by simp)).set (by simp)

theorem sameBut_enterFeed (f : Nat) (v : Int) (s : State) : SameBut [K.fdState f] s (enterFeed f v s) :=
  SameBut.set ((SameObjects.of_tables rfl rfl).sameBut _) List.mem_cons_self

/-! ### An object that no fault writes -/

section
variable {k : Nat} (hk : ¬ FaultWrites k)
include hk

theorem num_of_recordKeys {s t : State} (h : SameBut recordKeys s t) : t.num k = s.num k := h.1 k fun hm => hk (.inl hm)

theorem num_of_triggerKeys {s t : State} (h : SameBut triggerKeys s t) : t.num k = s.num k := h.1 k fun hm => hk (.inr (.inl hm))

theorem num_set_total {j : Nat} (hj : j ∈ faultTotals) (v : Int) (s : State) : (s.set j v).num k = s.num k := by
  refine (State.num_set ..).trans (if_neg ?_)
  rintro rfl
  exact hk (.inr (.inr (.inl hj)))

theorem ne_of_source {j : Nat} (hj : FaultWritesOf j) : k ≠ j := by
  rintro rfl
  exact hk (.inr (.inr (.inr (.inl hj))))

theorem ne_of_stop {j : Nat} (hj : StopWrites j) : k ≠ j := by
  rintro rfl
  exact hk (.inr (.inr (.inr (.inr hj))))

theorem holdChan_num {c : Nat} (hc : c < 1024) (h : Holder) (s : State) : (holdChan c h s).num k = s.num k :=
  (sameBut_holdChan c h s).1 k (mt List.mem_singleton.1 (ne_of_source hk (.inr ⟨c, hc, .inr (.inl rfl)⟩)))

theorem holdPort_num {p : Nat} (hp : p < 1024) (h : Holder) (s : State) : (holdPort p h s).num k = s.num k :=
  (sameBut_holdPort p h s).1 k (mt List.mem_singleton.1 (ne_of_source hk (.inr ⟨p, hp, .inl rfl⟩)))

theorem shedSlice_num {sl : Nat} (hsl : sl < 1024) (w : Nat) (s : State) : (shedSlice sl w s).num k = s.num k := by
  unfold shedSlice
  extract_lets flt s1 s2
  have h1 : s1.num k = s.num k := rfl
  have h2 : s2.num k = s.num k :=
    State.num_ite h1 (((State.num_set ..).trans (if_neg (ne_of_source hk (.inr ⟨sl, hsl, .inr (.inr rfl)⟩)))).trans h1)
  refine (forL_num (fun c hc t => holdChan_num hk ?_ _ t) s2).trans h2
  have := started_lt (List.mem_filter.1 hc).1
  omega

theorem railOffRamp_num {r : Nat} (hr : r < 24) (s : State) : (railOffRamp r s).num k = s.num k := by
  refine (sameBut_railOffRamp r s).1 k ?_
  simp only [List.mem_cons, List.not_mem_nil, or_false, not_or]
  exact ⟨ne_of_stop hk (.inl ⟨r, hr, .inl rfl⟩), ne_of_stop hk (.inl ⟨r, hr, .inr (.inl rfl)⟩), ne_of_stop hk (.inl ⟨r, hr, .inr (.inr rfl)⟩)⟩

theorem enterFeed_num {f : Nat} (hf : f < 32) (v : Int) (s : State) : (enterFeed f v s).num k = s.num k :=
  (sameBut_enterFeed f v s).1 k (mt List.mem_singleton.1 (ne_of_stop hk (.inr ⟨f, hf, rfl⟩)))

theorem stopPart_num (s : State) : (stopPart s).num k = s.num k := by
  unfold stopPart
  extract_lets s1 s2
  have h1 : s1.num k = s.num k := forL_num (fun r hr t => State.num_ite (railOffRamp_num hk (List.mem_range.1 hr) t) rfl) s
  have h2 : s2.num k = s1.num k := forL_num (fun f hf t => State.num_ite rfl (enterFeed_num hk (List.mem_range.1 hf) _ t)) s1
  exact (num_set_total hk (by simp [faultTotals]) ..).trans (h2.trans h1)

theorem setSource_num {kind inst : Nat} (hkind : kind < 32) (hinst : inst < 1024) (v : Int) (s : State) :
    (setSource (srcWord kind inst) v s).num k = s.num k := by
  have hkey : stateKey (srcWord kind inst) = K.fcState kind inst := by unfold stateKey K.fcState srcWord; omega
  unfold setSource
  extract_lets old s1 s2 s3
  have h1 : s1.num k = s.num k := State.num_ite (num_set_total hk (by simp [faultTotals]) ..) rfl
  have h2 : s2.num k = s.num k := State.num_ite ((num_set_total hk (by simp [faultTotals]) ..).trans h1) h1
  have h3 : s3.num k = s.num k := State.num_ite ((num_set_total hk (by simp [faultTotals]) ..).trans h2) h2
  rw [State.num_set, if_neg (hkey ▸ ne_of_source hk (.inl ⟨kind, inst, hkind, hinst, .inr rfl⟩)), h3]

theorem sourceAfter_num {kind inst : Nat} (hkind : kind < 32) (hinst : inst < 1024) (cls : Nat) (s : State) :
    (sourceAfter kind inst cls s).num k = s.num k := by
  unfold sourceAfter
  extract_lets w st renew
  have hset : ∀ v t, (setSource w v t).num k = t.num k := setSource_num hk hkind hinst
  have hhold : (startHold w s).num k = s.num k := rfl
  exact State.num_ite rfl (State.num_ite (hset ..) (State.num_ite (hset ..) (State.num_ite rfl
    (State.num_ite ((hset ..).trans hhold) (State.num_ite hhold rfl)))))

theorem react_num (kind : Nat) {inst : Nat} (hinst : inst < 1024) (cls : Nat) (s : State) : (react kind inst cls s).num k = s.num k := by
  unfold react
  extract_lets w allowed s1 s2 s3
  have h1 : s1.num k = s.num k := State.num_ite (holdChan_num hk hinst ..) rfl
  have h2 : s2.num k = s.num k := by
    dsimp only [s2]
    split
    · next p hp =>
      have hlt : p < 1024 := by
        unfold portOf at hp
        split_ifs at hp <;> cases hp <;> omega
      exact State.num_ite ((holdPort_num hk hlt ..).trans h1) h1
    · exact h1
  have h3 : s3.num k = s.num k := State.num_ite ((shedSlice_num hk (by omega) ..).trans h2) h2
  exact State.num_ite ((stopPart_num hk s3).trans h3) h3

theorem faultRecord_num (kind : Nat) {inst : Nat} (hinst : inst < 1024) (cls esc code p0 p1 p2 p3 : Nat) (s : State) :
    (faultRecord kind inst cls esc code p0 p1 p2 p3 s).num k = s.num k := by
  unfold faultRecord
  extract_lets w r s1
  have hnotified : (notifyAll r (enterRec r (stickyClass cls (s.inc K.fltTotal 64)))).num k = s.num k :=
    calc (notifyAll r (enterRec r (stickyClass cls (s.inc K.fltTotal 64)))).num k
      _ = (enterRec r (stickyClass cls (s.inc K.fltTotal 64))).num k :=
        (sameBut_notifyAll ..).1 k fun hm => hk (.inr (.inr (.inl (by simp [faultTotals, List.mem_singleton.1 hm]))))
      _ = (stickyClass cls (s.inc K.fltTotal 64)).num k := num_of_recordKeys hk (sameBut_enterRec ..)
      _ = (s.inc K.fltTotal 64).num k := State.num_ite rfl (num_set_total hk (by simp [faultTotals]) ..)
      _ = s.num k := num_set_total hk (by simp [faultTotals]) ..
  exact (react_num hk kind hinst cls s1).trans ((num_of_triggerKeys hk (sameBut_galFault ..)).trans hnotified)

theorem escalate_num {kind inst : Nat} (hkind : kind < 32) (hinst : inst < 1024) (cls code p0 p1 p2 p3 : Nat) (s : State) :
    (escalate kind inst cls code p0 p1 p2 p3 s).num k = s.num k := by
  unfold escalate
  extract_lets w n ts flt s1
  have h1 : s1.num k = s.num k := rfl
  exact State.num_ite rfl (State.num_ite
    ((setSource_num hk hkind hinst ..).trans ((faultRecord_num hk kind hinst ..).trans h1)) h1)

/-- A fault of a source of Table 15-2 leaves the object alone. -/
theorem fault_num_of_not_writes {kind inst : Nat} (hkind : kind < 32) (hinst : inst < 1024) (cls code p0 p1 p2 p3 : Nat) (s : State) :
    (fault kind inst cls code p0 p1 p2 p3 s).num k = s.num k := by
  unfold fault
  extract_lets s1 s2
  have h1 : s1.num k = s.num k := (State.num_inc ..).trans (if_neg (ne_of_source hk (.inl ⟨kind, inst, hkind, hinst, .inl rfl⟩)))
  have h2 : s2.num k = s.num k := (sourceAfter_num hk hkind hinst ..).trans ((faultRecord_num hk kind hinst ..).trans h1)
  exact (escalate_num hk hkind hinst ..).trans h2

end

/-- A fault writes no octets. -/
theorem fault_oct (kind inst cls code p0 p1 p2 p3 : Nat) (s : State) (k : Nat) : (fault kind inst cls code p0 p1 p2 p3 s).oct k = s.oct k :=
  State.oct_congr (congrArg (fun t => t.blob) (fault_pastFaults kind inst cls code p0 p1 p2 p3 s)) k

end Sys2Proof.Machine
end

section
/-! PROOFS. A calibration that passes (R398): after its generation is stamped, its status, what its return finds (R400) and its way out of Cal
(R152) write other objects. -/

namespace Sys2Proof.Machine

/-- No fault writes an object of the ports but their mutes. -/
theorem not_faultWrites_of_port {k : Nat} (hlo : 0x3000 * 256 ≤ k) (hhi : k < 0x4000 * 256) (h7 : k % 256 ≠ 7) : ¬ FaultWrites k := by
  rintro (h | h | h | (⟨kind, i, hkind, hi, h⟩ | ⟨i, hi, h⟩) | (⟨r, hr, h⟩ | ⟨f, hf, h⟩))
  · simp only [recordKeys, List.mem_cons, List.not_mem_nil, or_false, K.recNext, K.recBuffered, K.recDropped, K.recPermFull] at h
    omega
  · simp only [triggerKeys, List.mem_cons, List.not_mem_nil, or_false, K.galTriggerTb, K.galPreActual, K.galNumber, K.galStatus, K.galTag,
      K.galReasons, K.galState, K.galIgnored] at h
    omega
  · simp only [faultTotals, List.mem_cons, List.not_mem_nil, or_false, K.fltTotal, K.fltSticky, K.fltSevereCount, K.fltSealedCount,
      K.fltStopped, K.hostNtfDropped] at h
    omega
  · unfold K.fcCount K.fcState at h
    omega
  · unfold K.portMutes K.chMutes K.pdState at h
    omega
  · unfold K.rlVref K.rlPg K.rlState at h
    omega
  · unfold K.fdState at h
    omega

/-- A port that does not leave Relay, nor goes there, writes only where it is going when it begins to move. -/
theorem sameBut_beginMove {p : Nat} {s : State} (h : s.num (K.portState p) ≠ psRelay) {dest : Int} (hd : dest ≠ psRelay) :
    SameBut [K.portChangingTo p] s (beginMove p dest s) := by
  unfold beginMove
  extract_lets st s1 s2 port s3
  have h1 : s1 = s := if_neg h
  have h2 : s2 = s := (if_neg fun hc => hd hc.1).trans h1
  have h3 : SameObjects s s3 := .of_tables (congrArg (fun u => u.obj) h2) (congrArg (fun u => u.blob) h2)
  exact (h3.sameBut _).set List.mem_cons_self

theorem sameBut_enterChrysalis {p : Nat} {s : State} (h : s.num (K.portState p) ≠ psRelay) :
    SameBut [K.portChangingTo p] s (enterChrysalis p s) := .ite (.refl _ s) (sameBut_beginMove h (by decide))

/-! ### What a return finds (R400) -/

/-- The objects that calibrations marked stale write. -/
def staleMarks (p : Nat) : List Nat := [K.calPending p, K.calStale p, K.calStatus p, K.portChangingTo p]

theorem sameBut_joinPending (p mask : Nat) (s : State) : SameBut [K.calPending p] s (joinPending p mask s) :=
  SameBut.set ((SameObjects.of_tables rfl rfl).sameBut _) List.mem_cons_self

theorem sameBut_markStale {p : Nat} {s : State} (h : s.num (K.portState p) ≠ psRelay) (mask : Nat) :
    SameBut (staleMarks p) s (markStale p mask s) := by
  unfold markStale
  extract_lets port s1 s2 s3
  have h1 : SameBut (staleMarks p) s s1 :=
    SameBut.trans ((SameObjects.of_tables rfl rfl).sameBut _) ((sameBut_joinPending ..).mono (by simp [staleMarks]))
  have h2 : SameBut (staleMarks p) s s2 := h1.set (by simp [staleMarks])
  have h3 : SameBut (staleMarks p) s s3 := .ite h2 (h2.trans ((sameBut_putCalStatus ..).mono (by simp [staleMarks])))
  have hstate : s3.num (K.portState p) ≠ psRelay := by
    rw [h3.1 (K.portState p) (by simp [staleMarks]; omega)]
    exact h
  exact .ite (h3.trans ((sameBut_enterChrysalis hstate).mono (by simp [staleMarks]))) h3

/-- What a return finds on a port that is not in Relay writes the marks of its calibrations and what its fault writes. -/
theorem returnFinds_num {p k : Nat} {s : State} (hp : p < 32) (h : s.num (K.portState p) ≠ psRelay) (hk : ¬ FaultWrites k)
    (hr : k ≠ K.pdReturn p) (hm : k ∉ staleMarks p) (rows : Nat) : (returnFinds p rows s).num k = s.num k := by
  have hset : ∀ v, (s.set (K.pdReturn p) v).num k = s.num k := fun v => (State.num_set ..).trans (if_neg hr)
  refine State.num_ite (hset _) ?_
  extract_lets s1
  have hstate : (s.set (K.pdReturn p) (rows : Nat)).num (K.portState p) ≠ psRelay := by
    rw [State.num_set, if_neg (by unfold K.portState K.pdReturn; omega)]
    exact h
  calc (fault 0x07 p 0 0x1202 p rows (s1.nat (K.calStale p)) 0 s1).num k
    _ = s1.num k := fault_num_of_not_writes hk (by decide) (by omega) ..
    _ = (s.set (K.pdReturn p) (rows : Nat)).num k := (sameBut_markStale hstate _).1 k hm
    _ = s.num k := hset _

/-! ### The end of a calibration that passes -/

/-- What the return finds leaves the port's generation and its state. -/
theorem calPass_return {p k : Nat} {s : State} (hp : p < 32) (h : s.num (K.portState p) ≠ psRelay)
    (hk : k = K.calGeneration p ∨ k = K.portState p) (rows : Nat) : (returnFinds p rows s).num k = s.num k := by
  unfold K.calGeneration K.portState at hk
  refine returnFinds_num hp h (not_faultWrites_of_port ?_ ?_ ?_) ?_ ?_ rows
  case refine_4 => unfold K.pdReturn; omega
  case refine_5 =>
    simp only [staleMarks, List.mem_cons, List.not_mem_nil, or_false, not_or, K.calPending, K.calStale, K.calStatus, K.portChangingTo]
    omega
  all_goals omega

/-- The objects that a passed calibration writes before what its return finds. -/
def passKeys (p : Nat) : List Nat := [K.rxLoopbackLoss p, K.rxImageRej p, K.synCalTemp false p, K.synCalTemp true p, K.calStale p, K.calIrPieces p,
  K.calDoneTime0 p, K.calDoneTime1 p, K.calDoneTime2 p, K.calDoneTime3 p, K.calGeneration p, K.calStatus p]

theorem sameBut_storeResult (p k : Nat) (r : CalResult) (s : State) : SameBut (passKeys p) s (storeResult p k r s) := by
  unfold storeResult
  extract_lets d s1
  have h1 : SameBut (passKeys p) s s1 := by
    refine SameBut.trans ((SameObjects.of_tables rfl rfl).sameBut _) ?_
    exact .ite ((SameBut.refl ..).set (by simp [passKeys])) (.refl ..)
  exact .ite (h1.set (by simp [passKeys])) (.ite ((h1.set (by simp [passKeys])).set (by simp [passKeys])) h1)

theorem doneKey_mem (p k : Nat) : doneKey p k ∈ passKeys p := by
  unfold doneKey
  split_ifs <;> simp [passKeys]

/-- The generation of a calibration that passed in Cal is the next one. -/
theorem calPass_generation {p : Nat} (hp : p < 32) (k : Nat) (r : CalResult) {s : State} (h : s.num (K.portState p) = psCal) :
    (calPass p k r s).num (K.calGeneration p) = nextGeneration s p ∧ (calPass p k r s).num (K.portState p) = psCal := by
  unfold calPass
  extract_lets s1 s2 s3 s4
  have h1 : SameBut (passKeys p) s s1 := SameBut.trans ((SameObjects.of_tables rfl rfl).sameBut _) (sameBut_storeResult ..)
  have h2 : SameBut (passKeys p) s s2 := .ite h1 (h1.set (by simp [passKeys]))
  have h3 : SameBut (passKeys p) s s3 := ((h2.set (by simp [passKeys])).set (doneKey_mem p k)).set (by simp [passKeys])
  have h4 : SameBut (passKeys p) s s4 := h3.trans ((sameBut_putCalStatus ..).mono (by simp [passKeys]))
  have hgen : s4.num (K.calGeneration p) = nextGeneration s p :=
    ((sameBut_putCalStatus ..).1 _ (mt List.mem_singleton.1 (key_ne (by decide)))).trans ((State.num_set ..).trans (if_pos rfl))
  have hstate : s4.num (K.portState p) = psCal := by
    refine (h4.1 _ ?_).trans h
    simp [passKeys, K.synCalTemp]
    omega
  have hrelay : s4.num (K.portState p) ≠ psRelay := hstate ▸ by decide
  exact ⟨State.num_ite ((calPass_return hp hrelay (.inl rfl) _).trans hgen) hgen, State.num_ite ((calPass_return hp hrelay (.inr rfl) _).trans hstate) hstate⟩

theorem sameBut_synCalEnd (p : Nat) (s : State) : SameBut [K.synState false p, K.synState true p] s (synCalEnd p s) :=
  .forL (fun tx t => .ite ((SameBut.refl _ t).set (by cases tx <;> simp)) (.refl _ t)) _ s

theorem synCalEnd_num (p : Nat) (s : State) {i a : Nat} (ha : a < 256 ∧ a ≠ 2) : (synCalEnd p s).num (i * 256 + a) = s.num (i * 256 + a) := by
  refine (sameBut_synCalEnd p s).1 _ ?_
  simp only [List.mem_cons, List.not_mem_nil, or_false, not_or]
  exact ⟨key_ne ⟨ha.1, by decide, ha.2⟩, key_ne ⟨ha.1, by decide, ha.2⟩⟩

/-- A port that leaves Cal keeps its generation. -/
theorem leaveCal_generation (p : Nat) (s : State) : (leaveCal p s).num (K.calGeneration p) = s.num (K.calGeneration p) := by
  unfold leaveCal
  split_ifs with h
  · have hstate : (synCalEnd p s).num (K.portState p) ≠ psRelay := by
      rw [synCalEnd_num p s (by decide), h.1]
      decide
    have hdest : (if chrysalisDue (synCalEnd p s) p then psChrysalis else psListen) ≠ psRelay := by split <;> decide
    exact ((sameBut_beginMove hstate hdest).1 _ (mt List.mem_singleton.1 (key_ne (by decide)))).trans (synCalEnd_num p s (by decide))
  · rfl

/-- Port p with the end of its calibration noted. -/
def calTimed (p : Nat) (s : State) : State := s.setPort p { s.port p with calEnd := some s.time.now }

/-- A calibration of any kind but image rejection that ends in time passes where its result says so. -/
theorem exec_calComplete_passes {p : Nat} {s : State} (hend : calEnded s p = true) (hkind : s.num (K.calKind p) ≠ 2) (loss image rxTemp txTemp : Int) :
    exec (.calComplete p true loss image rxTemp txTemp) s =
      .next (leaveCal p (calPass p (s.nat (K.calKind p)) ⟨loss, image, rxTemp, txTemp⟩ (calTimed p s))) := by
  have hmeets : meetsLimit (s.nat (K.calKind p)) ⟨loss, image, rxTemp, txTemp⟩ = true := by
    have : s.nat (K.calKind p) ≠ 2 := by
      rw [State.nat_def]
      omega
    simp [meetsLimit, this]
  have hruns : execCalComplete p true loss image rxTemp txTemp s = _ := congrArg Host.Outcome.next (if_pos ⟨hend, Or.inl hkind⟩)
  exact hruns.trans (congrArg (fun u => Host.Outcome.next (leaveCal p u)) (if_pos hmeets))

/-- Settles O42: the stamp is the last write to the generation, and it is `nextGeneration`, in whose lower half the count wraps. -/
theorem calibrationsStampTheirGeneration : Obligations.CalibrationsStampTheirGeneration := by
  intro p loss image rxTemp txTemp s hp hend hkind _
  have hcal : s.num (K.portState p) = psCal := by
    simp only [calEnded, Bool.and_eq_true, decide_eq_true_eq] at hend
    obtain ⟨⟨⟨-, hcal⟩, -⟩, -⟩ := hend
    exact hcal
  refine ⟨_, exec_calComplete_passes hend hkind .., ?_⟩
  have hstamp : (leaveCal p (calPass p (s.nat (K.calKind p)) ⟨loss, image, rxTemp, txTemp⟩ (calTimed p s))).num (K.calGeneration p) =
      (s.nat K.pdRepairGen * 65536 + (s.nat (K.calGeneration p) % 65536 + 1) % 65536 : Nat) :=
    (leaveCal_generation p _).trans (calPass_generation hp _ _ (s := calTimed p s) hcal).1
  dsimp only
  rw [State.nat_def, hstamp, Int.toNat_natCast]
  omega

end Sys2Proof.Machine
end

section
/-! PROOFS. The rails (R279 to R291): what entering a state, starting a ramp and latching write last, and the phases that are shed and added again. -/

namespace Sys2Proof.Machine

/-! ### Writes to the sub-indices of an object -/

theorem num_set_same (k : Nat) (v : Int) (s : State) : (s.set k v).num k = v := (State.num_set ..).trans (if_pos rfl)

/-- A write to one sub-index leaves the objects of the other sub-indices. -/
theorem num_set_sub {i j a b : Nat} (h : a < 256 ∧ b < 256 ∧ a ≠ b) (v : Int) (s : State) :
    (s.set (j * 256 + b) v).num (i * 256 + a) = s.num (i * 256 + a) := (State.num_set ..).trans (if_neg (key_ne h))

theorem bit_set_sub {i j a b : Nat} (h : a < 256 ∧ b < 256 ∧ a ≠ b) (v : Int) (n : Nat) (s : State) :
    (s.set (j * 256 + b) v).bit (i * 256 + a) n = s.bit (i * 256 + a) n := (State.bit_set ..).trans (if_neg (key_ne h))

theorem num_setRail (r k : Nat) (x : Rail) (s : State) : (s.setRail r x).num k = s.num k := rfl

theorem sameObjects_setRail (r : Nat) (x : Rail) (s : State) : SameObjects s (s.setRail r x) := .of_tables rfl rfl

/-! ### Entering a state (R285, R286) -/

theorem enterRail_state (r : Nat) (v : Int) (s : State) : (enterRail r v s).num (K.rlState r) = v := num_set_same ..

theorem enterRail_num {i a : Nat} (h : a < 256 ∧ a ≠ 1) (r : Nat) (v : Int) (s : State) : (enterRail r v s).num (i * 256 + a) = s.num (i * 256 + a) :=
  num_set_sub ⟨h.1, by decide, h.2⟩ ..

protected theorem SameBut.enterRail {ks : List Nat} {s t : State} (h : SameBut ks s t) (r : Nat) (v : Int) (hk : K.rlState r ∈ ks) :
    SameBut ks s (enterRail r v t) := (h.andThen (sameObjects_setRail ..)).set hk

theorem latchRail_state (r : Nat) (s : State) : (latchRail r s).num (K.rlState r) = rsLatched := enterRail_state ..

/-- A rail that is retried or whose delay is over ramps from the sensed voltage. -/
theorem startRamp_num (r sensed : Nat) (s : State) : (startRamp r sensed s).num (K.rlState r) = rsRamping ∧
    (startRamp r sensed s).num (K.rlVref r) = sensed ∧ (startRamp r sensed s).num (K.rlRetriesLeft r) = s.num (K.rlRetriesLeft r) := by
  simp (disch := decide) only [startRamp, num_set_sub, num_set_same, num_setRail, and_self]

theorem sameBut_startRamp (r sensed : Nat) (s : State) :
    SameBut [K.rlState r, K.rlVref r, K.rlActivePhases r, K.rlIlimit r] s (startRamp r sensed s) :=
  ((((SameBut.refl _ s).set (by simp)).andThen (sameObjects_setRail ..)).set (by simp)).set (by simp) |>.set (by simp)

/-- The one condition of a rail, removed, leaves none. -/
theorem noConds_of_removed {r cause : Nat} {x : Option Nat} {s : State} (h : (s.rail r).conds = [(cause, x)]) :
    noConds (s.setRail r { s.rail r with conds := Tab.put (fun _ => none) cause none (s.rail r).conds }) r = true := by
  unfold noConds
  rw [State.rail_setRail, if_pos rfl, h]
  simp [Tab.put, Tab.erase]

/-! ### Commands -/

theorem railStart_enters {r : Nat} {s : State} (hr : r < 24) (hoff : s.num (K.rlState r) = rsOff) (hon : s.flag (K.rlEnable r) = true)
    (hgate : gateGood s r = true) (hgoes : s.flag K.fltStopped = false) (hserving : s.serving = true) (hth : 8 ≤ r ∨ s.num K.thLevel ≠ 3) :
    Does (.railStart r) s (fun t => t.num (K.rlState r) = rsOnDelay ∧ t.num (K.rlFailedPhases r) = 0 ∧
      t.num (K.rlRetriesLeft r) = s.num (K.rlRetryMax r) ∧ SameBut [K.rlState r, K.rlFailedPhases r, K.rlSense r, K.rlRetriesLeft r] s t) := by
  refine does_of_pos rfl ⟨hr, hoff, hon, hgate, by simp [hgoes], hserving, hth⟩ ⟨enterRail_state .., ?_, ?_, ?_⟩
  · simp (disch := decide) only [enterRail_num, num_set_sub, num_set_same]
  · simp (disch := decide) only [enterRail_num, num_set_same]
  · exact (((SameBut.refl _ s).set (by simp)).set (by simp)).set (by simp) |>.enterRail _ _ (by simp)

theorem railFaultTimerExpired_state {r cause from_ : Nat} {s : State} (hcond : Tab.get (fun _ => none) (s.rail r).conds cause = some from_)
    (htiming : s.num (K.rlState r) = rsFaultTiming) (hdue : from_ + condTicks s r cause ≤ s.time.now) :
    Does (.railFaultTimerExpired r cause) s (fun t => t.num (K.rlState r) = if s.num (K.rlRetry r) = 0 then rsLatched else rsFaultOff) := by
  have hexec : exec (.railFaultTimerExpired r cause) s = execRailFaultTimerExpired r cause s := rfl
  unfold execRailFaultTimerExpired at hexec
  simp only [hcond, if_pos (And.intro htiming hdue)] at hexec
  refine ⟨_, hexec, ?_⟩
  dsimp only
  split_ifs
  · exact latchRail_state ..
  · exact enterRail_state ..

theorem phaseFail_phases {r k ipk : Nat} {s : State} (hon : railOn s r = true) (hk : k ∈ goodPhases s r) :
    Does (.phaseFail r k ipk) s (fun t => t.bit (K.rlFailedPhases r) k = true ∧ t.bit (K.rlActivePhases r) k = false) := by
  refine does_of_pos rfl ⟨hon, hk⟩ ?_
  extract_lets s0 s1 rail s2 s3
  have hne : K.rlFailedPhases r ≠ K.rlActivePhases r := key_ne (by decide)
  have hfailed : s1.bit (K.rlFailedPhases r) k = true := by rw [State.bit_clrBit, if_neg hne, State.bit_setBit_self]
  have hactive : s1.bit (K.rlActivePhases r) k = false := State.bit_clrBit_self ..
  constructor
  · exact (bit_set_sub (by decide) ..).trans ((bit_set_sub (by decide) ..).trans hfailed)
  · exact (bit_set_sub (by decide) ..).trans ((bit_set_sub (by decide) ..).trans hactive)

theorem shedPhase_rail (r k : Nat) (s : State) : Tab.get (fun _ => none) ((shedPhase r k true s).rail r).shedding k = some (s.time.now + 16 * switchPeriod s r) ∧
    ((shedPhase r k true s).rail r).auto.testBit k = true := by
  unfold shedPhase
  rw [State.rail_setRail, if_pos rfl]
  dsimp only
  exact ⟨(Tab.get_put ..).trans (if_pos rfl), by simp [testBit_bitSet]⟩

theorem railAutoShed_sheds {r k : Nat} {mean : Int} {s : State} (hauto : s.flag (K.rlAutoShed r) = true) (hgood : s.num (K.rlState r) = rsGood)
    (hquiet : railQuiet s r = true) (hkeep : inKeepout s r = false)
    (hmore : max 1 (wantedCount s r (s.nat (K.rlSetpoint r))) < (steadyPhases s r).length)
    (hlow : 100 * mean < s.num (K.rlShedBelow r) * s.num (K.rlPhaseIlimit r) * (((steadyPhases s r).length : Int) - 1))
    (hlast : (steadyPhases s r).getLast? = some k) : exec (.railAutoShed r mean) s = .next (shedPhase r k true s) := by
  have hexec : exec (.railAutoShed r mean) s = execRailAutoShed r mean s := rfl
  rw [hexec, execRailAutoShed, if_pos ⟨hauto, hgood, hquiet, by simp [hkeep], hmore, hlow⟩, hlast]

theorem phaseBalance_temperature {r k : Nat} {s : State} (hr : r < 8) (hacc : s.num (K.rlTAcc r) ≠ 0xFF) (hk : k < s.nat (K.rlPhases r)) :
    Does (.phaseBalance r) s (fun t => t.num (K.rlPhaseTempK r k) =
      scaledTemp (accMean s (s.nat (K.rlTAcc r) + k)) (s.num (K.rlTempScale r)) (s.num (K.rlTempOffset r))) := by
  refine does_of_neg rfl (by omega) ?_
  extract_lets n temps on rail s1
  refine forL_makes (a := k) (P := fun t => t.num (K.rlPhaseTempK r k) = _) (List.mem_range.2 hk) (fun t => ?_) (fun j _ t ht => ?_) _
  · rw [num_set_same, List.getElem?_map, List.getElem?_range hk]
    rfl
  · by_cases hj : j = k
    · subst hj
      rw [num_set_same, List.getElem?_map, List.getElem?_range hk]
      rfl
    · exact ((State.num_set ..).trans (if_neg (by unfold K.rlPhaseTempK; omega))).trans ht

theorem railTelemetryUpdate_values {r ipk peak : Nat} {s : State} (hr : r < 8) (hv : s.num (K.rlVAcc r) ≠ 0xFF) (hi : s.num (K.rlIAcc r) ≠ 0xFF)
    (hvg : unityGain s (s.nat (K.rlVAcc r)) = true) (hig : unityGain s (s.nat (K.rlIAcc r)) = true) :
    Does (.railTelemetryUpdate r ipk peak) s (fun t =>
      t.num (K.rlVolts r) = qdiv (accMean s (s.nat (K.rlVAcc r)) * 5 * s.num (K.rlDivider r)) (4 * 2 ^ 23) ∧
      t.num (K.rlAmps r) = qdiv (accMean s (s.nat (K.rlIAcc r)) * 500000 * 65536) (s.num (K.rlRsense r) * 2 ^ 23) ∧
      t.num (K.rlAmpsPeak r) = max (s.num (K.rlAmpsPeak r)) (peak : Int) ∧ t.num (K.rlHeadroom r) = headroom s r ipk ∧
      SameBut [K.rlVolts r, K.rlAmps r, K.rlWatts r, K.rlAmpsPeak r, K.rlWattsPeak r, K.rlHeadroom r] s t) := by
  refine does_of_neg rfl (by omega) ?_
  simp (disch := decide) only [num_set_sub, num_set_same, if_neg hv, if_neg hi, hvg, hig, Bool.not_true, Bool.false_eq_true, if_false, true_and]
  exact (((((SameBut.refl _ s).set (by simp)).set (by simp)).set (by simp)).set (by simp)).set (by simp) |>.set (by simp)

/-- Settles O50: each command ends in the writes of its state, and of the objects of a rail no two have the same sub-index. -/
theorem railsAreControlled : Obligations.RailsAreControlled := by
  unfold Obligations.RailsAreControlled
  refine ⟨fun r s hr hoff hon hgate hgoes hserving hth => railStart_enters hr hoff hon hgate hgoes hserving hth,
    fun r sensed s h hdue => ?onDelay, fun r s h harrived => ?rampDone, fun r s h hconds hdue => ?qualified,
    fun r cause s hactive hnew => ?condition, fun r cause x s h hconds => ?clear,
    fun r cause from_ s hcond h hdue => railFaultTimerExpired_state hcond h hdue, fun r sensed s h hdue hleft => ?retry,
    fun r sensed s h hdue hleft => ?latch, fun r s h harrived => ?offRamp, fun r s hon hsense => ?sense,
    fun r k ipk s hon hk => phaseFail_phases hon hk, fun v s => ?vsel, fun r v s hvsel hquiet hsrc => ?deferred, fun r due s hmove hdue => ?move,
    fun r k mean s hauto hgood hquiet hkeep hmore hlow hlast => ?shed, fun r k due s hshed hdue => ?shedDone, fun r s hkeep hauto => ?keepout,
    fun r s hon hfew => ?loadStep, fun r k s hr hacc hk => phaseBalance_temperature hr hacc hk,
    fun r ipk peak s hr hv hi hvg hig => railTelemetryUpdate_values hr hv hi hvg hig, fun r f w s u hreach => ?peakClear⟩
  case onDelay =>
    obtain ⟨hstate, hvref, -⟩ := startRamp_num r sensed s
    exact does_of_pos rfl ⟨h, hdue⟩ ⟨hstate, hvref, sameBut_startRamp ..⟩
  case rampDone =>
    refine does_of_pos rfl ⟨h, harrived⟩ ⟨enterRail_state .., ?_, ((SameBut.refl _ s).set (by simp)).enterRail _ _ (by simp)⟩
    exact (enterRail_num (by decide) ..).trans (num_set_same ..)
  case qualified =>
    refine does_of_pos rfl ⟨h, hconds, hdue⟩ ⟨enterRail_state .., ?_, ((SameBut.refl _ s).set (by simp)).enterRail _ _ (by simp)⟩
    exact (enterRail_num (by decide) ..).trans (num_set_same ..)
  case condition =>
    refine does_of_pos rfl ⟨hactive, by simp [hnew]⟩ ⟨enterRail_state .., ?_, ?_⟩
    · exact (enterRail_num (by decide) ..).trans (num_set_same ..)
    · exact ((((sameObjects_setRail ..).sameBut _).set (by simp)).set (by simp)).enterRail _ _ (by simp)
  case clear =>
    exact does_of_pos rfl ⟨h, noConds_of_removed hconds⟩ ⟨enterRail_state .., ((sameObjects_setRail ..).sameBut _).enterRail _ _ (by simp)⟩
  case retry =>
    refine does_of_pos rfl ⟨h, hdue⟩ ?_
    obtain ⟨hstate, hvref, hretries⟩ := startRamp_num r sensed (s.set (K.rlRetriesLeft r) (s.num (K.rlRetriesLeft r) - 1))
    rw [if_neg hleft]
    exact ⟨hstate, hretries.trans (num_set_same ..), hvref⟩
  case latch =>
    refine does_of_pos rfl ⟨h, hdue⟩ ?_
    rw [if_pos hleft]
    exact latchRail_state ..
  case offRamp =>
    refine does_of_pos rfl ⟨h, harrived⟩ ⟨enterRail_state .., ?_, ?_, (((SameBut.refl _ s).set (by simp)).set (by simp)).enterRail _ _ (by simp)⟩
    · exact (enterRail_num (by decide) ..).trans (num_set_same ..)
    · simp (disch := decide) only [enterRail_num, num_set_sub, num_set_same]
  case sense => exact does_of_pos rfl ⟨hon, hsense⟩ (num_set_same ..)
  case vsel => exact ⟨_, rfl, num_set_same ..⟩
  case deferred =>
    have hexec : exec (.vselDeferredApply r) s = execVselDeferredApply r s := rfl
    simp only [execVselDeferredApply, hvsel, if_pos (And.intro hquiet hsrc)] at hexec
    refine ⟨_, hexec, ?_⟩
    dsimp only
    rw [State.nat_def, selectSetpoint_setpoint, Int.toNat_natCast]
  case move =>
    have hexec : exec (.railMoveEnd r) s = execRailMoveEnd r s := rfl
    simp only [execRailMoveEnd, hmove, if_pos hdue] at hexec
    exact ⟨_, hexec, num_set_same .., by simp, ((sameObjects_setRail ..).sameBut _).set (by simp)⟩
  case shed => exact ⟨_, railAutoShed_sheds hauto hgood hquiet hkeep hmore hlow hlast, sameObjects_shedPhase .., shedPhase_rail r k s⟩
  case shedDone =>
    have hexec : exec (.phaseShedDone r k) s = execPhaseShedDone r k s := rfl
    simp only [execPhaseShedDone, hshed, if_pos hdue] at hexec
    exact ⟨_, hexec, State.bit_clrBit_self .., ((sameObjects_setRail ..).sameBut _).set (by simp)⟩
  case keepout => exact does_of_pos rfl ⟨hkeep, hauto⟩ ⟨num_set_same .., sameBut_readdPhases ..⟩
  case loadStep => exact does_of_pos rfl ⟨hon, hfew⟩ ⟨_, num_set_same ..⟩
  case peakClear =>
    refine does_mono (does_of_effect hreach rfl rfl) fun t h => ?_
    refine ⟨h.answered, (h.objects.1 _).trans (num_set_same ..), (h.objects.1 _).trans ?_, SameBut.andThen ?_ h.objects⟩
    · exact (num_set_sub (by decide) ..).trans (num_set_same ..)
    · exact ((SameBut.refl _ u).set (by simp)).set (by simp)

end Sys2Proof.Machine
end

section
/-! PROOFS. What an answer is apart from: beside what the part sends, the requester's record and the response ring of the host, it changes nothing
(R39, R40). -/

namespace Sys2Proof.Machine

/-- The state apart from what is sent and from what an answer writes of the masters and of the host's response ring. -/
def State.pastAnswers (s : State) : State :=
  { s with out := [], masters := [], host := { s.host with irq := 0, held := [], rspRing := [], rspProd := 0 } }

theorem irq_pastAnswers (n : Nat) (s : State) : (irq n s).pastAnswers = s.pastAnswers := by
  unfold irq
  split <;> rfl

theorem ringFrame_pastAnswers (o : Out) (s : State) : (ringFrame o s).pastAnswers = s.pastAnswers := by
  unfold ringFrame
  split
  · exact irq_pastAnswers 0 _
  · rfl

theorem answer_pastAnswers (w : Who) (kind : Nat) (f : Frame) (status : Nat) (b : List Byte) (s : State) :
    (answer w kind f status b s).pastAnswers = s.pastAnswers :=
  respond_fixes State.pastAnswers ringFrame_pastAnswers (fun _ _ => rfl) ..

/-- The state t is u with w answered a status and a payload. -/
structure AnsweredWith (w : Who) (status : Nat) (payload : List Byte) (u t : State) : Prop where
  answered : Answered t w status
  masters : ∃ req, ∀ m, t.master m =
    if m = w.flow then { u.master m with lastReq := req, lastRsp := ⟨status, payload⟩, outstanding := false } else u.master m
  rest : t.pastAnswers = u.pastAnswers

namespace AnsweredWith

variable {w : Who} {status : Nat} {payload : List Byte} {u t : State} (h : AnsweredWith w status payload u t)
include h

/-- What a function reads of the state apart from answers is as it was before one. -/
protected theorem congr {α : Type} (g : State → α) (hg : ∀ s, g s.pastAnswers = g s) : g t = g u :=
  calc g t
    _ = g t.pastAnswers := (hg t).symm
    _ = g u.pastAnswers := congrArg g h.rest
    _ = g u := hg u

protected theorem objects : SameObjects u t := .of_tables (h.congr State.obj fun _ => rfl) (h.congr State.blob fun _ => rfl)

protected theorem num (k : Nat) : t.num k = u.num k := h.objects.1 k

protected theorem challenge (m : Nat) : (t.master m).challenge = (u.master m).challenge := by
  obtain ⟨req, hmasters⟩ := h.masters
  rw [hmasters]
  split <;> rfl

protected theorem auth (m : Nat) : (t.master m).auth = (u.master m).auth := by
  obtain ⟨req, hmasters⟩ := h.masters
  rw [hmasters]
  split <;> rfl

end AnsweredWith

/-- A command object's write whose effect replies at once leaves what the effect made, answered. -/
theorem does_of_reply {k : Nat} {f : Frame} {v : Val} {w : Who} {s u : State} {c : Instr} {effect : Who → Val → State → Reply} {r : Reply} {status : Nat}
    (hreach : reaches k f s = some (w, v, u)) (hc : exec c s = .next (requestWrite k f s effect)) (heffect : effect w v u = r)
    (hstatus : r.status = some status) : Does c s (AnsweredWith w status r.payload r.st) := by
  refine does_of_reaches hreach hc ?_
  obtain ⟨hans, -, -⟩ := finish_answers (w := w) (kind := kWrite) (f := { f with index := k / 256, sub := k % 256 }) hstatus
  have hanswer : finish w kWrite { f with index := k / 256, sub := k % 256 } r =
      answer w kWrite { f with index := k / 256, sub := k % 256 } status r.payload r.st := by
    unfold finish
    rw [hstatus]
  rw [heffect]
  rw [hanswer] at hans ⊢
  exact ⟨hans, ⟨_, answer_master w kWrite _ status r.payload r.st⟩, answer_pastAnswers ..⟩

end Sys2Proof.Machine
end

section
/-! PROOFS. The thermal manager (R310 to R316, Table 9-1): the steps of enforcement and what the gain engines are given. -/

namespace Sys2Proof.Machine

/-! ### The channels that run, and writes elsewhere -/

theorem listed_insert {p : Nat → Int → Bool} {k : Nat} (hp : ∀ v, p k v = false) (v : Int) (t : Tab Int) : listed (Tab.insert k v t) p = listed t p := by
  induction t with
  | nil => simp [Tab.insert, listed, hp]
  | cons e t ih =>
    obtain ⟨j, x⟩ := e
    unfold Tab.insert
    split_ifs with hlt heq
    · simp [listed, hp]
    · subst heq
      simp [listed, hp]
    · simp only [listed, List.filterMap_cons] at ih ⊢
      rw [ih]

theorem listed_erase {p : Nat → Int → Bool} {k : Nat} (hp : ∀ v, p k v = false) (t : Tab Int) : listed (Tab.erase k t) p = listed t p := by
  induction t with
  | nil => rfl
  | cons e t ih =>
    obtain ⟨j, x⟩ := e
    unfold Tab.erase
    split_ifs with heq
    · subst heq
      simpa [listed, hp] using ih
    · simp only [listed, List.filterMap_cons] at ih ⊢
      rw [ih]

/-- A write outside the channels' range starts and stops no channel. -/
theorem started_set {k : Nat} (hk : k < 0x400000 ∨ 0x600000 ≤ k) (v : Int) (s : State) : (s.set k v).started = s.started := by
  have hp : ∀ x : Int, (decide (k % 256 = 1) && decide (0x400000 ≤ k) && decide (k < 0x600000) && decide ((k / 256) % 16 = 0) &&
      decide (x = 1)) = false := by
    intro x
    have hout : ¬ (0x400000 ≤ k ∧ k < 0x600000) := by omega
    simp only [Bool.and_eq_false_iff, decide_eq_false_iff_not]
    tauto
  unfold State.started
  congr 1
  unfold State.set Tab.put
  dsimp only
  split
  · exact listed_erase hp _
  · exact listed_insert hp _ _

/-! ### Levels and the backoff -/

theorem putLevel_same {v : Nat} {s : State} (h : s.nat K.thLevel = v) : putLevel v s = s.set K.thLevel (v : Nat) := by
  unfold putLevel
  rw [h, if_neg (Nat.lt_irrefl v), if_neg (Nat.lt_irrefl v)]

/-- The part once a substitution hold is over. -/
def holdOver (s : State) : State := ({ s with th := { s.th with hold := none } }).set K.thHeld 0

/-- The part with what its sensors give kept as the level of the sensors alone. -/
def aloneKept (s : State) : State := { s with th := { s.th with alone := aloneLevel s } }

theorem settleLevel_same {s : State} (hhold : s.th.hold = none) (h : s.nat K.thLevel = aloneLevel s) :
    settleLevel s = (aloneKept s).set K.thLevel (aloneLevel s : Nat) := by
  unfold settleLevel
  extract_lets alone th s1
  have h1 : s1.th.hold = none := hhold
  rw [h1]
  exact putLevel_same (s := s1) h

theorem giveBackoff_th (s : State) : (giveBackoff s).th.hold = s.th.hold := by
  unfold giveBackoff
  split
  · rfl
  · exact (forL_fixes (fun t : State => t.th.hold) _ (fun c t => by rfl) _ _).trans rfl

theorem giveBackoff_num {k : Nat} (hk : 0x7000 * 256 ≤ k) (s : State) : (giveBackoff s).num k = s.num k := by
  refine State.num_ite rfl (forL_num (fun c hc t => (State.num_set ..).trans (if_neg ?_)) _)
  have := started_lt hc
  unfold K.geThermalBackoff
  omega

/-- While the readings are not held, each channel that runs is given the backoff. -/
theorem giveBackoff_given {c : Nat} {s : State} (hheld : s.num K.thHeld = 0) (hc : c ∈ s.started) :
    (giveBackoff s).num (K.geThermalBackoff c) = s.num K.thBackoff := by
  have hkey : ∀ b, b ∈ s.started → K.thBackoff ≠ K.geThermalBackoff b := by
    intro b hb
    have := started_lt hb
    unfold K.thBackoff K.geThermalBackoff
    omega
  have hgive : giveBackoff s = forL s.started (fun c s => s.set (K.geThermalBackoff c) (s.num K.thBackoff))
      { s with th := { s.th with given := s.num K.thBackoff } } := if_neg (by simp [State.flag, hheld])
  have hsame : (giveBackoff s).num (K.geThermalBackoff c) = (giveBackoff s).num K.thBackoff := by
    rw [hgive]
    refine forL_makes (P := fun t => t.num (K.geThermalBackoff c) = t.num K.thBackoff) hc (fun t => ?_) (fun b hb t ht => ?_) _
    · rw [num_set_same, State.num_set, if_neg (hkey c hc)]
    · rw [State.num_set, State.num_set, if_neg (hkey b hb)]
      split
      · rfl
      · exact ht
  rw [hsame]
  exact giveBackoff_num (by decide) s

/-! ### Commands -/

theorem thermalSubstHoldEnd_ends {n l due : Nat} {s : State} (hhold : s.th.hold = some (n, l, due)) (hdue : due ≤ s.time.now)
    (halone : aloneLevel (({ s with th := { s.th with hold := none } }).set K.thHeld 0) = s.num K.thLevel) :
    Does .thermalSubstHoldEnd s (fun t => t.th.hold = none ∧ t.num K.thHeld = 0 ∧ t.num K.thLevel = s.num K.thLevel ∧
      ∀ c, c ∈ s.started → t.num (K.geThermalBackoff c) = s.num K.thBackoff) := by
  have hsettle : settleLevel (holdOver s) = (aloneKept (holdOver s)).set K.thLevel (aloneLevel (holdOver s) : Nat) := by
    refine settleLevel_same rfl ?_
    have hlevel : s.nat K.thLevel = aloneLevel (holdOver s) := (congrArg Int.toNat halone.symm).trans (Int.toNat_natCast _)
    exact ((State.nat_set ..).trans (if_neg (by decide))).trans hlevel
  have hexec : exec .thermalSubstHoldEnd s = .next (giveBackoff (settleLevel (holdOver s))) := by
    have h : exec .thermalSubstHoldEnd s = execThermalSubstHoldEnd s := rfl
    simp only [execThermalSubstHoldEnd, hhold, if_pos hdue] at h
    exact h
  rw [hsettle] at hexec
  have hnum : ∀ k, k ≠ K.thLevel → ((aloneKept (holdOver s)).set K.thLevel (aloneLevel (holdOver s) : Nat)).num k = (holdOver s).num k :=
    fun k hk => (State.num_set ..).trans (if_neg hk)
  have hheld := (hnum K.thHeld (by decide)).trans (num_set_same K.thHeld 0 _)
  have hback : (holdOver s).num K.thBackoff = s.num K.thBackoff := (State.num_set ..).trans (if_neg (by decide))
  have hstarted : (holdOver s).started = s.started := started_set (by decide) ..
  refine ⟨_, hexec, giveBackoff_th _, (giveBackoff_num (by decide) _).trans hheld,
    (giveBackoff_num (by decide) _).trans ((num_set_same ..).trans halone), fun c hc => ?_⟩
  rw [giveBackoff_given hheld, hnum _ (by decide), hback]
  rw [started_set (by decide)]
  exact hstarted ▸ hc

/-- Settles O52: each step writes its own object last, and the level that stands gives the gain engines the backoff alone. -/
theorem thermalManagerActs : Obligations.ThermalManagerActs := by
  refine ⟨fun raws s => ⟨_, rfl, rfl⟩, fun due s hgrace henforce hdue hlevel => ?grace, fun d s h3 hlevel hfrozen hdue hnext => ?shed,
    fun d rest s h4 hfrozen hdue hshed => ?retreat, fun n l due s hhold hdue halone => thermalSubstHoldEnd_ends hhold hdue halone,
    fun f w v s u hreach hnormal => ?learns, fun f w v s u hreach habove => ?refused⟩
  case grace =>
    have hexec : exec .thermalGraceEnd s = execThermalGraceEnd s := rfl
    simp only [execThermalGraceEnd, hgrace, if_pos (And.intro henforce (And.intro hdue hlevel))] at hexec
    exact ⟨_, hexec, num_set_same .., rfl, SameBut.set ((SameObjects.of_tables rfl rfl).sameBut _) (by simp)⟩
  case shed =>
    have hexec : exec .thermalShedStep s = execThermalShedStep s := rfl
    rw [execThermalShedStep, if_pos ⟨h3, hlevel, by simp [hfrozen], hdue⟩, hnext] at hexec
    exact ⟨_, hexec, num_set_same ..⟩
  case retreat =>
    refine does_of_pos rfl ⟨h4, by simp [hfrozen], hdue⟩ ?_
    have hrepower : (repowerLast s).num K.thShedCount = (rest.length : Nat) := by
      unfold repowerLast
      rw [hshed]
      exact num_set_same ..
    exact State.num_ite ((num_set_sub (by decide) ..).trans hrepower) hrepower
  case learns =>
    refine does_mono (does_of_reply hreach rfl (if_pos hnormal) rfl) fun t h => ⟨h.answered, ?_, ?_⟩
    · exact h.congr (·.th.learn) fun _ => rfl
    · exact SameObjects.trans (.of_tables rfl rfl) h.objects
  case refused => exact does_mono (does_of_reply hreach rfl (if_neg habove) rfl) fun t h => ⟨h.answered, h.objects⟩

end Sys2Proof.Machine
end

section
/-! PROOFS. The end of faults and the event recorder (R324, R328, R337, R338, R343): a source that is cleared ends in the write of its state, and a
flush that is started, or ended, stands in the recorder's own fields. Which words name a source is log entry 57, and which sticky bits stay is
log entry 56. -/

namespace Sys2Proof.Machine

/-! ### Clears (R324) -/

theorem clearSource_state (w : Nat) (s : State) : (clearSource w s).num (stateKey w) = 0 := num_set_same ..

theorem clearFully_state (w : Nat) (s : State) : (clearFully w s).num (stateKey w) = 0 := clearSource_state ..

/-! ### Flushes (R337, R338) -/

theorem startFlush_log {s : State} (hidle : s.log.flushing = none) (hbanks : s.bothFailed = false) :
    (startFlush s).log = { s.log with flushing := some s.log.buffer.length } := by
  unfold startFlush
  rw [hidle]
  simp [hbanks]

/-- After a start a flush runs, or there is no bank to flush to. -/
theorem startFlush_runs (s : State) : (startFlush s).log.flushing.isSome = true ∨ (startFlush s).bothFailed = true := by
  unfold startFlush
  split
  · next h => exact .inl (by simp [h])
  · split
    · next h => exact .inr h
    · exact .inl rfl

/-- A start touches neither what is buffered nor when the last flush ended, nor the records that wait. -/
theorem startFlush_fields (s : State) : (startFlush s).log.buffer = s.log.buffer ∧ (startFlush s).log.lastFlushEnd = s.log.lastFlushEnd ∧
    (startFlush s).log.waiting = s.log.waiting := by
  unfold startFlush
  split
  · exact ⟨rfl, rfl, rfl⟩
  · split <;> exact ⟨rfl, rfl, rfl⟩

theorem flushNext_fields (s : State) : (flushNext s).log.buffer = s.log.buffer ∧ (flushNext s).log.lastFlushEnd = s.log.lastFlushEnd ∧
    (flushNext s).jr = s.jr := by
  unfold flushNext
  extract_lets cmd s1 log
  obtain ⟨hbuffer, hend, -⟩ := startFlush_fields s
  have h1 : s1.log.buffer = s.log.buffer ∧ s1.log.lastFlushEnd = s.log.lastFlushEnd ∧ s1.jr = s.jr := by
    dsimp only [s1]
    split
    · exact ⟨hbuffer, hend, startFlush_jr s⟩
    · exact ⟨rfl, rfl, rfl⟩
  exact h1

/-- The header of what becomes durable carries the operating time of the banks that have not failed. -/
theorem makeDurable_header (n : Nat) {s : State} (h0 : s.jr.bank0.failed = false) (h1 : s.jr.bank1.failed = false) :
    (makeDurable n s).jr.bank0.log0.ot = s.time.ot ∧ (makeDurable n s).jr.bank1.log0.ot = s.time.ot := by
  unfold makeDurable Journal.onBanks Bank.addLog
  simp [h0, h1]

theorem restoreLog_kept {n : Nat} {s : State} (h : s.flag K.recLoglost = false) : restoreLog n s = s := if_neg (by simp [h])

theorem pfailDone_powered {s : State} (h : s.log.pfailAt = none) : pfailDone s = s := by
  unfold pfailDone
  rw [h]

theorem sameBut_makeDurable (n : Nat) (s : State) : SameBut [K.recPermUsed, K.recBuffered] s (makeDurable n s) :=
  (((SameObjects.of_tables rfl rfl).sameBut _).set (by simp)).set (by simp)

/-- A flush whose writes pass their checks, with no power fail and the log not lost. -/
theorem exec_recFlushDone_passes {n : Nat} {s : State} (hflush : s.log.flushing = some n) (hok : s.bankOk 0 = true) (hpower : s.log.pfailAt = none)
    (hlog : s.flag K.recLoglost = false) : exec (.recFlushDone 0 0) s = .next (flushNext (makeDurable n (s.incBy K.jrRetries 32 0))) := by
  have hexec : exec (.recFlushDone 0 0) s = execRecFlushDone 0 0 s := rfl
  have hbank : s.num K.jrBank0State = 0 := of_decide_eq_true hok
  have hok1 : (s.incBy K.jrRetries 32 0).bankOk 0 = true := decide_eq_true (((State.num_incBy ..).trans (if_neg (by decide))).trans hbank)
  have hboth : (s.incBy K.jrRetries 32 0).bothFailed = false := bothFailed_of_bankOk hok1
  have hkept : (makeDurable n (s.incBy K.jrRetries 32 0)).flag K.recLoglost = false := by
    unfold State.flag at hlog ⊢
    rw [(sameBut_makeDurable ..).1 _ (by decide), State.num_incBy, if_neg (by decide)]
    exact hlog
  have hsupply : (s.incBy K.jrRetries 32 0).log.pfailAt = none := hpower
  simp only [execRecFlushDone, hflush, writeChecks_pass, hboth, Bool.false_eq_true, if_false, hsupply, Option.isSome_none] at hexec
  rw [pfailDone_powered hsupply, restoreLog_kept hkept] at hexec
  exact hexec

/-! ### Records that enter (R337) -/

/-- A record that is buffered takes the next number. -/
theorem bufferRec_enters (r : Rec) (s : State) : (bufferRec r s).num K.recNext = (s.nat K.recNext + 1 : Nat) ∧
    (bufferRec r s).log.buffer.length = s.log.buffer.length + 1 ∧ (bufferRec r s).log.waiting = s.log.waiting := by
  unfold bufferRec
  extract_lets n log s1 s2 s3
  have h2 : s2.log.buffer = s.log.buffer ++ [(n, r)] ∧ s2.log.waiting = s.log.waiting := by
    dsimp only [s2]
    split <;> exact ⟨rfl, rfl⟩
  obtain ⟨hbuffer2, hwaiting2⟩ := h2
  have hnext : s3.num K.recNext = (n + 1 : Nat) := (num_set_sub (by decide) ..).trans (num_set_same ..)
  have hlength : s3.log.buffer.length = s.log.buffer.length + 1 := by
    have h : s3.log.buffer = s.log.buffer ++ [(n, r)] := hbuffer2
    rw [h, List.length_append]
    rfl
  have hwaiting : s3.log.waiting = s.log.waiting := hwaiting2
  obtain ⟨hbuffer, -, hwait⟩ := startFlush_fields s3
  split
  · exact ⟨((sameObjects_startFlush s3).1 _).trans hnext, by rw [hbuffer, hlength], hwait.trans hwaiting⟩
  · exact ⟨hnext, hlength, hwaiting⟩

theorem recordEnterAfterWait_enters {r : Rec} {rest : List Rec} {s : State} (hwait : s.log.waiting = r :: rest) (hroom : s.log.buffer.length < 512) :
    Does .recordEnterAfterWait s (fun t => t.log.waiting = rest ∧ t.num K.recNext = (s.nat K.recNext + 1 : Nat) ∧
      t.log.buffer.length = s.log.buffer.length + 1) := by
  have hexec : exec .recordEnterAfterWait s = execRecordEnterAfterWait s := rfl
  have hplace : placeRec r { s with log := { s.log with waiting := [] } } =
      bufferRec (stamped { s with log := { s.log with waiting := [] } } r) { s with log := { s.log with waiting := [] } } := if_pos hroom
  simp only [execRecordEnterAfterWait, hwait, if_pos (Or.inl hroom : s.log.buffer.length < 512 ∨ s.bothFailed = true), hplace] at hexec
  obtain ⟨hnext, hlength, hempty⟩ :=
    bufferRec_enters (stamped { s with log := { s.log with waiting := [] } } r) { s with log := { s.log with waiting := [] } }
  refine ⟨_, hexec, ?_, hnext, hlength⟩
  dsimp only at hempty ⊢
  rw [hempty, List.append_nil]

/-! ### Reading the log (R343) -/

theorem recRecordReply_found {flow : Nat} {s : State} {e : Nat × Rec}
    (h : (readable s).find? (fun x => decide (x.1 = (s.master flow).cursor)) = some e) :
    recRecordReply flow s = ⟨s.setMaster flow { s.master flow with cursor := (s.master flow).cursor + 1 }, some stOk, e.2.bytes⟩ := by
  simp only [recRecordReply, h]

theorem recPermReply_found {flow : Nat} {s : State} {e : Rec} (h : s.perm[(s.master flow).permCursor]? = some e) :
    recPermReply flow s = ⟨s.setMaster flow { s.master flow with permCursor := (s.master flow).permCursor + 1 }, some stOk, e.bytes⟩ := by
  simp only [recPermReply, h]

/-- A read of the log answers the record, and the requester's cursor stands behind it. -/
theorem finish_ofReader (w : Who) (kind : Nat) (f : Frame) (x : Master) (b : List Byte) (s : State) :
    Answered (finish w kind f ⟨s.setMaster w.flow x, some stOk, b⟩) w stOk ∧
    ((finish w kind f ⟨s.setMaster w.flow x, some stOk, b⟩).master w.flow).lastRsp.payload = b ∧
    ((finish w kind f ⟨s.setMaster w.flow x, some stOk, b⟩).master w.flow).cursor = x.cursor ∧
    ((finish w kind f ⟨s.setMaster w.flow x, some stOk, b⟩).master w.flow).permCursor = x.permCursor ∧
    SameObjects s (finish w kind f ⟨s.setMaster w.flow x, some stOk, b⟩) := by
  have hr : finish w kind f ⟨s.setMaster w.flow x, some stOk, b⟩ = answer w kind f stOk b (s.setMaster w.flow x) := rfl
  rw [hr]
  have hset : SameObjects s (s.setMaster w.flow x) := .of_tables rfl rfl
  refine ⟨answered_answer .., ?_, ?_, ?_, hset.trans (sameObjects_answer ..)⟩ <;> simp [answer_master]

/-- Settles O53: a clear ends in its state, a flush started or ended stands in the recorder, and a reading moves the reader's cursor. -/
theorem faultsEndAndRecordsFlush : Obligations.FaultsEndAndRecordsFlush := by
  refine ⟨fun w due s hhold hmajor hdue => ?holdEnd, fun f w n s u hreach hlisted hsealed => ?clear, fun f w n s u hreach hno => ?refused,
    fun f w v n s u hreach hone => ?clearAll, fun f w n s u hreach => ?sticky, fun s hdue hidle hbanks => ?periodic,
    fun f w v s u hreach hidle hbanks => ?flush, fun n s hflush hok _ h0 h1 hpower hlog => ?flushDone,
    fun r rest s hwait hroom => recordEnterAfterWait_enters hwait hroom, fun cause s hpowered => ?powerFail,
    fun f w s u e hclear hfind => ?record, fun f w s u e hclear hfind => ?perm⟩
  case holdEnd =>
    have hexec : exec (.faultMajorHoldEnd w) s = execFaultMajorHoldEnd w s := rfl
    simp only [execFaultMajorHoldEnd, hhold, if_pos (And.intro hmajor hdue)] at hexec
    exact ⟨_, hexec, clearSource_state w s⟩
  case clear =>
    have heffect : fltClearEffect w (.num (n : Int)) u = .ok (clearFully n u) := if_neg (by simp [Val.int, hlisted, hsealed])
    exact does_mono (does_of_reply hreach rfl heffect rfl) fun t h => ⟨h.answered, (h.num _).trans (clearFully_state n u)⟩
  case refused =>
    have heffect : fltClearEffect w (.num (n : Int)) u = .no u stRange := if_pos (by simpa [Val.int] using hno)
    exact does_mono (does_of_reply hreach rfl heffect rfl) fun t h => ⟨h.answered, h.objects⟩
  case clearAll =>
    have heffect : fltClearAllEffect w v u = .ok (clearFully n u) := by
      unfold fltClearAllEffect
      rw [hone]
      rfl
    exact does_mono (does_of_reply hreach rfl heffect rfl) fun t h => ⟨h.answered, (h.num _).trans (clearFully_state n u)⟩
  case sticky =>
    refine does_mono (does_of_reply hreach rfl rfl rfl) fun t h => ⟨h.answered, (h.num _).trans (num_set_same ..), ?_⟩
    exact ((SameBut.refl _ u).set (by simp)).andThen h.objects
  case periodic =>
    exact does_of_pos rfl hdue ⟨congrArg (·.flushing) (startFlush_log hidle hbanks), sameObjects_startFlush s⟩
  case flush =>
    have heffect : (recFlushEffect w v u).status = some stOk ∧ (recFlushEffect w v u).st.log.flushing = some u.log.buffer.length ∧
        SameObjects u (recFlushEffect w v u).st := by
      unfold recFlushEffect
      rw [hidle]
      exact ⟨rfl, congrArg (·.flushing) (startFlush_log hidle hbanks), (sameObjects_startFlush u).trans (.of_tables rfl rfl)⟩
    obtain ⟨hstatus, hflushing, hsame⟩ := heffect
    refine does_mono (does_of_reply hreach rfl rfl hstatus) fun t h => ⟨h.answered, ?_, hsame.trans h.objects⟩
    exact (h.congr (·.log.flushing) fun _ => rfl).trans hflushing
  case flushDone =>
    obtain ⟨hbuffer, hend, hjr⟩ := flushNext_fields (makeDurable n (s.incBy K.jrRetries 32 0))
    obtain ⟨hot0, hot1⟩ := makeDurable_header n (s := s.incBy K.jrRetries 32 0) h0 h1
    exact ⟨_, exec_recFlushDone_passes hflush hok hpower hlog, hbuffer, hend, (congrArg (·.bank0.log0.ot) hjr).trans hot0,
      (congrArg (·.bank1.log0.ot) hjr).trans hot1⟩
  case powerFail => exact does_of_neg rfl (by simp [hpowered]) (startFlush_runs _)
  case record =>
    refine ⟨_, congrArg Host.Outcome.next (request_cleared hclear _), ?_⟩
    dsimp only
    rw [recRecordReply_found hfind]
    obtain ⟨hans, hpayload, hcursor, -, hsame⟩ := finish_ofReader ..
    exact ⟨hans, hpayload, hcursor, hsame⟩
  case perm =>
    refine ⟨_, congrArg Host.Outcome.next (request_cleared hclear _), ?_⟩
    dsimp only
    rw [recPermReply_found hfind]
    obtain ⟨hans, hpayload, -, hcursor, hsame⟩ := finish_ofReader ..
    exact ⟨hans, hpayload, hcursor, hsame⟩

end Sys2Proof.Machine
end

section
/-! PROOFS. The Gallery (R345 to R353): each step of a capture ends in the write of gal.state, what goes to the drive is no object, and a format
leaves an empty directory. -/

namespace Sys2Proof.Machine

/-! ### The state of the Gallery, and what goes to the drive -/

theorem setGal_state (v : Int) (s : State) : (setGal v s).num K.galState = v := num_set_same ..

theorem setGal_num {k : Nat} (h : k ≠ K.galState) (v : Int) (s : State) : (setGal v s).num k = s.num k :=
  (sameBut_setGal v s).1 k (mt List.mem_singleton.1 h)

theorem setGal_gal (v : Int) (s : State) : (setGal v s).gal = s.gal := by
  unfold setGal irq
  split <;> rfl

theorem nvmeWrite_objects (off len : Nat) (b : List Byte) (s : State) : SameObjects s (nvmeWrite off len b s) := by
  refine SameObjects.forL (fun i t => ?_) _ s
  exact .of_tables rfl rfl

theorem nvmeFlush_objects (s : State) : SameObjects s (nvmeFlush s) := .of_tables rfl rfl

theorem nvmeWrite_gal (off len : Nat) (b : List Byte) (s : State) : (nvmeWrite off len b s).gal = s.gal := by
  refine forL_fixes State.gal _ (fun i t => ?_) _ s
  rfl

theorem nvmeFlush_gal (s : State) : (nvmeFlush s).gal = s.gal := rfl

/-- A capture that is not Held does not enter Full. -/
theorem reviewFull_idle {s : State} (h : s.num K.galState ≠ gsHeld) : reviewFull s = s := if_neg fun hc => h hc.1

theorem completeCapture_state (status : Int) (s : State) : (completeCapture status s).num K.galState = gsHeld ∨
    (completeCapture status s).num K.galState = gsFull := by
  unfold completeCapture reviewFull
  extract_lets s1 s2
  split
  · exact .inr (setGal_state ..)
  · exact .inl (setGal_state ..)

/-! ### Triggers (R347) -/

/-- A trigger of a capture that waits for one. -/
theorem galTrigger_waiting {s : State} (h : s.num K.galState = gsFilling ∨ s.num K.galState = gsArmed) (reason : Nat) :
    (galTrigger reason s).num K.galState = gsTriggered ∧ (galTrigger reason s).num K.galReasons = (2 ^ reason : Nat) ∧
    (galTrigger reason s).num K.galNumber = s.num K.galNumber + 1 ∧ (galTrigger reason s).num K.galTriggerTb = (s.tbNow : Nat) ∧
    SameBut [K.galState, K.galTriggerTb, K.galPreActual, K.galNumber, K.galStatus, K.galTag, K.galReasons] s (galTrigger reason s) := by
  unfold galTrigger
  rw [if_pos h]
  extract_lets gal s1 s2 s3
  have hsame : SameObjects s s1 := .of_tables rfl rfl
  have h2 : SameBut [K.galTriggerTb, K.galPreActual] s s2 := ((hsame.sameBut _).set (by simp)).set (by simp)
  have h3 : SameBut [K.galNumber, K.galStatus, K.galTag] s2 s3 := (((SameBut.refl _ s2).set (by simp)).set (by simp)).set (by simp)
  have hnumber : s3.num K.galNumber = s.num K.galNumber + 1 :=
    (num_set_sub (by decide) ..).trans ((num_set_sub (by decide) ..).trans (num_set_same ..))
  have htb : s3.num K.galTriggerTb = (s.tbNow : Nat) :=
    (h3.1 _ (by decide)).trans ((num_set_sub (by decide) ..).trans (num_set_same ..))
  refine ⟨setGal_state .., (setGal_num (by decide) ..).trans (num_set_same ..),
    (setGal_num (by decide) ..).trans ((num_set_sub (by decide) ..).trans hnumber),
    (setGal_num (by decide) ..).trans ((num_set_sub (by decide) ..).trans htb), ?_⟩
  exact (((h2.mono (by simp)).trans (h3.mono (by simp))).set (by simp)).trans ((sameBut_setGal ..).mono (by simp))

/-! ### The volume (R349 to R353) -/

theorem formatVolume_formats {s : State} (h : s.num K.galState ≠ gsFull) (mode : Int) :
    (formatVolume mode s).num K.galUsed = 0 ∧ (formatVolume mode s).num K.galMode = mode ∧ (formatVolume mode s).num K.galDriveState = 2 ∧
    (formatVolume mode s).gal.dir = [] ∧ SameBut [K.galUsed, K.galMode, K.galDriveState] s (formatVolume mode s) := by
  unfold formatVolume
  extract_lets gal g s1 b s2 s3
  have h1 : SameBut [K.galUsed, K.galMode] s s1 := (((SameObjects.of_tables rfl rfl).sameBut _).set (by simp)).set (by simp)
  have h2 : SameObjects s1 s2 :=
    (((nvmeWrite_objects ..).trans (nvmeWrite_objects ..)).trans (nvmeWrite_objects ..)).trans (nvmeFlush_objects _)
  have hgal : s2.gal = s1.gal := by
    dsimp only [s2]
    rw [nvmeFlush_gal, nvmeWrite_gal, nvmeWrite_gal, nvmeWrite_gal]
  have hstate : s3.num K.galState ≠ gsFull := by
    rw [State.num_set, if_neg (by decide), h2.1, h1.1 _ (by decide)]
    exact h
  rw [if_neg hstate]
  have hused : s1.num K.galUsed = 0 := num_set_same ..
  have hmode : s1.num K.galMode = mode := (num_set_sub (by decide) ..).trans (num_set_same ..)
  exact ⟨(num_set_sub (by decide) ..).trans ((h2.1 _).trans hused), (num_set_sub (by decide) ..).trans ((h2.1 _).trans hmode), num_set_same ..,
    congrArg (·.dir) hgal, ((h1.mono (by simp)).andThen h2).set (by simp)⟩

theorem sameBut_freeNext (s : State) : SameBut [K.galUsed] s (freeNext s) := by
  refine .ite ?_ (.refl _ s)
  have h : ∀ g v, SameBut [K.galUsed] s (({ s with gal := g }).set K.galUsed v) :=
    fun g v => SameBut.set ((SameObjects.of_tables rfl rfl).sameBut _) (by simp)
  exact (h _ _).andThen ((nvmeWrite_objects ..).trans (nvmeFlush_objects _))

theorem galleryDrainStart_drains {s : State} (hheld : s.num K.galState = gsHeld) (hready : s.num K.galDriveState = 2) (hslot : slotFree s = true) :
    Does .galleryDrainStart s (fun t => t.num K.galState = gsDraining ∧ SameBut [K.galState, K.galUsed] s t) := by
  refine does_of_pos rfl ⟨hheld, hready, hslot⟩ ⟨setGal_state .., ?_⟩
  extract_lets n data s1
  have h1 : SameBut [K.galState, K.galUsed] s s1 :=
    ((sameBut_freeNext s).mono (by simp)).andThen ((nvmeWrite_objects ..).trans (nvmeWrite_objects ..))
  exact (h1.andThen (((nvmeFlush_objects _).trans (nvmeWrite_objects ..)).trans (nvmeFlush_objects _))).trans ((sameBut_setGal ..).mono (by simp))

/-- A drained capture is settled. -/
theorem enterVolume_settles (s : State) : (enterVolume s).num K.galSettled = s.num K.galNumber ∧
    (enterVolume s).num K.galAutoRearm = s.num K.galAutoRearm := by
  unfold enterVolume
  extract_lets n gal g s0 s1
  have h0 : SameObjects s (nvmeFlush (nvmeWrite (superOffset g.copy) 4096 (superblock s0 g.generation) s0)) :=
    SameObjects.trans (SameObjects.of_tables rfl rfl : SameObjects s s0) ((nvmeWrite_objects ..).trans (nvmeFlush_objects _))
  have hsettled : s1.num K.galSettled = s.num K.galNumber := num_set_same ..
  have hrearm : s1.num K.galAutoRearm = s.num K.galAutoRearm :=
    (num_set_sub (by decide) ..).trans ((num_set_sub (by decide) ..).trans (h0.1 _))
  exact ⟨State.num_ite ((num_set_sub (by decide) ..).trans hsettled) hsettled, State.num_ite ((num_set_sub (by decide) ..).trans hrearm) hrearm⟩

/-- The part once a drained capture stands on the volume and its record is entered. -/
def drainNoted (s : State) : State := event 0x0F03 (s.nat K.galNumber % 2 ^ 32) s.gal.nextSlot 0 0 (enterVolume s)

theorem drainNoted_num (s : State) : (drainNoted s).num K.galSettled = s.num K.galNumber ∧ (drainNoted s).num K.galAutoRearm = s.num K.galAutoRearm := by
  obtain ⟨hsettled, hrearm⟩ := enterVolume_settles s
  exact ⟨((sameBut_event ..).1 _ (by decide)).trans hsettled, ((sameBut_event ..).1 _ (by decide)).trans hrearm⟩

theorem exec_galleryDrainDone {s : State} (h : s.num K.galState = gsDraining) :
    exec .galleryDrainDone s = .next (if s.flag K.galAutoRearm = true then galFill (drainNoted s) else setGal gsIdle (drainNoted s)) := by
  have hexec : exec .galleryDrainDone s = .next (if (drainNoted s).flag K.galAutoRearm = true then galFill (drainNoted s) else setGal gsIdle (drainNoted s)) :=
    congrArg Host.Outcome.next (if_pos h)
  rw [hexec, State.flag, State.flag, (drainNoted_num s).2]

theorem nvmeCommandFail_fails {opcode status n : Nat} {s : State} (hon : s.num (K.pdState 81) = 3) (hn : 3 ≤ n) :
    Does (.nvmeCommandFail opcode status n) s (fun t => t.num K.galDriveState = 5 ∧ t.num K.galState ≠ gsDraining) := by
  refine does_of_neg rfl (not_not.2 hon) ?_
  rw [if_neg (Nat.not_lt.2 hn)]
  extract_lets s1
  have hdrive : s1.num K.galDriveState = 5 := num_set_same ..
  split_ifs with h
  · exact ⟨(setGal_num (by decide) ..).trans hdrive, by rw [setGal_state]; decide⟩
  · exact ⟨hdrive, h⟩

theorem nvmeDriveReady_identified {v : NvmeVol} {s : State} (hon : s.num (K.pdState 81) = 3) (hstate : s.num K.galState ≠ gsHeld) :
    Does (.nvmeDriveReady v) s (fun t => t.num K.galSlots = (volumeSlots v.capacity : Nat) ∧ t.num K.galDriveState = driveState v ∧
      t.num K.galMode = (if (volCurrent v).isSome then (leAt (((volCurrent v).map Prod.snd).getD []) 32 1 : Nat) else 0xFF) ∧
      SameBut [K.galSlots, K.galDriveState, K.galMode, K.galLink, K.galUsed] s t) := by
  refine does_of_neg rfl (not_not.2 hon) ?_
  extract_lets b own dir gal g s1 s2
  have hb : b = ((volCurrent v).map Prod.snd).getD [] := by
    dsimp only [b]
    cases volCurrent v <;> rfl
  have h1 : SameBut [K.galSlots, K.galDriveState, K.galMode, K.galLink, K.galUsed] s s1 :=
    (((SameObjects.of_tables rfl rfl).sameBut _).set (by simp)).set (by simp)
  have h2 : SameBut [K.galSlots, K.galDriveState, K.galMode, K.galLink, K.galUsed] s s2 := (h1.set (by simp)).set (by simp)
  have hheld : (s2.set K.galDriveState (driveState v)).num K.galState ≠ gsHeld := by
    rw [State.num_set, if_neg (by decide), h2.1 _ (by decide)]
    exact hstate
  have hslots : s2.num K.galSlots = (volumeSlots v.capacity : Nat) :=
    (num_set_sub (by decide) ..).trans ((num_set_sub (by decide) ..).trans (num_set_same ..))
  have hmode : s2.num K.galMode = (if (volCurrent v).isSome then leAt b 32 1 else 0xFF : Nat) := by
    rw [num_set_same]
    split <;> rfl
  rw [reviewFull_idle hheld, ← hb]
  exact ⟨(num_set_sub (by decide) ..).trans hslots, num_set_same .., (num_set_sub (by decide) ..).trans hmode, h2.set (by simp)⟩

/-- Settles O54: each arrow of the captures and of the volume is one branch of its command, which writes gal.state last. -/
theorem capturesAreTaken : Obligations.CapturesAreTaken := by
  unfold Obligations.CapturesAreTaken
  refine ⟨fun f w v s u hreach hon hidle hsrc hfit => ?arm, fun f w v s u hreach hno => ?armRefused, fun f w v s u hreach hwait => ?trigger,
    fun f w v s u hreach hidle => ?ignored, fun f w v s u hreach hwait => ?abortWaiting, fun f w v s u hreach htrig hover => ?abortTriggered,
    fun f w v s u hreach hover => ?abortLate, fun f w v s u hreach hheld hdrive => ?release, fun f w v s u hreach hno => ?releaseRefused,
    fun f w v s u hreach hdrain hfull hdrive => ?format, fun f w v s u hreach hdrain => ?formatRefused, fun s hfill hdue => ?preFull,
    fun s hover => does_of_pos rfl hover (completeCapture_state 2 s), fun s hheld hready hslot => galleryDrainStart_drains hheld hready hslot,
    fun s hdrain hrearm => ?drainIdle, fun s hdrain hrearm => ?drainFill, fun opcode status n s hon hn => ?retry,
    fun opcode status n s hon hn => nvmeCommandFail_fails hon hn, fun s hdrive => ?smart,
    fun v s hon hstate => nvmeDriveReady_identified hon hstate, fun v s hoff => does_of_pos rfl hoff rfl⟩
  case arm =>
    have heffect : galArmEffect w v u = .ok (galFill u) := by
      refine if_neg ?_
      have hlen : (galSources u).length ≠ 0 := mt List.length_eq_zero_iff.1 hsrc
      simp only [hon, hidle, hlen, ne_eq, not_true_eq_false, false_or]
      exact Nat.not_lt.2 hfit
    exact does_mono (does_of_reply hreach rfl heffect rfl) fun t h => ⟨h.answered, (h.num _).trans (setGal_state ..)⟩
  case armRefused =>
    have heffect : galArmEffect w v u = .no u stRange := if_pos (hno.elim .inl fun h => .inr (.inl h))
    exact does_mono (does_of_reply hreach rfl heffect rfl) fun t h => ⟨h.answered, h.objects⟩
  case trigger =>
    refine does_mono (does_of_reply hreach rfl rfl rfl) fun t h => ?_
    obtain ⟨hstate, hreasons, hnumber, htb, hsame⟩ := galTrigger_waiting hwait 3
    exact ⟨h.answered, (h.num _).trans hstate, (h.num _).trans hreasons, (h.num _).trans hnumber, (h.num _).trans htb, hsame.andThen h.objects⟩
  case ignored =>
    have hignored : galTrigger 3 u = u.inc K.galIgnored 32 := (if_neg (by simp [hidle])).trans (if_neg (by simp [hidle]))
    have heffect : galTriggerEffect w v u = .ok (u.inc K.galIgnored 32) := congrArg Reply.ok hignored
    exact does_mono (does_of_reply hreach rfl heffect rfl) fun t h =>
      ⟨h.answered, (h.num _).trans (num_set_same ..), ((SameBut.refl _ u).inc (by simp)).andThen h.objects⟩
  case abortWaiting =>
    have heffect : galAbortEffect w v u = .ok (setGal gsIdle (freeReceivers u)) := if_pos hwait
    exact does_mono (does_of_reply hreach rfl heffect rfl) fun t h => ⟨h.answered, (h.num _).trans (setGal_state ..)⟩
  case abortTriggered =>
    have heffect : galAbortEffect w v u = _ := (if_neg (by simp [htrig])).trans ((if_neg (by simp [hover])).trans (if_pos htrig))
    exact does_mono (does_of_reply hreach rfl heffect rfl) fun t h =>
      ⟨h.answered, (h.num _).trans (setGal_state ..), (h.num _).trans ((setGal_num (by decide) ..).trans (num_set_same ..))⟩
  case abortLate =>
    have htrig : u.num K.galState = gsTriggered := by
      simp only [captureOver, Bool.and_eq_true, decide_eq_true_eq] at hover
      exact hover.1
    have heffect : galAbortEffect w v u = .late (completeCapture 3 u) := (if_neg (by simp [htrig])).trans (if_pos hover)
    exact does_mono (does_of_reply hreach rfl heffect rfl) fun t h => h.answered
  case release =>
    have heffect : galReleaseEffect w v u = _ := if_pos ⟨hheld, hdrive⟩
    refine does_mono (does_of_reply hreach rfl heffect rfl) fun t h => ⟨h.answered, (h.num _).trans (setGal_state ..), ?_, SameBut.andThen ?_ h.objects⟩
    · exact (h.num _).trans ((setGal_num (by decide) ..).trans (num_set_same ..))
    · exact ((SameBut.refl _ u).set (by simp)).trans ((sameBut_setGal ..).mono (by simp))
  case releaseRefused =>
    have heffect : galReleaseEffect w v u = .no u stRange := if_neg (by tauto)
    exact does_mono (does_of_reply hreach rfl heffect rfl) fun t h => ⟨h.answered, h.objects⟩
  case format =>
    have heffect : galFormatEffect w v u = .ok (formatVolume v.int u) := (if_neg hdrain).trans (congrArg Reply.ok (if_pos hdrive))
    refine does_mono (does_of_reply hreach rfl heffect rfl) fun t h => ?_
    obtain ⟨hused, hmode, hstate, hdir, hsame⟩ := formatVolume_formats hfull v.int
    exact ⟨h.answered, (h.num _).trans hused, (h.num _).trans hmode, (h.num _).trans hstate, (h.congr (·.gal.dir) fun _ => rfl).trans hdir,
      hsame.andThen h.objects⟩
  case formatRefused =>
    exact does_mono (does_of_reply hreach rfl (if_pos hdrain) rfl) fun t h => ⟨h.answered, h.objects⟩
  case preFull => exact does_of_pos rfl ⟨hfill, hdue⟩ ⟨setGal_state .., sameBut_setGal ..⟩
  case drainIdle =>
    refine ⟨_, (exec_galleryDrainDone hdrain).trans (congrArg Host.Outcome.next (if_neg (by simp [hrearm]))), setGal_state .., ?_⟩
    exact (setGal_num (by decide) ..).trans (drainNoted_num s).1
  case drainFill => exact ⟨_, (exec_galleryDrainDone hdrain).trans (congrArg Host.Outcome.next (if_pos hrearm)), setGal_state ..⟩
  case retry =>
    refine does_of_neg rfl (not_not.2 hon) ?_
    rw [if_pos hn]
    exact ⟨List.mem_cons_self, .of_tables rfl rfl⟩
  case smart => exact does_of_pos rfl hdrive ⟨List.mem_cons_self, .of_tables rfl rfl⟩

end Sys2Proof.Machine
end

section
/-! PROOFS. The host's request index and faults (R359): no record, notice or reaction of a fault takes a frame from the request ring, so a violation
of the host's own leaves MB_REQ_CONS where it stands. -/

namespace Sys2Proof.Machine

/-- MB_REQ_CONS: how far the part has taken the host's requests. -/
def State.taken (s : State) : Nat := s.host.reqCons

theorem taken_ite {c : Prop} [Decidable c] {s t : State} {n : Nat} (hs : s.taken = n) (ht : t.taken = n) : (if c then s else t).taken = n := by
  split <;> assumption

theorem taken_forL {α : Type} {f : α → State → State} (h : ∀ a s, (f a s).taken = s.taken) (l : List α) (s : State) :
    (forL l f s).taken = s.taken := forL_fixes State.taken f h l s

theorem set_taken (k : Nat) (v : Int) (s : State) : (s.set k v).taken = s.taken := rfl

theorem irq_taken (v : Nat) (s : State) : (irq v s).taken = s.taken := taken_ite rfl rfl

/-! ### Mutes and holds (R143, R190) -/

theorem raiseCh_taken (c b : Nat) (s : State) : (raiseCh c b s).taken = s.taken := by
  unfold raiseCh
  extract_lets w x s1
  have h1 : s1.taken = s.taken := taken_ite rfl (taken_ite rfl (taken_ite rfl rfl))
  exact h1

theorem holdChan_taken (c : Nat) (h : Holder) (s : State) : (holdChan c h s).taken = s.taken := raiseCh_taken c _ _

theorem raisePort_taken (p b : Nat) (s : State) : (raisePort p b s).taken = s.taken := taken_ite rfl (irq_taken _ s)

theorem holdPort_taken (p : Nat) (h : Holder) (s : State) : (holdPort p h s).taken = s.taken := raisePort_taken p _ _

/-! ### Records and their notices (R329, R335 to R341) -/

theorem startFlush_taken (s : State) : (startFlush s).taken = s.taken := by
  unfold startFlush
  split
  · rfl
  · exact taken_ite rfl rfl

theorem bufferRec_taken (r : Rec) (s : State) : (bufferRec r s).taken = s.taken := by
  unfold bufferRec
  extract_lets n log s1 s2 s3
  have h2 : s2.taken = s.taken := taken_ite rfl rfl
  have h3 : s3.taken = s.taken := h2
  exact taken_ite ((startFlush_taken s3).trans h3) h3

theorem placeRec_taken (r : Rec) (s : State) : (placeRec r s).taken = s.taken := by
  refine taken_ite (bufferRec_taken _ s) (taken_ite ?_ rfl)
  split
  · exact bufferRec_taken ..
  · rfl

theorem enterOne_taken (r : Rec) (s : State) : (enterOne r s).taken = s.taken := taken_ite rfl (taken_ite rfl (placeRec_taken r s))

theorem enterRec_taken (r : Rec) (s : State) : (enterRec r s).taken = s.taken := by
  refine taken_ite ((enterOne_taken ..).trans ?_) (enterOne_taken r s)
  exact enterOne_taken r s

theorem notifyOne_taken (r : Rec) (m : Nat) (s : State) : (notifyOne r m s).taken = s.taken := by
  unfold notifyOne
  extract_lets x s1 o host ring
  exact taken_ite (taken_ite rfl (irq_taken ..)) (taken_ite rfl rfl)

theorem notifyAll_taken (r : Rec) (s : State) : (notifyAll r s).taken = s.taken :=
  taken_ite ((taken_forL (fun m t => notifyOne_taken r m t) _ _).trans (taken_ite (irq_taken 2 s) rfl)) rfl

theorem galTrigger_taken (reason : Nat) (s : State) : (galTrigger reason s).taken = s.taken := by
  unfold galTrigger
  extract_lets gal s1 s2 s3
  have h2 : s2.taken = s.taken := (set_taken ..).trans (set_taken ..)
  have h3 : s3.taken = s.taken := (set_taken ..).trans ((set_taken ..).trans ((set_taken ..).trans h2))
  exact taken_ite ((set_taken ..).trans ((irq_taken ..).trans ((set_taken ..).trans h3))) (taken_ite (set_taken ..) (set_taken ..))

theorem galFault_taken (w cls : Nat) (s : State) : (galFault w cls s).taken = s.taken := taken_ite (galTrigger_taken 0 s) rfl

/-! ### Sources and reactions (R318 to R326) -/

theorem setSource_taken (w : Nat) (v : Int) (s : State) : (setSource w v s).taken = s.taken := by
  unfold setSource
  extract_lets old s1 s2 s3
  have h1 : s1.taken = s.taken := taken_ite rfl rfl
  have h2 : s2.taken = s.taken := taken_ite h1 h1
  have h3 : s3.taken = s.taken := taken_ite h2 h2
  exact h3

theorem sourceAfter_taken (kind inst cls : Nat) (s : State) : (sourceAfter kind inst cls s).taken = s.taken :=
  taken_ite rfl (taken_ite (setSource_taken ..) (taken_ite (setSource_taken ..) (taken_ite rfl (taken_ite (setSource_taken ..) (taken_ite rfl rfl)))))

theorem shedSlice_taken (sl w : Nat) (s : State) : (shedSlice sl w s).taken = s.taken := by
  unfold shedSlice
  extract_lets flt s1 s2
  have h2 : s2.taken = s.taken := taken_ite rfl rfl
  exact (taken_forL (fun c t => holdChan_taken c _ t) _ s2).trans h2

theorem railOffRamp_taken (r : Nat) (s : State) : (railOffRamp r s).taken = s.taken := by
  unfold railOffRamp
  extract_lets rate s1 rail s2
  have h1 : s1.taken = s.taken := set_taken ..
  have h2 : s2.taken = s1.taken := rfl
  exact (set_taken ..).trans ((set_taken ..).trans (h2.trans h1))

theorem enterFeed_taken (f : Nat) (v : Int) (s : State) : (enterFeed f v s).taken = s.taken := set_taken ..

theorem stopPart_taken (s : State) : (stopPart s).taken = s.taken := by
  unfold stopPart
  extract_lets s1 s2
  have h1 : s1.taken = s.taken := taken_forL (fun r t => taken_ite (railOffRamp_taken r t) rfl) _ s
  have h2 : s2.taken = s1.taken := taken_forL (fun f t => taken_ite rfl (enterFeed_taken f _ t)) _ s1
  exact (set_taken ..).trans (h2.trans h1)

theorem react_taken (kind inst cls : Nat) (s : State) : (react kind inst cls s).taken = s.taken := by
  unfold react
  extract_lets w allowed s1 s2 s3
  have h1 : s1.taken = s.taken := taken_ite (holdChan_taken inst _ s) rfl
  have h2 : s2.taken = s.taken := by
    dsimp only [s2]
    split
    · exact taken_ite ((holdPort_taken ..).trans h1) h1
    · exact h1
  have h3 : s3.taken = s.taken := taken_ite ((shedSlice_taken ..).trans h2) h2
  exact taken_ite ((stopPart_taken s3).trans h3) h3

theorem faultRecord_taken (kind inst cls esc code p0 p1 p2 p3 : Nat) (s : State) :
    (faultRecord kind inst cls esc code p0 p1 p2 p3 s).taken = s.taken := by
  have hcount : (stickyClass cls (s.inc K.fltTotal 64)).taken = s.taken := taken_ite rfl rfl
  exact (react_taken ..).trans ((galFault_taken ..).trans ((notifyAll_taken ..).trans ((enterRec_taken ..).trans hcount)))

theorem escalate_taken (kind inst cls code p0 p1 p2 p3 : Nat) (s : State) : (escalate kind inst cls code p0 p1 p2 p3 s).taken = s.taken :=
  taken_ite rfl (taken_ite ((setSource_taken ..).trans (faultRecord_taken ..)) rfl)

theorem fault_taken (kind inst cls code p0 p1 p2 p3 : Nat) (s : State) : (fault kind inst cls code p0 p1 p2 p3 s).taken = s.taken :=
  (escalate_taken ..).trans ((sourceAfter_taken ..).trans (faultRecord_taken ..))

theorem freeze_taken (m code : Nat) (s : State) : (freeze m code s).taken = s.taken := by
  refine taken_ite rfl ?_
  extract_lets lvl s1 s2
  have hevent : (event (evCode 0x01 0) m code lvl 0 s1).taken = s1.taken := enterRec_taken ..
  exact (fault_taken ..).trans hevent

end Sys2Proof.Machine
end

section
/-! PROOFS. The host interface (R356 to R368): interface resets, configuration requests, the rings, causes, the mirror and the DMA engines. That an
interface reset takes bus mastering away is log entry 63, and that a block write carries the host's read pointer is log entry 62. -/

namespace Sys2Proof.Machine

/-! ### DMA engines (R365 to R368) -/

theorem sameObjects_host (s : State) (x : HostIf) : SameObjects s { s with host := x } := .of_tables rfl rfl

/-- What the engines' pointers and blocks are apart from an interrupt cause. -/
theorem irq_pointers (v e : Nat) (s : State) : wptrOf (irq v s) e = wptrOf s e ∧ rptrOf (irq v s) e = rptrOf s e ∧ fullOf (irq v s) e = fullOf s e := by
  unfold irq
  split <;> exact ⟨rfl, rfl, rfl⟩

theorem sameBut_showLoad (s : State) : SameBut [K.hostDmaLoad] s (showLoad s) := (SameBut.refl _ s).set (by simp)

theorem dmaState_ne_load (e : Nat) : K.dmaState e ≠ K.hostDmaLoad := by
  unfold K.dmaState K.hostDmaLoad
  omega

theorem dmaStop_state (e : Nat) (v : Int) (s : State) : (dmaStop e v s).num (K.dmaState e) = v :=
  ((sameBut_showLoad _).1 _ (mt List.mem_singleton.1 (dmaState_ne_load e))).trans (num_set_same ..)

theorem sameBut_dmaStop (e : Nat) (v : Int) (s : State) : SameBut [K.dmaState e, K.hostDmaLoad] s (dmaStop e v s) :=
  (((sameObjects_irq ..).sameBut _).set (by simp)).trans ((sameBut_showLoad _).mono (by simp))

theorem sameBut_writeBlock (e : Nat) (b : DmaBlock) (s : State) : SameBut [K.dmaBlocks e] s (writeBlock e b s) := by
  unfold writeBlock
  extract_lets n m flags data s1 s2
  have h1 : SameObjects s (putMark e 0 (putWptr e (n + 1) s1)) := .of_tables rfl rfl
  have h2 : SameBut [K.dmaBlocks e] s s2 := (h1.sameBut _).inc (by simp)
  exact .ite (h2.andThen (sameObjects_irq ..)) h2

theorem writeBlock_blocks (e : Nat) (b : DmaBlock) (s : State) : (writeBlock e b s).num (K.dmaBlocks e) = min (s.num (K.dmaBlocks e) + 1) (maxWord 64) := by
  unfold writeBlock
  extract_lets n m flags data s1 s2
  have h2 : s2.num (K.dmaBlocks e) = min (s.num (K.dmaBlocks e) + 1) (maxWord 64) := num_set_same ..
  exact State.num_ite (((sameObjects_irq ..).1 _).trans h2) h2

/-- A block that is written advances the write pointer alone. -/
theorem writeBlock_pointers (e : Nat) (b : DmaBlock) (s : State) : wptrOf (writeBlock e b s) e = wptrOf s e + 1 ∧
    rptrOf (writeBlock e b s) e = rptrOf s e ∧ fullOf (writeBlock e b s) e = fullOf s e := by
  unfold writeBlock
  extract_lets n m flags data s1 s2
  have h2 : wptrOf s2 e = wptrOf s e + 1 ∧ rptrOf s2 e = rptrOf s e ∧ fullOf s2 e = fullOf s e :=
    ⟨(Tab.get_put (fun _ => 0) e e (n + 1) s1.host.wptr).trans (if_pos rfl), rfl, rfl⟩
  obtain ⟨hw, hr, hf⟩ := irq_pointers (8 + e) e s2
  split
  · exact ⟨hw.trans h2.1, hr.trans h2.2.1, hf.trans h2.2.2⟩
  · exact h2

theorem sameBut_lastBlock (e : Nat) (s : State) : SameBut [K.dmaBlocks e] s (lastBlock e s) := by
  unfold lastBlock
  extract_lets l
  refine SameBut.andThen (SameBut.forL (fun b t => ?_) l s) ((sameObjects_host ..).trans (sameObjects_host ..))
  exact .ite (.refl _ t) (sameBut_writeBlock e b t)

/-- A sample that an engine takes is no object and moves no pointer. -/
theorem dmaSample_elsewhere (e : Nat) (s : State) : SameObjects s (dmaSample e s) ∧ wptrOf (dmaSample e s) e = wptrOf s e ∧
    rptrOf (dmaSample e s) e = rptrOf s e := by
  unfold dmaSample
  split
  · exact ⟨.refl s, rfl, rfl⟩
  · split
    · exact ⟨.refl s, rfl, rfl⟩
    · extract_lets s1 b b1
      have h1 : SameObjects s s1 := sameObjects_host ..
      split_ifs
      · exact ⟨h1, rfl, rfl⟩
      · exact ⟨h1.trans (sameObjects_host ..), rfl, rfl⟩
      · exact ⟨h1.trans ((sameObjects_host ..).trans (sameObjects_host ..)), rfl, rfl⟩

/-- An engine that starts: its pointers and its block emptied, and its counts at 0. -/
def dmaEmptied (e : Nat) (s : State) : State := putSeen e 0 (putFill e DmaBlock.fresh (putFull e [] (putMark e 1 (putRptr e 0 (putWptr e 0 s)))))

def dmaCounted (e : Nat) (s : State) : State :=
  (((dmaEmptied e s).set (K.dmaBlocks e) 0).set (K.dmaDropped e) 0).set (K.dmaRate e) (wholeRate (dmaRateOf s e))

def dmaShown (e : Nat) (s : State) : State := showLoad ((dmaCounted e s).set (K.dmaState e) 1)

theorem dmaStart_eq (e : Nat) (s : State) : dmaStart e s = dmaSample e (dmaShown e s) := rfl

theorem dmaEmptied_pointers (e : Nat) (s : State) : wptrOf (dmaEmptied e s) e = 0 ∧ rptrOf (dmaEmptied e s) e = 0 :=
  ⟨(Tab.get_put (fun _ => 0) e e 0 s.host.wptr).trans (if_pos rfl), (Tab.get_put (fun _ => 0) e e 0 s.host.rptr).trans (if_pos rfl)⟩

theorem dmaShown_host (e : Nat) (s : State) : (dmaShown e s).host = (dmaEmptied e s).host := rfl

theorem sameBut_dmaCounted (e : Nat) (s : State) : SameBut [K.dmaBlocks e, K.dmaDropped e, K.dmaRate e] s (dmaCounted e s) := by
  have h : SameObjects s (dmaEmptied e s) :=
    (sameObjects_host ..).trans ((sameObjects_host ..).trans ((sameObjects_host ..).trans ((sameObjects_host ..).trans
      ((sameObjects_host ..).trans (sameObjects_host ..)))))
  exact (((h.sameBut _).set (by simp)).set (by simp)).set (by simp)

theorem dmaCounted_blocks (e : Nat) (s : State) : (dmaCounted e s).num (K.dmaBlocks e) = 0 :=
  (num_set_sub (by decide) ..).trans ((num_set_sub (by decide) ..).trans (num_set_same ..))

theorem dmaStart_starts (e : Nat) (s : State) : (dmaStart e s).num (K.dmaState e) = 1 ∧ (dmaStart e s).num (K.dmaBlocks e) = 0 ∧
    wptrOf (dmaStart e s) e = 0 ∧ rptrOf (dmaStart e s) e = 0 ∧
    SameBut [K.dmaState e, K.dmaBlocks e, K.dmaDropped e, K.dmaRate e, K.hostDmaLoad] s (dmaStart e s) := by
  rw [dmaStart_eq]
  obtain ⟨hsame, hw, hr⟩ := dmaSample_elsewhere e (dmaShown e s)
  obtain ⟨hw0, hr0⟩ := dmaEmptied_pointers e s
  have hload : ∀ k, k ≠ K.hostDmaLoad → (dmaSample e (dmaShown e s)).num k = ((dmaCounted e s).set (K.dmaState e) 1).num k :=
    fun k hk => (hsame.1 k).trans ((sameBut_showLoad _).1 k (mt List.mem_singleton.1 hk))
  have hpointer : wptrOf (dmaShown e s) e = wptrOf (dmaEmptied e s) e ∧ rptrOf (dmaShown e s) e = rptrOf (dmaEmptied e s) e := by
    unfold wptrOf rptrOf
    rw [dmaShown_host]
    exact ⟨rfl, rfl⟩
  refine ⟨(hload _ (dmaState_ne_load e)).trans (num_set_same ..),
    (hload _ (key_ne (by decide))).trans ((num_set_sub (by decide) ..).trans (dmaCounted_blocks e s)),
    hw.trans (hpointer.1.trans hw0), hr.trans (hpointer.2.trans hr0), SameBut.andThen ?_ hsame⟩
  exact (((sameBut_dmaCounted e s).mono (by simp)).set (by simp)).trans ((sameBut_showLoad _).mono (by simp))

/-! ### Block writes (R366) -/

/-- An engine that runs, its oldest full block taken and its read pointer as the host left it. -/
def blockTaken (e rptr : Nat) (rest : List DmaBlock) (s : State) : State :=
  if rptrOf s e ≤ rptr ∧ rptr ≤ wptrOf s e then putRptr e rptr (putFull e rest s) else putFull e rest s

theorem exec_dmaBlockWrite {e rptr : Nat} {first inv step : Report} {b : DmaBlock} {rest : List DmaBlock} {s : State}
    (hrun : s.num (K.dmaState e) = 1) (hfull : fullOf s e = b :: rest) : exec (.dmaBlockWrite e first rptr inv step) s =
      .next (if (!ringFull (blockTaken e rptr rest s) e) = true then writeBlock e b (blockTaken e rptr rest s)
        else if (blockTaken e rptr rest s).num (K.dmaOverflow e) = 0 then dmaStop e 2 (blockTaken e rptr rest s)
        else irq (8 + e) (putMark e (bitSet (markOf (blockTaken e rptr rest s) e) 1) ((blockTaken e rptr rest s).inc (K.dmaDropped e) 32))) := by
  have hexec : exec (.dmaBlockWrite e first rptr inv step) s = execDmaBlockWrite e first rptr inv step s := rfl
  simp only [execDmaBlockWrite, hfull, if_neg (not_not.2 hrun)] at hexec
  exact hexec

theorem dmaBlockWrite_writes {e rptr : Nat} {first inv step : Report} {b : DmaBlock} {rest : List DmaBlock} {s : State}
    (hrun : s.num (K.dmaState e) = 1) (hfull : fullOf s e = b :: rest) (hlo : rptrOf s e ≤ rptr) (hhi : rptr ≤ wptrOf s e)
    (hroom : wptrOf s e < rptr + s.nat (K.dmaRingBlocks e)) : Does (.dmaBlockWrite e first rptr inv step) s (fun t =>
      wptrOf t e = wptrOf s e + 1 ∧ rptrOf t e = rptr ∧ fullOf t e = rest ∧ t.num (K.dmaBlocks e) = min (s.num (K.dmaBlocks e) + 1) (maxWord 64) ∧
      SameBut [K.dmaBlocks e] s t) := by
  have htaken : blockTaken e rptr rest s = putRptr e rptr (putFull e rest s) := if_pos ⟨hlo, hhi⟩
  have hr : rptrOf (putRptr e rptr (putFull e rest s)) e = rptr := (Tab.get_put (fun _ => 0) e e rptr s.host.rptr).trans (if_pos rfl)
  have hf : fullOf (putRptr e rptr (putFull e rest s)) e = rest := (Tab.get_put (fun _ => []) e e rest s.host.dmaFull).trans (if_pos rfl)
  have hring : ringFull (putRptr e rptr (putFull e rest s)) e = false := by
    unfold ringFull
    rw [hr]
    exact decide_eq_false (Nat.not_le.2 hroom)
  have hexec := exec_dmaBlockWrite (rptr := rptr) (first := first) (inv := inv) (step := step) hrun hfull
  rw [htaken, hring] at hexec
  have hsame : SameObjects s (putRptr e rptr (putFull e rest s)) := .of_tables rfl rfl
  obtain ⟨hw, hr', hf'⟩ := writeBlock_pointers e b (putRptr e rptr (putFull e rest s))
  exact ⟨_, hexec, hw, hr'.trans hr, hf'.trans hf, writeBlock_blocks .., (hsame.sameBut _).trans (sameBut_writeBlock ..)⟩

theorem dmaBlockWrite_stops {e rptr : Nat} {first inv step : Report} {b : DmaBlock} {rest : List DmaBlock} {s : State}
    (hrun : s.num (K.dmaState e) = 1) (hfull : fullOf s e = b :: rest) (hback : rptr < rptrOf s e) (hring : ringFull s e = true)
    (hstop : s.num (K.dmaOverflow e) = 0) : Does (.dmaBlockWrite e first rptr inv step) s (fun t =>
      t.num (K.dmaState e) = 2 ∧ SameBut [K.dmaState e, K.hostDmaLoad] s t) := by
  have htaken : blockTaken e rptr rest s = putFull e rest s := if_neg fun h => Nat.not_le.2 hback h.1
  have hring' : ringFull (putFull e rest s) e = true := hring
  have hstop' : (putFull e rest s).num (K.dmaOverflow e) = 0 := hstop
  have hexec := exec_dmaBlockWrite (rptr := rptr) (first := first) (inv := inv) (step := step) hrun hfull
  rw [htaken, hring', if_neg (by decide), if_pos hstop'] at hexec
  have hsame : SameObjects s (putFull e rest s) := .of_tables rfl rfl
  exact ⟨_, hexec, dmaStop_state .., (hsame.sameBut _).trans (sameBut_dmaStop ..)⟩

/-- A link that was up, trained again. -/
def retrained (link : Nat) (s : State) : State :=
  ((s.inc K.hostRetrains 32).set K.hostLink (link : Nat)).set K.hostDmaCap (wholeRate (dmaCap link))

theorem sameBut_retrained (link : Nat) (s : State) : SameBut [K.hostLink, K.hostDmaCap, K.hostRetrains] s (retrained link s) :=
  (((SameBut.refl _ s).inc (by simp)).set (by simp)).set (by simp)

theorem retrained_running (link : Nat) (s : State) : dmaRunning (retrained link s) = dmaRunning s := by
  have hstate : ∀ e, (retrained link s).num (K.dmaState e) = s.num (K.dmaState e) := by
    intro e
    refine (sameBut_retrained link s).1 _ ?_
    simp only [List.mem_cons, List.not_mem_nil, or_false, not_or, K.dmaState, K.hostLink, K.hostDmaCap, K.hostRetrains]
    omega
  unfold dmaRunning
  simp only [hstate]

/-- With no engine running a retrain has none to stop. -/
theorem exec_pcieLinkRetrain_idle {link : Nat} {s : State} (hidle : dmaRunning s = []) (hup : s.num K.hostLink ≠ 0) :
    exec (.pcieLinkRetrain link) s = .next (retrained link s) := by
  have hnone : dmaRunning (retrained link s) = [] := (retrained_running link s).trans hidle
  have hexec : exec (.pcieLinkRetrain link) s = execPcieLinkRetrain link s := rfl
  simp only [execPcieLinkRetrain, if_neg hup] at hexec
  rw [← retrained, hnone] at hexec
  exact hexec.trans (congrArg Host.Outcome.next (if_pos hnone))

theorem pcieLinkRetrain_idle {link : Nat} {s : State} (hidle : dmaRunning s = []) (hup : s.num K.hostLink ≠ 0) :
    Does (.pcieLinkRetrain link) s (fun t => t.num K.hostLink = (link : Nat) ∧ t.num K.hostDmaCap = wholeRate (dmaCap link) ∧
      t.num K.hostRetrains = min (s.num K.hostRetrains + 1) (maxWord 32) ∧ SameBut [K.hostLink, K.hostDmaCap, K.hostRetrains] s t) := by
  refine ⟨_, exec_pcieLinkRetrain_idle hidle hup, (num_set_sub (by decide) ..).trans (num_set_same ..), num_set_same .., ?_, sameBut_retrained ..⟩
  exact (num_set_sub (by decide) ..).trans ((num_set_sub (by decide) ..).trans (num_set_same ..))

/-! ### The rings (R359 to R361) -/

theorem exec_mbReqProd {v : Nat} {slots : List Slot} {s : State} (hs : s.serving = true) : ∃ ring : Tab (List Byte), exec (.mbReqProd v slots) s =
    .next (if 2048 < indexStep s.host.reqCons v then (if s.num (K.mrFrozen 1) = 0 then
        freeze 1 stMalformed { s with host := { s.host with reqProd := v % 65536, reqRing := ring } }
        else { s with host := { s.host with reqProd := v % 65536, reqRing := ring } })
      else forL ((List.range (indexStep s.host.reqCons v)).map (fun i => (slots[i]?).getD [])) takeSlot
        { s with host := { s.host with reqProd := v % 65536, reqRing := ring } }) :=
  ⟨_, congrArg Host.Outcome.next (if_neg (by simp [hs]))⟩

/-- A response to the host goes into the ring that has room, and takes no request. -/
theorem ringFrame_room {o : Out} {s : State} (hheld : s.host.held = []) (hroom : s.host.rspProd < s.host.rspCons + 2048) :
    o ∈ (ringFrame o s).out ∧ (ringFrame o s).host.reqCons = s.host.reqCons ∧ SameObjects s (ringFrame o s) := by
  have hframe : ringFrame o s = putResponse o s := if_pos ⟨hheld, hroom⟩
  rw [hframe]
  unfold putResponse irq
  split
  · exact ⟨List.mem_cons_self, rfl, .of_tables rfl rfl⟩
  · exact ⟨List.mem_cons_of_mem _ List.mem_cons_self, rfl, .of_tables rfl rfl⟩

theorem takeSlot_frozen {slot : Slot} {s : State} (hs : s.serving = true) (hfrozen : s.num (K.mrFrozen 1) ≠ 0) (hheld : s.host.held = [])
    (hroom : s.host.rspProd < s.host.rspCons + 2048) (hkind : leAt (padTo 64 slot) 0 1 / 32 ≠ 6) :
    (takeSlot slot s).host.reqCons = (s.host.reqCons + 1) % 65536 ∧ SameObjects s (takeSlot slot s) ∧
      ∃ kind seq i sub, Out.response 1 kind seq i sub stFrozen 0 false [] ∈ (takeSlot slot s).out := by
  unfold takeSlot
  extract_lets b kind host s1
  rw [if_neg hkind, request_frozen (m := 1) (s := s1) rfl hs hfrozen]
  obtain ⟨hout, hcons, hsame⟩ := ringFrame_room (o := .response 1 kind (slotFrame b).seq (slotFrame b).index (slotFrame b).sub stFrozen 0 false [])
    (s := s1) hheld hroom
  exact ⟨hcons, SameObjects.trans (.of_tables rfl rfl) hsame, _, _, _, _, hout⟩

/-- Settles O55: the host's own fields are written where they stand, and of the objects each command writes only those of its engine or its link. -/
theorem hostInterfaceActs : Obligations.HostInterfaceActs := by
  unfold Obligations.HostInterfaceActs
  refine ⟨fun down s => ?reset, fun bme s hs => ?retry, fun s hs => ?master, fun s hs => ?noMaster, fun v slots s hs hn => ?noFrame,
    fun v slot s hs hn hfrozen hheld hroom hkind => ?frozen, fun v slots s hs hn hfree => ?malformed, fun rsp ntf s hs hheld hrsp hntf => ?rspCons,
    fun i v s => ⟨_, rfl, .of_tables rfl rfl, rfl⟩, fun s => ⟨_, rfl, rfl, rfl, rfl, .of_tables rfl rfl⟩,
    fun e rptr first inv step b rest s _ hrun hfull hlo hhi hroom => dmaBlockWrite_writes hrun hfull hlo hhi hroom,
    fun e rptr first inv step b rest s _ hrun hfull hback hring hstop => dmaBlockWrite_stops hrun hfull hback hring hstop,
    fun e f w s u hreach hon hmay => ?start, fun e f w s u hreach hon hmay => ?startRefused, fun e f w s u hreach hon hrun => ?stop,
    fun link s hidle hup => pcieLinkRetrain_idle hidle hup, fun s => ⟨_, rfl, rfl⟩⟩
  case reset =>
    refine ⟨_, rfl, ?_⟩
    cases down
    · exact ⟨rfl, rfl, rfl, rfl, rfl, rfl, rfl, rfl, fun h => absurd h (by decide)⟩
    · exact ⟨rfl, rfl, rfl, rfl, rfl, rfl, rfl, rfl, fun _ => num_set_same ..⟩
  case retry => exact does_of_pos rfl (by simp [hs]) ⟨List.mem_cons_self, rfl, .of_tables rfl rfl⟩
  case master => exact does_of_neg rfl (by simp [hs]) ⟨List.mem_cons_self, rfl, .of_tables rfl rfl⟩
  case noMaster => exact does_of_neg rfl (by simp [hs]) rfl
  case noFrame =>
    obtain ⟨ring, hexec⟩ := exec_mbReqProd (v := v) (slots := slots) hs
    rw [hn, if_neg (by decide)] at hexec
    exact ⟨_, hexec, rfl, rfl, .of_tables rfl rfl⟩
  case frozen =>
    obtain ⟨ring, hexec⟩ := exec_mbReqProd (v := v) (slots := [slot]) hs
    rw [hn, if_neg (by decide)] at hexec
    obtain ⟨hcons, hsame, hout⟩ :=
      takeSlot_frozen (slot := slot) (s := { s with host := { s.host with reqProd := v % 65536, reqRing := ring } }) hs hfrozen hheld hroom hkind
    exact ⟨_, hexec, hcons, SameObjects.trans (.of_tables rfl rfl) hsame, hout⟩
  case malformed =>
    obtain ⟨ring, hexec⟩ := exec_mbReqProd (v := v) (slots := slots) hs
    rw [if_pos hn, if_pos hfree] at hexec
    have h := freeze_frozenWith (m := 1) (by decide) stMalformed { s with host := { s.host with reqProd := v % 65536, reqRing := ring } }
    exact ⟨_, hexec, h.frozen, h.observer, freeze_taken ..⟩
  case rspCons =>
    have hexec : exec (.mbRspCons rsp ntf) s = execMbRspCons rsp ntf s := rfl
    simp only [execMbRspCons, hs, Bool.not_true, Bool.false_eq_true, if_false, hheld, if_pos hrsp, if_pos hntf] at hexec
    exact ⟨_, hexec, rfl, rfl, .of_tables rfl rfl⟩
  case start =>
    have heffect : dmaRunEffect e w (.num 1) u = .ok (dmaStart e u) := (if_neg (not_not.2 hon)).trans ((if_pos rfl).trans (if_pos hmay))
    refine does_mono (does_of_reply hreach rfl heffect rfl) fun t h => ?_
    obtain ⟨hstate, hblocks, hw, hr, hsame⟩ := dmaStart_starts e u
    exact ⟨h.answered, (h.num _).trans hstate, (h.num _).trans hblocks, (h.congr (wptrOf · e) fun _ => rfl).trans hw,
      (h.congr (rptrOf · e) fun _ => rfl).trans hr, hsame.andThen h.objects⟩
  case startRefused =>
    have heffect : dmaRunEffect e w (.num 1) u = .no u stRange := (if_neg (not_not.2 hon)).trans ((if_pos rfl).trans (if_neg (by simp [hmay])))
    exact does_mono (does_of_reply hreach rfl heffect rfl) fun t h => ⟨h.answered, h.objects⟩
  case stop =>
    have heffect : dmaRunEffect e w (.num 0) u = .ok (dmaStop e 0 (lastBlock e u)) :=
      (if_neg (not_not.2 hon)).trans ((if_neg (by simp [Val.int])).trans (congrArg Reply.ok (if_pos hrun)))
    refine does_mono (does_of_reply hreach rfl heffect rfl) fun t h => ⟨h.answered, (h.num _).trans (dmaStop_state ..), SameBut.andThen ?_ h.objects⟩
    exact ((sameBut_lastBlock e u).mono (by simp)).trans ((sameBut_dmaStop ..).mono (by simp))

end Sys2Proof.Machine
end

section
/-! PROOFS. The Cloister (R372 to R383): records that are accepted and rejected, levels, permits, tamper and firmware. What verifies a signature, a key
and a digest is free (log entry 4), so each clause follows both answers; that a response with no challenge gives result 3 is log entry 65. -/

namespace Sys2Proof.Machine

/-! ### The objects of the Cloister, apart from faults and from the channels' permits -/

/-- The objects of the Cloister that its records write: its state, its revocation sequences and its permit slots. -/
def CloisterKey (k : Nat) : Prop := k / 256 = 0x7900 ∨ k / 256 = 0x7902 ∨ k / 256 = 0x7911

theorem not_faultWrites_of_cloister {k : Nat} (hk : CloisterKey k) : ¬ FaultWrites k := by
  unfold CloisterKey at hk
  rintro (h | h | h | (⟨kind, i, hkind, hi, h⟩ | ⟨i, hi, h⟩) | (⟨r, hr, h⟩ | ⟨f, hf, h⟩))
  · simp only [recordKeys, List.mem_cons, List.not_mem_nil, or_false, K.recNext, K.recBuffered, K.recDropped, K.recPermFull] at h
    omega
  · simp only [triggerKeys, List.mem_cons, List.not_mem_nil, or_false, K.galTriggerTb, K.galPreActual, K.galNumber, K.galStatus, K.galTag,
      K.galReasons, K.galState, K.galIgnored] at h
    omega
  · simp only [faultTotals, List.mem_cons, List.not_mem_nil, or_false, K.fltTotal, K.fltSticky, K.fltSevereCount, K.fltSealedCount,
      K.fltStopped, K.hostNtfDropped] at h
    omega
  · unfold K.fcCount K.fcState at h
    omega
  · unfold K.portMutes K.chMutes K.pdState at h
    omega
  · unfold K.rlVref K.rlPg K.rlState at h
    omega
  · unfold K.fdState at h
    omega

theorem not_channelKey_of_cloister {k : Nat} (hk : CloisterKey k) : ¬ ChannelKey k := by
  unfold CloisterKey at hk
  unfold ChannelKey
  omega

theorem reviewPermits_num {k : Nat} (hk : CloisterKey k) (s : State) : (reviewPermits s).num k = s.num k := by
  refine forL_num (fun c hc t => ?_) s
  have hlt : c < 512 := started_lt hc
  have hslot : k ≠ K.secChPermit c := by
    unfold CloisterKey at hk
    unfold K.secChPermit
    omega
  have htake : (takePermit c t).num k = t.num k := takePermit_num hlt (not_channelKey_of_cloister hk) hslot t
  exact State.num_ite ((fault_num_of_not_writes (not_faultWrites_of_cloister hk) (by decide) (by omega) ..).trans htake) htake

/-! ### Octets and permits -/

theorem State.blob_ite {c : Prop} [Decidable c] {s t : State} {x : Tab (List Byte)} (hs : s.blob = x) (ht : t.blob = x) :
    (if c then s else t).blob = x := by split <;> assumption

theorem fault_blob (kind inst cls code p0 p1 p2 p3 : Nat) (s : State) : (fault kind inst cls code p0 p1 p2 p3 s).blob = s.blob :=
  congrArg (·.blob) (fault_pastFaults kind inst cls code p0 p1 p2 p3 s)

theorem setGain_blob (c : Nat) (g : Int) (s : State) : (setGain c g s).blob = s.blob := rfl

theorem reload_blob (c : Nat) (s : State) : (reload c s).blob = s.blob := by
  unfold reload
  extract_lets pRes x s1 s2 s3 s4 chan s5
  have h1 : s1.blob = s.blob := rfl
  have h3 : s3.blob = s1.blob := rfl
  have h4 : s4.blob = s3.blob := setGain_blob ..
  exact ((State.set_blob ..).trans (State.setChan_blob ..)).trans (h4.trans (h3.trans h1))

theorem releaseCh_blob (c b : Nat) (s : State) : (releaseCh c b s).blob = s.blob := by
  refine State.blob_ite rfl (State.blob_ite (State.blob_ite (reload_blob ..) (State.blob_ite rfl rfl)) (State.blob_ite (State.blob_ite rfl ?_) rfl))
  exact reload_blob ..

theorem showPermit_blob (c : Nat) (n : Option Nat) (s : State) : (showPermit c n s).blob = s.blob := by
  cases n <;> rfl

theorem takePermit_blob (c : Nat) (s : State) : (takePermit c s).blob = s.blob := by
  unfold takePermit
  extract_lets n s1
  have h1 : s1.blob = s.blob := showPermit_blob ..
  cases n with
  | some _ => exact (releaseCh_blob ..).trans h1
  | none => exact (congrArg (·.blob) (raiseCh_pastFaults c cmPermit s1)).trans h1

theorem reviewPermits_blob (s : State) : (reviewPermits s).blob = s.blob := by
  refine forL_fixes State.blob reviewPermit (fun c t => ?_) s.started s
  exact State.blob_ite ((fault_blob ..).trans (takePermit_blob c t)) (takePermit_blob c t)

theorem reviewPermits_oct (s : State) (k : Nat) : (reviewPermits s).oct k = s.oct k := State.oct_congr (reviewPermits_blob s) k

/-- A permanent record writes the recorder's objects alone. -/
theorem sameBut_eventPerm (code p0 p1 p2 p3 : Nat) (s : State) : SameBut recordKeys s (eventPerm code p0 p1 p2 p3 s) := sameBut_enterRec ..

theorem eventPerm_num {k : Nat} (hk : CloisterKey k) (code p0 p1 p2 p3 : Nat) (s : State) : (eventPerm code p0 p1 p2 p3 s).num k = s.num k :=
  num_of_recordKeys (not_faultWrites_of_cloister hk) (sameBut_eventPerm ..)

theorem eventPerm_sec (code p0 p1 p2 p3 : Nat) (s : State) : (eventPerm code p0 p1 p2 p3 s).sec = s.sec :=
  congrArg (·.sec) (enterRec_pastFaults _ s)

/-! ### Records (R373 to R375, R379, R382) -/

/-- A record that is rejected is answered RANGE. -/
theorem does_of_reject {k : Nat} {f : Frame} {v : Val} {w : Who} {s u v' : State} {c : Instr} {effect : Who → Val → State → Reply} {sub why : Nat}
    (hreach : reaches k f s = some (w, v, u)) (hc : exec c s = .next (requestWrite k f s effect)) (heffect : effect w v u = reject sub why v') :
    Does c s (fun t => Answered t w stRange) := does_mono (does_of_reply hreach hc heffect rfl) fun _ h => h.answered

theorem recordFault_cases {s : State} {ok : Bool} {root seq : Nat} {msg sig : List Byte} :
    recordFault s ok root seq msg sig = none ∨ ∃ why, recordFault s ok root seq msg sig = some why := by
  cases recordFault s ok root seq msg sig with
  | none => exact .inl rfl
  | some why => exact .inr ⟨why, rfl⟩

theorem rootInstall_enrols {w : Who} {b : List Byte} {u : State} (hformat : rootFormat b = true) (henrol : leAt b 7 1 = 0xFF) (hadd : leAt b 5 1 = 0)
    (hstate : u.num K.secState = 0) (hdirect : w.tunnel = false) (hflow : w.flow = 1 ∨ w.flow = 2) (hown : ownSerial (leAt b 8 8) = true) :
    rootInstallEffect w (.oct b) u = .ok ({ applyRoot b u with sec := { u.sec with enrolled := true } }.set K.secState 1) := by
  have hmay : ¬ (u.num K.secState ≠ 0 ∨ leAt b 5 1 ≠ 0 ∨ w.tunnel = true ∨ (w.flow ≠ 1 ∧ w.flow ≠ 2)) := by
    rintro (h | h | h | ⟨h1, h2⟩)
    · exact h hstate
    · exact h hadd
    · exact absurd (hdirect.symm.trans h) (by decide)
    · exact hflow.elim h1 h2
  exact (if_neg (by simp [Val.octs, hformat])).trans ((if_pos henrol).trans ((if_neg (by simp [Val.octs, hown])).trans (if_neg hmay)))

theorem rootInstall_foreign {w : Who} {b : List Byte} {u : State} (hformat : rootFormat b = true) (henrol : leAt b 7 1 = 0xFF)
    (hown : ownSerial (leAt b 8 8) = false) : rootInstallEffect w (.oct b) u = reject 0x04 rjSerial u :=
  (if_neg (by simp [Val.octs, hformat])).trans ((if_pos henrol).trans (if_pos (by simp [Val.octs, hown])))

/-- A credential accepted: its sequence taken, its key and its level kept. -/
def credTaken (b : List Byte) (s : State) : State :=
  { takeSequence (leAt b 5 1) (leAt b 16 4) s with
    sec := { s.sec with creds := Tab.put (fun _ => []) (leAt b 4 1) (Config.unwrapKey b) s.sec.creds } }.setBit K.secCredLevels (leAt b 4 1)

theorem credInstallEffect_none {w : Who} {b : List Byte} {u : State} (hformat : credFormat b = true)
    (hfault : recordFault u (ownSerial (leAt b 8 8)) (leAt b 5 1) (leAt b 16 4) (b.take 136) (b.drop 136) = none) :
    credInstallEffect w (.oct b) u = if !Config.unwrapOk b then reject 0x05 rjSignature u else .ok (credTaken b u) := by
  simp only [credInstallEffect, Val.octs, hformat, Bool.not_true, Bool.false_eq_true, if_false, hfault]
  rfl

theorem credInstallEffect_some {w : Who} {b : List Byte} {u : State} {why : Nat} (hformat : credFormat b = true)
    (hfault : recordFault u (ownSerial (leAt b 8 8)) (leAt b 5 1) (leAt b 16 4) (b.take 136) (b.drop 136) = some why) :
    credInstallEffect w (.oct b) u = reject 0x05 why u := by
  simp only [credInstallEffect, Val.octs, hformat, Bool.not_true, Bool.false_eq_true, if_false, hfault]

theorem revokeEffect_eq {w : Who} {b : List Byte} {u : State} (hformat : revokeFormat b = true) :
    revokeEffect w (.oct b) u = match recordFault u (ownSerial (leAt b 8 8) || decide (leAt b 8 8 = 0)) (leAt b 5 1) (leAt b 16 4)
      (b.take (b.length - 64)) (b.drop (b.length - 64)) with
      | some why => reject 0x0E why u
      | none => .ok (applyList b u) := if_neg (by simp [Val.octs, hformat])

/-- A revocation list stands with its sequence, whatever it revokes. -/
theorem applyList_sequence {b : List Byte} (hr : leAt b 5 1 < 8) (s : State) :
    (applyList b s).num (K.secRevSeqN (leAt b 5 1)) = (leAt b 16 4 : Nat) := by
  have hkey : CloisterKey (K.secRevSeqN (leAt b 5 1)) := by
    unfold CloisterKey K.secRevSeqN
    omega
  unfold applyList
  extract_lets r sec s1 hit s2 lost
  have h2 : s2.num (K.secRevSeqN r) = (leAt b 16 4 : Nat) := by
    refine (forL_num (fun n _ t => (State.num_set ..).trans (if_neg ?_)) _).trans (num_set_same ..)
    unfold K.secRevSeqN K.secPermitState
    omega
  exact (reviewPermits_num hkey _).trans ((eventPerm_num hkey ..).trans h2)

theorem permitSlot_lt {s : State} {n : Nat} (h : permitSlot s = some n) : n < 64 := by
  unfold permitSlot at h
  cases hempty : (List.range 64).find? (fun n => decide (s.num (K.secPermitState n) = 0)) with
  | some m =>
    rw [hempty, Option.orElse_some] at h
    exact Option.some.inj h ▸ List.mem_range.1 (List.mem_of_find?_eq_some hempty)
  | none =>
    rw [hempty, Option.orElse_none] at h
    exact List.mem_range.1 (List.mem_of_find?_eq_some h)

theorem installPermit_slot {n : Nat} (hn : n < 64) (b : List Byte) (s : State) : (installPermit n b s).oct (K.secPermit n) = b ∧
    (installPermit n b s).num (K.secPermitState n) = 1 := by
  have hkey : CloisterKey (K.secPermitState n) := by
    unfold CloisterKey K.secPermitState
    omega
  unfold installPermit
  extract_lets s1
  have hoct : s1.oct (K.secPermit n) = b := (State.oct_setOct ..).trans (if_pos rfl)
  refine ⟨(reviewPermits_oct ..).trans ?_, (reviewPermits_num hkey _).trans ((eventPerm_num hkey ..).trans (num_set_same ..))⟩
  exact (State.oct_congr (congrArg (·.blob) (enterRec_pastFaults _ s1)) _).trans hoct

theorem permitInstallEffect_eq {w : Who} {b : List Byte} {n : Nat} {u : State} (hformat : permitFormat b = true) (hheld : heldPermits u = [])
    (hfree : idRevoked u (pmRoot b) (pmId b) = false) (hslot : permitSlot u = some n) : permitInstallEffect w (.oct b) u =
      if !ownSerial (leAt b 8 8) then reject 0x0D rjSerial u
      else if !signedBy u (pmRoot b) (b.take 64) (b.drop 64) then reject 0x0D rjSignature u
      else .ok (installPermit n b u) := by
  simp only [permitInstallEffect, Val.octs, hformat, hheld, hfree, hslot, Bool.not_true, Bool.false_eq_true, if_false, List.any_nil]

/-! ### Levels (R376, R377) -/

theorem leBytes_length (n : Nat) (v : Int) : (leBytes n v).length = n := by
  induction n generalizing v with
  | zero => rfl
  | succ n ih => exact congrArg Nat.succ (ih _)

theorem authFailed_leaves (m l status : Nat) (s : State) : ((authFailed m l status s).master m).auth = status ∧
    ((authFailed m l status s).master m).challenge = none ∧
    (authFailed m l status s).num K.secAuthFails = (min (s.nat K.secAuthFails + 1) 255 : Nat) := by
  unfold authFailed
  extract_lets k s1 s2
  have h1 : s1.num K.secAuthFails = (k : Nat) := num_set_same ..
  have h2 : s2.num K.secAuthFails = (k : Nat) := State.num_ite ((num_set_sub (by decide) ..).trans h1) h1
  refine ⟨?_, ?_, h2⟩ <;> simp

/-- The expected response, and any other. -/
theorem responseEffect_challenged {w : Who} {v : Val} {l due : Nat} {c : List Byte} {u : State} (hc : (u.master w.flow).challenge = some (l, c, due))
    (hdue : u.time.now < due) : responseEffect w v u =
      .ok (if v.octs = expectedResponse u w.flow l c then authPassed w.flow l u else authFailed w.flow l 3 u) := by
  unfold responseEffect
  rw [hc]
  exact congrArg Reply.ok (if_neg (Nat.not_le.2 hdue))

theorem responseEffect_unchallenged {w : Who} {v : Val} {u : State} (hc : (u.master w.flow).challenge = none) :
    responseEffect w v u = .ok (authFailed w.flow 0 3 u) := by
  unfold responseEffect
  rw [hc]

/-! ### Tamper (R372) -/

theorem tamper_seals (cause offset : Nat) (s : State) : Does (.tamper cause offset) s (fun t => t.num K.secState = 2) :=
  ⟨_, rfl, (reviewPermits_num (by unfold CloisterKey K.secState; omega) _).trans (num_set_same ..)⟩

/-- Settles O56: a record that is rejected is a fault and RANGE, and what one that is accepted writes neither its record nor the review of the
permits writes again. -/
theorem cloisterAnswers : Obligations.CloisterAnswers := by
  unfold Obligations.CloisterAnswers
  refine ⟨fun f w b s u hreach hformat henrol hadd hstate hdirect hflow => ?root, fun f w b s u hreach hformat => ?rootFormat,
    fun f w b s u hreach hformat => ?cred, fun f w l s u hreach hstate hlock hlevel hdirect => ?unlock, fun f w l s u hreach hno => ?unlockRefused,
    fun f w v l due c s u hreach hc hdue => ?response, fun f w v s u hreach hc => ?noChallenge, fun m l due c s hc hdue => ?expire,
    fun s hend hover => ?lockout, fun f w b n s u hreach hformat hheld hfree hslot => ?permit, fun f w b s u hreach hformat => ?revoke,
    fun cause offset s => tamper_seals cause offset s, fun f w b s u hreach hfit => ?fwWrite, fun f w v s u hreach => ?fwCommit,
    fun f w v s u hreach => ?fwConfirm⟩
  case root =>
    cases hown : ownSerial (leAt b 8 8) with
    | true =>
      refine does_mono (does_of_reply hreach rfl (rootInstall_enrols hformat henrol hadd hstate hdirect hflow hown) rfl) fun t h => ?_
      exact ⟨fun _ => ⟨h.answered, (h.num _).trans (num_set_same ..), h.congr (·.sec.enrolled) fun _ => rfl⟩, fun hc => absurd hc (by decide)⟩
    | false =>
      refine does_mono (does_of_reject hreach rfl (rootInstall_foreign hformat henrol hown)) fun t h => ?_
      exact ⟨fun hc => absurd hc (by decide), fun _ => h⟩
  case rootFormat =>
    have heffect : rootInstallEffect w (.oct b) u = reject 0x04 rjFormat u := if_pos (by simp [Val.octs, hformat])
    exact does_of_reject hreach rfl heffect
  case cred =>
    have hroot : leAt b 5 1 < 8 := by
      simp only [credFormat, Bool.and_eq_true, decide_eq_true_eq] at hformat
      exact hformat.1.1.2
    obtain hnone | ⟨why, hwhy⟩ := recordFault_cases (s := u) (ok := ownSerial (leAt b 8 8)) (root := leAt b 5 1) (seq := leAt b 16 4)
      (msg := b.take 136) (sig := b.drop 136)
    · have heffect := credInstallEffect_none (w := w) hformat hnone
      cases hkey : Config.unwrapOk b with
      | true =>
        rw [hkey, if_neg (by decide)] at heffect
        refine does_mono (does_of_reply hreach rfl heffect rfl) fun t h => ⟨fun _ _ => ⟨h.answered, ?_, ?_⟩, ?_⟩
        · exact (h.objects.bit ..).trans (State.bit_setBit_self ..)
        · have hseq : K.secRevSeqN (leAt b 5 1) ≠ K.secCredLevels := by
            unfold K.secRevSeqN K.secCredLevels
            omega
          exact (h.num _).trans (((State.num_setBit ..).trans (if_neg hseq)).trans (num_set_same ..))
        · exact fun hc => hc.elim (fun hf => absurd hnone hf) (fun hf => absurd hf (by decide))
      | false =>
        rw [hkey, if_pos (by decide)] at heffect
        exact does_mono (does_of_reject hreach rfl heffect) fun t h => ⟨fun _ hc => absurd hc (by decide), fun _ => h⟩
    · refine does_mono (does_of_reject hreach rfl (credInstallEffect_some (w := w) hformat hwhy)) fun t h => ⟨fun hc => ?_, fun _ => h⟩
      rw [hwhy] at hc
      cases hc
  case unlock =>
    have hmay : ¬ (u.num K.secState = 2 ∨ lockedOut u = true ∨ (!u.bit K.secCredLevels l) = true ∨ w.tunnel = true) := by simp [hstate, hlock, hlevel, hdirect]
    have heffect : unlockEffect w (.num (l : Int)) u = .ok (u.drawn.setMaster w.flow { u.master w.flow with
      challenge := some (l, leBytes 16 u.fresh, u.time.now + 10 * secTicks), auth := 1 }) := if_neg hmay
    refine does_mono (does_of_reply hreach rfl heffect rfl) fun t h => ⟨h.answered, ⟨_, (h.challenge _).trans ?_, leBytes_length 16 u.fresh⟩, ?_, ?_⟩
    · simp [Reply.ok]
    · exact (h.auth _).trans (by simp [Reply.ok])
    · exact SameObjects.trans (.of_tables rfl rfl) h.objects
  case unlockRefused =>
    have heffect : unlockEffect w (.num (l : Int)) u = .no u stRange := by
      refine if_pos ?_
      obtain hseal | hlock | hlevel := hno
      · exact .inl hseal
      · exact .inr (.inl hlock)
      · exact .inr (.inr (.inl (by simp [Val.int, hlevel])))
    exact does_mono (does_of_reply hreach rfl heffect rfl) fun t h => ⟨h.answered, h.objects⟩
  case response =>
    refine does_mono (does_of_reply hreach rfl (responseEffect_challenged hc hdue) rfl) fun t h => ⟨h.answered, fun hright => ?_, fun hwrong => ?_⟩
    · refine (h.num _).trans ?_
      rw [if_pos hright]
      exact num_set_same ..
    · obtain ⟨hauth, hchallenge, -⟩ := authFailed_leaves w.flow l 3 u
      rw [if_neg hwrong] at h
      exact ⟨(h.auth _).trans hauth, (h.challenge _).trans hchallenge⟩
  case noChallenge =>
    refine does_mono (does_of_reply hreach rfl (responseEffect_unchallenged hc) rfl) fun t h => ?_
    obtain ⟨hauth, -, hfails⟩ := authFailed_leaves w.flow 0 3 u
    refine ⟨h.answered, (h.auth _).trans hauth, ((h.num _).trans hfails).trans ?_⟩
    push_cast
    rfl
  case expire =>
    have hexec : exec (.challengeExpire m) s = execChallengeExpire m s := rfl
    simp only [execChallengeExpire, hc, if_pos hdue] at hexec
    refine ⟨_, hexec, ?_, ?_, .of_tables rfl rfl⟩ <;> simp
  case lockout => exact does_of_pos rfl ⟨hend, by simp [hover]⟩ ⟨num_set_same .., (SameBut.refl _ s).set (by simp)⟩
  case permit =>
    have heffect := permitInstallEffect_eq (w := w) hformat hheld hfree hslot
    cases hown : ownSerial (leAt b 8 8) with
    | false =>
      rw [hown, if_pos (by decide)] at heffect
      exact does_mono (does_of_reject hreach rfl heffect) fun t h => ⟨fun hc => absurd hc (by decide), fun _ => h⟩
    | true =>
      rw [hown, if_neg (by decide)] at heffect
      cases hsigned : signedBy u (pmRoot b) (b.take 64) (b.drop 64) with
      | false =>
        rw [hsigned, if_pos (by decide)] at heffect
        exact does_mono (does_of_reject hreach rfl heffect) fun t h => ⟨fun _ hc => absurd hc (by decide), fun _ => h⟩
      | true =>
        rw [hsigned, if_neg (by decide)] at heffect
        obtain ⟨hoct, hstate⟩ := installPermit_slot (permitSlot_lt hslot) b u
        refine does_mono (does_of_reply hreach rfl heffect rfl) fun t h => ⟨fun _ _ => ⟨h.answered, (h.objects.2 _).trans hoct, (h.num _).trans hstate⟩, ?_⟩
        exact fun hc => hc.elim (fun h => absurd h (by decide)) (fun h => absurd h (by decide))
  case revoke =>
    have hroot : leAt b 5 1 < 8 := by
      simp only [revokeFormat, Bool.and_eq_true, decide_eq_true_eq] at hformat
      exact hformat.1.1.2
    have heffect := revokeEffect_eq (w := w) (u := u) hformat
    obtain hnone | ⟨why, hwhy⟩ := recordFault_cases (s := u) (ok := ownSerial (leAt b 8 8) || decide (leAt b 8 8 = 0)) (root := leAt b 5 1)
      (seq := leAt b 16 4) (msg := b.take (b.length - 64)) (sig := b.drop (b.length - 64))
    · rw [hnone] at heffect
      exact does_mono (does_of_reply hreach rfl heffect rfl) fun t h =>
        ⟨fun _ => ⟨h.answered, (h.num _).trans (applyList_sequence hroot u)⟩, fun hc => absurd hnone hc⟩
    · rw [hwhy] at heffect
      refine does_mono (does_of_reject hreach rfl heffect) fun t h => ⟨fun hc => ?_, fun _ => h⟩
      rw [hwhy] at hc
      cases hc
  case fwWrite =>
    have heffect : fwWriteEffect w (.oct b) u = _ := if_neg (Nat.not_lt.2 hfit)
    refine does_mono (does_of_reply hreach rfl heffect rfl) fun t h =>
      ⟨h.answered, (h.num _).trans ((num_set_sub (by decide) ..).trans (num_set_same ..)), (h.num _).trans (num_set_same ..), SameBut.andThen ?_ h.objects⟩
    exact (((SameObjects.of_tables rfl rfl).sameBut _).set (by simp)).set (by simp)
  case fwCommit =>
    by_cases himage : imageOk u (1 - fwRunning u) = true
    · refine does_mono (does_of_reply hreach rfl (if_pos himage) rfl) fun t h => ⟨h.answered, (h.num _).trans ((num_set_same ..).trans (if_pos himage).symm)⟩
    · refine does_mono (does_of_reply hreach rfl (if_neg himage) rfl) fun t h => ⟨h.answered, (h.num _).trans ((num_set_same ..).trans (if_neg himage).symm)⟩
  case fwConfirm =>
    refine does_mono (does_of_reply hreach rfl rfl rfl) fun t h => ⟨h.answered, (h.congr (·.sec.confirmed) fun _ => rfl).trans ?_,
      (h.num _).trans (num_set_same ..)⟩
    exact congrArg (·.confirmed) (eventPerm_sec ..)

end Sys2Proof.Machine
end

section
/-! PROOFS. Resets, boot, domains and repairs (R389 to R396, R401, R410): what a reset that strikes leaves, and the stage that each step of boot
enters last. What acts at the assertion of a reset or at the fall of a supply is log entries 80, 85 and 87. -/

namespace Sys2Proof.Machine

/-! ### What keeps the record of boot -/

theorem State.boot_ite {c : Prop} [Decidable c] {s t : State} {x : Boot} (hs : s.boot = x) (ht : t.boot = x) : (if c then s else t).boot = x := by
  split <;> assumption

theorem sendDown_boot (code : Nat) (nums : List Int) (s : State) : (sendDown code nums s).boot = s.boot := by
  unfold sendDown
  refine forL_fixes State.boot _ (fun l t => ?_) _ s
  rfl

theorem dmaStopAll_boot (s : State) : (dmaStopAll s).boot = s.boot := by
  unfold dmaStopAll
  refine forL_fixes State.boot _ (fun e t => ?_) _ s
  exact State.boot_ite rfl rfl

theorem abortSlot_boot (i : Nat) (x : Tx) (s : State) : (abortSlot i x s).boot = s.boot := by
  unfold abortSlot
  extract_lets s1
  have h1 : s1.boot = s.boot := State.boot_ite rfl (State.boot_ite (sendDown_boot ..) rfl)
  exact h1

theorem hostReset_boot (s : State) : (hostReset s).boot = s.boot := by
  have hstop : (dmaStopAll s).boot = s.boot := dmaStopAll_boot s
  have hopen : (abortOpen 1 (dmaStopAll s)).boot = s.boot := by
    unfold abortOpen
    split
    · exact (abortSlot_boot ..).trans hstop
    · exact hstop
  exact hopen

theorem flushMarks_boot (s : State) : (flushMarks s).boot = s.boot := State.boot_ite rfl rfl

theorem flushNow_boot (s : State) : (flushNow s).boot = s.boot := by
  refine State.boot_ite rfl ((flushMarks_boot _).trans ?_)
  exact congrArg (·.boot) (pastFaults_forL (fun r t => placeRec_pastFaults r t) _ _)

theorem cutRecord_boot (s : State) : (cutRecord s).boot = s.boot := by
  unfold cutRecord
  split
  · rfl
  · exact State.boot_ite rfl (State.boot_ite rfl (State.boot_ite rfl rfl))

/-! ### Resets (R389 to R391) -/

theorem setPort_pastFaults (p : Nat) (x : Port) (s : State) : (s.setPort p x).pastFaults = s.pastFaults := rfl

theorem resetPort_pastFaults (cause p : Nat) (s : State) : (resetPort cause p s).pastFaults = s.pastFaults :=
  pastFaults_ite (((set_pastFaults ..).trans (set_pastFaults ..)).trans ((set_pastFaults ..).trans (setPort_pastFaults ..))) rfl

/-- The dies that are reset keep the record of boot, and hold no transaction and no record that was being written. -/
theorem resetDies_leaves (cause : Nat) (s : State) : (resetDies cause s).boot = s.boot ∧ (resetDies cause s).tx.slots = [] ∧
    (resetDies cause s).tx.accepted = [] ∧ (resetDies cause s).jr.writing = [] := by
  unfold resetDies
  extract_lets s0 tx log host s1 jr s2 s3 s4 s5
  have h3 : s3.pastFaults = s2.pastFaults := pastFaults_forN (fun b t => pastFaults_ite (set_pastFaults ..) rfl) 2 s2
  have h4 : s4.pastFaults = s2.pastFaults := pastFaults_ite h3 ((pastFaults_forL (fun k t => setBit_pastFaults t k 1) dieKeys s3).trans h3)
  have h5 : s5.pastFaults = s2.pastFaults := (pastFaults_forN (fun p t => resetPort_pastFaults cause p t) 32 s4).trans h4
  have hlast : (if cause = 3 ∧ (!s5.time.running) = true then forN 32 (fun p s => raisePort p pmClock s) s5 else s5).pastFaults = s2.pastFaults :=
    pastFaults_ite ((pastFaults_forN (fun p t => raisePort_pastFaults p pmClock t) 32 s5).trans h5) h5
  exact ⟨congrArg (·.boot) hlast, congrArg (·.tx.slots) hlast, congrArg (·.tx.accepted) hlast, congrArg (·.jr.writing) hlast⟩

/-- A reset that strikes holds the part in stage 0, with its cause. -/
theorem strike_leaves (cause : Nat) (s : State) : (strike cause s).num K.pdBootStage = 0 ∧
    (strike cause s).boot = { s.boot with cause := cause, fails := [] } ∧ (strike cause s).tx.slots = [] ∧ (strike cause s).tx.accepted = [] ∧
    (strike cause s).jr.writing = [] := by
  unfold strike
  extract_lets s1 s2
  have h1 : s1.boot = s.boot := (cutRecord_boot _).trans (State.boot_ite rfl (flushNow_boot s))
  obtain ⟨hboot, hslots, haccepted, hwriting⟩ := resetDies_leaves cause (s1.sticky skReset)
  have h2 : s2.boot = s.boot := hboot.trans h1
  exact ⟨num_set_same .., congrArg (fun b : Boot => { b with cause := cause, fails := [] }) h2, hslots, haccepted, hwriting⟩

theorem exec_porstNAssert {s : State} (hpor : s.boot.por = false) (hporst : s.boot.porst = false) :
    exec .porstNAssert s = .next (strike 2 { s with boot := { s.boot with porst := true } }) :=
  congrArg Host.Outcome.next (if_neg (by simp [hpor, hporst]))

theorem exec_warmrstNAssert {s : State} (hpor : s.boot.por = false) (hporst : s.boot.porst = false) (hwarm : s.boot.warm = false) :
    exec .warmrstNAssert s = .next ((strike 3 (hostReset { s with boot := { s.boot with warm := true } })).inc K.pdWarmResets 32) :=
  congrArg Host.Outcome.next (if_neg (by simp [hpor, hporst, hwarm]))

theorem exec_powerOnResetAssert_dip {s : State} (hpor : s.boot.por = false) (hporst : s.boot.porst = false) :
    exec (.powerOnResetAssert false) s = .next (strike 2 { s with boot := { s.boot with por := true, allDown := s.boot.allDown || false } }) :=
  congrArg Host.Outcome.next ((if_neg (by decide)).trans (if_neg (by simp [hpor, hporst])))

/-! ### Release (R389, R392) -/

theorem startBoot_starts (s : State) : (startBoot s).num K.pdBootStage = 1 ∧ (startBoot s).num K.pdLastReset = (s.boot.cause : Nat) ∧
    (startBoot s).boot.por = s.boot.por ∧ (startBoot s).boot.porst = s.boot.porst ∧ (startBoot s).boot.warm = s.boot.warm ∧
    SameBut [K.pdBootStage, K.pdLastReset] s (startBoot s) := by
  have hsame : SameBut [K.pdBootStage, K.pdLastReset] s (startBoot s) := (((SameObjects.of_tables rfl rfl).sameBut _).set (by simp)).set (by simp)
  exact ⟨num_set_same .., (num_set_sub (by decide) ..).trans (num_set_same ..), rfl, rfl, rfl, hsame⟩

/-- The supplies are up: power-on reset is over, with its cause. -/
def suppliesUp (s : State) : State := { s with boot := { s.boot with por := false, allDown := false, cause := if s.boot.allDown then 1 else 2 } }

theorem exec_powerOnResetRelease {s : State} (hpor : s.boot.por = true) (hporst : s.boot.porst = false) (hwarm : s.boot.warm = false) :
    ∃ u : State, u.boot = (suppliesUp s).boot ∧ exec .powerOnResetRelease s = .next (startBoot u) := by
  have hexec : exec .powerOnResetRelease s = _ := congrArg Host.Outcome.next (if_neg (by simp [hpor, hporst]))
  extract_lets power boot s1 counted time s2 s3 at hexec
  have h1 : s1.boot = (suppliesUp s).boot := rfl
  have h2 : s2.boot = (suppliesUp s).boot := State.boot_ite h1 h1
  have h3 : s3.boot = (suppliesUp s).boot := (forL_fixes State.boot _ (fun k t => State.set_boot ..) dieKeys s2).trans h2
  have hcold : ¬ s3.boot.warm = true := by
    rw [h3]
    simp [suppliesUp, hwarm]
  exact ⟨s3, h3, hexec.trans (congrArg Host.Outcome.next (if_neg hcold))⟩

/-! ### Boot (R392, R393) -/

theorem toStage_stage (n : Nat) (s : State) : (toStage n s).num K.pdBootStage = (n : Nat) := num_set_same ..

theorem num_toStage {k : Nat} (hk : k ≠ K.pdBootStage) (n : Nat) (s : State) : (toStage n s).num k = s.num k :=
  (State.num_set ..).trans (if_neg hk)

theorem becomeReady_ready (s : State) : (becomeReady s).num K.pdBootStage = 6 ∧ Printed (becomeReady s) "ok ready" [] [] :=
  ⟨num_set_same .., List.mem_cons_self⟩

theorem exec_bootStageAdvance_stage1 {refclk : Bool} {readErr : Nat} {bad : List Nat} {s : State} (h : s.nat K.pdBootStage = 1) :
    exec (.bootStageAdvance refclk readErr bad) s = .next (toStage (if s.boot.cause = 3 then 3 else 2) (restoreLatches s)) := by
  have hexec : exec (.bootStageAdvance refclk readErr bad) s = execBootStageAdvance refclk readErr bad s := rfl
  simp only [hexec, execBootStageAdvance, h]

theorem exec_bootStageAdvance_stage2 {refclk : Bool} {readErr : Nat} {bad : List Nat} {s : State} (h : s.nat K.pdBootStage = 2)
    (hclock : refclk = true ∨ s.boot.stageAt + secTicks ≤ s.time.now) :
    exec (.bootStageAdvance refclk readErr bad) s = .next (toStage 3 (startClocks refclk s)) := by
  have hexec : exec (.bootStageAdvance refclk readErr bad) s = execBootStageAdvance refclk readErr bad s := rfl
  simp only [hexec, execBootStageAdvance, h, if_pos hclock]

theorem exec_bootStageAdvance_stage3 {refclk : Bool} {readErr : Nat} {bad : List Nat} {s : State} (h : s.nat K.pdBootStage = 3) :
    (∀ n back, bootSlot readErr s = some (n, back) → exec (.bootStageAdvance refclk readErr bad) s = .next (toStage 4 (runImage n back s))) ∧
    (bootSlot readErr s = none → exec (.bootStageAdvance refclk readErr bad) s = .next (failBoot readErr s)) := by
  have hexec : exec (.bootStageAdvance refclk readErr bad) s = execBootStageAdvance refclk readErr bad s := rfl
  constructor
  · intro n back hslot
    simp only [hexec, execBootStageAdvance, h, hslot]
  · intro hslot
    simp only [hexec, execBootStageAdvance, h, hslot]

theorem exec_bootStageAdvance_stage4 {refclk : Bool} {readErr : Nat} {bad : List Nat} {s : State} (h : s.nat K.pdBootStage = 4) :
    exec (.bootStageAdvance refclk readErr bad) s =
      .next (toStage 5 ((replay s).set K.pdReplayTime (usOf (s.time.now - s.boot.stageAt)))) := by
  have hexec : exec (.bootStageAdvance refclk readErr bad) s = execBootStageAdvance refclk readErr bad s := rfl
  simp only [hexec, execBootStageAdvance, h]

theorem exec_bootStageAdvance_stage5 {refclk : Bool} {readErr : Nat} {bad : List Nat} {s : State} (h : s.nat K.pdBootStage = 5) :
    exec (.bootStageAdvance refclk readErr bad) s = .next (becomeReady (restore bad s)) := by
  have hexec : exec (.bootStageAdvance refclk readErr bad) s = execBootStageAdvance refclk readErr bad s := rfl
  simp only [hexec, execBootStageAdvance, h]

theorem runImage_slot (n : Nat) (back : Bool) (s : State) : (runImage n back s).num K.secFwSlot = (n + (if back then 128 else 0) : Nat) :=
  num_set_same ..

/-! ### Repairs (R401, R410) -/

/-- A walk whose every member changes nothing changes nothing. -/
theorem forL_eq_self {α : Type} {f : α → State → State} {l : List α} {s : State} (h : ∀ a, a ∈ l → f a s = s) : forL l f s = s := by
  induction l with
  | nil => rfl
  | cons a l ih =>
    have hl : forL l f s = s := ih fun b hb => h b (List.mem_cons_of_mem _ hb)
    calc forL (a :: l) f s
      _ = forL l f (f a s) := rfl
      _ = s := by rw [h a List.mem_cons_self, hl]

/-- The part after a repair of a generation that is not the last, before the ports are checked. -/
def repairNoted (m : Nat) (s : State) : State :=
  let s1 := s.set K.pdRepairGen (s.nat K.pdRepairGen + 1 : Nat)
  eventPerm 0x1204 (s.nat K.pdRepairGen + 1) m 0 0
    ((s1.setOct (K.rpEntry ((s.nat K.pdRepairGen + 1 + 127) % 128)) (ledgerEntry s1 (s.nat K.pdRepairGen + 1) m)).setOct K.rpNote [])

theorem repairNoted_leaves (m : Nat) (s : State) : (repairNoted m s).num K.pdRepairGen = (s.nat K.pdRepairGen + 1 : Nat) ∧
    (repairNoted m s).oct K.rpNote = [] ∧ ∀ k, k ∉ K.pdRepairGen :: recordKeys → (repairNoted m s).num k = s.num k := by
  have hnum : ∀ k, k ∉ recordKeys → (repairNoted m s).num k = (s.set K.pdRepairGen (s.nat K.pdRepairGen + 1 : Nat)).num k := by
    intro k hk
    refine ((sameBut_eventPerm ..).1 k hk).trans ?_
    rw [State.num_setOct, State.num_setOct]
  refine ⟨(hnum _ (by decide)).trans (num_set_same ..), ?_, fun k hk => ?_⟩
  · exact (State.oct_congr (congrArg (·.blob) (enterRec_pastFaults ..)) _).trans ((State.oct_setOct ..).trans (if_pos rfl))
  · have hmem : k ∉ recordKeys := fun h => hk (List.mem_cons_of_mem _ h)
    have hne : k ≠ K.pdRepairGen := fun h => hk (h ▸ List.mem_cons_self)
    exact (hnum k hmem).trans ((State.num_set ..).trans (if_neg hne))

/-- With every port Off or in Sleep a repair checks none. -/
theorem declareRepair_idle {m : Nat} {s : State} (hgen : s.num K.pdRepairGen ≠ 65535)
    (hports : ∀ p, p < 32 → s.num (K.portState p) = psOff ∨ s.num (K.portState p) = psSleep) : declareRepair m s = repairNoted m s := by
  obtain ⟨-, -, hnum⟩ := repairNoted_leaves m s
  have hstate : ∀ p, (repairNoted m s).num (K.portState p) = s.num (K.portState p) := by
    intro p
    refine hnum _ ?_
    simp only [recordKeys, List.mem_cons, List.not_mem_nil, or_false, not_or, K.portState, K.pdRepairGen, K.recNext, K.recBuffered, K.recDropped,
      K.recPermFull]
    omega
  have hidle : forN 32 (fun p s => if s.num (K.portState p) = psOff ∨ s.num (K.portState p) = psSleep then s else returnCheck p false s)
      (repairNoted m s) = repairNoted m s := by
    refine forL_eq_self fun p hp => if_pos ?_
    rw [hstate]
    exact hports p (List.mem_range.1 hp)
  simp only [declareRepair, hgen, decide_false, Bool.false_eq_true, if_false]
  exact hidle

/-- Settles O57: a reset that strikes is `strike_leaves`, boot starts by `startBoot`, and each stage ends in the write of the next. -/
theorem partResetsAndBoots : Obligations.PartResetsAndBoots := by
  unfold Obligations.PartResetsAndBoots
  refine ⟨fun s hpor hporst hwarm => ?release, fun s hporst => does_of_pos rfl (by simp [hporst]) rfl, fun s hpor hporst => ?porst,
    fun s hpor hporst hwarm => ?warm, fun s => ?powerDown, fun s hpor hporst => ?dip, fun s hlow hpor hwarm => ?porstHigh,
    fun s hlow hpor hporst => ?warmHigh, fun refclk readErr bad s h => ?stage1, fun refclk readErr bad s h hclock => ?stage2,
    fun refclk readErr bad s h => ?stage3, fun refclk readErr bad s h => ⟨_, exec_bootStageAdvance_stage4 h, toStage_stage ..⟩,
    fun refclk readErr bad s h => ⟨_, exec_bootStageAdvance_stage5 h, becomeReady_ready _⟩, fun s h hdue => ?bootFail,
    fun d due s hd hwait hdue hstate => ?slicePowered, fun d due s hd hwait hdue hstate => ?domainPowered,
    fun sl due s hsl hwait hdue hstate hnone => ?slice, fun f w v s u hreach hgen hports => ?repair⟩
  case release =>
    obtain ⟨u, hboot, hexec⟩ := exec_powerOnResetRelease hpor hporst hwarm
    obtain ⟨hstage, hlast, hpor', -⟩ := startBoot_starts u
    refine ⟨_, hexec, hstage, hpor'.trans (by rw [hboot]; rfl), hlast.trans ?_⟩
    rw [hboot]
    cases hall : s.boot.allDown <;> simp [suppliesUp, hall]
  case porst =>
    obtain ⟨hstage, hboot, hslots, haccepted, hwriting⟩ := strike_leaves 2 { s with boot := { s.boot with porst := true } }
    exact ⟨_, exec_porstNAssert hpor hporst, hstage, congrArg (·.cause) hboot, congrArg (·.porst) hboot, hslots, haccepted, hwriting⟩
  case warm =>
    obtain ⟨hstage, hboot, hslots, -, -⟩ := strike_leaves 3 (hostReset { s with boot := { s.boot with warm := true } })
    have hreset := hostReset_boot { s with boot := { s.boot with warm := true } }
    exact ⟨_, exec_warmrstNAssert hpor hporst hwarm, (num_set_sub (by decide) ..).trans hstage, congrArg (·.cause) hboot,
      (congrArg (·.warm) hboot).trans (congrArg (·.warm) hreset), hslots⟩
  case powerDown =>
    obtain ⟨hstage, hboot, -, -, -⟩ := strike_leaves 1 { s with boot := { s.boot with por := true, allDown := s.boot.allDown || true } }
    exact ⟨_, rfl, ((State.num_set ..).trans (if_neg (by decide))).trans hstage, congrArg (·.cause) hboot, congrArg (·.por) hboot, rfl, rfl,
      num_set_same ..⟩
  case dip =>
    obtain ⟨hstage, hboot, -, -, -⟩ := strike_leaves 2 { s with boot := { s.boot with por := true, allDown := s.boot.allDown || false } }
    exact ⟨_, exec_powerOnResetAssert_dip hpor hporst, hstage, congrArg (·.cause) hboot, congrArg (·.por) hboot⟩
  case porstHigh =>
    obtain ⟨hstage, -, -, hporst, -, hsame⟩ := startBoot_starts { s with boot := { s.boot with porst := false } }
    exact does_of_pos rfl (by simp [hlow, hpor, hwarm]) ⟨hstage, hporst, SameBut.trans ((SameObjects.of_tables rfl rfl).sameBut _) hsame⟩
  case warmHigh =>
    obtain ⟨hstage, -, -, -, hwarm, hsame⟩ := startBoot_starts { s with boot := { s.boot with warm := false } }
    exact does_of_pos rfl (by simp [hlow, hpor, hporst]) ⟨hstage, hwarm, SameBut.trans ((SameObjects.of_tables rfl rfl).sameBut _) hsame⟩
  case stage1 =>
    refine ⟨_, exec_bootStageAdvance_stage1 h, (toStage_stage ..).trans ?_⟩
    split <;> rfl
  case stage2 => exact ⟨_, exec_bootStageAdvance_stage2 h hclock, toStage_stage ..⟩
  case stage3 =>
    obtain ⟨hrun, hfail⟩ := exec_bootStageAdvance_stage3 (refclk := refclk) (bad := bad) (readErr := readErr) h
    cases hslot : bootSlot readErr s with
    | some e =>
      obtain ⟨n, back⟩ := e
      refine ⟨_, hrun n back hslot, fun n' back' heq => ?_, fun hnone => by cases hnone⟩
      cases heq
      exact ⟨toStage_stage .., (num_toStage (by decide) ..).trans (runImage_slot ..)⟩
    | none => exact ⟨_, hfail hslot, fun n back heq => (by cases heq), fun _ => num_set_same ..⟩
  case bootFail => exact does_of_pos rfl ⟨h, hdue⟩ ⟨List.mem_cons_self, .of_tables rfl rfl⟩
  case slicePowered =>
    have hexec : exec (.domainPowered d) s = execDomainPowered d s := rfl
    simp only [execDomainPowered, hwait, Nat.not_lt.2 hdue, hstate, ne_eq, not_true_eq_false, or_self, if_false, if_pos hd] at hexec
    exact ⟨_, hexec, num_set_same .., SameBut.set ((SameObjects.of_tables rfl rfl).sameBut _) (by simp)⟩
  case domainPowered =>
    have hslice : ¬ d < 64 := by omega
    have hexec : exec (.domainPowered d) s = execDomainPowered d s := rfl
    simp only [execDomainPowered, hwait, Nat.not_lt.2 hdue, hstate, ne_eq, not_true_eq_false, or_self, if_false, if_neg hslice,
      if_neg (Nat.not_lt.2 hd)] at hexec
    exact ⟨_, hexec, num_set_same .., SameBut.set ((SameObjects.of_tables rfl rfl).sameBut _) (by simp)⟩
  case slice =>
    have hpast : ¬ 63 < sl := by omega
    have hexec : exec (.sliceCheck sl true) s = execSliceCheck sl true s := rfl
    simp only [execSliceCheck, hwait, Nat.not_lt.2 hdue, hstate, ne_eq, not_true_eq_false, or_self, or_false, if_neg hpast, if_true] at hexec
    have hempty : startedIn ((putDomDue sl none s).set (K.pdState sl) dsOn) sl = [] := by
      unfold startedIn at hnone ⊢
      rw [started_set (by unfold K.pdState; omega)]
      exact hnone
    have hup : sliceUp sl ((putDomDue sl none s).set (K.pdState sl) dsOn) = (putDomDue sl none s).set (K.pdState sl) dsOn := by
      unfold sliceUp
      rw [hempty]
      rfl
    rw [hup] at hexec
    exact ⟨_, hexec, num_set_same .., SameBut.set ((SameObjects.of_tables rfl rfl).sameBut _) (by simp)⟩
  case repair =>
    have heffect : repairEffect w v u = .ok (repairNoted w.charged u) := congrArg Reply.ok (declareRepair_idle hgen hports)
    obtain ⟨hnext, hnote, -⟩ := repairNoted_leaves w.charged u
    exact does_mono (does_of_reply hreach rfl heffect rfl) fun t h => ⟨h.answered, (h.num _).trans hnext, (h.objects.2 _).trans hnote⟩

end Sys2Proof.Machine
end

section
/-! PROOFS. The panel (R404 to R411), the crossings (R25, R26) and JTAG (R385): a meter writes its own two objects, a key read leaves the other
keys, and a Banister hold ends in the write of its state. The meter's rounding and the keys' baselines are log entry 92. -/

namespace Sys2Proof.Machine

/-! ### Meters (R404, R405) -/

theorem sameObjects_valueOf (flow k : Nat) (s : State) : SameObjects s (valueOf flow k s).2 := by
  unfold valueOf
  split
  · split
    · exact .of_tables rfl rfl
    · exact .refl s
  · exact .refl s

theorem valueOf_read {r : ObjRow} {flow k : Nat} {s : State} (hr : Dict.rowOf k = some r) (hlive : measuredLive s k = false) :
    valueOf flow k s = (s.readNum flow k, s) := by
  unfold valueOf
  rw [hr, hlive]
  rfl

theorem driveMeter_stopped {s : State} (h : s.serving = false) (m : Nat) :
    driveMeter m s = (s.set (K.mtrStatus m) 0).set (K.mtrVolts m) 0 := by
  unfold driveMeter
  rw [h]
  rfl

/-- A meter whose object has a value shows it. -/
theorem driveMeter_volts {r : ObjRow} {m : Nat} {s : State} (hserving : s.serving = true) (htest : s.panel.test = none)
    (hsource : s.nat (K.mtrSource m) ≠ 0) (hvalue : noValue s (s.nat (K.mtrSource m)) = false) (hr : Dict.rowOf (s.nat (K.mtrSource m)) = some r)
    (hlive : measuredLive s (s.nat (K.mtrSource m)) = false) : (driveMeter m s).num (K.mtrVolts m) =
      clampI (meterVolts s m (s.nat (K.mtrSource m)) (s.readNum 0 (s.nat (K.mtrSource m)))) 0 163840 := by
  have hno : meterTest s = none := by
    unfold meterTest
    rw [htest]
  unfold driveMeter
  simp only [hserving, hno, hsource, hvalue, valueOf_read hr hlive, Bool.not_true, Bool.false_eq_true, if_false]
  exact num_set_same ..

/-- The two objects that a meter writes. -/
def meterKeys (m : Nat) : List Nat := [K.mtrStatus m, K.mtrVolts m]

theorem sameBut_driveMeter (m : Nat) (s : State) : SameBut (meterKeys m) s (driveMeter m s) := by
  have hwrite : ∀ (u : State) (a b : Int), SameObjects s u → SameBut (meterKeys m) s ((u.set (K.mtrStatus m) a).set (K.mtrVolts m) b) :=
    fun u a b hu => ((hu.sameBut _).set (by simp [meterKeys])).set (by simp [meterKeys])
  unfold driveMeter
  refine .ite (hwrite _ _ _ (.refl s)) ?_
  split
  · exact hwrite _ _ _ (.refl s)
  · exact .ite (hwrite _ _ _ (.refl s)) (.ite (hwrite _ _ _ (.refl s)) (hwrite _ _ _ (sameObjects_valueOf ..)))

theorem sameBut_drivenMeters (s : State) : SameBut [K.mtrStatus 0, K.mtrVolts 0, K.mtrStatus 1, K.mtrVolts 1] s (forN 2 driveMeter s) :=
  ((sameBut_driveMeter 0 s).mono (by simp [meterKeys])).trans ((sameBut_driveMeter 1 _).mono (by simp [meterKeys]))

theorem drivenMeters_first {k : Nat} (hk : k ∈ meterKeys 0) (s : State) : (forN 2 driveMeter s).num k = (driveMeter 0 s).num k := by
  refine (sameBut_driveMeter 1 _).1 k fun hmem => ?_
  simp only [meterKeys, List.mem_cons, List.not_mem_nil, or_false, K.mtrStatus, K.mtrVolts] at hk hmem
  omega

/-! ### Keys (R408) -/

theorem readKey_touched (k : Nat) (raw : Int) (s : State) : ((readKey k raw s).key k).touched = keyTouched s k raw :=
  congrArg Key.touched ((State.key_setKey ..).trans (if_pos rfl))

theorem readKey_other {k j : Nat} (h : k ≠ j) (raw : Int) (s : State) : (readKey j raw s).key k = s.key k :=
  (State.key_setKey ..).trans (if_neg h)

theorem keyTouched_readKey {k j : Nat} (h : k ≠ j) (raw raw' : Int) (s : State) : keyTouched (readKey j raw s) k raw' = keyTouched s k raw' := by
  unfold keyTouched
  rw [readKey_other h]
  rfl

theorem sameObjects_readKey (k : Nat) (raw : Int) (s : State) : SameObjects s (readKey k raw s) := .of_tables rfl rfl

/-- The reading of one key in a scan. -/
def scanKey (raws : List Int) (k : Nat) (s : State) : State :=
  match raws[k]? with
  | some r => readKey k r s
  | none => s

theorem scanKey_other {k j : Nat} (h : k ≠ j) (raws : List Int) (s : State) : (scanKey raws j s).key k = s.key k ∧
    ∀ raw, keyTouched (scanKey raws j s) k raw = keyTouched s k raw := by
  unfold scanKey
  split
  · exact ⟨readKey_other h .., fun raw => keyTouched_readKey h ..⟩
  · exact ⟨rfl, fun _ => rfl⟩

theorem sameObjects_scanKey (raws : List Int) (k : Nat) (s : State) : SameObjects s (scanKey raws k s) := by
  unfold scanKey
  split
  · exact sameObjects_readKey ..
  · exact .refl s

/-- A scan of keys, each read once, takes the reading of a key in it, and leaves the keys that are not. -/
theorem scan_touched {raws : List Int} {k : Nat} {raw : Int} (hraw : raws[k]? = some raw) {l : List Nat} (hl : l.Nodup) (s : State) :
    (k ∈ l → ((forL l (scanKey raws) s).key k).touched = keyTouched s k raw) ∧ (k ∉ l → (forL l (scanKey raws) s).key k = s.key k) := by
  induction l generalizing s with
  | nil => exact ⟨fun h => absurd h List.not_mem_nil, fun _ => rfl⟩
  | cons j l ih =>
    obtain ⟨hj, hl⟩ := List.nodup_cons.1 hl
    obtain ⟨hin, hout⟩ := ih hl (scanKey raws j s)
    by_cases hkj : k = j
    · subst hkj
      have hread : scanKey raws k s = readKey k raw s := by
        unfold scanKey
        rw [hraw]
      refine ⟨fun _ => ?_, fun h => absurd List.mem_cons_self h⟩
      exact (congrArg Key.touched (hout hj)).trans (by rw [hread, readKey_touched])
    · obtain ⟨hkey, htouched⟩ := scanKey_other hkj raws s
      exact ⟨fun h => (hin ((List.mem_cons.1 h).resolve_left hkj)).trans (htouched raw),
        fun h => (hout fun hl => h (List.mem_cons_of_mem _ hl)).trans hkey⟩

theorem exec_keyScan {s : State} (h : s.serving = true) (raws : List Int) : exec (.keyScan raws) s = .next (forL (List.range 8) (scanKey raws) s) :=
  congrArg Host.Outcome.next (if_neg (by simp [h]))

/-- Key k pressed in this tick. -/
def keyPressed (k : Nat) (s : State) : State := s.setKey k { s.key k with pressedAt := s.time.now, qualified := false }

theorem sameObjects_keyPressed (k : Nat) (s : State) : SameObjects s (keyPressed k s) := .of_tables rfl rfl

/-! ### The Banister hold (R411) -/

theorem endBanister_ends (cause : Nat) (s : State) : (endBanister cause s).num K.banState = 0 ∧ (endBanister cause s).num K.banEnd = 0 :=
  ⟨num_set_same .., (num_set_sub (by decide) ..).trans (num_set_same ..)⟩

theorem exec_banisterOn_starts {k : Nat} {s : State} (hq : qualifies s k = true) (hstate : s.num K.banState = 0) :
    exec (.banisterOn k) s = .next (startBanister k (s.setKey k { s.key k with qualified := true })) :=
  congrArg Host.Outcome.next ((if_neg (by simp [hq, hstate])).trans (if_pos hstate))

/-- A second qualified press finds its key. -/
theorem find_secondPress {k : Nat} {s : State} (hq : qualifies s k = true) (hsecond : secondPress s k = true) :
    ∃ j, (List.range 8).find? (fun k => qualifies s k && secondPress s k) = some j := by
  have hk : k < 8 := by
    simp only [qualifies, Bool.and_eq_true, decide_eq_true_eq] at hq
    exact hq.1.1.1.1
  refine Option.isSome_iff_exists.1 (List.find?_isSome.2 ⟨k, List.mem_range.2 hk, ?_⟩)
  simp [hq, hsecond]

theorem does_banisterOff {s : State} (hstate : s.num K.banState ≠ 0)
    (hover : s.num K.banEnd ≤ s.time.ot ∨ ∃ j, (List.range 8).find? (fun k => qualifies s k && secondPress s k) = some j) :
    Does .banisterOff s fun t => t.num K.banState = 0 ∧ t.num K.banEnd = 0 := by
  refine does_of_neg rfl hstate ?_
  cases hfind : (List.range 8).find? (fun k => qualifies s k && secondPress s k) with
  | some j => exact endBanister_ends ..
  | none =>
    have hend : s.num K.banEnd ≤ s.time.ot := hover.resolve_right (by simp [hfind])
    dsimp only
    rw [if_pos hend]
    exact endBanister_ends ..

/-! ### Crossings (R26) -/

/-- The crossing errors of die d in the second before this tick. -/
def recentErrors (d : Nat) (s : State) : List Nat := (Tab.get (fun _ => []) s.parity d).filter (fun t => decide (s.time.now < t + secTicks))

/-- The error counted, with its tick among those of die d. -/
def parityCounted (d : Nat) (s : State) : State :=
  ({ s with parity := Tab.put (fun _ => []) d (s.time.now :: recentErrors d s) s.parity }).inc K.dieBusErrorCount 32

theorem exec_busParityError {d : Nat} (hd : d < 6) (s : State) : exec (.busParityError d) s =
    .next (if 16 < (recentErrors d s).length + 1 ∧ (!(parityCounted d s).bit (dieKey d) 3) = true then
      (fault 0x01 d 2 (evCode 0x02 9) d ((recentErrors d s).length + 1) 0 0 (parityCounted d s)).setBit (dieKey d) 3
    else parityCounted d s) := congrArg Host.Outcome.next (if_neg (by omega))

theorem parityCounted_counts (d : Nat) (s : State) : (parityCounted d s).num K.dieBusErrorCount = min (s.num K.dieBusErrorCount + 1) (maxWord 32) ∧
    SameBut [K.dieBusErrorCount] s (parityCounted d s) :=
  ⟨num_set_same .., SameBut.inc ((SameObjects.of_tables rfl rfl).sameBut _) (by simp)⟩

theorem parityCounted_die {d : Nat} (hd : d < 6) (b : Nat) (s : State) : (parityCounted d s).bit (dieKey d) b = s.bit (dieKey d) b := by
  have hne : dieKey d ≠ K.dieBusErrorCount := by
    unfold dieKey K.dieCoreStatus K.dieBusErrorCount
    omega
  exact (State.bit_set ..).trans (if_neg hne)

/-- Settles O59: each panel command's effect ends in the writes that its clause names. -/
theorem panelFollows : Obligations.PanelFollows := by
  unfold Obligations.PanelFollows
  refine ⟨fun s h => ⟨_, rfl, fun m hm => ?stopped, sameBut_drivenMeters s⟩,
    fun r s hserving htest hsource hvalue hr hlive => ⟨_, rfl, ?volts, sameBut_drivenMeters s⟩,
    fun s => ⟨_, rfl, num_set_same .., (SameBut.refl _ s).set (by simp)⟩,
    fun k raw raws s hk hserving hraw => ⟨_, exec_keyScan hserving raws, (scan_touched hraw List.nodup_range s).1 (List.mem_range.2 hk),
      .forL (sameObjects_scanKey raws) _ s⟩,
    fun k s hk hserving hstate htouched hsettled => ?press,
    fun k s hk hserving hstate htouched hsettled => does_of_pos rfl ⟨hk, hstate, by simp [htouched], hsettled⟩ (num_set_same ..),
    fun k s hk hstate hlong => does_of_pos rfl ⟨hk, hstate, hlong⟩ (num_set_same ..),
    fun k s hq hstate => ⟨_, exec_banisterOn_starts hq hstate, num_set_same ..⟩, fun k s hq hstate hsecond => ?again,
    fun s hstate hend => does_banisterOff hstate (.inl hend),
    fun k s hstate hq hsecond => does_banisterOff hstate (.inr (find_secondPress hq hsecond)),
    fun d s hd hfew => ?few, fun d s hd hmany hgood => ?many, fun i s => ⟨_, rfl, rfl, .of_tables rfl rfl⟩⟩
  case stopped =>
    have hserving : (driveMeter 0 s).serving = false := by
      unfold State.serving at h ⊢
      rw [(sameBut_driveMeter 0 s).1 _ (by decide)]
      exact h
    obtain rfl | rfl : m = 0 ∨ m = 1 := by omega
    · rw [drivenMeters_first (by simp [meterKeys]), drivenMeters_first (by simp [meterKeys]), driveMeter_stopped h]
      exact ⟨(num_set_sub (by decide) ..).trans (num_set_same ..), num_set_same ..⟩
    · have hlast : forN 2 driveMeter s = ((driveMeter 0 s).set (K.mtrStatus 1) 0).set (K.mtrVolts 1) 0 := driveMeter_stopped hserving 1
      rw [hlast]
      exact ⟨(num_set_sub (by decide) ..).trans (num_set_same ..), num_set_same ..⟩
  case volts =>
    rw [drivenMeters_first (by simp [meterKeys])]
    exact driveMeter_volts hserving htest hsource hvalue hr hlive
  case press =>
    have hsame : SameBut [K.keyState k, K.keyPresses k] s (((keyPressed k s).inc (K.keyPresses k) 32).set (K.keyState k) 1) :=
      (((sameObjects_keyPressed k s).sameBut _).inc (by simp)).set (by simp)
    have hcount : (((keyPressed k s).inc (K.keyPresses k) 32).set (K.keyState k) 1).num (K.keyPresses k) =
        min (s.num (K.keyPresses k) + 1) (maxWord 32) := (num_set_sub (by decide) ..).trans (num_set_same ..)
    have hkey : (keyPressed k s).key k = { s.key k with pressedAt := s.time.now, qualified := false } := (State.key_setKey ..).trans (if_pos rfl)
    exact does_of_pos rfl ⟨hk, hserving, hstate, htouched, hsettled⟩ ⟨num_set_same .., hcount, congrArg Key.pressedAt hkey, hsame⟩
  case again =>
    have hexec : exec (.banisterOn k) s = .next (event 0x1302 k (s.nat K.banTime) 0 0 (countDown (s.setKey k { s.key k with qualified := true }))) :=
      congrArg Host.Outcome.next ((if_neg (by simp [hq, hsecond])).trans (if_neg hstate))
    refine ⟨_, hexec, ((sameBut_event ..).1 _ (by decide)).trans (num_set_same ..), ((sameBut_event ..).1 _ (by decide)).trans ?_⟩
    exact num_set_sub (by decide) ..
  case few =>
    have hfew : (recentErrors d s).length < 16 := hfew
    exact does_of_neg (exec_busParityError hd s) (by omega) (parityCounted_counts d s)
  case many =>
    have hmany : 16 ≤ (recentErrors d s).length := hmany
    exact does_of_pos (exec_busParityError hd s) ⟨by omega, by simp [parityCounted_die hd, hgood]⟩ (State.bit_setBit_self ..)

end Sys2Proof.Machine
end

section
/-! PROOFS. The console (R403): what the tests of R43 leave before a command, the lines that it prints, and the values that PORT and CH show. The form
of the lines is log entry 93; a response with no challenge is log entry 65. -/

namespace Sys2Proof.Machine

/-! ### Lines -/

theorem sameObjects_emit (x : Out) (s : State) : SameObjects s (s.emit x) := .of_tables rfl rfl

theorem printed_conLine (status : Nat) (nums : List Int) (octets : List Byte) (s : State) :
    Printed (conLine status nums octets s) (if status ≤ stAbortLate then "ok" else "err") ((status : Int) :: nums) octets := List.mem_cons_self

theorem sameObjects_conLine (status : Nat) (nums : List Int) (octets : List Byte) (s : State) : SameObjects s (conLine status nums octets s) :=
  sameObjects_emit ..

/-- A walk that prints a line for each member. -/
theorem forL_emit_out {α : Type} (g : α → Out) (l : List α) (s : State) : (forL l (fun a t => t.emit (g a)) s).out = (l.map g).reverse ++ s.out := by
  induction l generalizing s with
  | nil => rfl
  | cons a l ih =>
    have hnext : (forL (a :: l) (fun a t => t.emit (g a)) s).out = (forL l (fun a t => t.emit (g a)) (s.emit (g a))).out := rfl
    rw [hnext, ih, List.map_cons, List.reverse_cons, List.append_assoc]
    rfl

theorem sameObjects_forL_emit {α : Type} (g : α → Out) (l : List α) (s : State) : SameObjects s (forL l (fun a t => t.emit (g a)) s) :=
  .forL (fun a t => sameObjects_emit (g a) t) l s

theorem out_forL_emit_of_mem {α : Type} {g : α → Out} {l : List α} {a : α} (h : a ∈ l) (s : State) :
    g a ∈ (forL l (fun a t => t.emit (g a)) s).out := by
  rw [forL_emit_out]
  exact List.mem_append_left _ (List.mem_reverse.2 (List.mem_map_of_mem h))

theorem out_forL_emit_of_out {α : Type} {g : α → Out} {l : List α} {x : Out} {s : State} (h : x ∈ s.out) :
    x ∈ (forL l (fun a t => t.emit (g a)) s).out := by
  rw [forL_emit_out]
  exact List.mem_append_right _ h

/-! ### The tests before a command (R43, R403) -/

theorem sameBut_atConsole (s : State) : SameBut [K.mrRequests 2] s (atConsole s) := by
  have hcount : SameBut [K.mrRequests 2] s (countedLine s) := SameBut.set ((SameObjects.of_tables rfl rfl).sameBut _) (by simp)
  exact hcount.andThen (.of_tables rfl rfl)

theorem num_atConsole {k : Nat} (hk : k ≠ K.mrRequests 2) (s : State) : (atConsole s).num k = s.num k := (sameBut_atConsole s).1 k (by simpa using hk)

theorem nat_atConsole {k : Nat} (hk : k ≠ K.mrRequests 2) (s : State) : (atConsole s).nat k = s.nat k := congrArg Int.toNat (num_atConsole hk s)

theorem oct_atConsole {k : Nat} (hk : k ≠ K.mrRequests 2) (s : State) : (atConsole s).oct k = s.oct k := (sameBut_atConsole s).2 k (by simpa using hk)

theorem bit_atConsole {k : Nat} (hk : k ≠ K.mrRequests 2) (b : Nat) (s : State) : (atConsole s).bit k b = s.bit k b :=
  congrArg (Nat.testBit · b) (nat_atConsole hk s)

theorem atConsole_challenge (s : State) : ((atConsole s).master 2).challenge = (s.master 2).challenge := by
  unfold atConsole takeToken
  simp
  rfl

/-! ### Commands that are ready -/

section
variable {c : Instr} {s t : State} {r : Reply} {body : Who → State → Reply} {post : State → Prop}

/-- A command that prints by itself leaves what its body leaves. -/
theorem does_of_shown (hready : consoleReady s = true) (hc : exec c s = .next (conRequest s body)) (hbody : body (conWho s) (atConsole s) = .shown t)
    (hpost : post t) : Does c s post := by
  have hexec : conRequest s body = t := by
    rw [conRequest_ready hready, hbody]
    rfl
  exact ⟨t, hc.trans (congrArg Host.Outcome.next hexec), hpost⟩

/-- A command that has a status prints it. -/
theorem does_of_status {status : Nat} (hready : consoleReady s = true) (hc : exec c s = .next (conRequest s body))
    (hbody : body (conWho s) (atConsole s) = r) (hstatus : r.status = some status) (hpost : post (conLine status [] r.payload r.st)) :
    Does c s post := by
  have hexec : conRequest s body = conLine status [] r.payload r.st := by
    rw [conRequest_ready hready, hbody, hstatus]
  exact ⟨_, hc.trans (congrArg Host.Outcome.next hexec), hpost⟩

end

/-- A write by the console that its object admits is executed. -/
theorem conWrite_admits {k : Nat} {b : List Byte} {w : Who} {v : Val} {u : State} (h : admits k b w u = some v) (act : Who → Val → State → Reply) :
    conWrite k b w u act = act w v u := examineWrite_admits (f := conFrame k b) h rfl rfl rfl act

/-! ### Values shown (R403) -/

/-- The values printed begin with those read so far. -/
theorem printAll_prints (l : List Nat) (acc : List Int) (s : State) :
    (∃ rest, Printed (printAll l acc s) "ok" ((stOk : Int) :: (acc.reverse ++ rest)) []) ∧ SameObjects s (printAll l acc s) := by
  induction l generalizing acc s with
  | nil => exact ⟨⟨[], by rw [List.append_nil]; exact printed_conLine ..⟩, sameObjects_conLine ..⟩
  | cons k l ih =>
    obtain ⟨⟨rest, hprint⟩, hsame⟩ := ih ((valueOf 2 k s).1 :: acc) (valueOf 2 k s).2
    refine ⟨⟨(valueOf 2 k s).1 :: rest, ?_⟩, (sameObjects_valueOf ..).trans hsame⟩
    rw [List.reverse_cons, List.append_assoc] at hprint
    exact hprint

/-- The first two values that are printed, when they can be read. -/
theorem printAll_two {a b : Nat} {va vb : Int} {l : List Nat} {s : State} (ha : valueOf 2 a s = (va, s)) (hb : valueOf 2 b s = (vb, s)) :
    (∃ rest, Printed (printAll (a :: b :: l) [] s) "ok" ((stOk : Int) :: va :: vb :: rest) []) ∧ SameObjects s (printAll (a :: b :: l) [] s) := by
  have hread : printAll (a :: b :: l) [] s = printAll l [vb, va] s := by
    simp only [printAll, ha, hb]
  rw [hread]
  exact printAll_prints l [vb, va] s

/-- A row defines the objects of its instances. -/
theorem rowOf_isSome {r : ObjRow} {n sub : Nat} (hmem : r ∈ rowsFor (r.base + n * r.stride)) (hn : n < r.count) (hstride : 0 < r.stride)
    (hlo : r.subLo ≤ sub) (hhi : sub ≤ r.subHi) (hsub : sub < 256) (hbase : 0x3000 ≤ r.base) (hend : r.base + n * r.stride < 0x7540) :
    ∃ x, Dict.rowOf ((r.base + n * r.stride) * 256 + sub) = some x := by
  refine Option.isSome_iff_exists.1 (List.find?_isSome.2 ⟨r, ?_, ?_⟩)
  · rwa [show ((r.base + n * r.stride) * 256 + sub) / 256 = r.base + n * r.stride by omega]
  · rw [show ((r.base + n * r.stride) * 256 + sub) / 256 = r.base + n * r.stride by omega,
      show ((r.base + n * r.stride) * 256 + sub) % 256 = sub by omega]
    have hmod : (r.base + n * r.stride - r.base) % r.stride = 0 := by rw [Nat.add_sub_cancel_left, Nat.mul_mod_left]
    have hdiv : (r.base + n * r.stride - r.base) / r.stride = n := by rw [Nat.add_sub_cancel_left, Nat.mul_div_cancel _ hstride]
    have hmaster : ¬ (0x1100 ≤ r.base + n * r.stride ∧ r.base + n * r.stride < 0x1148) := by omega
    have hfault : ¬ (0x7540 ≤ r.base + n * r.stride ∧ r.base + n * r.stride < 0x75C0) := by omega
    simp only [ObjRow.holds, if_neg hmaster, if_neg hfault, if_neg (Nat.pos_iff_ne_zero.1 hstride), hmod, hdiv, hlo, hhi, hn, Nat.le_add_right,
      decide_true, Bool.and_self]

theorem rowsFor_port {p : Nat} (hp : p < 32) : rowsFor (0x3001 + p * 0x20) = rowsFor 0x3000 := by
  unfold rowsFor
  simp (disch := omega) only [if_pos, if_neg]

theorem rowsFor_delay {c : Nat} (hc : c < 512) : rowsFor (0x4004 + c * 0x10) = rowsFor 0x4000 := by
  unfold rowsFor
  simp (disch := omega) only [if_pos, if_neg]

theorem portRows_status :
    ∀ sub ∈ [1, 7], ∃ r ∈ rowsFor 0x3000, r.base = 0x3001 ∧ r.stride = 0x20 ∧ r.count = 32 ∧ r.subLo ≤ sub ∧ sub ≤ r.subHi := by decide

theorem channelRows_status :
    ∀ sub ∈ [1, 2], ∃ r ∈ rowsFor 0x4000, r.base = 0x4004 ∧ r.stride = 0x10 ∧ r.count = 512 ∧ r.subLo ≤ sub ∧ sub ≤ r.subHi := by decide

theorem rowOf_port {p sub : Nat} (hp : p < 32) (hsub : sub ∈ [1, 7]) : ∃ x, Dict.rowOf ((0x3001 + p * 0x20) * 256 + sub) = some x := by
  obtain ⟨r, hmem, hbase, hstride, hcount, hlo, hhi⟩ := portRows_status sub hsub
  have hindex : r.base + p * r.stride = 0x3001 + p * 0x20 := by rw [hbase, hstride]
  have hsmall : sub < 256 := by
    simp only [List.mem_cons, List.not_mem_nil, or_false] at hsub
    omega
  rw [← hindex]
  exact rowOf_isSome (by rw [hindex, rowsFor_port hp]; exact hmem) (by omega) (by omega) hlo hhi hsmall (by omega) (by omega)

theorem rowOf_channel {c sub : Nat} (hc : c < 512) (hsub : sub ∈ [1, 2]) : ∃ x, Dict.rowOf ((0x4004 + c * 0x10) * 256 + sub) = some x := by
  obtain ⟨r, hmem, hbase, hstride, hcount, hlo, hhi⟩ := channelRows_status sub hsub
  have hindex : r.base + c * r.stride = 0x4004 + c * 0x10 := by rw [hbase, hstride]
  have hsmall : sub < 256 := by
    simp only [List.mem_cons, List.not_mem_nil, or_false] at hsub
    omega
  rw [← hindex]
  exact rowOf_isSome (by rw [hindex, rowsFor_delay hc]; exact hmem) (by omega) (by omega) hlo hhi hsmall (by omega) (by omega)

/-- An object that no master has for itself is read as its block shows it. -/
theorem readNum_shared {k : Nat} (hk : 0x3000 * 256 ≤ k ∧ k < 0x6000 * 256) (flow : Nat) (s : State) :
    s.readNum flow k = (derivedNum s k).getD (s.num k) := by
  have hnone : perMaster s flow k = none := by
    unfold perMaster K.txOpen K.recCursor K.recPermCursor K.secAuthStatus
    simp (disch := omega) only [if_neg]
  unfold State.readNum
  rw [hnone]

theorem derivedNum_port {k : Nat} (hk : 0x3000 ≤ k / 256 ∧ k / 256 < 0x3400) (h1 : k / 256 % 32 = 1) (s : State) :
    derivedNum s k = portNum s ((k / 256 - 0x3000) / 32) (k % 256) :=
  (if_neg (by omega)).trans ((if_neg (by omega)).trans ((if_neg (by omega)).trans ((if_pos hk).trans (if_pos h1))))

theorem derivedNum_channel {k : Nat} (hk : 0x4000 ≤ k / 256 ∧ k / 256 < 0x6000) (h4 : k / 256 % 16 = 4) (s : State) :
    derivedNum s k = channelNum s ((k / 256 - 0x4000) / 16) (k % 256) := (if_pos hk).trans (if_pos h4)

theorem measuredLive_port {k : Nat} (hk : 0x3000 ≤ k / 256 ∧ k / 256 < 0x3400) (h1 : k / 256 % 32 = 1) (s : State) : measuredLive s k = false := by
  have hother : ¬ (k / 256 % 32 = 2 ∨ k / 256 % 32 = 3) := by omega
  refine (if_pos hk).trans ((if_neg hother).trans ?_)
  rw [h1]
  rfl

theorem measuredLive_channel {k : Nat} (hk : 0x4000 ≤ k / 256 ∧ k / 256 < 0x6000) (hsub : ¬ (k % 256 = 11 ∨ k % 256 = 12)) (s : State) :
    measuredLive s k = false := by
  refine (if_neg (by omega)).trans ((if_pos hk).trans ?_)
  rw [decide_eq_false hsub, Bool.and_false, Bool.false_and]

theorem valueOf_port {p sub : Nat} (hp : p < 32) (hsub : sub ∈ [1, 7]) (s : State) : valueOf 2 ((0x3001 + p * 0x20) * 256 + sub) s =
    ((portNum s p sub).getD (s.num ((0x3001 + p * 0x20) * 256 + sub)), s) := by
  obtain ⟨r, hr⟩ := rowOf_port hp hsub
  have hsmall : sub = 1 ∨ sub = 7 := by simpa using hsub
  have hindex : ((0x3001 + p * 0x20) * 256 + sub) / 256 = 0x3001 + p * 0x20 := by omega
  have hsubOf : ((0x3001 + p * 0x20) * 256 + sub) % 256 = sub := by omega
  have hport : (0x3001 + p * 0x20 - 0x3000) / 32 = p := by omega
  have hderived := derivedNum_port (k := (0x3001 + p * 0x20) * 256 + sub) (by omega) (by omega) s
  rw [hindex, hsubOf, hport] at hderived
  rw [valueOf_read hr (measuredLive_port (by omega) (by omega) s), readNum_shared (by omega), hderived]

theorem valueOf_channel {c sub : Nat} (hc : c < 512) (hsub : sub ∈ [1, 2]) (s : State) : valueOf 2 ((0x4004 + c * 0x10) * 256 + sub) s =
    ((channelNum s c sub).getD (s.num ((0x4004 + c * 0x10) * 256 + sub)), s) := by
  obtain ⟨r, hr⟩ := rowOf_channel hc hsub
  have hsmall : sub = 1 ∨ sub = 2 := by simpa using hsub
  have hindex : ((0x4004 + c * 0x10) * 256 + sub) / 256 = 0x4004 + c * 0x10 := by omega
  have hsubOf : ((0x4004 + c * 0x10) * 256 + sub) % 256 = sub := by omega
  have hchan : (0x4004 + c * 0x10 - 0x4000) / 16 = c := by omega
  have hderived := derivedNum_channel (k := (0x4004 + c * 0x10) * 256 + sub) (by omega) (by omega) s
  rw [hindex, hsubOf, hchan] at hderived
  rw [valueOf_read hr (measuredLive_channel (by omega) (by omega) s), readNum_shared (by omega), hderived]

end Sys2Proof.Machine
end

section
/-! PROOFS. The service commands of the console (R403): what each prints, and what it leaves. -/

namespace Sys2Proof.Machine

/-! ### What the tests before a command leave as it is -/

theorem portMutesNow_atConsole (p : Nat) (s : State) : portMutesNow (atConsole s) p = portMutesNow s p := by
  have hmutes : K.portMutes p ≠ K.mrRequests 2 := by
    unfold K.portMutes K.mrRequests
    omega
  unfold portMutesNow State.flag
  rw [nat_atConsole hmutes, num_atConsole (key_ne (by decide)), num_atConsole (by decide)]

theorem chMutesNow_atConsole (c : Nat) (s : State) : chMutesNow (atConsole s) c = chMutesNow s c := by
  unfold chMutesNow State.flag
  rw [nat_atConsole (key_ne (by decide)), num_atConsole (key_ne (by decide)), num_atConsole (by decide)]

theorem outputsOf_atConsole (c : Nat) (s : State) : outputsOf (atConsole s) c = outputsOf s c := by
  unfold outputsOf
  refine List.filterMap_congr fun o ho => ?_
  have hkey : outPortKey c o ≠ K.mrRequests 2 := by
    have ho := List.mem_range.1 ho
    unfold outPortKey K.foPort0 K.mrRequests
    omega
  rw [num_atConsole hkey, nat_atConsole hkey]

theorem chrysalisCause_atConsole (c : Nat) (s : State) : chrysalisCause (atConsole s) c = chrysalisCause s c := by
  have hslice : K.pdState (c / 8) ≠ K.mrRequests 2 := by
    unfold K.pdState K.mrRequests
    omega
  unfold chrysalisCause
  rw [nat_atConsole (key_ne (by decide)), num_atConsole (key_ne (by decide)), num_atConsole hslice]

theorem chStateNow_atConsole (c : Nat) (s : State) : chStateNow (atConsole s) c = chStateNow s c := by
  have hsettled : allSettled (atConsole s) c = allSettled s c := by
    unfold allSettled
    rw [outputsOf_atConsole]
    rfl
  unfold chStateNow
  rw [num_atConsole (key_ne (by decide)), bit_atConsole (key_ne (by decide)), chrysalisCause_atConsole, hsettled]

theorem readable_atConsole (s : State) : readable (atConsole s) = readable s := rfl

theorem ledgerList_atConsole (s : State) : ledgerList (atConsole s) = ledgerList s := by
  have hentry : ∀ i, (atConsole s).oct (K.rpEntry i) = s.oct (K.rpEntry i) := by
    intro i
    refine oct_atConsole ?_ s
    unfold K.rpEntry K.mrRequests
    omega
  unfold ledgerList
  rw [nat_atConsole (by decide)]
  simp only [hentry]

theorem banLeft_atConsole (s : State) : banLeft (atConsole s) = banLeft s := by
  unfold banLeft
  rw [num_atConsole (by decide), num_atConsole (by decide)]
  rfl

/-! ### Values shown -/

theorem portBody_shows {p : Nat} (hp : p < 32) (w : Who) (s : State) : ∃ t, portBody p w (atConsole s) = .shown t ∧ SameObjects (atConsole s) t ∧
    ∃ rest, Printed t "ok" ((stOk : Int) :: s.num (K.portState p) :: (portMutesNow s p : Int) :: rest) [] := by
  have hstate : valueOf 2 (K.portState p) (atConsole s) = (s.num (K.portState p), atConsole s) := by
    rw [← num_atConsole (k := K.portState p) (key_ne (by decide)) s]
    exact valueOf_port hp (by decide) _
  have hmutes : valueOf 2 (K.portMutes p) (atConsole s) = ((portMutesNow s p : Int), atConsole s) := by
    rw [← portMutesNow_atConsole]
    exact valueOf_port hp (by decide) _
  obtain ⟨hprint, hsame⟩ := printAll_two (l := [K.synFreq false p, K.synFreq true p, K.rxPower p]) hstate hmutes
  exact ⟨_, if_neg (by omega), hsame, hprint⟩

theorem chBody_shows {c : Nat} (hc : c < 512) (w : Who) (s : State) : ∃ t, chBody c w (atConsole s) = .shown t ∧ SameObjects (atConsole s) t ∧
    ∃ rest, Printed t "ok" ((stOk : Int) :: chStateNow s c :: (chMutesNow s c : Int) :: rest) [] := by
  have hstate : valueOf 2 (K.chState c) (atConsole s) = (chStateNow s c, atConsole s) := by
    rw [← chStateNow_atConsole]
    exact valueOf_channel hc (by decide) _
  have hmutes : valueOf 2 (K.chMutes c) (atConsole s) = ((chMutesNow s c : Int), atConsole s) := by
    rw [← chMutesNow_atConsole]
    exact valueOf_channel hc (by decide) _
  obtain ⟨hprint, hsame⟩ := printAll_two (l := [K.geApplied c, K.chPowerIn c, K.chPowerOut c, K.cxMargin c]) hstate hmutes
  exact ⟨_, if_neg (by omega), hsame, hprint⟩

/-! ### Watches -/

theorem watchBody_starts {k ms : Nat} {r : ObjRow} {w : Who} {s : State} (hr : Dict.rowOf k = some r) (haccess : r.access ≠ .wo) (hlo : 100 ≤ ms)
    (hhi : ms ≤ 60000) : watchBody k ms w s = .ok { s with con := { s.con with watch := some (k, ms, s.time.now) } } := by
  have hperiod : ¬ (ms < 100 ∨ 60000 < ms) := by omega
  unfold watchBody
  rw [hr]
  exact (if_neg haccess).trans (if_neg hperiod)

theorem readLive_con (flow k : Nat) (r : ObjRow) (s : State) : (readLive flow r k s).st.con = s.con := by
  unfold readLive
  split
  · unfold recRecordReply
    extract_lets x
    split <;> rfl
  · split
    · unfold recPermReply
      extract_lets x
      split <;> rfl
    · split
      · rfl
      · split <;> rfl

theorem watchLine_prints {k : Nat} {r : ObjRow} (hr : Dict.rowOf k = some r) (s : State) :
    (watchLine k s).con = s.con ∧ ∃ b, Printed (watchLine k s) "ok" [(stOk : Int)] b := by
  unfold watchLine
  rw [hr]
  exact ⟨readLive_con .., ⟨_, printed_conLine ..⟩⟩

/-! ### Writes by the console -/

/-- The three writes of METER, one after the other. -/
def meterSet (m k : Nat) (scale offset : Int) (s : State) : State :=
  ((s.set (K.mtrScale m) scale).set (K.mtrOffset m) offset).set (K.mtrSource m) (k : Nat)

theorem meterBody_writes {m k : Nat} {scale offset : Int} {v1 v2 v3 : Val} {w : Who} {s : State} (hm : m < 2)
    (h1 : admits (K.mtrSource m) (leBytes 4 (k : Nat)) w s = some v1) (h2 : admits (K.mtrScale m) (leBytes 4 scale) w s = some v2)
    (h3 : admits (K.mtrOffset m) (leBytes 4 offset) w s = some v3) : meterBody m k scale offset w s = .ok (meterSet m k scale offset s) := by
  unfold meterBody
  simp only [conWrite_admits h1, conWrite_admits h2, conWrite_admits h3, if_neg (Nat.not_lt.2 (Nat.le_of_lt_succ hm)), Reply.ok, ne_eq,
    not_true_eq_false, if_false]
  rfl

theorem meterSet_sets (m k : Nat) (scale offset : Int) (s : State) : (meterSet m k scale offset s).num (K.mtrSource m) = (k : Nat) ∧
    (meterSet m k scale offset s).num (K.mtrScale m) = scale ∧ (meterSet m k scale offset s).num (K.mtrOffset m) = offset ∧
    SameBut [K.mtrSource m, K.mtrScale m, K.mtrOffset m] s (meterSet m k scale offset s) :=
  ⟨num_set_same .., (num_set_sub (by decide) ..).trans ((num_set_sub (by decide) ..).trans (num_set_same ..)),
    (num_set_sub (by decide) ..).trans (num_set_same ..), (((SameBut.refl _ s).set (by simp)).set (by simp)).set (by simp)⟩

/-- TEST starts the self-test of its block. -/
theorem testBody_starts {kind inst : Nat} {w : Who} {s : State} (hinst : inst < 256)
    (hadmits : admits K.stRun (leBytes 2 ((kind * 256 + inst : Nat) : Int)) w s = some (.num ((kind * 256 + inst : Nat) : Int)))
    (hfree : s.panel.test = none) (hallowed : testAllowed s kind inst = true) :
    testBody kind inst w s = .shown (startSelfTest (kind * 256 + inst) w.charged true s) := by
  have hkind : (kind * 256 + inst) / 256 = kind := by omega
  have hblock : (kind * 256 + inst) % 256 = inst := by omega
  have heffect : stRunEffect true w (.num ((kind * 256 + inst : Nat) : Int)) s = .ok (startSelfTest (kind * 256 + inst) w.charged true s) := by
    simp only [stRunEffect, Val.int, Int.toNat_natCast, hfree, Option.isSome_none, Bool.false_eq_true, if_false, hkind, hblock, hallowed, if_true]
  unfold testBody
  rw [conWrite_admits hadmits, heffect]
  rfl

/-- The part with a challenge for level l at master 2. -/
def challenged (l : Nat) (s : State) : State :=
  s.drawn.setMaster 2 { s.master 2 with challenge := some (l, leBytes 16 s.fresh, s.time.now + 10 * secTicks), auth := 1 }

theorem challenged_master (l : Nat) (s : State) : (challenged l s).master 2 =
    { s.master 2 with challenge := some (l, leBytes 16 s.fresh, s.time.now + 10 * secTicks), auth := 1 } :=
  (State.master_setMaster ..).trans (if_pos rfl)

theorem unlockBody_challenges {l : Nat} {s : State} {w : Who} (hflow : w.flow = 2) (hdirect : w.tunnel = false)
    (hadmits : admits K.secUnlock (leBytes 1 (l : Int)) w s = some (.num (l : Int))) (hstate : s.num K.secState ≠ 2) (hlock : lockedOut s = false)
    (hlevel : s.bit K.secCredLevels l = true) : unlockBody l w s = ⟨challenged l s, some stOk, leBytes 16 s.fresh⟩ := by
  have hmay : ¬ (s.num K.secState = 2 ∨ lockedOut s = true ∨ (!s.bit K.secCredLevels l) = true ∨ w.tunnel = true) := by
    simp [hstate, hlock, hlevel, hdirect]
  have heffect : unlockEffect w (.num (l : Int)) s = .ok (challenged l s) := by
    refine (if_neg hmay).trans ?_
    rw [hflow]
    rfl
  have hchallenge : readOct (challenged l s) 2 K.secChallenge = leBytes 16 s.fresh := by
    unfold readOct
    rw [if_neg (by decide), if_pos rfl, challenged_master]
  unfold unlockBody
  rw [conWrite_admits hadmits, heffect]
  simp only [Reply.ok, if_true, hchallenge]

/-- Settles O60: a command that is ready runs its body in `atConsole`; what the body prints stays, and what it writes is all that changes. -/
theorem consoleServesItsCommands : Obligations.ConsoleServesItsCommands := by
  unfold Obligations.ConsoleServesItsCommands
  refine ⟨fun s hready => ?help, fun s hready => ?ver, fun s hready => ?st, fun p s hready hp => ?port, fun p s hready hp => ?noPort,
    fun c s hready hc => ?ch, fun n s hready hlo hhi => ?log, fun k ms r s hready hr haccess hlo hhi => ?watch,
    fun k ms last r s hready hwatch hdue hr => ?watchPrint, fun s => ⟨_, rfl, rfl, .of_tables rfl rfl⟩,
    fun m k scale offset v1 v2 v3 s hready hm h1 h2 h3 => ?meter, fun kind inst s hready hinst hadmits hfree hallowed => ?test,
    fun x s hready hadmits hrun hover => ?testAbort, fun l s hready hadmits hstate hlock hlevel => ?unlock,
    fun b v s hready hadmits hnone => ?resp, fun b s hready hadmits => ?note, fun v s hready hadmits hgen hports => ?repair, fun s hready => ?ledger⟩
  case help =>
    exact does_of_shown hready rfl rfl ⟨out_forL_emit_of_out List.mem_cons_self, (sameObjects_emit ..).trans (sameObjects_forL_emit ..)⟩
  case ver =>
    refine does_of_shown hready rfl rfl ⟨sameObjects_conLine .., ?_⟩
    rw [num_atConsole (by decide), oct_atConsole (by decide), oct_atConsole (by decide)]
    exact printed_conLine ..
  case st =>
    refine does_of_shown hready rfl rfl ⟨sameObjects_conLine .., ?_⟩
    rw [banLeft_atConsole]
    simp only [num_atConsole (show K.pdBootStage ≠ K.mrRequests 2 by decide), num_atConsole (show K.tbState ≠ K.mrRequests 2 by decide),
      num_atConsole (show K.tbTrace ≠ K.mrRequests 2 by decide), num_atConsole (show K.thLevel ≠ K.mrRequests 2 by decide),
      num_atConsole (show K.fltSevereCount ≠ K.mrRequests 2 by decide), num_atConsole (show K.fltSticky ≠ K.mrRequests 2 by decide)]
    exact printed_conLine ..
  case port =>
    obtain ⟨t, hbody, hpost⟩ := portBody_shows hp (conWho s) s
    exact does_of_shown hready rfl hbody hpost
  case noPort => exact does_of_status hready rfl (if_pos (by omega)) rfl (printed_conLine ..)
  case ch =>
    obtain ⟨t, hbody, hpost⟩ := chBody_shows hc (conWho s) s
    exact does_of_shown hready rfl hbody hpost
  case log =>
    refine does_of_shown hready rfl (if_neg (by omega)) ⟨out_forL_emit_of_out List.mem_cons_self,
      (sameObjects_emit ..).trans (sameObjects_forL_emit ..), fun e he hlast => ?_⟩
    refine out_forL_emit_of_mem (List.mem_filter.2 ⟨he, ?_⟩) _
    rw [nat_atConsole (by decide)]
    exact decide_eq_true hlast
  case watch => exact does_of_status hready rfl (watchBody_starts hr haccess hlo hhi) rfl ⟨rfl, printed_conLine ..⟩
  case watchPrint =>
    have hserving : s.serving = true := by
      simp only [consoleReady, Bool.and_eq_true] at hready
      exact hready.1.1.1
    have hexec : exec .watchPrint s =
        .next (conRequest s (fun _ t => .shown (watchLine k { t with con := { t.con with watch := some (k, ms, s.time.now) } }))) := by
      have hmeaning : exec .watchPrint s = execWatchPrint s := rfl
      simp only [hmeaning, execWatchPrint, hwatch, hserving, Nat.not_lt.2 hdue, Bool.not_true, Bool.false_eq_true, or_self, if_false]
    obtain ⟨hcon, hprint⟩ := watchLine_prints hr { atConsole s with con := { (atConsole s).con with watch := some (k, ms, s.time.now) } }
    exact does_of_shown hready hexec rfl ⟨congrArg Console.watch hcon, hprint⟩
  case meter =>
    obtain ⟨hsource, hscale, hoffset, hsame⟩ := meterSet_sets m k scale offset (atConsole s)
    have hline := sameObjects_conLine stOk [] [] (meterSet m k scale offset (atConsole s))
    exact does_of_status hready rfl (meterBody_writes hm h1 h2 h3) rfl
      ⟨(hline.1 _).trans hsource, (hline.1 _).trans hscale, (hline.1 _).trans hoffset, hsame.andThen hline⟩
  case test =>
    obtain ⟨hstate, hblock, -⟩ := startSelfTest_running (kind * 256 + inst) (conWho s).charged true (atConsole s)
    exact does_of_shown hready rfl (testBody_starts hinst hadmits hfree hallowed) ⟨hstate, hblock⟩
  case testAbort =>
    obtain ⟨u, heffect⟩ := stAbortEffect_aborts (conWho s) (show (atConsole s).panel.test = some x from hrun) hover
    exact does_of_status hready rfl ((conWrite_admits hadmits _).trans heffect) rfl (((sameObjects_conLine ..).1 _).trans (num_set_same ..))
  case unlock =>
    have hlock' : lockedOut (atConsole s) = false := by
      unfold lockedOut at hlock ⊢
      rw [nat_atConsole (by decide)]
      exact hlock
    have hstate' : (atConsole s).num K.secState ≠ 2 := by rwa [num_atConsole (by decide)]
    have hlevel' : (atConsole s).bit K.secCredLevels l = true := by rwa [bit_atConsole (by decide)]
    have hmaster := challenged_master l (atConsole s)
    exact does_of_status hready rfl (unlockBody_challenges rfl rfl hadmits hstate' hlock' hlevel') rfl
      ⟨congrArg Master.auth hmaster, _, congrArg Master.challenge hmaster, printed_conLine ..⟩
  case resp =>
    have heffect := responseEffect_unchallenged (w := conWho s) (v := v) ((atConsole_challenge s).trans hnone)
    obtain ⟨hauth, -⟩ := authFailed_leaves 2 0 3 (atConsole s)
    exact does_of_status hready rfl ((conWrite_admits hadmits _).trans heffect) rfl ⟨hauth, printed_conLine ..⟩
  case note =>
    refine does_of_status hready rfl (conWrite_admits hadmits _) rfl ⟨(State.oct_setOct ..).trans (if_pos rfl), ?_, printed_conLine ..⟩
    exact ((SameBut.refl _ _).setOct (by simp)).andThen (sameObjects_conLine ..)
  case repair =>
    have hgen' : (atConsole s).num K.pdRepairGen ≠ 65535 := by rwa [num_atConsole (by decide)]
    have hports' : ∀ p, p < 32 → (atConsole s).num (K.portState p) = psOff ∨ (atConsole s).num (K.portState p) = psSleep := by
      intro p hp
      rw [num_atConsole (key_ne (by decide))]
      exact hports p hp
    have heffect : repairEffect (conWho s) v (atConsole s) = .ok (repairNoted 2 (atConsole s)) := congrArg Reply.ok (declareRepair_idle hgen' hports')
    obtain ⟨hnext, -, -⟩ := repairNoted_leaves 2 (atConsole s)
    rw [nat_atConsole (by decide)] at hnext
    exact does_of_status hready rfl ((conWrite_admits hadmits _).trans heffect) rfl ⟨hnext, printed_conLine ..⟩
  case ledger =>
    refine does_of_shown hready rfl rfl ⟨(sameObjects_emit ..).trans (sameObjects_forL_emit ..), out_forL_emit_of_out List.mem_cons_self,
      fun b hb => ?_⟩
    exact out_forL_emit_of_mem (g := fun b => Out.line "" [] b) (by rwa [ledgerList_atConsole]) _

end Sys2Proof.Machine
end
